-- ==== Sys2Proof/Word.lean ====
section
/-! DEFINITION. The word and byte types of the hub (R4, R11: 32-bit registers and sample words, 8-bit bytes). -/

namespace Sys2Proof

/-- A register or sample word: 32 bits, bit 0 the least significant (R4). -/
abbrev Word := BitVec 32

/-- A byte of a frame, record, image or memory (R3). -/
abbrev Byte := BitVec 8

end Sys2Proof
end

