-- ==== Sys2Proof/Syntax.lean ====
section
/-! DEFINITION. The commands of the block: one constructor per row of spec/opcode_table.json, with its operands, and the
records of measured data that some of them carry. -/

namespace Sys2Proof

/-- The access path of a command or register access (R161, R185). -/
inductive Path where
  | pcie | spi | mgmt
deriving DecidableEq, Repr

/-- Who sent a command record: the path, for an MGMT frame the hub it came from, the header's SOURCE_ID, REQUEST_ID and
TARGET, and FLAGS.NOTIFY (R161). -/
structure Origin where
  path : Path
  hub : Nat
  source : Nat
  request : Nat
  target : Nat
  notify : Bool
deriving DecidableEq, Repr

/-- A DMA descriptor as it stands in host memory: 32 bytes (R585). -/
structure Descriptor where
  addr : Nat
  len : Nat
  ctl : Nat
  param : Nat
deriving DecidableEq, Repr

/-- One channel of an excitation observation: currents in microamperes, terminal voltages in millivolts, and the
current limit comparator (R211, R213). -/
structure ExcObs where
  ch : Nat
  iP : Int
  iN : Int
  vP : Int
  vN : Int
  ilim : Bool
deriving DecidableEq, Repr

/-- One channel of a wire check: drops and terminal voltages in millivolts, saturation of the sense detectors (R213 to
R216). -/
structure WireObs where
  ch : Nat
  dropP : Int
  dropN : Int
  satP : Bool
  satN : Bool
  ainP : Int
  ainN : Int
  excP : Int
  excN : Int
deriving DecidableEq, Repr

/-- A time of the timescale: seconds, nanoseconds and a fraction in 2^-32 ns (R328, R330). -/
structure TimeVal where
  s : Nat
  ns : Nat
  frac : Nat
deriving DecidableEq, Repr

/-- A SYNC message (R339): domain (0 A, 1 B), number, ORIGIN, CORRECTION in 2^-16 ns, HOPS, BAD, CLASS, ERR_NS,
CLASS_FRAME, and the root's frame counter with L at that tick, if it has one. -/
structure SyncMsg where
  domain : Nat
  seq : Nat
  origin : TimeVal
  correction : Int
  hops : Nat
  bad : Bool
  cls : Nat
  errNs : Nat
  classFrame : Nat
  counter : Option (Nat × TimeVal)
  emit : Nat
deriving DecidableEq, Repr

/-- The content of a PD_REQ or PD_RESP (R339): number, t1 or t2, sender, its TIME_LOCK and its frame counter. -/
structure PdMsg where
  seq : Nat
  t : TimeVal
  hub : Nat
  lock : Bool
  counter : Option (Nat × TimeVal)
deriving DecidableEq, Repr

/-- The excitation currents in uA and the lead drops in mV of a channel, measured in a tick (R226). -/
structure ExcTick where
  ch : Nat
  iP : Int
  iN : Int
  leadP : Int
  leadN : Int
deriving DecidableEq, Repr

/-- What the hub has measured when a frame tick begins: an overrun of the previous tick with its phase and the units
whose work was abandoned (R179), the ports on which a STREAM frame sent late does not begin at once, with the stream
(R179), the modulator words of the interval that ends, by channel or mend channel, oldest first
(R231), the coarse time of the tick in TDC bins, the supply currents of field ports (port, mean, highest), the excitation
of channels, and VEXCP and VEXCN in mV. -/
structure TickInput where
  overrun : Option (Nat × List Nat)
  held : List (Nat × Nat)
  words : List (Nat × List Nat)
  coarse : Int
  isns : List (Nat × Nat × Nat)
  exc : List ExcTick
  vexcP : Int
  vexcN : Int
deriving DecidableEq, Repr

/-- The commands of the block: one constructor per row of the opcode table, in its order. -/
inductive Instr where
  /-- FRAME_TICK (R177). A frame tick starts the Acquire phase: filter outputs for tick n are formed and aligned, and pod, TDC and TIME_IN work for the tick is done. -/
  | frameTick (t : TickInput)
  /-- CONDITION_PHASE (R177). The Condition phase starts at FT + START_COND and runs linearisers, thresholds and range tags. -/
  | conditionPhase (late : Bool)
  /-- DECIDE_PHASE (R177). The Decide phase starts and delivers due remote samples, then evaluates triggers, loop laws and Sluice arbitration. -/
  | decidePhase (late : Bool) (mismatch : List (Nat × Bool))
  /-- EMIT_PHASE (R177). The Emit phase starts and sends stream frames, setpoints, claims and trigger broadcasts, and writes queues. -/
  | emitPhase (late : Bool) (pins : List (Nat × Int)) (held : List (Nat × Nat))
  /-- HOUSE_PHASE (R177). The House phase starts: state and fault evaluation, then command execution, calibration steps, silt log, discovery and Wring job starts. -/
  | housePhase (late : Bool) (unfinished : Bool)
  /-- STATE_TRANSITION (R155). A scheduled state transition takes effect at its frame tick, and the STATE record and the state notice follow. -/
  | stateTransition (boot : Nat)
  /-- STREAM_FRAME_DEADLINE (R510). An own STREAM frame not begun on a port by FT(n) + t_E is discarded on that port. -/
  | streamFrameDeadline (port : Nat)
  /-- NOP (R175). The command returns GLB_STATE and the frame counter. -/
  | nop (o : Origin)
  /-- ARM (R175). The command moves a HELD hub with an active Pattern to ARMED at the next tick. -/
  | arm (o : Origin)
  /-- HOLD (R175). The command moves an ARMED hub to HELD at the next tick. -/
  | hold (o : Origin)
  /-- START (R176). The command sets RUN_INTENT and schedules entry to RUN at F. -/
  | start (o : Origin) (f : Nat)
  /-- STOP (R176). The command clears RUN_INTENT and schedules the return from RUN to ARMED. -/
  | stop (o : Origin) (f : Nat)
  /-- SAFE_ENTER (R176). The command sets GLB_SAFE_CAUSE.COMMAND. -/
  | safeEnter (o : Origin)
  /-- RECOVER (R176). The command clears the latched causes that are gone, and leaves SAFE if none remains. -/
  | recover (o : Origin)
  /-- MAINT_ENTER (R175). The command moves the hub to MAINT at the next tick. -/
  | maintEnter (o : Origin)
  /-- MAINT_EXIT (R175). The command moves the hub from MAINT to HELD at the next tick. -/
  | maintExit (o : Origin)
  /-- RESTART (R155). The command resets the hub at FT(n_exec + 1). -/
  | restart (o : Origin)
  /-- REG_READ (R176). The command reads COUNT words from BAR0 offsets. -/
  | regRead (o : Origin) (addr : Nat) (count : Nat)
  /-- REG_WRITE (R176). The command writes COUNT words to BAR0 in the House phase, in order. -/
  | regWrite (o : Origin) (addr : Nat) (words : List Nat)
  /-- RESERVED_OPCODE (R173). A record with a reserved or unassigned opcode is answered BAD_ARG. -/
  | reservedOpcode (o : Origin) (op : Nat) (args : List Byte)
  /-- PAT_LOAD (R112). The command starts a check of the standby bank, optionally after copying from QSPI flash. -/
  | patLoad (o : Origin) (source : Nat) (addr : Nat)
  /-- PAT_COMMIT (R114). The command schedules the commit of a CHECKED or PREVIOUS bank at frame F. -/
  | patCommit (o : Origin) (f : Nat)
  /-- PAT_CANCEL (R119). The command cancels a scheduled commit before it becomes irrevocable. -/
  | patCancel (o : Origin)
  /-- PAT_DISCARD (R112). The command empties the standby bank. -/
  | patDiscard (o : Origin)
  /-- PAT_KEY_INSTALL (R95). The command installs a public key into an EMPTY key slot. -/
  | patKeyInstall (o : Origin) (slot : Nat) (key : List Byte)
  /-- PAT_KEY_REVOKE (R95). The command revokes a VALID key slot. -/
  | patKeyRevoke (o : Origin) (slot : Nat)
  /-- PATTERN_CHECK_DONE (R102). The loader's check ends with acceptance or rejection, the status is set, and a PATTERN_CHECK record is written. -/
  | patternCheckDone (ue : Option Nat)
  /-- COMMIT_IRREVOCABLE (R114). At FT(F−1) + START_HOUSE the commit becomes irrevocable and the new tables load into shadow storage. -/
  | commitIrrevocable
  /-- COMMIT_SWITCH (R114). At FT(F) the sequencer switches tables; carried-over units keep state and the others start from reset. -/
  | commitSwitch
  /-- COMMIT_COMPLETE (R114). At FT(F) + START_HOUSE the old Pattern becomes PREVIOUS, COMMITTED is set and a PATTERN_COMMIT record is written. -/
  | commitComplete
  /-- POWER_UP_COMMIT (R122). An image accepted at power-up is committed at the second tick after its check ends. -/
  | powerUpCommit
  /-- CAL_RUN (R318). The command queues a calibration of a channel at the head of the schedule. -/
  | calRun (o : Origin) (channel : Nat)
  /-- CAL_ABORT (R314). The command aborts the swap of a channel. -/
  | calAbort (o : Origin) (channel : Nat)
  /-- CAL_POD_POINT (R323). The command starts a system calibration point measurement on a pod chain. -/
  | calPodPoint (o : Origin) (chain : Nat) (range : Nat) (point : Nat) (target : Int)
  /-- CAL_POD_POINT_DONE (R323). A pod point measurement completes, and after both points gr, ar and VALID are staged if plausible. -/
  | calPodPointDone
  /-- CAL_POD_POINT_TIMEOUT (R323). A pod point whose words on the range have not arrived in time fails with OVERRANGE. -/
  | calPodPointTimeout
  /-- CAL_STEP_END (R304). A calibration step's averaging ends, and it is evaluated in the next House phase. -/
  | calStepEnd (edge : Int)
  /-- MATCH_TIMEOUT (R311). A match not passed within its limit fails, and the swap is aborted, reverted or forced back. -/
  | matchTimeout
  /-- CAL_COEF_WRITE (R300). A software write to GR, AR, D_FE or VALID is staged to take effect at the next frame tick. -/
  | calCoefWrite (chain : Nat) (off : Nat) (v : Nat)
  /-- CAL_CTRL_SUSPEND (R319). A write of CAL_CTRL.SUSPEND stops or permits new swaps. -/
  | calCtrlSuspend (on : Bool)
  /-- TIME_SET_TOD (R364). The command sets the seconds of a domain counter at its root. -/
  | timeSetTod (o : Origin) (domain : Nat) (seconds : Nat) (ns : Nat)
  /-- TIME_STEP (R355). The command schedules a time step of Δ at frame F. -/
  | timeStep (o : Origin) (f : Nat) (deltaS : Int) (deltaNs : Int) (flags : Nat)
  /-- TIME_SELECT (R364). The command fixes which domain L follows from frame F. -/
  | timeSelect (o : Origin) (f : Nat) (mode : Nat)
  /-- TIME_STEP_CANCEL (R364). The command cancels a pending time step. -/
  | timeStepCancel (o : Origin)
  /-- TIME_STEP_APPLY (R355). At t_s, L and the domain counters move by Δ, the modulator clock realigns and the chains reset. -/
  | timeStepApply
  /-- TIME_SELECT_EFFECT (R364). A commanded domain selection takes effect at its tick. -/
  | timeSelectEffect
  /-- LANE_ADMIN (R491). The command sets a lane up, to standby or down. -/
  | laneAdmin (o : Origin) (lane : Nat) (mode : Nat)
  /-- LANE_RETRAIN (R491). The command drops and retrains an ACTIVE lane, or retrains a spare in place. -/
  | laneRetrain (o : Origin) (lane : Nat)
  /-- LANE_TEST (R488). The command sets a lane's PRBS generator, checker and loopback in TEST state. -/
  | laneTest (o : Origin) (lane : Nat) (gen : Nat) (chk : Nat) (loop : Nat)
  /-- RING_DISCOVER (R533). The command sends discovery probes at once on each up port. -/
  | ringDiscover (o : Origin)
  /-- FLD_PORT (R563). The command turns a field port off, on with rediscovery, or power-cycles it. -/
  | fldPort (o : Origin) (port : Nat) (action : Nat)
  /-- FLD_ADOPT (R553). The command accepts a foreign pod that failed only the serial or type check. -/
  | fldAdopt (o : Origin) (port : Nat)
  /-- LOOP_INT_SET (R436). The command sets a slot's integrator at its next computation. -/
  | loopIntSet (o : Origin) (slot : Nat) (value : Int)
  /-- LOOP_RETURN (R436). The command returns a slot from its loss policy at its next clean computation. -/
  | loopReturn (o : Origin) (slot : Nat)
  /-- SLU_RECLAIM (R460). The command clears the self-diagnosis withdrawal latch so that claims resume. -/
  | sluReclaim (o : Origin)
  /-- SLU_FORCE_PARK (R451). The command forces a Sluice to PARK, or releases it. -/
  | sluForcePark (o : Origin) (inst : Nat) (on : Nat)
  /-- CAP_ARM (R407). The command arms the capture engines in the mask from frame F. -/
  | capArm (o : Origin) (f : Nat) (mask : Nat)
  /-- CAP_ABORT (R407). The command schedules the engines in the mask to enter ABORTED. -/
  | capAbort (o : Origin) (mask : Nat)
  /-- CAP_FORCE (R407). The command makes a trigger unit fire in the next Decide phase. -/
  | capForce (o : Origin) (unit : Nat)
  /-- CAPTURE_ARM (R401). A capture engine arms at its first record boundary and enters FILL. -/
  | captureArm (e : Nat)
  /-- CAPTURE_ABORT_EFFECT (R407). A commanded abort takes effect at FT(n_exec + 1). -/
  | captureAbortEffect (e : Nat)
  /-- TRIGGER_HOLDOFF_END (R390). A trigger unit's holdoff count expires. -/
  | triggerHoldoffEnd (t : Nat)
  /-- QUE_FLUSH (R576). The command empties a queue in the House phase. -/
  | queFlush (o : Origin) (q : Nat)
  /-- NOTICE (R582). A command with opcode 0x97 is answered BAD_ARG. -/
  | notice (o : Origin)
  /-- WRG_CUT (R604). The command ends the compression job in progress. -/
  | wrgCut (o : Origin) (ctx : Nat)
  /-- WRG_ABORT (R617). The command fails the job in progress with ABORTED. -/
  | wrgAbort (o : Origin) (ctx : Nat)
  /-- SLT_CLEAR_ARM (R631). The command arms a clear of the service area and returns a token. -/
  | sltClearArm (o : Origin)
  /-- SLT_CLEAR_CONFIRM (R632). The command confirms an armed clear, which then starts. -/
  | sltClearConfirm (o : Origin) (token : Nat)
  /-- LOG_CLEAR_DONE (R632). The service area clear completes with a LOG_CLEAR record in slot 0. -/
  | logClearDone
  /-- ADOPT (R644). The command schedules a cluster digest and compatibility major for frame F. -/
  | adopt (o : Origin) (digest : List Byte) (compat : Nat) (f : Nat)
  /-- ADOPT_EFFECT (R644). The pending cluster digest becomes the digest in force at FT(F). -/
  | adoptEffect
  /-- DIGEST_INHERIT (R645). After INHERIT_N agreeing HELLO intervals, the hub inherits the cluster digest. -/
  | digestInherit
  /-- QUARANTINE (R652). The command sets or clears quarantine cause COMMAND. -/
  | quarantine (o : Origin) (on : Nat)
  /-- MAILBOX_GO (R166). A write of GLB_MBX_CTRL.GO submits the mailbox record for execution. -/
  | mailboxGo (path : Path)
  /-- MGMT_FRAME_RECEIVE (R511). An MGMT frame is taken: a command for this hub is queued, or a response is relayed to the mailbox. -/
  | mgmtFrameReceive (port : Nat) (lseq : Nat) (bytes : List Byte)
  /-- MGMT_RELAY_TIMEOUT (R532). With no response within MGMT_TIMEOUT_MS, the hub places a TIMEOUT response in the mailbox. -/
  | mgmtRelayTimeout (path : Path)
  /-- NOTICE_RECORD_RECEIVE (R582). A head hub stores a NOTICE record from a hub and raises source 107. -/
  | noticeRecordReceive (hub : Nat) (bytes : List Byte)
  /-- SPI_WRITE (R593). An SPI WRITE transaction writes words to BAR0 offsets. -/
  | spiWrite (bytes : List Byte)
  /-- SPI_READ (R593). An SPI READ transaction returns words from BAR0 offsets. -/
  | spiRead (addr : Nat) (count : Nat) (wait : Nat)
  /-- SPI_STATUS (R593). An SPI STATUS transaction returns status and clears PARTIAL and ALIGN. -/
  | spiStatus
  /-- SPI_UNKNOWN_COMMAND (R593). An SPI transaction with another command byte is ignored until SPI_CS_N rises. -/
  | spiUnknownCommand (n : Nat)
  /-- REGISTER_WRITE (R5). A write to a register with no row of its own acts by its access code. -/
  | registerWrite (path : Path) (addr : Nat) (v : Nat)
  /-- GLB_FRAME_LO_READ (R718). A read of GLB_FRAME_LO latches GLB_FRAME_HI. -/
  | glbFrameLoRead (path : Path)
  /-- TIM_L_READ (R367). A read of TIM_L_S_LO latches the TIM_L, TIM_A and TIM_B groups. -/
  | timLRead (path : Path)
  /-- LOOP_INT_READ (R718). A read of LOOP_Sn_INT_LO latches LOOP_Sn_INT_HI. -/
  | loopIntRead (path : Path) (slot : Nat)
  /-- SLT_OPT_READ (R718). A read of SLT_OPT_LO latches SLT_OPT_HI. -/
  | sltOptRead (path : Path)
  /-- QUEUE_POP (R575). A read of QUE_Qq_POP_LO removes the oldest queue word, waiting for one if the queue is empty. -/
  | queuePop (path : Path) (q : Nat) (wide : Bool) (bad : Bool)
  /-- POP_WAIT_EXPIRE (R575). A waiting pop's HOST_READ_WAIT_NS expires and it returns the EMPTY marker. -/
  | popWaitExpire (q : Nat)
  /-- TDC_FIFO_POP (R384). A read of TDC_CHk_FIFO_W0 removes the oldest entry and latches its other words. -/
  | tdcFifoPop (path : Path) (k : Nat)
  /-- SLT_WIN15_READ (R633). A read of SLT_WIN15 advances the cursor and loads the next snapshot when AUTO = 1. -/
  | sltWin15Read (path : Path) (corr : Nat) (ue : List (Nat × Nat))
  /-- SLT_CURSOR_WRITE (R633). A write of SLT_CURSOR loads the snapshot of the named slot. -/
  | sltCursorWrite (path : Path) (v : Nat) (corr : Nat) (ue : List (Nat × Nat))
  /-- FLD_ISNS_READ (R718). A read of FLD_Pp_ISNS restarts PEAK. -/
  | fldIsnsRead (path : Path) (port : Nat)
  /-- PAT_WDATA_WRITE (R98). A write of PAT_WDATA stores a word in the standby window and increments PAT_WADDR. -/
  | patWdataWrite (v : Nat)
  /-- STANDBY_WINDOW_WRITE (R100). A BAR2 write to the standby window moves the bank to WRITING, or is dropped while it is checking or scheduled. -/
  | standbyWindowWrite (off : Nat) (bytes : List Byte)
  /-- SIGN_CFG_REQUIRE_SET (R97). A write of 1 to PAT_SIGN_CFG.REQUIRE in MAINT sets it permanently. -/
  | signCfgRequireSet (path : Path)
  /-- SIGN_CFG_ANTIROLLBACK_SET (R97). A write of 1 to PAT_SIGN_CFG.ANTIROLLBACK in MAINT sets it permanently. -/
  | signCfgAntirollbackSet (path : Path)
  /-- UNIT_CNT_CLR (R147). A write of UNIT_CTRL.CNT_CLR sets OVR_CNT and EVT_CNT to 0. -/
  | unitCntClr (id : Nat)
  /-- UNIT_WORST_CLR (R147). A write of UNIT_CTRL.WORST_CLR sets WORST to 0. -/
  | unitWorstClr (id : Nat)
  /-- PATCH_STATUS_CLEAR (R144). A W1C write to a patch's UNIT_STAT clears the flag in every inner unit. -/
  | patchStatusClear (id : Nat) (v : Nat)
  /-- AFE_EXC_RETRY (R211). A write of AFE_CHn_CTRL.EXC_RETRY retries a driver that is off for overcurrent. -/
  | afeExcRetry (ch : Nat)
  /-- AFE_CNT_CLR (R226). A write of AFE_CHn_CTRL.CNT_CLR sets the range change counts to 0. -/
  | afeCntClr (ch : Nat)
  /-- RANGE_HOLD_WRITE (R194). A write of RANGE_HOLD holds the present range and cancels a scheduled down-range. -/
  | rangeHoldWrite (ch : Nat) (on : Bool)
  /-- FLT_SYNC_RESET (R280). A write of FLT_CHc_CTRL.SYNC_RESET resets the chain at the next tick. -/
  | fltSyncReset (c : Nat)
  /-- FLT_CNT_CLR (R296). A write of FLT_CHc_CTRL.CNT_CLR sets the chain's counts to 0. -/
  | fltCntClr (c : Nat)
  /-- SAR_SCAL_START (R255). A write of SAR_SCAL_CTRL.START starts a zero or full-scale measurement. -/
  | sarScalStart (v : Nat)
  /-- SAR_SCAL_POINT_DONE (R255). A system calibration point's averaging completes, with DONE0 or DONE1 set. -/
  | sarScalPointDone
  /-- SAR_COEF_WRITE (R257). A write to SAR_GAINm or SAR_OFFm is staged to the next frame tick. -/
  | sarCoefWrite (m : Nat) (off : Bool) (v : Nat)
  /-- SAR_MOD_CNT_CLR (R259). A write of SAR_MOD_CTRL.CNT_CLR sets every OVL_CNT to 0. -/
  | sarModCntClr
  /-- AUX_CONVERSION_DONE (R251). An auxiliary conversion completes and updates its result and slot. -/
  | auxConversionDone (code : Int) (parity : Bool)
  /-- AUX_INJECT_START (R247). An injected sequence's start event asserts and the injected run starts, aborting the regular entry. -/
  | auxInjectStart
  /-- TIM_INC_WRITE (R329). A write of TIM_INC_x_HI applies the staged increment of a domain, clamped. -/
  | timIncWrite (d : Nat) (v : Nat)
  /-- TIM_ADJ_WRITE (R344). A write of TIM_ADJ_x adds signed ns to the domain counter. -/
  | timAdjWrite (d : Nat) (v : Nat)
  /-- TIM_SERVO_TAKEOVER (R344). A write of TIM_SERVO_CTRL hands a domain's servo to the host or back. -/
  | timServoTakeover (v : Nat)
  /-- TIM_HOST_Q_WRITE (R727). A write of TIM_HOST_Q declares the class of a HOST root's domain. -/
  | timHostQWrite (v : Nat)
  /-- TIM_IRQ_REARM (R358). A write of TIM_IRQ_CTRL.REARM clears FULL. -/
  | timIrqRearm
  /-- TDC_SRC_WRITE (R369). A write of TDC_CFG.SRC selects the TDC time base. -/
  | tdcSrcWrite (v : Nat)
  /-- TDC_FLUSH (R387). A write of TDC_CHk_CTRL.FLUSH empties the input's FIFO. -/
  | tdcFlush (k : Nat)
  /-- TDC_CNT_CLR (R387). A write of TDC_CHk_CTRL.CNT_CLR sets SHORT_CNT and OVF_CNT to 0. -/
  | tdcCntClr (k : Nat)
  /-- CAP_CTRL_ARM (R412). A write of CAP_Ee_CTRL.ARM arms one engine. -/
  | capCtrlArm (e : Nat)
  /-- CAP_CTRL_ABORT (R412). A write of CAP_Ee_CTRL.ABORT aborts one engine. -/
  | capCtrlAbort (e : Nat)
  /-- CAP_PRE_POST_WRITE (R408). A write of CAP_Ee_PRE or POST is clamped and takes effect at the next arm or segment. -/
  | capPrePostWrite (e : Nat) (post : Bool) (v : Nat)
  /-- LOOP_CMD_WRITE (R419). A write of LOOP_Sn_CMD is staged to the next tick. -/
  | loopCmdWrite (slot : Nat) (v : Nat)
  /-- LOOP_CMD_FIFO_PUSH (R419). A write of LOOP_Sn_CMD_FIFO pushes one command entry. -/
  | loopCmdFifoPush (slot : Nat) (v : Nat)
  /-- LOOP_FIFO_FLUSH (R438). A write of LOOP_Sn_CTRL.FIFO_FLUSH empties the command FIFO. -/
  | loopFifoFlush (slot : Nat)
  /-- LOOP_CNT_CLR (R438). A write of LOOP_Sn_CTRL.CNT_CLR sets the slot's counts to 0. -/
  | loopCntClr (slot : Nat)
  /-- LOOP_GAIN_WRITE (R426). A write to KP, KI, KD or KFF is staged and applied together, bumplessly if set. -/
  | loopGainWrite (slot : Nat) (gain : Nat) (v : Nat)
  /-- SLU_CNT_CLR (R462). A write of SLU_Oo_CTRL.CNT_CLR sets the Sluice counts to 0. -/
  | sluCntClr (o : Nat)
  /-- LANE_CNT_CLR (R493). A write of LANE_Ln_CTRL.CNT_CLR sets the lane counts to 0. -/
  | laneCntClr (lane : Nat)
  /-- LANE_PRBS_CLR (R490). A write of LANE_Ln_CTRL.PRBS_CLR sets the PRBS counts to 0. -/
  | lanePrbsClr (lane : Nat)
  /-- RING_CNT_CLR (R535). A write of RING_CTRL.CNT_CLR sets the RING saturating counts to 0. -/
  | ringCntClr
  /-- FLD_CNT_CLR (R565). A write of FLD_Pp_CTRL.CNT_CLR sets the port counts to 0. -/
  | fldCntClr (port : Nat)
  /-- QUE_CTRL_FLUSH (R576). A write of QUE_Qq_CTRL.FLUSH empties the queue. -/
  | queCtrlFlush (q : Nat)
  /-- QUE_CNT_CLR (R596). A write of QUE_Qq_CTRL.CNT_CLR sets the queue counts to 0. -/
  | queCntClr (q : Nat)
  /-- WMX_CLEAR (R577). A write of 1 to WMX clears WMX and XCNT. -/
  | wmxClear (q : Nat)
  /-- WATERMARK_WRITE (R578). A write of WM_HI or WM_LO is clamped and takes effect at the next change of level. -/
  | watermarkWrite (q : Nat) (hi : Bool) (v : Nat)
  /-- DMA_RING_ENABLE (R588). A write of ENABLE = 1 starts a ring, or is refused with CFG_ERR for an invalid binding. -/
  | dmaRingEnable (r : Nat) (v : Nat)
  /-- DMA_RING_DISABLE (R588). A write of ENABLE = 0 completes the descriptor in progress with ABORTED and disables the ring. -/
  | dmaRingDisable (r : Nat)
  /-- DMA_TAIL_WRITE (R584). A write of TAIL posts descriptors, or is discarded with TAIL_ERR. -/
  | dmaTailWrite (r : Nat) (tail : Nat) (descs : List Descriptor)
  /-- DMA_DESCRIPTOR_COMPLETE (R586). A descriptor's transfer ends and its write-back is written. -/
  | dmaDescriptorComplete (r : Nat) (bytes : List Byte) (bad : List Nat)
  /-- DMA_FLUSH_TIMEOUT (R587). DMA_FLUSH_US passes without a new queue word and a partly filled buffer completes. -/
  | dmaFlushTimeout (r : Nat)
  /-- DMA_HOST_ERROR (R586). An error completion or completion timeout stops the ring. -/
  | dmaHostError (r : Nat)
  /-- NOTICE_PENDING_CLEAR (R581). A write of 1 to a DMA_NPENDj bit clears the pending notice. -/
  | noticePendingClear (j : Nat) (v : Nat)
  /-- NOTICE_RING_SEND (R582). A NOTICE record is sent to the head hubs at the end of the NOTICE_RING_MS interval. -/
  | noticeRingSend
  /-- MSIX_UNMASK (R581). Unmasking a vector sends the message held in the PBA. -/
  | msixUnmask (vec : Option Nat) (enable : Bool)
  /-- DMA_PAUSE (R588). Bus Master Enable = 0 or D3hot pauses every ring until resumed. -/
  | dmaPause (d3 : Bool)
  /-- WRG_CTRL_CUT (R618). A write of WRG_Cj_CTRL.CUT ends the compression job in progress. -/
  | wrgCtrlCut (j : Nat)
  /-- WRG_CTRL_ABORT (R618). A write of WRG_Cj_CTRL.ABORT fails the job in progress. -/
  | wrgCtrlAbort (j : Nat)
  /-- WRG_CNT_CLR (R618). A write of WRG_Cj_CTRL.CNT_CLR sets FAIL_CNT and LOST to 0. -/
  | wrgCntClr (j : Nat)
  /-- WRING_DECOMPRESS_START (R605). A decompression job starts when its input ring holds a posted descriptor. -/
  | wringDecompressStart (j : Nat)
  /-- WRING_CLOSE_TIMEOUT (R604). The queue stays empty for CLOSE_US and the compression job takes no further input. -/
  | wringCloseTimeout (j : Nat)
  /-- WRING_JOB_END (R607). A job ends; on success its output is committed and write-backs follow. -/
  | wringJobEnd (j : Nat) (memErr : Bool)
  /-- SLT_CNT_CLR (R639). A write of SLT_CTRL.CNT_CLR sets SLT_ECC and SLT_FIFO_MAX to 0. -/
  | sltCntClr
  /-- SILT_RECORD_WRITTEN (R625). A silt-log record copy completes with its COMMIT, and the writer takes the next entry. -/
  | siltRecordWritten
  /-- OPTIME_CHECKPOINT (R624). The operating-time checkpoint is written every 1000 ms. -/
  | optimeCheckpoint
  /-- SUP_CNT_CLR (R656). A write of SUP_CTRL.CNT_CLR sets SD_CNT, QUAR_CNT and PEER_CNT to 0. -/
  | supCntClr
  /-- PMU_FWU_START (R677). A write of PMU_FWU_CTRL.START starts a firmware update from the standby bank. -/
  | pmuFwuStart (v : Nat)
  /-- FW_UPDATE_DONE (R677). A firmware update ends with its RESULT, and the standby bank is EMPTY. -/
  | fwUpdateDone (result : Nat) (ver : Nat) (svn : Nat)
  /-- QSPI_GO (R674). A write of PMU_QSPI_CTRL.GO runs a flash command sequence, or is dropped if the flash is busy. -/
  | qspiGo (v : Nat)
  /-- QSPI_SEQUENCE_DONE (R674). A QSPI command sequence completes. -/
  | qspiSequenceDone (bytes : List Byte)
  /-- POWER_GOOD (R661). Every rail is in range for 1 ms, the hub enters BOOT and the straps latch. -/
  | powerGood (boot : Nat)
  /-- RESET_N_ASSERT (R668). RESET_N low for at least 1 µs resets the hub. -/
  | resetNAssert (boot : Nat)
  /-- WATCHDOG_RESET (R668). The watchdog expires without service and resets the hub. -/
  | watchdogReset (boot : Nat)
  /-- RAIL_LOSS (R664). A rail of steps 1 to 3 falls below 90 % for 10 µs, so the pins go safe and the hub is in OFF. -/
  | railLoss (rail : Nat)
  /-- PFAIL_ASSERT (R630). PFAIL_N asserts: the PFAIL cause is set and the silt-log power-fail sequence runs. -/
  | pfailAssert
  /-- PFAIL_DEASSERT (R630). PFAIL_N deasserts with the supply in range, and recording resumes. -/
  | pfailDeassert
  /-- PERST_ASSERT (R588). PERST_N disables every ring and clears the MSI-X table. -/
  | perstAssert
  /-- FUNCTION_LEVEL_RESET (R588). A Function Level Reset disables every ring and clears the MSI-X table. -/
  | functionLevelReset
  /-- TRST_ASSERT (R668). TRST_N resets only the test logic. -/
  | trstAssert
  /-- PCIE_LINK_DOWN (R592). The PCI Express link goes down; rings pause and a head hub sets HEAD. -/
  | pcieLinkDown
  /-- XTAL_LOSS (R667). XTAL_IN or core or memory PLL lock is lost and the watchdog resets the hub. -/
  | xtalLoss (boot : Nat)
  /-- BOOT_DONE (R670). The firmware is authenticated and passes self-test, the hub enters HELD and a BOOT record is written. -/
  | bootDone (aOk : Bool) (bOk : Bool) (selfTest : Option Nat)
  /-- QSPI_IMAGE_READ_DONE (R673). The power-up image has been copied from flash into the standby bank and its check starts. -/
  | qspiImageReadDone (info : Nat) (dir : List Byte) (bytes : List Byte)
  /-- NEIGHBOUR_SERVER_FOUND (R675). A hub booting from the ring finds a server and starts fetching its image. -/
  | neighbourServerFound
  /-- NEIGHBOUR_FETCH_RESUME (R675). The 10 s pause after 3 fetch restarts ends and the fetch starts again. -/
  | neighbourFetchResume
  /-- CAPTURE_MEMORY_INIT_DONE (R669). Background initialisation of capture memory with valid ECC completes. -/
  | captureMemoryInitDone
  /-- DUPLICATE_ENTRY_EXPIRE (R169). A duplicate-table entry is removed 60 s after its execution. -/
  | duplicateEntryExpire (source : Nat) (request : Nat)
  /-- SUPPLY_OUT_OF_RANGE (R183). A supply monitor leaves its range, which sets SAFE cause SUPPLY. -/
  | supplyOutOfRange (rail : Nat)
  /-- THERMAL_LIMIT (R183). A die temperature exceeds +110 °C, which sets SAFE cause THERMAL. -/
  | thermalLimit
  /-- MEMORY_UE (R641). An uncorrectable error is found in the active bank or the unit tables. -/
  | memoryUe (area : Nat) (block : Nat)
  /-- SAFE_CAUSE_GONE (R183). A safe cause's condition has been absent for 100 ms. -/
  | safeCauseGone (b : Nat)
  /-- SELFDIAG_GONE (R641). A self-diagnosis failure is gone after its holding period. -/
  | selfdiagGone (code : Nat)
  /-- MCLK_LOCK_LOSS (R238). The modulator clock PLL loses lock, which is a self-diagnosis failure. -/
  | mclkLockLoss
  /-- MCLK_LOCK_REGAINED (R238). The modulator clock regains lock and every local chain resets at the next tick. -/
  | mclkLockRegained
  /-- COEF_PARITY_ERROR (R297). A coefficient read fails parity, and the set is marked failed and reloaded. -/
  | coefParityError (mode : Nat) (d : Nat) (running : List Nat) (next : List Nat)
  /-- CAPTURE_ECC_ERROR (R410). A capture memory block shows an ECC error on read or scrub; it is corrected, or poisoned and recorded. -/
  | captureEccError (block : Nat) (corrected : Bool)
  /-- MODULATOR_RUN_IN_END (R229). A started modulator completes its 1024 run-in periods, and its chain resets at the next tick. -/
  | modulatorRunInEnd (ch : Nat)
  /-- MODULATOR_OVERLOAD (R195). A modulator period carries the overload flag. -/
  | modulatorOverload (ch : Nat) (j : Nat) (clamp : Bool)
  /-- CM_OVERLOAD (R193). The common-mode voltage leaves ±10.5 V and the period counts as overloaded for CLIP. -/
  | cmOverload (ch : Nat) (j : Nat)
  /-- EXC_RAMP_END (R210). An excitation ramp ends and the channel's chain resets at the next tick. -/
  | excRampEnd (ch : Nat)
  /-- EXC_OVERCURRENT_OFF (R211). After 1 ms in current limit, the driver turns off and a wire break with cause EXC_OC is confirmed. -/
  | excOvercurrentOff (ch : Nat)
  /-- EXC_RETRY_TIMER (R211). 1 s after an overcurrent turn-off, the driver retries with a ramp. -/
  | excRetryTimer (ch : Nat)
  /-- EXC_OBSERVATION (R213). The excitation detectors observe their conditions every 0.5 µs. -/
  | excObservation (k : Nat) (obs : List ExcObs)
  /-- WIRE_CHECK (R213). The sense-line and signal-line tests check at FT and FT + T_F/2. -/
  | wireCheck (half : Bool) (obs : List WireObs)
  /-- WIRE_BREAK_CONFIRM (R218). A wire-break condition reaches its confirmation count, and the chain emits WIREBREAK from then on. -/
  | wireBreakConfirm (ch : Nat)
  /-- WIRE_RECOVER (R220). After 2 × L clean samples, the chain emits values again and a WIRE_RECOVER record is written. -/
  | wireRecover (ch : Nat)
  /-- IRQ_N_ASSERT (R358). An IRQ_N assertion latches L and the frame counter, or counts a miss. -/
  | irqNAssert
  /-- TIN_EDGE (R359). A TIN pin edge is captured into its FIFO, or discarded. -/
  | tinEdge (k : Nat) (falling : Bool) (ago : Nat)
  /-- TOUT_PULSE (R361). A TIME_OUT unit's scheduled time arrives and its pulse starts. -/
  | toutPulse (k : Nat)
  /-- TOUT_PULSE_END (R361). The pulse width WIDTH_NS expires and the pin returns to its inactive level. -/
  | toutPulseEnd (k : Nat)
  /-- TDC_EDGE (R376). A selected edge on a TDC input is measured and converted, or lost to dead time. -/
  | tdcEdge (k : Nat) (falling : Bool) (c : Nat) (raw : Nat) (raw1 : Nat) (raw2 : Nat)
  /-- TDC_START_TIMEOUT (R380). An interval start with no stop within 1 s expires. -/
  | tdcStartTimeout (k : Nat)
  /-- TDC_FREQ_TIMEOUT (R381). With no measured edge for 1 s, a frequency slot reads 0x7F_FFFF. -/
  | tdcFreqTimeout (k : Nat)
  /-- REFIN_WINDOW (R370). A 1 ms REFIN rate window ends, and presence and validity are updated. -/
  | refinWindow (present : Bool) (rate : Nat) (pll : Bool)
  /-- TDC_REF_LOSS (R372). The selected TDC source stops being valid and the coarse clock falls back to the time clock. -/
  | tdcRefLoss
  /-- PPS_IN_EDGE (R333). A PPS_IN edge marks a whole second at a PPS root and updates PPS validity. -/
  | ppsInEdge (ago : Int)
  /-- PPS_LOSS (R371). No PPS_IN edge arrives within 1 s + 1 µs and PPS_IN stops being valid. -/
  | ppsLoss
  /-- ROOT_HOLDOVER (R335). A PPS root receives no edge for 1.5 s and enters holdover. -/
  | rootHoldover (domain : Nat)
  /-- SYNC_SEND (R339). A domain root sends a SYNC on both ports at its interval. -/
  | syncSend (domain : Nat)
  /-- PD_REQ_SEND (R339). A hub sends a PD_REQ on each port every 2^PD_LOG2 s. -/
  | pdReqSend (port : Nat)
  /-- PD_REQ (R339). A received PD_REQ is answered with a PD_RESP within 10 µs. -/
  | pdReq (port : Nat) (msg : PdMsg) (ago : Int) (turn : Int)
  /-- PD_RESP (R340). A received PD_RESP yields a port delay and theta result for the filter. -/
  | pdResp (port : Nat) (msg : PdMsg) (turn : Int) (ago : Int)
  /-- SYNC (R342). A received SYNC is forwarded, and the copy used yields θ_D for the servo and lock judgement. -/
  | sync (port : Nat) (msg : SyncMsg) (ago : Int) (res : Int) (crcOk : Bool)
  /-- DOMAIN_LOSS (R342). No usable SYNC of a domain arrives for LOSS_SYNCS intervals, and its class becomes 0xFF. -/
  | domainLoss (domain : Nat)
  /-- FRAME_COUNTER_START (R352). The root of A starts the frame counter at 0 at its first tick after T_A locks. -/
  | frameCounterStart
  /-- FRAME_COUNTER_ADOPT (R352). A hub adopts the frame counter from a received PD or SYNC message at its tick. -/
  | frameCounterAdopt
  /-- ROOT_B_TAKEOVER (R352). ROOT_A is absent 10 s after T_B locks, so ROOT_B takes its place for the counter start. -/
  | rootBTakeover
  /-- LANE_BLOCK_LOCK (R471). A lane in DETECT reaches block lock and starts exchanging TRAIN blocks. -/
  | laneBlockLock (lane : Nat)
  /-- LANE_NO_PEER (R472). A lane without block lock after 100 ms enters NO_PEER in L2. -/
  | laneNoPeer (lane : Nat)
  /-- TRAIN_BLOCK (R470). A received TRAIN block carries the neighbour's state, target rate and equaliser requests. -/
  | trainBlock (lane : Nat) (block : List Byte)
  /-- RATE_CHANGE (R471). 1024 blocks after READY both ways, the lane switches to the target rate. -/
  | rateChange (lane : Nat)
  /-- EQ_TRAIN_DONE (R471). Equaliser training at the target completes and CHECK starts. -/
  | eqTrainDone (lane : Nat)
  /-- LANE_CHECK_END (R472). A lane's PRBS31 check ends, passing to join or failing. -/
  | laneCheckEnd (lane : Nat) (errors : Nat)
  /-- AM (R467). A received alignment marker updates the ACTIVE and DROP sets, and lanes join or leave. -/
  | am (lane : Nat) (skew : Nat) (block : List Byte)
  /-- LANE_ERROR_LIMIT (R476). A lane's errors exceed ERR_LIMIT in a window and the lane drops. -/
  | laneErrorLimit (lane : Nat)
  /-- LANE_LOCK_LOSS (R476). A lane loses lock and drops. -/
  | laneLockLoss (lane : Nat)
  /-- LANE_RETRY_TIMER (R472). RETRY_S after NO_PEER or FAILED, the lane restarts at DETECT. -/
  | laneRetryTimer (lane : Nat)
  /-- ADAPT_WINDOW (R482). A 65,536-bit window ends and adaptation freezes or resumes. -/
  | adaptWindow (lane : Nat) (td : Nat) (div : Nat) (shErr : Nat) (blkErr : Nat) (bitErr : Nat) (ctle : Int) (taps : List Int)
  /-- PRBS_RESYNC (R490). More than 16 errors in 64 bits resynchronises the PRBS checker. -/
  | prbsResync (lane : Nat)
  /-- LEAF_SYNC_CHANGE (R485). The BLIND lane gains or loses 8b/10b sync. -/
  | leafSyncChange (port : Nat) (sync : Bool)
  /-- LEAF_FRAME (R486). A PZ220 leaf frame is received and accepted or discarded. -/
  | leafFrame (port : Nat) (violation : Bool) (bytes : List Byte)
  /-- LEAF_TIMEOUT (R487). No intact leaf frame within LEAF_TIMEOUT_US, so the leaf slots carry ABSENT. -/
  | leafTimeout (port : Nat)
  /-- STREAM_FRAME_RECEIVE (R518). A STREAM frame is forwarded and its copy is checked and accepted or discarded by the confluence. -/
  | streamFrameReceive (port : Nat) (lseq : Nat) (full : Bool) (bytes : List Byte)
  /-- TRIGGER_FRAME_RECEIVE (R394). A TRIGGER frame is forwarded and kept as a line event until its resolution. -/
  | triggerFrameReceive (port : Nat) (lseq : Nat) (bytes : List Byte)
  /-- CLAIM_FRAME_RECEIVE (R448). A CLAIM frame is forwarded and, for this hub, becomes a remote setpoint candidate. -/
  | claimFrameReceive (port : Nat) (lseq : Nat) (bytes : List Byte)
  /-- HELLO_RECEIVE (R648). A HELLO is forwarded and updates the hub table and the judgement of the sender. -/
  | helloReceive (port : Nat) (lseq : Nat) (bytes : List Byte)
  /-- UNKNOWN_FRAME_RECEIVE (R511). A frame of reserved type is forwarded only and counted. -/
  | unknownFrameReceive (port : Nat) (lseq : Nat) (bytes : List Byte)
  /-- LINK_ACK (R514). A received ACK releases retry-buffer frames below its LSEQ. -/
  | linkAck (port : Nat) (lseq : Nat)
  /-- LINK_NAK (R514). A received NAK causes the named frames to be retransmitted, or a SKIP. -/
  | linkNak (port : Nat) (lseq : Nat) (count : Nat)
  /-- LINK_SKIP (R515). A received SKIP marks the LSEQs below it as skipped. -/
  | linkSkip (port : Nat) (lseq : Nat)
  /-- RETRANSMIT_TIMEOUT (R514). The rewind mark does not advance for T_RTO and the frame at the mark is retransmitted. -/
  | retransmitTimeout (port : Nat)
  /-- HELLO_SEND (R529). A hub sends a HELLO at each 10 ms boundary of L. -/
  | helloSend
  /-- DISC_PROBE_SEND (R522). A hub sends a discovery probe on each up port, on its interval or on a port change. -/
  | discProbeSend (change : Bool)
  /-- DISC_FRAME_RECEIVE (R523). A DISC probe is forwarded with this hub's record, turned, discarded, or read as returned. -/
  | discFrameReceive (port : Nat) (lseq : Nat) (bytes : List Byte)
  /-- DISC_PROBE_TIMEOUT (R524). A probe not returned within 10 ms is sent again. -/
  | discProbeTimeout (port : Nat)
  /-- HUB_SILENT (R530). No frame from hub h for SILENT_MS makes it silent at this receiver. -/
  | hubSilent (hub : Nat)
  /-- UPLINK_SYNC_GAIN (R550). A field port's uplink reaches sync, and the port enters DISCOVER and reads the descriptor. -/
  | uplinkSyncGain (port : Nat)
  /-- UPLINK_SYNC_LOSS (R556). A BOUND port loses uplink sync and enters LOST. -/
  | uplinkSyncLoss (port : Nat)
  /-- SLICE (R543). A received SLICE is reconstructed into modulator words, or missed. -/
  | slice (port : Nat) (first : Bool) (event : Bool) (bytes : List Byte)
  /-- POD_TICK_BLOCK (R544). A pod TICK block delivers status, ranges, FORMAT-1 samples, output reports and ping results. -/
  | podTickBlock (port : Nat) (bytes : List Byte)
  /-- POD_TICK_MISS (R556). No intact TICK block for 2 consecutive ticks, so the port is lost. -/
  | podTickMiss (port : Nat)
  /-- ECHO (R546). A K28.3 echo on the uplink gives the rtt of a PING. -/
  | echo (port : Nat) (rtt : Nat)
  /-- POD_RESPONSE (R548). A pod RESPONSE block answers a CMD. -/
  | podResponse (port : Nat) (bytes : List Byte)
  /-- POD_CMD_TIMEOUT (R548). A CMD with no response after CMD_TIMEOUT_MS is resent, and after 3 tries the link is lost. -/
  | podCmdTimeout (port : Nat)
  /-- POD_CONFIG_RESEND (R552). A CONFIG not answered OK by FT(F_b − 1) is sent again with a new F_b. -/
  | podConfigResend (port : Nat)
  /-- POD_BIND (R552). At FT(F_b) the port enters BOUND and its chains reset. -/
  | podBind (port : Nat)
  /-- POD_NOLOAD (R556). FLDp_ISNS below 0.5 mA for 100 ms makes the port lost. -/
  | podNoload (port : Nat)
  /-- POD_OVERCURRENT (R559). Port current above its limit for OC_MS turns the pod power off and puts the port in FAULT. -/
  | podOvercurrent (port : Nat)
  /-- POD_OC_RETRY (R559). OC_RETRY_S after an overcurrent turn-off, the port is turned on again. -/
  | podOcRetry (port : Nat)
  /-- POD_POWER_ON (R558). FLDp_PWREN goes high, staggered STAGGER_MS after the previous port. -/
  | podPowerOn (port : Nat)
  /-- PARTNER_TIMEOUT (R455). A remote source silent for PARTNER_TICKS sets GLB_DEGRADED.PARTNER. -/
  | partnerTimeout (o : Nat) (index : Nat)
  /-- OUTPUT_FAULT (R458). A pin that misses its voltage for 16 ticks goes to high impedance in FAULT. -/
  | outputFault (o : Nat)
  /-- STALE_TIMEOUT (R579). STALE_US passes since the last restart of a non-empty queue and STALE is set. -/
  | staleTimeout (q : Nat)
  /-- RESET_N_DEASSERT (R661). RESET_N rises after power good, and the hub then enters BOOT and latches BOOT[1:0]. -/
  | resetNDeassert (boot : Nat)
  /-- XTAL_RESTORED (R667). XTAL_IN has run for 1 ms and the needed PLLs have locked, so the hub leaves the reset held since the clock loss. -/
  | xtalRestored
  /-- PERST_DEASSERT (R657). PERST_N deasserts, PD_PCIE powers on and link training starts. -/
  | perstDeassert
  /-- PCIE_LINK_UP (R588). The PCI Express link comes up again, the paused rings resume where they stood and a head hub clears HEAD. -/
  | pcieLinkUp (width : Nat) (speed : Nat)
  /-- DMA_RESUME (R588). Bus Master Enable returns to 1, or the function returns to D0, and the paused rings resume. -/
  | dmaResume (d3 : Bool)
  /-- AM_SEND (R477). A port sends its alignment marker every 1000 blocks, and its own ACTIVE, DROP and timestamping-lane changes take effect there. -/
  | amSend (port : Nat)
  /-- FLD_POWER_CYCLE_END (R563). The 500 ms off period of a FLD_PORT power cycle ends, and the port supply is switched on again. -/
  | fldPowerCycleEnd (port : Nat)
  /-- TAP_UPDATE_IR (R704). The test access port loads an instruction, and EXTEST-class instructions take effect only while RESET_N is low, or else act as BYPASS. -/
  | tapUpdateIr (op : Nat)
  /-- CAPTURE_MEMORY_WRITE (R409). A BAR2 write to capture memory, or to the reserved part of BAR2, is discarded and counted in CAP_STAT.WDROP. -/
  | captureMemoryWrite (addr : Nat)
  /-- RESERVED_READ (R720). A read of a reserved BAR0 address, or an unaligned read, returns 0 and sets GLB_ACC_STAT.RSVD_ACC. -/
  | reservedRead (path : Path) (addr : Nat) (size : Nat)
  /-- REFIN_PRESENCE_LOSS (R370). REFIN shows no edge for 1 µs, so it is no longer present and stops being valid. -/
  | refinPresenceLoss
deriving DecidableEq, Repr

end Sys2Proof
end

