-- ==== Sys2Proof/Machine/Bits.lean ====
section
/-! DEFINITION. Bit fields, signs, saturation, byte order and the three CRCs (R3, R4, R68, R723). -/

namespace Sys2Proof.Machine

/-- Bits [lsb + width - 1 : lsb] of a register word (R4). -/
def getBits (w : Word) (lsb width : Nat) : Nat := (w.extractLsb' lsb width).toNat

/-- A word whose low `width` bits are 1. -/
def ones (width : Nat) : Word := BitVec.ofNat 32 (2 ^ width - 1)

/-- `w` with bits [lsb + width - 1 : lsb] replaced by the low bits of `v`. -/
def putBits (w : Word) (lsb width v : Nat) : Word :=
  (w &&& ~~~(ones width <<< lsb)) ||| ((BitVec.ofNat 32 v &&& ones width) <<< lsb)

/-- Bits [lsb + width - 1 : lsb] of a natural number. -/
def field (x lsb width : Nat) : Nat := x / 2 ^ lsb % 2 ^ width

/-- Bit `i` of a natural number. -/
def bit (x i : Nat) : Bool := x.testBit i

/-- 1 for true, 0 for false: a one-bit field. -/
def b2n (b : Bool) : Nat := if b then 1 else 0

/-- The two's-complement value of the low `width` bits of `x`. -/
def signed (width x : Nat) : Int :=
  let y := x % 2 ^ width
  if y < 2 ^ (width - 1) then (y : Int) else (y : Int) - (2 ^ width : Nat)

/-- The `width`-bit two's-complement encoding of an integer. -/
def unsigned (width : Nat) (x : Int) : Nat := (x % ((2 ^ width : Nat) : Int)).toNat

/-- Clamps an integer to [lo, hi]. -/
def clampInt (lo hi x : Int) : Int := max lo (min hi x)

/-- Clamps a natural number to [lo, hi]. -/
def clampNat (lo hi x : Nat) : Nat := max lo (min hi x)

/-- Saturates an integer to the signed range of `width` bits. -/
def satSigned (width : Nat) (x : Int) : Int :=
  clampInt (-((2 ^ (width - 1) : Nat) : Int)) ((2 ^ (width - 1) : Nat) - 1) x

/-- Adds to a counter that saturates at its largest `width`-bit value. -/
def satAdd (width x k : Nat) : Nat := min (2 ^ width - 1) (x + k)

/-- Rounds `num / den` to the nearest integer, halves away from zero, for den > 0. -/
def roundDiv (num : Int) (den : Nat) : Int :=
  if num < 0 then -(((-num).toNat * 2 + den) / (2 * den) : Nat) else ((num.toNat * 2 + den) / (2 * den) : Nat)

/-- The ceiling of `a / b` (0 when b = 0). -/
def ceilDiv (a b : Nat) : Nat := (a + b - 1) / b

/-- Little-endian bytes of a natural number (R3). -/
def leBytes : (n : Nat) → (x : Nat) → List Byte
  | 0, _ => []
  | n + 1, x => BitVec.ofNat 8 x :: leBytes n (x / 256)

/-- The number a little-endian byte list spells (R3). -/
def leNat : List Byte → Nat
  | [] => 0
  | b :: bs => b.toNat + 256 * leNat bs

/-- The number a big-endian byte list spells (FIPS fields keep their order, R3). -/
def beNat (bs : List Byte) : Nat := bs.foldl (fun a b => a * 256 + b.toNat) 0

/-- `n` bytes of a big-endian number. -/
def beBytes (n x : Nat) : List Byte := (leBytes n x).reverse

/-- `len` bytes from position `off`, short at the end of the list. -/
def slice (bs : List Byte) (off len : Nat) : List Byte := (bs.drop off).take len

/-- The little-endian field of `len` bytes at `off`. -/
def leAt (bs : List Byte) (off len : Nat) : Nat := leNat (slice bs off len)

/-- `bs` cut or filled with 0x00 to exactly `n` bytes. -/
def padTo (n : Nat) (bs : List Byte) : List Byte := (bs ++ List.replicate n 0).take n

/-- One bit step of a CRC whose register is fed most significant bit first. -/
def crcMsbStep (width poly : Nat) (c : Nat) : Nat :=
  if c ≥ 2 ^ (width - 1) then ((c * 2) % 2 ^ width).xor poly else (c * 2) % 2 ^ width

/-- Eight bit steps. -/
def iter8 (f : Nat → Nat) (x : Nat) : Nat := f (f (f (f (f (f (f (f x)))))))

/-- CRC-16 of R723: polynomial 0x1021, initial 0xFFFF, not reflected, no final XOR. -/
def crc16 (bs : List Byte) : Nat :=
  bs.foldl (fun c b => iter8 (crcMsbStep 16 0x1021) (c.xor (b.toNat * 256))) 0xFFFF

/-- CRC-8 of R723: polynomial 0x07, initial 0x00, not reflected, no final XOR. -/
def crc8 (bs : List Byte) : Nat :=
  bs.foldl (fun c b => iter8 (crcMsbStep 8 0x07) (c.xor b.toNat)) 0

/-- One bit step of the reflected CRC-32. -/
def crc32Step (c : Nat) : Nat := if c % 2 = 1 then (c / 2).xor 0xEDB88320 else c / 2

/-- CRC-32 of R68: IEEE 802.3 polynomial, reflected, initial and final XOR 0xFFFF_FFFF. -/
def crc32 (bs : List Byte) : Nat :=
  (bs.foldl (fun c b => iter8 crc32Step (c.xor b.toNat)) 0xFFFFFFFF).xor 0xFFFFFFFF

/-- The words of a little-endian byte list, four bytes each; a short tail is filled with zeros. -/
def toWords (n : Nat) (bs : List Byte) : List Nat := (List.range n).map fun k => leAt bs (4 * k) 4

/-- The little-endian bytes of a word list. -/
def ofWords (ws : List Nat) : List Byte := ws.flatMap (leBytes 4)

/-! ## Sparse tables: entries (key, value) with strictly rising keys; an unlisted key holds the default. -/

/-- A sparse table keyed by instance number, sorted by key. -/
abbrev Tab (α : Type) := List (Nat × α)

/-- The entry of key `k`, if listed. -/
def tabGet? {α : Type} : Tab α → Nat → Option α
  | [], _ => none
  | (j, v) :: t, k => if j = k then some v else tabGet? t k

/-- The value at key `k`, or the default. -/
def tabGet {α : Type} (t : Tab α) (d : α) (k : Nat) : α := (tabGet? t k).getD d

/-- `t` with key `k` set to `v`, keys kept strictly rising. -/
def tabSet {α : Type} : Tab α → Nat → α → Tab α
  | [], k, v => [(k, v)]
  | (j, w) :: t, k, v =>
    if k < j then (k, v) :: (j, w) :: t else if k = j then (k, v) :: t else (j, w) :: tabSet t k v

/-- `t` without key `k`. -/
def tabErase {α : Type} : Tab α → Nat → Tab α
  | [], _ => []
  | (j, w) :: t, k => if j = k then tabErase t k else (j, w) :: tabErase t k

/-- `t` with the value at key `k` (or the default) changed by `f`. -/
def tabMod {α : Type} (t : Tab α) (d : α) (k : Nat) (f : α → α) : Tab α := tabSet t k (f (tabGet t d k))

/-- The keys of a table rise strictly. -/
def tabWf {α : Type} : Tab α → Bool
  | [] => true
  | [_] => true
  | (j, _) :: (k, w) :: t => decide (j < k) && tabWf ((k, w) :: t)

end Sys2Proof.Machine
end

