-- ==== Sys2Proof/Machine/Binary32.lean ====
section
/-! DEFINITION. Binary32 arithmetic of the lineariser (R287): every multiplication and addition rounds to nearest, ties
to even. The sign of zero never reaches a result and is not kept. -/

namespace Sys2Proof.Machine

/-- A binary32 value: m * 2^e for a finite one. -/
inductive F32 where
  | nan
  | inf (neg : Bool)
  | fin (m e : Int)
deriving DecidableEq, Repr

/-- Drops `d` low bits of a magnitude, to nearest, ties to even. -/
def roundEven (a d : Nat) : Nat :=
  let q := a / 2 ^ d
  let r := a % 2 ^ d
  if 2 * r > 2 ^ d || (2 * r = 2 ^ d && q % 2 = 1) then q + 1 else q

/-- Rounds m * 2^e to binary32. -/
def f32Round (m e : Int) : F32 :=
  let a := m.natAbs
  if a = 0 then .fin 0 0 else
  let top : Int := (Nat.log2 a : Nat)
  let e2 := max (e + top - 23) (-149)
  let b := if e2 ≤ e then a * 2 ^ (e - e2).toNat else roundEven a (e2 - e).toNat
  if b ≠ 0 ∧ e2 + (Nat.log2 b : Nat) ≥ 128 then .inf (decide (m < 0))
  else .fin (if m < 0 then -(b : Int) else b) e2

/-- The value of a binary32 bit pattern. -/
def f32Bits (b : Nat) : F32 :=
  let neg := bit b 31
  let x := field b 23 8
  let f := field b 0 23
  let sg : Int := if neg then -1 else 1
  if x = 255 then (if f = 0 then .inf neg else .nan)
  else if x = 0 then .fin (sg * f) (-149)
  else .fin (sg * (f + 2 ^ 23 : Nat)) ((x : Int) - 150)

/-- The binary32 value nearest to num / den, for a quotient of at least 2^-24. -/
def f32Rat (num den : Nat) : F32 :=
  let q := num * 2 ^ 60 / den
  let sticky := if num * 2 ^ 60 % den = 0 then 0 else 1
  f32Round ((q * 2 + sticky : Nat) : Int) (-61)

/-- A product. -/
def f32Mul : F32 → F32 → F32
  | .nan, _ => .nan
  | _, .nan => .nan
  | .inf a, .inf b => .inf (a != b)
  | .inf a, .fin m _ => if m = 0 then .nan else .inf (a != decide (m < 0))
  | .fin m _, .inf a => if m = 0 then .nan else .inf (a != decide (m < 0))
  | .fin m e, .fin m' e' => f32Round (m * m') (e + e')

/-- A sum. -/
def f32Add : F32 → F32 → F32
  | .nan, _ => .nan
  | _, .nan => .nan
  | .inf a, .inf b => if a = b then .inf a else .nan
  | .inf a, .fin _ _ => .inf a
  | .fin _ _, .inf a => .inf a
  | .fin m e, .fin m' e' =>
    let lo := min e e'
    f32Round (m * (2 ^ (e - lo).toNat : Nat) + m' * (2 ^ (e' - lo).toNat : Nat)) lo

/-- VALUE of a result, whether it saturated, and whether it was NaN (R287). -/
def f32Value : F32 → Int × Bool × Bool
  | .nan => (-0x800000, true, true)
  | .inf neg => (if neg then -0x800000 else 0x7FFFFF, true, false)
  | .fin m e =>
    let num := if e ≥ 0 then m * (2 ^ e.toNat : Nat) else m
    let den : Nat := if e ≥ 0 then 1 else 2 ^ (-e).toNat
    if num > 0x7FFFFF * (den : Int) then (0x7FFFFF, true, false)
    else if num < -0x800000 * (den : Int) then (-0x800000, true, false)
    else (roundDiv num den, false, false)

/-- Horner's rule over coefficients given highest power first, each step rounded twice (R287). -/
def f32Horner (acc x : F32) : List F32 → F32
  | [] => acc
  | c :: cs => f32Horner (f32Add (f32Mul acc x) c) x cs

end Sys2Proof.Machine
end

