-- ==== Sys2Proof/Config.lean ====
section
/-! DEFINITION. The values the spec leaves open: constants without a body, so that no proof can see a value of one. -/

namespace Sys2Proof.Config

/-- A value that the spec leaves open, fresh at each draw (log entry 1). -/
opaque freeValue : Nat → Nat

/-- The output y of a filter chain after its fractional-delay stage, in 2^-8 u (R262, R268: coefficients are not
published): filter mode, log2 D, f_F code, alignment delay, data history newest first (log entry 2). -/
opaque firOutput : Nat → Nat → Nat → Int → List Int → Int

/-- The peak magnitude of the range-compensated CIC output over one output period, in u (R196; log entry 2). -/
opaque cicPeak : Nat → Nat → Nat → List Int → Nat

/-- The factory-trimmed temperature of multiplexer input 20 to 23 for a raw code, in 1/256 °C (R242; log entry 3). -/
opaque tempOf : Nat → Nat → Int

/-- The raw DEFLATE stream that the Wring engine finds for an input at a level (R599, R600): the spec fixes neither the
match search nor the block division, only that two jobs at one level give the same bytes (log entry 12). -/
opaque deflateStream : (level : Nat) → List (BitVec 8) → List (BitVec 8)

end Sys2Proof.Config
end

