-- ==== Sys2Proof/Machine/Regs.lean ====
section
/-! DEFINITION. The register catalogue: every register family of the address map (R715 and the register tables of
R124, R147, R184, R225, R226, R258, R259, R294, R325, R326, R366 to R368, R386, R412, R438, R462, R493, R535, R565,
R596, R597, R618, R639, R656, R680, R681), with its BAR0 offset, index ranges, access-code masks (R5) and reset value. -/

namespace Sys2Proof.Machine

/-- A register family: BAR0 offset of its first register, two index ranges with their strides, one mask per access
code (R5; a bit of no mask is RO or reserved, R10), and the reset value. -/
structure RegDef where
  base : Nat
  n1 : Nat := 1
  s1 : Nat := 0
  n2 : Nat := 1
  s2 : Nat := 0
  /-- bits with code RW or RWH -/
  rw : Nat := 0
  /-- bits with code W1C -/
  w1c : Nat := 0
  /-- bits with code W1S -/
  w1s : Nat := 0
  /-- bits with code RWL -/
  rwl : Nat := 0
  /-- bits with code WO -/
  wo : Nat := 0
  reset : Nat := 0
deriving DecidableEq, Repr

/-- A field of a register family: its register, lowest bit and width. -/
structure Field where
  reg : RegDef
  lsb : Nat
  width : Nat
deriving DecidableEq, Repr

/-- The BAR0 offset of the register with indices i and j. -/
def RegDef.at (r : RegDef) (i j : Nat) : Nat := r.base + r.s1 * i + r.s2 * j

end Sys2Proof.Machine

namespace Sys2Proof.Machine.Reg

/-- PAT_STAT (R124). -/
def PAT_STAT : RegDef := { base := 0x20000, w1c := 0x107 }
/-- PAT_REJ_DETAIL (R124). -/
def PAT_REJ_DETAIL : RegDef := { base := 0x20004 }
/-- PAT_REJ_NEED (R124). -/
def PAT_REJ_NEED : RegDef := { base := 0x20008 }
/-- PAT_REJ_ALLOW (R124). -/
def PAT_REJ_ALLOW : RegDef := { base := 0x2000C }
/-- PAT_ACT_DIGESTk, k = 0 to 7 (R124). -/
def PAT_ACT_DIGESTk : RegDef := { base := 0x20010, n1 := 8, s1 := 0x4 }
/-- PAT_STBY_DIGESTk, k = 0 to 7 (R124). -/
def PAT_STBY_DIGESTk : RegDef := { base := 0x20030, n1 := 8, s1 := 0x4 }
/-- PAT_ACT_SERIAL (R124). -/
def PAT_ACT_SERIAL : RegDef := { base := 0x20050 }
/-- PAT_STBY_SERIAL (R124). -/
def PAT_STBY_SERIAL : RegDef := { base := 0x20054 }
/-- PAT_COMMIT_FRAME_LO (R124). -/
def PAT_COMMIT_FRAME_LO : RegDef := { base := 0x20058 }
/-- PAT_COMMIT_FRAME_HI (R124). -/
def PAT_COMMIT_FRAME_HI : RegDef := { base := 0x2005C }
/-- PAT_WADDR (R124). -/
def PAT_WADDR : RegDef := { base := 0x20060, rw := 0xFFFFFC }
/-- PAT_WDATA (R124). -/
def PAT_WDATA : RegDef := { base := 0x20064, wo := 0xFFFFFFFF }
/-- PAT_WLEN (R124). -/
def PAT_WLEN : RegDef := { base := 0x20068 }
/-- PAT_STAT_UNKNOWN (R124). -/
def PAT_STAT_UNKNOWN : RegDef := { base := 0x2006C }
/-- PAT_SIGN_CFG (R124); reset: ANTIROLLBACK Stored; REQUIRE Stored. -/
def PAT_SIGN_CFG : RegDef := { base := 0x20070, w1s := 0x3 }
/-- PAT_MIN_SERIAL (R124); reset: MIN_SERIAL Stored. -/
def PAT_MIN_SERIAL : RegDef := { base := 0x20074 }
/-- PAT_KEY_STAT (R124); reset: SLOT Stored. -/
def PAT_KEY_STAT : RegDef := { base := 0x20078 }
/-- PAT_BUDGET_Wr, r = 0 to 6 (R124). -/
def PAT_BUDGET_Wr : RegDef := { base := 0x20080, n1 := 7, s1 := 0x8 }
/-- PAT_BUDGET_Cr, r = 0 to 6 (R124). -/
def PAT_BUDGET_Cr : RegDef := { base := 0x20084, n1 := 7, s1 := 0x8 }
/-- PAT_CHECK_TIME (R124). -/
def PAT_CHECK_TIME : RegDef := { base := 0x200C0 }
/-- UNIT_IDENT (R147); reset: CLASS Class; UNIT_ID UNIT_ID. -/
def UNIT_IDENT : RegDef := { base := 0x400000, reset := 0x10000 }
/-- UNIT_INST (R147); reset: PARENT PARENT; INSTANCE Assigned. -/
def UNIT_INST : RegDef := { base := 0x400004 }
/-- UNIT_STAT (R147). -/
def UNIT_STAT : RegDef := { base := 0x400008, w1c := 0x3C, reset := 0x1 }
/-- UNIT_CNT (R147). -/
def UNIT_CNT : RegDef := { base := 0x40000C }
/-- UNIT_LAST_LO (R147). -/
def UNIT_LAST_LO : RegDef := { base := 0x400010 }
/-- UNIT_LAST_HI (R147). -/
def UNIT_LAST_HI : RegDef := { base := 0x400014 }
/-- UNIT_CYCLES (R147); reset: COST Formula. -/
def UNIT_CYCLES : RegDef := { base := 0x400018 }
/-- UNIT_CTRL (R147). -/
def UNIT_CTRL : RegDef := { base := 0x40001C, wo := 0x3 }
/-- GLB_ID (R184); reset: PART Part. -/
def GLB_ID : RegDef := { base := 0x0, reset := 0x2100 }
/-- GLB_SERIAL_LO (R184); reset: SERIAL Factory. -/
def GLB_SERIAL_LO : RegDef := { base := 0x4 }
/-- GLB_SERIAL_HI (R184); reset: SERIAL Factory. -/
def GLB_SERIAL_HI : RegDef := { base := 0x8 }
/-- GLB_FW_VER (R184); reset: COMPAT_MAJOR Firmware; COMPAT_MINOR Firmware; BUILD Firmware. -/
def GLB_FW_VER : RegDef := { base := 0xC }
/-- GLB_STATE (R184). -/
def GLB_STATE : RegDef := { base := 0x10, reset := 0xFF000001 }
/-- GLB_STATE_CHG (R184). -/
def GLB_STATE_CHG : RegDef := { base := 0x14, w1c := 0x80, reset := 0x1 }
/-- GLB_DEGRADED (R184). -/
def GLB_DEGRADED : RegDef := { base := 0x18 }
/-- GLB_DEGRADED_STICKY (R184). -/
def GLB_DEGRADED_STICKY : RegDef := { base := 0x1C, w1c := 0x7FF }
/-- GLB_SAFE_CAUSE (R184). -/
def GLB_SAFE_CAUSE : RegDef := { base := 0x20 }
/-- GLB_ACC_STAT (R184). -/
def GLB_ACC_STAT : RegDef := { base := 0x24, w1c := 0x3 }
/-- GLB_FRAME_LO (R184). -/
def GLB_FRAME_LO : RegDef := { base := 0x28 }
/-- GLB_FRAME_HI (R184). -/
def GLB_FRAME_HI : RegDef := { base := 0x2C }
/-- GLB_SEQ_STAT (R184). -/
def GLB_SEQ_STAT : RegDef := { base := 0x30, w1c := 0x7 }
/-- GLB_OVR_FRAME_LO (R184). -/
def GLB_OVR_FRAME_LO : RegDef := { base := 0x34 }
/-- GLB_CMD_CNT (R184). -/
def GLB_CMD_CNT : RegDef := { base := 0x38 }
/-- GLB_DUP_EVICT (R184). -/
def GLB_DUP_EVICT : RegDef := { base := 0x3C }
/-- GLB_MBX_CTRL (R184). -/
def GLB_MBX_CTRL : RegDef := { base := 0x40, wo := 0x1 }
/-- GLB_MBX_STAT (R184). -/
def GLB_MBX_STAT : RegDef := { base := 0x44, w1c := 0x6 }
/-- GLB_CMD_BUFk, k = 0 to 63 (R184). -/
def GLB_CMD_BUFk : RegDef := { base := 0x100, n1 := 64, s1 := 0x4, rw := 0xFFFFFFFF }
/-- GLB_RSP_BUFk, k = 0 to 63 (R184). -/
def GLB_RSP_BUFk : RegDef := { base := 0x200, n1 := 64, s1 := 0x4 }
/-- AFE_CHn_CFG, n = 0 to 99 (R224). -/
def AFE_CHn_CFG : RegDef := { base := 0x80000, n1 := 100, s1 := 0x100, rwl := 0x1FFFF007, reset := 0x10000 }
/-- AFE_CHn_EXC, n = 0 to 99 (R224). -/
def AFE_CHn_EXC : RegDef := { base := 0x80004, n1 := 100, s1 := 0x100, rwl := 0xFFFF0003 }
/-- AFE_CHn_STAT, n = 0 to 99 (R224). -/
def AFE_CHn_STAT : RegDef := { base := 0x80008, n1 := 100, s1 := 0x100 }
/-- AFE_CHn_EVT, n = 0 to 99 (R224). -/
def AFE_CHn_EVT : RegDef := { base := 0x8000C, n1 := 100, s1 := 0x100, w1c := 0xFF }
/-- AFE_CHn_RCNT, n = 0 to 99 (R224). -/
def AFE_CHn_RCNT : RegDef := { base := 0x80010, n1 := 100, s1 := 0x100 }
/-- AFE_CHn_DWELL, n = 0 to 99 (R224). -/
def AFE_CHn_DWELL : RegDef := { base := 0x80014, n1 := 100, s1 := 0x100 }
/-- AFE_CHn_EXC_I, n = 0 to 99 (R224). -/
def AFE_CHn_EXC_I : RegDef := { base := 0x80018, n1 := 100, s1 := 0x100 }
/-- AFE_CHn_LEAD, n = 0 to 99 (R224). -/
def AFE_CHn_LEAD : RegDef := { base := 0x8001C, n1 := 100, s1 := 0x100 }
/-- AFE_CHn_WB_LO, n = 0 to 99 (R224). -/
def AFE_CHn_WB_LO : RegDef := { base := 0x80020, n1 := 100, s1 := 0x100 }
/-- AFE_CHn_WB_HI, n = 0 to 99 (R224). -/
def AFE_CHn_WB_HI : RegDef := { base := 0x80024, n1 := 100, s1 := 0x100 }
/-- AFE_CHn_CTRL, n = 0 to 99 (R225). -/
def AFE_CHn_CTRL : RegDef := { base := 0x80028, n1 := 100, s1 := 0x100, rw := 0x1, wo := 0x6 }
/-- AFE_GRPg_STAT, g = 0 to 3 (R226). -/
def AFE_GRPg_STAT : RegDef := { base := 0x88000, n1 := 4, s1 := 0x100, reset := 0xFF0000 }
/-- AFE_GRPg_EXC_SUM, g = 0 to 3 (R226). -/
def AFE_GRPg_EXC_SUM : RegDef := { base := 0x88004, n1 := 4, s1 := 0x100 }
/-- AFE_GLB_CFG (R226). -/
def AFE_GLB_CFG : RegDef := { base := 0x8A000, rwl := 0x3FF00FF, reset := 0x640019 }
/-- AFE_GLB_VEXC (R226). -/
def AFE_GLB_VEXC : RegDef := { base := 0x8A004 }
/-- AFE_GLB_STAT (R226). -/
def AFE_GLB_STAT : RegDef := { base := 0x8A008 }
/-- SAR_STAT (R258). -/
def SAR_STAT : RegDef := { base := 0x60000, w1c := 0xE }
/-- SAR_SCAN (R258). -/
def SAR_SCAN : RegDef := { base := 0x60004 }
/-- SAR_SCAN_TIME (R258). -/
def SAR_SCAN_TIME : RegDef := { base := 0x60008 }
/-- SAR_INJ_CNT (R258). -/
def SAR_INJ_CNT : RegDef := { base := 0x6000C }
/-- SAR_EXCSEL (R258). -/
def SAR_EXCSEL : RegDef := { base := 0x60010, rw := 0x1F1F1F1F }
/-- SAR_RESm, m = 0 to 31 (R258). -/
def SAR_RESm : RegDef := { base := 0x60100, n1 := 32, s1 := 0x8 }
/-- SAR_RESm_FRAME, m = 0 to 31 (R258). -/
def SAR_RESm_FRAME : RegDef := { base := 0x60104, n1 := 32, s1 := 0x8 }
/-- SAR_INJk, k = 0 to 7 (R258). -/
def SAR_INJk : RegDef := { base := 0x60200, n1 := 8, s1 := 0x8 }
/-- SAR_INJk_FRAME, k = 0 to 7 (R258). -/
def SAR_INJk_FRAME : RegDef := { base := 0x60204, n1 := 8, s1 := 0x8 }
/-- SAR_GAINm, m = 0 to 15 (R258). -/
def SAR_GAINm : RegDef := { base := 0x60300, n1 := 16, s1 := 0x8, rw := 0xFFFFFFFF, reset := 0x40000000 }
/-- SAR_OFFm, m = 0 to 15 (R258). -/
def SAR_OFFm : RegDef := { base := 0x60304, n1 := 16, s1 := 0x8, rw := 0xFFFFFFFF }
/-- SAR_SCAL_CTRL (R258). -/
def SAR_SCAL_CTRL : RegDef := { base := 0x60400, rw := 0xF10F, wo := 0x10000, reset := 0x6000 }
/-- SAR_SCAL_T0 (R258). -/
def SAR_SCAL_T0 : RegDef := { base := 0x60404, rw := 0xFFFFFFFF }
/-- SAR_SCAL_T1 (R258). -/
def SAR_SCAL_T1 : RegDef := { base := 0x60408, rw := 0xFFFFFFFF }
/-- SAR_SCAL_N0 (R258). -/
def SAR_SCAL_N0 : RegDef := { base := 0x6040C }
/-- SAR_SCAL_N1 (R258). -/
def SAR_SCAL_N1 : RegDef := { base := 0x60410 }
/-- SAR_SCAL_STAT (R258). -/
def SAR_SCAL_STAT : RegDef := { base := 0x60414, w1c := 0x11 }
/-- SAR_MCLK_STAT (R258). -/
def SAR_MCLK_STAT : RegDef := { base := 0x68000, w1c := 0x2 }
/-- SAR_MODn_STAT, n = 0 to 99 (R258). -/
def SAR_MODn_STAT : RegDef := { base := 0x68100, n1 := 100, s1 := 0x4, w1c := 0xC }
/-- SAR_MOD_CTRL (R258). -/
def SAR_MOD_CTRL : RegDef := { base := 0x68300, wo := 0x1 }
/-- FLT_CHc_CFG, c = 0 to 611 (R294). -/
def FLT_CHc_CFG : RegDef := { base := 0xC0000, n1 := 612, s1 := 0x100 }
/-- FLT_CHc_SDELAY, c = 0 to 611 (R294). -/
def FLT_CHc_SDELAY : RegDef := { base := 0xC0004, n1 := 612, s1 := 0x100 }
/-- FLT_CHc_EC, c = 0 to 611 (R294). -/
def FLT_CHc_EC : RegDef := { base := 0xC0008, n1 := 612, s1 := 0x100 }
/-- FLT_CHc_TAU, c = 0 to 611 (R294). -/
def FLT_CHc_TAU : RegDef := { base := 0xC000C, n1 := 612, s1 := 0x100 }
/-- FLT_CHc_TAU_TGT, c = 0 to 611 (R294). -/
def FLT_CHc_TAU_TGT : RegDef := { base := 0xC0010, n1 := 612, s1 := 0x100 }
/-- FLT_CHc_STAT, c = 0 to 611 (R294). -/
def FLT_CHc_STAT : RegDef := { base := 0xC0014, n1 := 612, s1 := 0x100 }
/-- FLT_CHc_EVT, c = 0 to 611 (R294). -/
def FLT_CHc_EVT : RegDef := { base := 0xC0018, n1 := 612, s1 := 0x100, w1c := 0x1F }
/-- FLT_CHc_CNT, c = 0 to 611 (R294). -/
def FLT_CHc_CNT : RegDef := { base := 0xC001C, n1 := 612, s1 := 0x100 }
/-- FLT_CHc_RST_LO, c = 0 to 611 (R294). -/
def FLT_CHc_RST_LO : RegDef := { base := 0xC0020, n1 := 612, s1 := 0x100 }
/-- FLT_CHc_RST_HI, c = 0 to 611 (R294). -/
def FLT_CHc_RST_HI : RegDef := { base := 0xC0024, n1 := 612, s1 := 0x100 }
/-- FLT_CHc_OUT, c = 0 to 611 (R295). -/
def FLT_CHc_OUT : RegDef := { base := 0xC0028, n1 := 612, s1 := 0x100 }
/-- FLT_CHc_CTRL, c = 0 to 611 (R295). -/
def FLT_CHc_CTRL : RegDef := { base := 0xC002C, n1 := 612, s1 := 0x100, wo := 0x3 }
/-- FLT_CHc_LIN_OUT, c = 0 to 611 (R295). -/
def FLT_CHc_LIN_OUT : RegDef := { base := 0xC0040, n1 := 612, s1 := 0x100 }
/-- FLT_CHc_LIN_STAT, c = 0 to 611 (R295). -/
def FLT_CHc_LIN_STAT : RegDef := { base := 0xC0044, n1 := 612, s1 := 0x100, w1c := 0x6 }
/-- FLT_CHc_LIN_TEMP, c = 0 to 611 (R295). -/
def FLT_CHc_LIN_TEMP : RegDef := { base := 0xC0048, n1 := 612, s1 := 0x100 }
/-- FLT_CHc_THRd, c = 0 to 611, d = 0 to 1 (R295). -/
def FLT_CHc_THRd : RegDef := { base := 0xC0050, n1 := 612, s1 := 0x100, n2 := 2, s2 := 0x4 }
/-- FLT_GLB_TAL (R296). -/
def FLT_GLB_TAL : RegDef := { base := 0xF0000, reset := 0x2000 }
/-- FLT_GLB_COEF (R296). -/
def FLT_GLB_COEF : RegDef := { base := 0xF0004 }
/-- FLT_GLB_LOAD (R296). -/
def FLT_GLB_LOAD : RegDef := { base := 0xF0008 }
/-- FLT_GLB_STAT (R296). -/
def FLT_GLB_STAT : RegDef := { base := 0xF000C, w1c := 0x1 }
/-- CAL_CHc_GRr, c = 0 to 611, r = 0 to 3 (R325); reset: GR Factory, or 0x4000_0000 for pod chains. -/
def CAL_CHc_GRr : RegDef := { base := 0xA0000, n1 := 612, s1 := 0x40, n2 := 4, s2 := 0x4, rw := 0xFFFFFFFF, reset := 0x40000000 }
/-- CAL_CHc_ARr, c = 0 to 611, r = 0 to 3 (R325); reset: AR Factory, or 0x0000_0000 for pod chains. -/
def CAL_CHc_ARr : RegDef := { base := 0xA0010, n1 := 612, s1 := 0x40, n2 := 4, s2 := 0x4, rw := 0xFFFFFFFF }
/-- CAL_CHc_DFE, c = 0 to 611 (R325); reset: DFE Factory, or 0x0000 for pod chains. -/
def CAL_CHc_DFE : RegDef := { base := 0xA0020, n1 := 612, s1 := 0x40, rw := 0xFFFF }
/-- CAL_CHc_VALID, c = 0 to 611 (R325). -/
def CAL_CHc_VALID : RegDef := { base := 0xA0024, n1 := 612, s1 := 0x40, rw := 0xF }
/-- CAL_CHc_CNT, c = 0 to 611 (R325). -/
def CAL_CHc_CNT : RegDef := { base := 0xA0028, n1 := 612, s1 := 0x40 }
/-- CAL_CHc_TIME_LO, c = 0 to 611 (R325). -/
def CAL_CHc_TIME_LO : RegDef := { base := 0xA002C, n1 := 612, s1 := 0x40 }
/-- CAL_CHc_TIME_HI, c = 0 to 611 (R325). -/
def CAL_CHc_TIME_HI : RegDef := { base := 0xA0030, n1 := 612, s1 := 0x40 }
/-- CAL_CHc_QUAL, c = 0 to 611 (R325). -/
def CAL_CHc_QUAL : RegDef := { base := 0xA0034, n1 := 612, s1 := 0x40 }
/-- CAL_CHc_RESULT, c = 0 to 611 (R325). -/
def CAL_CHc_RESULT : RegDef := { base := 0xA0038, n1 := 612, s1 := 0x40 }
/-- CAL_CTRL (R326). -/
def CAL_CTRL : RegDef := { base := 0xAA000, rw := 0x1 }
/-- CAL_STAT (R326). -/
def CAL_STAT : RegDef := { base := 0xAA004, w1c := 0x1F, reset := 0xFF0000 }
/-- CAL_SWAP_S (R326). -/
def CAL_SWAP_S : RegDef := { base := 0xAA008 }
/-- CAL_SWAP_B (R326). -/
def CAL_SWAP_B : RegDef := { base := 0xAA00C }
/-- CAL_CHK_OUT (R326). -/
def CAL_CHK_OUT : RegDef := { base := 0xAA010 }
/-- CAL_MATCH (R326). -/
def CAL_MATCH : RegDef := { base := 0xAA014 }
/-- CAL_REF (R326); reset: VB_UV Factory. -/
def CAL_REF : RegDef := { base := 0xAA018 }
/-- CAL_MENDg_STAT, g = 0 to 3 (R326). -/
def CAL_MENDg_STAT : RegDef := { base := 0xAA020, n1 := 4, s1 := 0x4, reset := 0xFFFF0000 }
/-- CAL_PODp_SERIAL_LO, p = 0 to 15 (R326). -/
def CAL_PODp_SERIAL_LO : RegDef := { base := 0xAA100, n1 := 16, s1 := 0x8 }
/-- CAL_PODp_SERIAL_HI, p = 0 to 15 (R326). -/
def CAL_PODp_SERIAL_HI : RegDef := { base := 0xAA104, n1 := 16, s1 := 0x8 }
/-- TIM_STAT (R366). -/
def TIM_STAT : RegDef := { base := 0x40000 }
/-- TIM_EVT (R366). -/
def TIM_EVT : RegDef := { base := 0x40004, w1c := 0x7FF }
/-- TIM_SEL (R366). -/
def TIM_SEL : RegDef := { base := 0x40008, reset := 0xFFFF0002 }
/-- TIM_SERVO_CTRL (R366). -/
def TIM_SERVO_CTRL : RegDef := { base := 0x4000C, rw := 0x3 }
/-- TIM_INC_A_LO (R366). -/
def TIM_INC_A_LO : RegDef := { base := 0x40010, rw := 0xFFFFFFFF }
/-- TIM_INC_A_HI (R366). -/
def TIM_INC_A_HI : RegDef := { base := 0x40014, rw := 0xFF, reset := 0x2 }
/-- TIM_INC_B_LO (R366). -/
def TIM_INC_B_LO : RegDef := { base := 0x40018, rw := 0xFFFFFFFF }
/-- TIM_INC_B_HI (R366). -/
def TIM_INC_B_HI : RegDef := { base := 0x4001C, rw := 0xFF, reset := 0x2 }
/-- TIM_INC_L_LO (R366). -/
def TIM_INC_L_LO : RegDef := { base := 0x40020 }
/-- TIM_INC_L_HI (R366). -/
def TIM_INC_L_HI : RegDef := { base := 0x40024, reset := 0x2 }
/-- TIM_SLEW (R366). -/
def TIM_SLEW : RegDef := { base := 0x40028, reset := 0x64035B }
/-- TIM_OFF_L (R366). -/
def TIM_OFF_L : RegDef := { base := 0x40030 }
/-- TIM_THETA_A (R366). -/
def TIM_THETA_A : RegDef := { base := 0x40034 }
/-- TIM_THETA_B (R366). -/
def TIM_THETA_B : RegDef := { base := 0x40038 }
/-- TIM_ERR (R366). -/
def TIM_ERR : RegDef := { base := 0x4003C, reset := 0xFFFFFFFF }
/-- TIM_ADJ_A (R366). -/
def TIM_ADJ_A : RegDef := { base := 0x40040, wo := 0xFFFFFFFF }
/-- TIM_ADJ_B (R366). -/
def TIM_ADJ_B : RegDef := { base := 0x40044, wo := 0xFFFFFFFF }
/-- TIM_HOST_Q (R366). -/
def TIM_HOST_Q : RegDef := { base := 0x40048, rw := 0xFFFF, reset := 0x6060 }
/-- TIM_NEIGH_E (R366). -/
def TIM_NEIGH_E : RegDef := { base := 0x40050 }
/-- TIM_NEIGH_W (R366). -/
def TIM_NEIGH_W : RegDef := { base := 0x40054 }
/-- TIM_PORTE_DELAY (R366). -/
def TIM_PORTE_DELAY : RegDef := { base := 0x40058 }
/-- TIM_PORTW_DELAY (R366). -/
def TIM_PORTW_DELAY : RegDef := { base := 0x4005C }
/-- TIM_PORTE_ASYM (R366). -/
def TIM_PORTE_ASYM : RegDef := { base := 0x40060, rw := 0xFFFF }
/-- TIM_PORTW_ASYM (R366). -/
def TIM_PORTW_ASYM : RegDef := { base := 0x40064, rw := 0xFFFF }
/-- TIM_STEP (R366). -/
def TIM_STEP : RegDef := { base := 0x40068 }
/-- TIM_STEP_F_LO (R366). -/
def TIM_STEP_F_LO : RegDef := { base := 0x4006C }
/-- TIM_CNT (R366). -/
def TIM_CNT : RegDef := { base := 0x40070 }
/-- TIM_L_S_LO (R367). -/
def TIM_L_S_LO : RegDef := { base := 0x40100 }
/-- TIM_A_S_LO (R367). -/
def TIM_A_S_LO : RegDef := { base := 0x40110 }
/-- TIM_B_S_LO (R367). -/
def TIM_B_S_LO : RegDef := { base := 0x40120 }
/-- TIM_IRQ_CAP_S_LO (R367). -/
def TIM_IRQ_CAP_S_LO : RegDef := { base := 0x40130 }
/-- TIM_TINk_S_LO, k = 0 to 7 (R367). -/
def TIM_TINk_S_LO : RegDef := { base := 0x40200, n1 := 8, s1 := 0x20 }
/-- TIM_L_S_HI (R367). -/
def TIM_L_S_HI : RegDef := { base := 0x40104, reset := 0x80000000 }
/-- TIM_A_S_HI (R367). -/
def TIM_A_S_HI : RegDef := { base := 0x40114, reset := 0x80000000 }
/-- TIM_B_S_HI (R367). -/
def TIM_B_S_HI : RegDef := { base := 0x40124, reset := 0x80000000 }
/-- TIM_IRQ_CAP_S_HI (R367). -/
def TIM_IRQ_CAP_S_HI : RegDef := { base := 0x40134 }
/-- TIM_TINk_S_HI, k = 0 to 7 (R367). -/
def TIM_TINk_S_HI : RegDef := { base := 0x40204, n1 := 8, s1 := 0x20 }
/-- TIM_L_NS (R367). -/
def TIM_L_NS : RegDef := { base := 0x40108 }
/-- TIM_A_NS (R367). -/
def TIM_A_NS : RegDef := { base := 0x40118 }
/-- TIM_B_NS (R367). -/
def TIM_B_NS : RegDef := { base := 0x40128 }
/-- TIM_IRQ_CAP_NS (R367). -/
def TIM_IRQ_CAP_NS : RegDef := { base := 0x40138 }
/-- TIM_TINk_NS, k = 0 to 7 (R367). -/
def TIM_TINk_NS : RegDef := { base := 0x40208, n1 := 8, s1 := 0x20 }
/-- TIM_L_FRAC (R367). -/
def TIM_L_FRAC : RegDef := { base := 0x4010C }
/-- TIM_A_FRAC (R367). -/
def TIM_A_FRAC : RegDef := { base := 0x4011C }
/-- TIM_B_FRAC (R367). -/
def TIM_B_FRAC : RegDef := { base := 0x4012C }
/-- TIM_IRQ_CAP_FRAC (R367). -/
def TIM_IRQ_CAP_FRAC : RegDef := { base := 0x4013C }
/-- TIM_TINk_FRAC, k = 0 to 7 (R367). -/
def TIM_TINk_FRAC : RegDef := { base := 0x4020C, n1 := 8, s1 := 0x20 }
/-- TIM_IRQ_CTRL (R367). -/
def TIM_IRQ_CTRL : RegDef := { base := 0x40140, wo := 0x1 }
/-- TIM_IRQ_STAT (R367). -/
def TIM_IRQ_STAT : RegDef := { base := 0x40144, w1c := 0x2 }
/-- TIM_IRQ_FRAME (R367). -/
def TIM_IRQ_FRAME : RegDef := { base := 0x40148 }
/-- TIM_TINk_STAT, k = 0 to 7 (R367). -/
def TIM_TINk_STAT : RegDef := { base := 0x40210, n1 := 8, s1 := 0x20, w1c := 0x40 }
/-- TIM_TINk_FRAME, k = 0 to 7 (R367). -/
def TIM_TINk_FRAME : RegDef := { base := 0x40214, n1 := 8, s1 := 0x20 }
/-- TIM_TOUTk_STAT, k = 0 to 7 (R367). -/
def TIM_TOUTk_STAT : RegDef := { base := 0x40300, n1 := 8, s1 := 0x10, w1c := 0x2 }
/-- TDC_CFG (R386). -/
def TDC_CFG : RegDef := { base := 0x50000, rw := 0x80, rwl := 0x1B, reset := 0x80 }
/-- TDC_STAT (R386). -/
def TDC_STAT : RegDef := { base := 0x50004 }
/-- TDC_EVT (R386). -/
def TDC_EVT : RegDef := { base := 0x50008, w1c := 0xF }
/-- TDC_REF_PPM (R386). -/
def TDC_REF_PPM : RegDef := { base := 0x5000C }
/-- TDC_PPS_DEV (R386). -/
def TDC_PPS_DEV : RegDef := { base := 0x50010 }
/-- TDC_BASE_CNT (R386). -/
def TDC_BASE_CNT : RegDef := { base := 0x50014 }
/-- TDC_CHk_CFG, k = 0 to 15 (R386). -/
def TDC_CHk_CFG : RegDef := { base := 0x50100, n1 := 16, s1 := 0x40, rwl := 0x1F0000 }
/-- TDC_CHk_STAT, k = 0 to 15 (R386). -/
def TDC_CHk_STAT : RegDef := { base := 0x50104, n1 := 16, s1 := 0x40, w1c := 0xE00 }
/-- TDC_CHk_CNT, k = 0 to 15 (R386). -/
def TDC_CHk_CNT : RegDef := { base := 0x50108, n1 := 16, s1 := 0x40 }
/-- TDC_CHk_EDGES, k = 0 to 15 (R386). -/
def TDC_CHk_EDGES : RegDef := { base := 0x5010C, n1 := 16, s1 := 0x40 }
/-- TDC_CHk_SKEW, k = 0 to 15 (R386); reset: SKEW Factory. -/
def TDC_CHk_SKEW : RegDef := { base := 0x50110, n1 := 16, s1 := 0x40, rw := 0xFFFF }
/-- TDC_CHk_LAST, k = 0 to 15 (R386). -/
def TDC_CHk_LAST : RegDef := { base := 0x50114, n1 := 16, s1 := 0x40 }
/-- TDC_CHk_CTRL, k = 0 to 15 (R386). -/
def TDC_CHk_CTRL : RegDef := { base := 0x50118, n1 := 16, s1 := 0x40, wo := 0x3 }
/-- TDC_CHk_FIFO_Wj, k = 0 to 15, j = 0 to 3 (R386). -/
def TDC_CHk_FIFO_Wj : RegDef := { base := 0x50120, n1 := 16, s1 := 0x40, n2 := 4, s2 := 0x4 }
/-- CAP_STAT (R412). -/
def CAP_STAT : RegDef := { base := 0x100000, w1c := 0x1 }
/-- CAP_MEM (R412); reset: SIZE Part. -/
def CAP_MEM : RegDef := { base := 0x100004 }
/-- CAP_ECC_CNT (R412). -/
def CAP_ECC_CNT : RegDef := { base := 0x100008 }
/-- CAP_ECC_ADDR (R412). -/
def CAP_ECC_ADDR : RegDef := { base := 0x10000C }
/-- CAP_TRGt_STAT, t = 0 to 31 (R412). -/
def CAP_TRGt_STAT : RegDef := { base := 0x100100, n1 := 32, s1 := 0x20, w1c := 0x2 }
/-- CAP_TRGt_CNT, t = 0 to 31 (R412). -/
def CAP_TRGt_CNT : RegDef := { base := 0x100104, n1 := 32, s1 := 0x20 }
/-- CAP_TRGt_LAST_LO, t = 0 to 31 (R412). -/
def CAP_TRGt_LAST_LO : RegDef := { base := 0x100108, n1 := 32, s1 := 0x20 }
/-- CAP_TRGt_LAST_HI, t = 0 to 31 (R412). -/
def CAP_TRGt_LAST_HI : RegDef := { base := 0x10010C, n1 := 32, s1 := 0x20, reset := 0xFF0000 }
/-- CAP_TRGt_LOSS, t = 0 to 31 (R412). -/
def CAP_TRGt_LOSS : RegDef := { base := 0x100110, n1 := 32, s1 := 0x20 }
/-- CAP_Ee_CFG, e = 0 to 15 (R412). -/
def CAP_Ee_CFG : RegDef := { base := 0x101000, n1 := 16, s1 := 0x200 }
/-- CAP_Ee_GEOM, e = 0 to 15 (R412). -/
def CAP_Ee_GEOM : RegDef := { base := 0x101004, n1 := 16, s1 := 0x200 }
/-- CAP_Ee_STAT, e = 0 to 15 (R412). -/
def CAP_Ee_STAT : RegDef := { base := 0x101008, n1 := 16, s1 := 0x200, w1c := 0xF0 }
/-- CAP_Ee_PRE, e = 0 to 15 (R412); reset: PRE PRE of the unit. -/
def CAP_Ee_PRE : RegDef := { base := 0x10100C, n1 := 16, s1 := 0x200, rw := 0xFFFFFFFF }
/-- CAP_Ee_POST, e = 0 to 15 (R412); reset: POST POST of the unit. -/
def CAP_Ee_POST : RegDef := { base := 0x101010, n1 := 16, s1 := 0x200, rw := 0xFFFFFFFF }
/-- CAP_Ee_CTRL, e = 0 to 15 (R412). -/
def CAP_Ee_CTRL : RegDef := { base := 0x101014, n1 := 16, s1 := 0x200, w1s := 0x3 }
/-- CAP_Ee_SEG, e = 0 to 15 (R412). -/
def CAP_Ee_SEG : RegDef := { base := 0x101018, n1 := 16, s1 := 0x200 }
/-- CAP_Ee_WPTR, e = 0 to 15 (R412). -/
def CAP_Ee_WPTR : RegDef := { base := 0x10101C, n1 := 16, s1 := 0x200 }
/-- CAP_Ee_CNT, e = 0 to 15 (R412). -/
def CAP_Ee_CNT : RegDef := { base := 0x101020, n1 := 16, s1 := 0x200 }
/-- CAP_Ee_DSEL, e = 0 to 15 (R412). -/
def CAP_Ee_DSEL : RegDef := { base := 0x101024, n1 := 16, s1 := 0x200, rw := 0xFF }
/-- CAP_Ee_DESCw, e = 0 to 15, w = 0 to 15 (R412). -/
def CAP_Ee_DESCw : RegDef := { base := 0x101040, n1 := 16, s1 := 0x200, n2 := 16, s2 := 0x4 }
/-- LOOP_Sn_CFG, s = 0 to 63 (R438). -/
def LOOP_Sn_CFG : RegDef := { base := 0x120000, n1 := 64, s1 := 0x100 }
/-- LOOP_Sn_KP, s = 0 to 63 (R438). -/
def LOOP_Sn_KP : RegDef := { base := 0x120004, n1 := 64, s1 := 0x100, rw := 0xFFFFFF3F }
/-- LOOP_Sn_KI, s = 0 to 63 (R438). -/
def LOOP_Sn_KI : RegDef := { base := 0x120008, n1 := 64, s1 := 0x100, rw := 0xFFFFFF3F }
/-- LOOP_Sn_KD, s = 0 to 63 (R438). -/
def LOOP_Sn_KD : RegDef := { base := 0x12000C, n1 := 64, s1 := 0x100, rw := 0xFFFFFF3F }
/-- LOOP_Sn_KFF, s = 0 to 63 (R438). -/
def LOOP_Sn_KFF : RegDef := { base := 0x120010, n1 := 64, s1 := 0x100, rw := 0xFFFFFF3F }
/-- LOOP_Sn_LIM_LO, s = 0 to 63 (R438). -/
def LOOP_Sn_LIM_LO : RegDef := { base := 0x120014, n1 := 64, s1 := 0x100 }
/-- LOOP_Sn_LIM_HI, s = 0 to 63 (R438). -/
def LOOP_Sn_LIM_HI : RegDef := { base := 0x120018, n1 := 64, s1 := 0x100 }
/-- LOOP_Sn_RAMP, s = 0 to 63 (R438). -/
def LOOP_Sn_RAMP : RegDef := { base := 0x12001C, n1 := 64, s1 := 0x100 }
/-- LOOP_Sn_FRZ, s = 0 to 63 (R438). -/
def LOOP_Sn_FRZ : RegDef := { base := 0x120020, n1 := 64, s1 := 0x100 }
/-- LOOP_Sn_STAT, s = 0 to 63 (R438). -/
def LOOP_Sn_STAT : RegDef := { base := 0x120024, n1 := 64, s1 := 0x100 }
/-- LOOP_Sn_EVT, s = 0 to 63 (R438). -/
def LOOP_Sn_EVT : RegDef := { base := 0x120028, n1 := 64, s1 := 0x100, w1c := 0xFF }
/-- LOOP_Sn_CMD, s = 0 to 63 (R438). -/
def LOOP_Sn_CMD : RegDef := { base := 0x12002C, n1 := 64, s1 := 0x100, rw := 0xFFFFFF00 }
/-- LOOP_Sn_CMD_FIFO, s = 0 to 63 (R438). -/
def LOOP_Sn_CMD_FIFO : RegDef := { base := 0x120030, n1 := 64, s1 := 0x100, wo := 0xFFFFFF00 }
/-- LOOP_Sn_FIFO, s = 0 to 63 (R438). -/
def LOOP_Sn_FIFO : RegDef := { base := 0x120034, n1 := 64, s1 := 0x100 }
/-- LOOP_Sn_INT_LO, s = 0 to 63 (R438). -/
def LOOP_Sn_INT_LO : RegDef := { base := 0x120038, n1 := 64, s1 := 0x100 }
/-- LOOP_Sn_INT_HI, s = 0 to 63 (R438). -/
def LOOP_Sn_INT_HI : RegDef := { base := 0x12003C, n1 := 64, s1 := 0x100 }
/-- LOOP_Sn_ERR, s = 0 to 63 (R438). -/
def LOOP_Sn_ERR : RegDef := { base := 0x120040, n1 := 64, s1 := 0x100 }
/-- LOOP_Sn_SCHED, s = 0 to 63 (R438). -/
def LOOP_Sn_SCHED : RegDef := { base := 0x120044, n1 := 64, s1 := 0x100 }
/-- LOOP_Sn_OUT, s = 0 to 63 (R438). -/
def LOOP_Sn_OUT : RegDef := { base := 0x120048, n1 := 64, s1 := 0x100 }
/-- LOOP_Sn_FB, s = 0 to 63 (R438). -/
def LOOP_Sn_FB : RegDef := { base := 0x12004C, n1 := 64, s1 := 0x100 }
/-- LOOP_Sn_CNT, s = 0 to 63 (R438). -/
def LOOP_Sn_CNT : RegDef := { base := 0x120050, n1 := 64, s1 := 0x100 }
/-- LOOP_Sn_CNT2, s = 0 to 63 (R438). -/
def LOOP_Sn_CNT2 : RegDef := { base := 0x120054, n1 := 64, s1 := 0x100 }
/-- LOOP_Sn_CTRL, s = 0 to 63 (R438). -/
def LOOP_Sn_CTRL : RegDef := { base := 0x120058, n1 := 64, s1 := 0x100, rw := 0x4, wo := 0x3, reset := 0x4 }
/-- LOOP_Sn_LUTj, s = 0 to 63, j = 0 to 255 (R438). -/
def LOOP_Sn_LUTj : RegDef := { base := 0x130000, n1 := 64, s1 := 0x400, n2 := 256, s2 := 0x4 }
/-- LOOP_ENG_STAT (R438). -/
def LOOP_ENG_STAT : RegDef := { base := 0x128000, w1c := 0x3 }
/-- LOOP_ENG_LS (R438). -/
def LOOP_ENG_LS : RegDef := { base := 0x128004 }
/-- LOOP_ENG_LS_FRAME (R438). -/
def LOOP_ENG_LS_FRAME : RegDef := { base := 0x128008 }
/-- LOOP_ENG_LOAD (R438). -/
def LOOP_ENG_LOAD : RegDef := { base := 0x12800C }
/-- SLU_Oo_CFG, o = 0 to 79 (R462). -/
def SLU_Oo_CFG : RegDef := { base := 0x140000, n1 := 80, s1 := 0x40 }
/-- SLU_Oo_PARK, o = 0 to 79 (R462). -/
def SLU_Oo_PARK : RegDef := { base := 0x140004, n1 := 80, s1 := 0x40 }
/-- SLU_Oo_STAT, o = 0 to 79 (R462). -/
def SLU_Oo_STAT : RegDef := { base := 0x140008, n1 := 80, s1 := 0x40, reset := 0xFFF00000 }
/-- SLU_Oo_EVT, o = 0 to 79 (R462). -/
def SLU_Oo_EVT : RegDef := { base := 0x14000C, n1 := 80, s1 := 0x40, w1c := 0x1F }
/-- SLU_Oo_WIN, o = 0 to 79 (R462). -/
def SLU_Oo_WIN : RegDef := { base := 0x140010, n1 := 80, s1 := 0x40 }
/-- SLU_Oo_APPLIED, o = 0 to 79 (R462). -/
def SLU_Oo_APPLIED : RegDef := { base := 0x140014, n1 := 80, s1 := 0x40 }
/-- SLU_Oo_CNT, o = 0 to 79 (R462). -/
def SLU_Oo_CNT : RegDef := { base := 0x140018, n1 := 80, s1 := 0x40 }
/-- SLU_Oo_CNT2, o = 0 to 79 (R462). -/
def SLU_Oo_CNT2 : RegDef := { base := 0x14001C, n1 := 80, s1 := 0x40 }
/-- SLU_Oo_MEAS, o = 0 to 79 (R462). -/
def SLU_Oo_MEAS : RegDef := { base := 0x140020, n1 := 80, s1 := 0x40 }
/-- SLU_Oo_CTRL, o = 0 to 79 (R462). -/
def SLU_Oo_CTRL : RegDef := { base := 0x140024, n1 := 80, s1 := 0x40, wo := 0x1 }
/-- SLU_HEALTH (R462). -/
def SLU_HEALTH : RegDef := { base := 0x142000 }
/-- SLU_WD (R462). -/
def SLU_WD : RegDef := { base := 0x142004 }
/-- SLU_EVT (R462). -/
def SLU_EVT : RegDef := { base := 0x142008, w1c := 0xF }
/-- SLU_CLAIM_TX (R462). -/
def SLU_CLAIM_TX : RegDef := { base := 0x14200C }
/-- LANE_Ln_STAT, n = 0 to 7 (R493). -/
def LANE_Ln_STAT : RegDef := { base := 0x160000, n1 := 8, s1 := 0x100, reset := 0x800000 }
/-- LANE_Ln_EVT, n = 0 to 7 (R494). -/
def LANE_Ln_EVT : RegDef := { base := 0x160004, n1 := 8, s1 := 0x100, w1c := 0x1FF }
/-- LANE_Ln_ERR, n = 0 to 7 (R494). -/
def LANE_Ln_ERR : RegDef := { base := 0x160008, n1 := 8, s1 := 0x100 }
/-- LANE_Ln_WIN, n = 0 to 7 (R494). -/
def LANE_Ln_WIN : RegDef := { base := 0x16000C, n1 := 8, s1 := 0x100 }
/-- LANE_Ln_EQ, n = 0 to 7 (R494). -/
def LANE_Ln_EQ : RegDef := { base := 0x160010, n1 := 8, s1 := 0x100, reset := 0x3F0000 }
/-- LANE_Ln_DFE, n = 0 to 7 (R494). -/
def LANE_Ln_DFE : RegDef := { base := 0x160014, n1 := 8, s1 := 0x100 }
/-- LANE_Ln_ADAPT, n = 0 to 7 (R494). -/
def LANE_Ln_ADAPT : RegDef := { base := 0x160018, n1 := 8, s1 := 0x100 }
/-- LANE_Ln_TEST, n = 0 to 7 (R494). -/
def LANE_Ln_TEST : RegDef := { base := 0x16001C, n1 := 8, s1 := 0x100 }
/-- LANE_Ln_PRBS_ERR, n = 0 to 7 (R494). -/
def LANE_Ln_PRBS_ERR : RegDef := { base := 0x160020, n1 := 8, s1 := 0x100 }
/-- LANE_Ln_PRBS_BITS, n = 0 to 7 (R494). -/
def LANE_Ln_PRBS_BITS : RegDef := { base := 0x160024, n1 := 8, s1 := 0x100 }
/-- LANE_Ln_CTRL, n = 0 to 7 (R494). -/
def LANE_Ln_CTRL : RegDef := { base := 0x160028, n1 := 8, s1 := 0x100, wo := 0x3 }
/-- LANE_Ln_RETR, n = 0 to 7 (R494). -/
def LANE_Ln_RETR : RegDef := { base := 0x16002C, n1 := 8, s1 := 0x100 }
/-- LANE_Pp_STAT, p = 0 to 1 (R494). -/
def LANE_Pp_STAT : RegDef := { base := 0x161000, n1 := 2, s1 := 0x100 }
/-- LANE_Pp_CNT, p = 0 to 1 (R494). -/
def LANE_Pp_CNT : RegDef := { base := 0x161004, n1 := 2, s1 := 0x100 }
/-- LANE_POL (R494). -/
def LANE_POL : RegDef := { base := 0x162000, reset := 0x84D30 }
/-- LANE_LFp_CNT, p = 0 to 1 (R494). -/
def LANE_LFp_CNT : RegDef := { base := 0x163000, n1 := 2, s1 := 0x10 }
/-- LANE_LFp_STAT, p = 0 to 1 (R494). -/
def LANE_LFp_STAT : RegDef := { base := 0x163004, n1 := 2, s1 := 0x10 }
/-- RING_STAT (R535). -/
def RING_STAT : RegDef := { base := 0x180000, reset := 0xFF000000 }
/-- RING_EVT (R535). -/
def RING_EVT : RegDef := { base := 0x180004, w1c := 0x3FF }
/-- RING_CTRL (R535). -/
def RING_CTRL : RegDef := { base := 0x180008, wo := 0x1 }
/-- RING_POL (R535). -/
def RING_POL : RegDef := { base := 0x18000C, reset := 0x190FA0 }
/-- RING_MGMT (R535). -/
def RING_MGMT : RegDef := { base := 0x180010 }
/-- RING_MISC (R535). -/
def RING_MISC : RegDef := { base := 0x180014 }
/-- RING_Pp_STAT, p = 0 to 1 (R535). -/
def RING_Pp_STAT : RegDef := { base := 0x180100, n1 := 2, s1 := 0x40, w1c := 0x60000000 }
/-- RING_Pp_LSEQ, p = 0 to 1 (R535). -/
def RING_Pp_LSEQ : RegDef := { base := 0x180104, n1 := 2, s1 := 0x40 }
/-- RING_Pp_TX, p = 0 to 1 (R535). -/
def RING_Pp_TX : RegDef := { base := 0x180108, n1 := 2, s1 := 0x40 }
/-- RING_Pp_RX, p = 0 to 1 (R535). -/
def RING_Pp_RX : RegDef := { base := 0x18010C, n1 := 2, s1 := 0x40 }
/-- RING_Pp_ERR, p = 0 to 1 (R535). -/
def RING_Pp_ERR : RegDef := { base := 0x180110, n1 := 2, s1 := 0x40 }
/-- RING_Pp_RETX, p = 0 to 1 (R535). -/
def RING_Pp_RETX : RegDef := { base := 0x180114, n1 := 2, s1 := 0x40 }
/-- RING_Pp_OVR, p = 0 to 1 (R535). -/
def RING_Pp_OVR : RegDef := { base := 0x180118, n1 := 2, s1 := 0x40 }
/-- RING_Pp_CAP, p = 0 to 1 (R535). -/
def RING_Pp_CAP : RegDef := { base := 0x18011C, n1 := 2, s1 := 0x40 }
/-- RING_Pp_RET, p = 0 to 1 (R535). -/
def RING_Pp_RET : RegDef := { base := 0x180120, n1 := 2, s1 := 0x40 }
/-- RING_STRs_SEQ, s = 0 to 63 (R535). -/
def RING_STRs_SEQ : RegDef := { base := 0x180400, n1 := 64, s1 := 0x8 }
/-- RING_STRs_CNT, s = 0 to 63 (R535). -/
def RING_STRs_CNT : RegDef := { base := 0x180404, n1 := 64, s1 := 0x8 }
/-- RING_Hh, h = 0 to 127 (R535). -/
def RING_Hh : RegDef := { base := 0x180800, n1 := 128, s1 := 0x4, reset := 0xFFFF }
/-- RING_HSEL (R535). -/
def RING_HSEL : RegDef := { base := 0x180A00, rw := 0x7F }
/-- RING_HWk, k = 0 to 32 (R535). -/
def RING_HWk : RegDef := { base := 0x180A80, n1 := 33, s1 := 0x4 }
/-- RING_DISCi_Wj, i = 0 to 127, j = 0 to 3 (R535). -/
def RING_DISCi_Wj : RegDef := { base := 0x181000, n1 := 128, s1 := 0x10, n2 := 4, s2 := 0x4 }
/-- RING_CFk_ID, k = 0 to 4095 (R535). -/
def RING_CFk_ID : RegDef := { base := 0x190000, n1 := 4096, s1 := 0x10 }
/-- RING_CFk_HIGH, k = 0 to 4095 (R535). -/
def RING_CFk_HIGH : RegDef := { base := 0x190004, n1 := 4096, s1 := 0x10 }
/-- RING_CFk_LOSS, k = 0 to 4095 (R535). -/
def RING_CFk_LOSS : RegDef := { base := 0x190008, n1 := 4096, s1 := 0x10 }
/-- RING_CFk_DUP, k = 0 to 4095 (R535). -/
def RING_CFk_DUP : RegDef := { base := 0x19000C, n1 := 4096, s1 := 0x10 }
/-- RING_MRSP_VALIDj, j = 0 to 3 (R535). -/
def RING_MRSP_VALIDj : RegDef := { base := 0x1A0000, n1 := 4, s1 := 0x4, w1c := 0xFFFFFFFF }
/-- RING_MRSPh_Wk, h = 0 to 127, k = 0 to 63 (R535). -/
def RING_MRSPh_Wk : RegDef := { base := 0x1A1000, n1 := 128, s1 := 0x100, n2 := 64, s2 := 0x4 }
/-- FLD_Pp_STAT, p = 0 to 15 (R565). -/
def FLD_Pp_STAT : RegDef := { base := 0x1C0000, n1 := 16, s1 := 0x100 }
/-- FLD_Pp_EVT, p = 0 to 15 (R565). -/
def FLD_Pp_EVT : RegDef := { base := 0x1C0004, n1 := 16, s1 := 0x100, w1c := 0xFF }
/-- FLD_Pp_SERIAL_LO, p = 0 to 15 (R565). -/
def FLD_Pp_SERIAL_LO : RegDef := { base := 0x1C0008, n1 := 16, s1 := 0x100 }
/-- FLD_Pp_SERIAL_HI, p = 0 to 15 (R565). -/
def FLD_Pp_SERIAL_HI : RegDef := { base := 0x1C000C, n1 := 16, s1 := 0x100 }
/-- FLD_Pp_TYPE, p = 0 to 15 (R565). -/
def FLD_Pp_TYPE : RegDef := { base := 0x1C0010, n1 := 16, s1 := 0x100 }
/-- FLD_Pp_TDOWN, p = 0 to 15 (R565). -/
def FLD_Pp_TDOWN : RegDef := { base := 0x1C0014, n1 := 16, s1 := 0x100 }
/-- FLD_Pp_CABLE, p = 0 to 15 (R565). -/
def FLD_Pp_CABLE : RegDef := { base := 0x1C0018, n1 := 16, s1 := 0x100 }
/-- FLD_Pp_ISNS, p = 0 to 15 (R565). -/
def FLD_Pp_ISNS : RegDef := { base := 0x1C001C, n1 := 16, s1 := 0x100 }
/-- FLD_Pp_CNT, p = 0 to 15 (R565). -/
def FLD_Pp_CNT : RegDef := { base := 0x1C0020, n1 := 16, s1 := 0x100 }
/-- FLD_Pp_CNT2, p = 0 to 15 (R565). -/
def FLD_Pp_CNT2 : RegDef := { base := 0x1C0024, n1 := 16, s1 := 0x100 }
/-- FLD_Pp_BUDGET, p = 0 to 15 (R565). -/
def FLD_Pp_BUDGET : RegDef := { base := 0x1C0028, n1 := 16, s1 := 0x100 }
/-- FLD_Pp_ECHO, p = 0 to 15 (R565). -/
def FLD_Pp_ECHO : RegDef := { base := 0x1C002C, n1 := 16, s1 := 0x100 }
/-- FLD_Pp_CTRL, p = 0 to 15 (R565). -/
def FLD_Pp_CTRL : RegDef := { base := 0x1C0030, n1 := 16, s1 := 0x100, wo := 0x1 }
/-- FLD_Pp_DESCk, p = 0 to 15, k = 0 to 63 (R565). -/
def FLD_Pp_DESCk : RegDef := { base := 0x1C1000, n1 := 16, s1 := 0x100, n2 := 64, s2 := 0x4 }
/-- FLD_STAT (R565). -/
def FLD_STAT : RegDef := { base := 0x1C2000 }
/-- QUE_Qq_CFG, q = 0 to 63 (R596). -/
def QUE_Qq_CFG : RegDef := { base := 0x200000, n1 := 64, s1 := 0x40 }
/-- QUE_Qq_WPTR, q = 0 to 63 (R596). -/
def QUE_Qq_WPTR : RegDef := { base := 0x200004, n1 := 64, s1 := 0x40 }
/-- QUE_Qq_RPTR, q = 0 to 63 (R596). -/
def QUE_Qq_RPTR : RegDef := { base := 0x200008, n1 := 64, s1 := 0x40 }
/-- QUE_Qq_LEVEL, q = 0 to 63 (R596). -/
def QUE_Qq_LEVEL : RegDef := { base := 0x20000C, n1 := 64, s1 := 0x40 }
/-- QUE_Qq_WM_HI, q = 0 to 63 (R596); reset: WM From the unit. -/
def QUE_Qq_WM_HI : RegDef := { base := 0x200010, n1 := 64, s1 := 0x40, rw := 0x7FFFF }
/-- QUE_Qq_WM_LO, q = 0 to 63 (R596); reset: WM From the unit. -/
def QUE_Qq_WM_LO : RegDef := { base := 0x200014, n1 := 64, s1 := 0x40, rw := 0x7FFFF }
/-- QUE_Qq_WMSTAT, q = 0 to 63 (R596). -/
def QUE_Qq_WMSTAT : RegDef := { base := 0x200018, n1 := 64, s1 := 0x40, w1c := 0x2 }
/-- QUE_Qq_STAT, q = 0 to 63 (R596). -/
def QUE_Qq_STAT : RegDef := { base := 0x20001C, n1 := 64, s1 := 0x40, w1c := 0xE }
/-- QUE_Qq_CNT, q = 0 to 63 (R596). -/
def QUE_Qq_CNT : RegDef := { base := 0x200020, n1 := 64, s1 := 0x40 }
/-- QUE_Qq_CNT2, q = 0 to 63 (R596). -/
def QUE_Qq_CNT2 : RegDef := { base := 0x200024, n1 := 64, s1 := 0x40 }
/-- QUE_Qq_STALE, q = 0 to 63 (R596); reset: STALE_US From the unit. -/
def QUE_Qq_STALE : RegDef := { base := 0x200028, n1 := 64, s1 := 0x40, rw := 0xFFFFF }
/-- QUE_Qq_CTRL, q = 0 to 63 (R596). -/
def QUE_Qq_CTRL : RegDef := { base := 0x20002C, n1 := 64, s1 := 0x40, wo := 0x3 }
/-- QUE_Qq_POP_LO, q = 0 to 63 (R596). -/
def QUE_Qq_POP_LO : RegDef := { base := 0x200030, n1 := 64, s1 := 0x40 }
/-- QUE_Qq_POP_HI, q = 0 to 63 (R596). -/
def QUE_Qq_POP_HI : RegDef := { base := 0x200034, n1 := 64, s1 := 0x40 }
/-- QUE_Qq_POP_STAT, q = 0 to 63 (R596). -/
def QUE_Qq_POP_STAT : RegDef := { base := 0x200038, n1 := 64, s1 := 0x40 }
/-- QUE_SRAM (R596). -/
def QUE_SRAM : RegDef := { base := 0x202000 }
/-- QUE_STAT (R596). -/
def QUE_STAT : RegDef := { base := 0x202004, w1c := 0x1, reset := 0x1F40 }
/-- DMA_Rr_BASE_LO, r = 0 to 31 (R597). -/
def DMA_Rr_BASE_LO : RegDef := { base := 0x240000, n1 := 32, s1 := 0x40, rw := 0xFFFFFFE0 }
/-- DMA_Rr_BASE_HI, r = 0 to 31 (R597). -/
def DMA_Rr_BASE_HI : RegDef := { base := 0x240004, n1 := 32, s1 := 0x40, rw := 0xFFFFFFFF }
/-- DMA_Rr_CFG, r = 0 to 31 (R597). -/
def DMA_Rr_CFG : RegDef := { base := 0x240008, n1 := 32, s1 := 0x40, rw := 0x8F03003F, reset := 0x3000000 }
/-- DMA_Rr_TAIL, r = 0 to 31 (R597). -/
def DMA_Rr_TAIL : RegDef := { base := 0x24000C, n1 := 32, s1 := 0x40, rw := 0xFFFF }
/-- DMA_Rr_HEAD, r = 0 to 31 (R597). -/
def DMA_Rr_HEAD : RegDef := { base := 0x240010, n1 := 32, s1 := 0x40 }
/-- DMA_Rr_STAT, r = 0 to 31 (R597). -/
def DMA_Rr_STAT : RegDef := { base := 0x240014, n1 := 32, s1 := 0x40, w1c := 0x38 }
/-- DMA_Rr_CNT, r = 0 to 31 (R597). -/
def DMA_Rr_CNT : RegDef := { base := 0x240018, n1 := 32, s1 := 0x40 }
/-- DMA_Rr_BYTES, r = 0 to 31 (R597). -/
def DMA_Rr_BYTES : RegDef := { base := 0x24001C, n1 := 32, s1 := 0x40 }
/-- DMA_PCIE_STAT (R597). -/
def DMA_PCIE_STAT : RegDef := { base := 0x244000 }
/-- DMA_PCIE_EVT (R597). -/
def DMA_PCIE_EVT : RegDef := { base := 0x244004, w1c := 0xF }
/-- DMA_NSRCi, i = 0 to 127 (R597). -/
def DMA_NSRCi : RegDef := { base := 0x245000, n1 := 128, s1 := 0x4, rw := 0x73F }
/-- DMA_NPENDj, j = 0 to 3 (R597). -/
def DMA_NPENDj : RegDef := { base := 0x245400, n1 := 4, s1 := 0x4, w1c := 0xFFFFFFFF }
/-- DMA_RNTF_VALIDj, j = 0 to 3 (R597). -/
def DMA_RNTF_VALIDj : RegDef := { base := 0x246000, n1 := 4, s1 := 0x4, w1c := 0xFFFFFFFF }
/-- DMA_RNTFh_Wk, h = 0 to 127, k = 0 to 3 (R597). -/
def DMA_RNTFh_Wk : RegDef := { base := 0x246100, n1 := 128, s1 := 0x10, n2 := 4, s2 := 0x4 }
/-- WRG_Cj_CFG, j = 0 to 15 (R618). -/
def WRG_Cj_CFG : RegDef := { base := 0x260000, n1 := 16, s1 := 0x40 }
/-- WRG_Cj_STAT, j = 0 to 15 (R618). -/
def WRG_Cj_STAT : RegDef := { base := 0x260004, n1 := 16, s1 := 0x40 }
/-- WRG_Cj_EVT, j = 0 to 15 (R618). -/
def WRG_Cj_EVT : RegDef := { base := 0x260008, n1 := 16, s1 := 0x40, w1c := 0x3 }
/-- WRG_Cj_LIMIT, j = 0 to 15 (R618). -/
def WRG_Cj_LIMIT : RegDef := { base := 0x26000C, n1 := 16, s1 := 0x40, rw := 0x7FFFFFF, reset := 0x400000 }
/-- WRG_Cj_CLOSE_US, j = 0 to 15 (R618). -/
def WRG_Cj_CLOSE_US : RegDef := { base := 0x260010, n1 := 16, s1 := 0x40, rw := 0xFFFFF, reset := 0x186A0 }
/-- WRG_Cj_MAXBUF, j = 0 to 15 (R618). -/
def WRG_Cj_MAXBUF : RegDef := { base := 0x260014, n1 := 16, s1 := 0x40, rw := 0x1F, reset := 0x10 }
/-- WRG_Cj_IN, j = 0 to 15 (R618). -/
def WRG_Cj_IN : RegDef := { base := 0x260018, n1 := 16, s1 := 0x40 }
/-- WRG_Cj_OUT, j = 0 to 15 (R618). -/
def WRG_Cj_OUT : RegDef := { base := 0x26001C, n1 := 16, s1 := 0x40 }
/-- WRG_Cj_CHECK, j = 0 to 15 (R618). -/
def WRG_Cj_CHECK : RegDef := { base := 0x260020, n1 := 16, s1 := 0x40 }
/-- WRG_Cj_CNT, j = 0 to 15 (R618). -/
def WRG_Cj_CNT : RegDef := { base := 0x260024, n1 := 16, s1 := 0x40 }
/-- WRG_Cj_LOST, j = 0 to 15 (R618). -/
def WRG_Cj_LOST : RegDef := { base := 0x260028, n1 := 16, s1 := 0x40 }
/-- WRG_Cj_CTRL, j = 0 to 15 (R618). -/
def WRG_Cj_CTRL : RegDef := { base := 0x26002C, n1 := 16, s1 := 0x40, wo := 0x7 }
/-- WRG_Cj_END_LO, j = 0 to 15 (R618). -/
def WRG_Cj_END_LO : RegDef := { base := 0x260030, n1 := 16, s1 := 0x40 }
/-- WRG_STAT (R618). -/
def WRG_STAT : RegDef := { base := 0x261000, w1c := 0x20000 }
/-- SLT_STAT (R639); reset: LIFE_FULL Stored; FULL Stored. -/
def SLT_STAT : RegDef := { base := 0x280000 }
/-- SLT_EVT (R639). -/
def SLT_EVT : RegDef := { base := 0x280004, w1c := 0xF }
/-- SLT_SVC_HEAD (R639); reset: HEAD Stored. -/
def SLT_SVC_HEAD : RegDef := { base := 0x280008 }
/-- SLT_LIFE_HEAD (R639); reset: HEAD Stored. -/
def SLT_LIFE_HEAD : RegDef := { base := 0x28000C }
/-- SLT_SEQ (R639); reset: NEXT Stored. -/
def SLT_SEQ : RegDef := { base := 0x280010 }
/-- SLT_OPT_LO (R639); reset: OPT_LO Stored. -/
def SLT_OPT_LO : RegDef := { base := 0x280014 }
/-- SLT_OPT_HI (R639); reset: OPT_HI Stored. -/
def SLT_OPT_HI : RegDef := { base := 0x280018 }
/-- SLT_PCC (R639); reset: PCC Stored. -/
def SLT_PCC : RegDef := { base := 0x28001C }
/-- SLT_FIFO_MAX (R639). -/
def SLT_FIFO_MAX : RegDef := { base := 0x280020 }
/-- SLT_SUPPc, c = 0 to 15 (R639). -/
def SLT_SUPPc : RegDef := { base := 0x280040, n1 := 16, s1 := 0x4 }
/-- SLT_DROP (R639); reset: DROP Stored. -/
def SLT_DROP : RegDef := { base := 0x280080 }
/-- SLT_ECC (R639). -/
def SLT_ECC : RegDef := { base := 0x280084 }
/-- SLT_CTRL (R639). -/
def SLT_CTRL : RegDef := { base := 0x280088, wo := 0x1 }
/-- SLT_CURSOR (R639). -/
def SLT_CURSOR : RegDef := { base := 0x280100, rw := 0x8001FFFF, reset := 0x80000000 }
/-- SLT_WIN_STAT (R639). -/
def SLT_WIN_STAT : RegDef := { base := 0x280104 }
/-- SLT_WINk, k = 0 to 15 (R639). -/
def SLT_WINk : RegDef := { base := 0x280140, n1 := 16, s1 := 0x4 }
/-- SUP_SD_STAT (R656). -/
def SUP_SD_STAT : RegDef := { base := 0x30000 }
/-- SUP_SD_EVT (R656). -/
def SUP_SD_EVT : RegDef := { base := 0x30004, w1c := 0x3F }
/-- SUP_SD_CNT (R656). -/
def SUP_SD_CNT : RegDef := { base := 0x30008 }
/-- SUP_QUAR (R656). -/
def SUP_QUAR : RegDef := { base := 0x3000C }
/-- SUP_CDIGk, k = 0 to 7 (R656). -/
def SUP_CDIGk : RegDef := { base := 0x30010, n1 := 8, s1 := 0x4 }
/-- SUP_CDIG_F_LO (R656). -/
def SUP_CDIG_F_LO : RegDef := { base := 0x30030 }
/-- SUP_COMPAT (R656). -/
def SUP_COMPAT : RegDef := { base := 0x30034 }
/-- SUP_PEER_Qj, j = 0 to 3 (R656). -/
def SUP_PEER_Qj : RegDef := { base := 0x30040, n1 := 4, s1 := 0x4 }
/-- SUP_EVT (R656). -/
def SUP_EVT : RegDef := { base := 0x30050, w1c := 0x1F }
/-- SUP_QCNT (R656). -/
def SUP_QCNT : RegDef := { base := 0x30054 }
/-- SUP_CTRL (R656). -/
def SUP_CTRL : RegDef := { base := 0x30058, wo := 0x1 }
/-- PMU_STAT (R680); reset: MODE Strap; RST_CAUSE Cause. -/
def PMU_STAT : RegDef := { base := 0x10000, reset := 0x3 }
/-- PMU_PD_STAT (R680). -/
def PMU_PD_STAT : RegDef := { base := 0x10004, reset := 0x1 }
/-- PMU_RAIL_STAT (R680). -/
def PMU_RAIL_STAT : RegDef := { base := 0x10008 }
/-- PMU_RAIL_EVT (R680). -/
def PMU_RAIL_EVT : RegDef := { base := 0x1000C, w1c := 0x3FFF }
/-- PMU_CLK_STAT (R680). -/
def PMU_CLK_STAT : RegDef := { base := 0x10010, reset := 0x7 }
/-- PMU_FW (R680); reset: RUN_SVN Slot; MIN_SVN Stored; B_VALID Stored; A_VALID Stored; RUN_SLOT Slot. -/
def PMU_FW : RegDef := { base := 0x10014 }
/-- PMU_FW_VER_A (R680); reset: VER Stored. -/
def PMU_FW_VER_A : RegDef := { base := 0x10018 }
/-- PMU_FW_VER_B (R680); reset: VER Stored. -/
def PMU_FW_VER_B : RegDef := { base := 0x1001C }
/-- PMU_FWU_CTRL (R680). -/
def PMU_FWU_CTRL : RegDef := { base := 0x10020, rw := 0x7FFFFF, wo := 0x80000000 }
/-- PMU_FWU_STAT (R680). -/
def PMU_FWU_STAT : RegDef := { base := 0x10024, w1c := 0x20 }
/-- PMU_BOOT_CNT (R681); reset: COUNT Stored. -/
def PMU_BOOT_CNT : RegDef := { base := 0x10028 }
/-- PMU_SRV (R681). -/
def PMU_SRV : RegDef := { base := 0x1002C, reset := 0xFF000000 }
/-- PMU_SRV_BYTES (R681). -/
def PMU_SRV_BYTES : RegDef := { base := 0x10030 }
/-- PMU_QSPI_CTRL (R681). -/
def PMU_QSPI_CTRL : RegDef := { base := 0x10040, rw := 0x7FFFF0FF, wo := 0x80000000 }
/-- PMU_QSPI_ADDR (R681). -/
def PMU_QSPI_ADDR : RegDef := { base := 0x10044, rw := 0xFFFFFFFF }
/-- PMU_QSPI_STAT (R681). -/
def PMU_QSPI_STAT : RegDef := { base := 0x10048, w1c := 0x6 }
/-- PMU_QSPI_INFO (R681). -/
def PMU_QSPI_INFO : RegDef := { base := 0x1004C }
/-- PMU_QSPI_DATAk, k = 0 to 63 (R681). -/
def PMU_QSPI_DATAk : RegDef := { base := 0x10100, n1 := 64, s1 := 0x4, rw := 0xFFFFFFFF }
/-- PMU_APAT_Wk, k = 0 to 4194303 (R681). -/
def PMU_APAT_Wk : RegDef := { base := 0x1000000, n1 := 4194304, s1 := 0x4 }

/-- The register families of the GLB block. -/
def blockGlb : List RegDef :=
  [GLB_ID, GLB_SERIAL_LO, GLB_SERIAL_HI, GLB_FW_VER, GLB_STATE, GLB_STATE_CHG,
   GLB_DEGRADED, GLB_DEGRADED_STICKY, GLB_SAFE_CAUSE, GLB_ACC_STAT, GLB_FRAME_LO, GLB_FRAME_HI,
   GLB_SEQ_STAT, GLB_OVR_FRAME_LO, GLB_CMD_CNT, GLB_DUP_EVICT, GLB_MBX_CTRL, GLB_MBX_STAT,
   GLB_CMD_BUFk, GLB_RSP_BUFk]
/-- The register families of the PMU block. -/
def blockPmu : List RegDef :=
  [PMU_STAT, PMU_PD_STAT, PMU_RAIL_STAT, PMU_RAIL_EVT, PMU_CLK_STAT, PMU_FW,
   PMU_FW_VER_A, PMU_FW_VER_B, PMU_FWU_CTRL, PMU_FWU_STAT, PMU_BOOT_CNT, PMU_SRV,
   PMU_SRV_BYTES, PMU_QSPI_CTRL, PMU_QSPI_ADDR, PMU_QSPI_STAT, PMU_QSPI_INFO, PMU_QSPI_DATAk,
   PMU_APAT_Wk]
/-- The register families of the PAT block. -/
def blockPat : List RegDef :=
  [PAT_STAT, PAT_REJ_DETAIL, PAT_REJ_NEED, PAT_REJ_ALLOW, PAT_ACT_DIGESTk, PAT_STBY_DIGESTk,
   PAT_ACT_SERIAL, PAT_STBY_SERIAL, PAT_COMMIT_FRAME_LO, PAT_COMMIT_FRAME_HI, PAT_WADDR, PAT_WDATA,
   PAT_WLEN, PAT_STAT_UNKNOWN, PAT_SIGN_CFG, PAT_MIN_SERIAL, PAT_KEY_STAT, PAT_BUDGET_Wr,
   PAT_BUDGET_Cr, PAT_CHECK_TIME]
/-- The register families of the SUP block. -/
def blockSup : List RegDef :=
  [SUP_SD_STAT, SUP_SD_EVT, SUP_SD_CNT, SUP_QUAR, SUP_CDIGk, SUP_CDIG_F_LO,
   SUP_COMPAT, SUP_PEER_Qj, SUP_EVT, SUP_QCNT, SUP_CTRL]
/-- The register families of the TIM block. -/
def blockTim : List RegDef :=
  [TIM_STAT, TIM_EVT, TIM_SEL, TIM_SERVO_CTRL, TIM_INC_A_LO, TIM_INC_A_HI,
   TIM_INC_B_LO, TIM_INC_B_HI, TIM_INC_L_LO, TIM_INC_L_HI, TIM_SLEW, TIM_OFF_L,
   TIM_THETA_A, TIM_THETA_B, TIM_ERR, TIM_ADJ_A, TIM_ADJ_B, TIM_HOST_Q,
   TIM_NEIGH_E, TIM_NEIGH_W, TIM_PORTE_DELAY, TIM_PORTW_DELAY, TIM_PORTE_ASYM, TIM_PORTW_ASYM,
   TIM_STEP, TIM_STEP_F_LO, TIM_CNT, TIM_L_S_LO, TIM_A_S_LO, TIM_B_S_LO,
   TIM_IRQ_CAP_S_LO, TIM_TINk_S_LO, TIM_L_S_HI, TIM_A_S_HI, TIM_B_S_HI, TIM_IRQ_CAP_S_HI,
   TIM_TINk_S_HI, TIM_L_NS, TIM_A_NS, TIM_B_NS, TIM_IRQ_CAP_NS, TIM_TINk_NS,
   TIM_L_FRAC, TIM_A_FRAC, TIM_B_FRAC, TIM_IRQ_CAP_FRAC, TIM_TINk_FRAC, TIM_IRQ_CTRL,
   TIM_IRQ_STAT, TIM_IRQ_FRAME, TIM_TINk_STAT, TIM_TINk_FRAME, TIM_TOUTk_STAT]
/-- The register families of the TDC block. -/
def blockTdc : List RegDef :=
  [TDC_CFG, TDC_STAT, TDC_EVT, TDC_REF_PPM, TDC_PPS_DEV, TDC_BASE_CNT,
   TDC_CHk_CFG, TDC_CHk_STAT, TDC_CHk_CNT, TDC_CHk_EDGES, TDC_CHk_SKEW, TDC_CHk_LAST,
   TDC_CHk_CTRL, TDC_CHk_FIFO_Wj]
/-- The register families of the SAR block. -/
def blockSar : List RegDef :=
  [SAR_STAT, SAR_SCAN, SAR_SCAN_TIME, SAR_INJ_CNT, SAR_EXCSEL, SAR_RESm,
   SAR_RESm_FRAME, SAR_INJk, SAR_INJk_FRAME, SAR_GAINm, SAR_OFFm, SAR_SCAL_CTRL,
   SAR_SCAL_T0, SAR_SCAL_T1, SAR_SCAL_N0, SAR_SCAL_N1, SAR_SCAL_STAT, SAR_MCLK_STAT,
   SAR_MODn_STAT, SAR_MOD_CTRL]
/-- The register families of the AFE block. -/
def blockAfe : List RegDef :=
  [AFE_CHn_CFG, AFE_CHn_EXC, AFE_CHn_STAT, AFE_CHn_EVT, AFE_CHn_RCNT, AFE_CHn_DWELL,
   AFE_CHn_EXC_I, AFE_CHn_LEAD, AFE_CHn_WB_LO, AFE_CHn_WB_HI, AFE_CHn_CTRL, AFE_GRPg_STAT,
   AFE_GRPg_EXC_SUM, AFE_GLB_CFG, AFE_GLB_VEXC, AFE_GLB_STAT]
/-- The register families of the CAL block. -/
def blockCal : List RegDef :=
  [CAL_CHc_GRr, CAL_CHc_ARr, CAL_CHc_DFE, CAL_CHc_VALID, CAL_CHc_CNT, CAL_CHc_TIME_LO,
   CAL_CHc_TIME_HI, CAL_CHc_QUAL, CAL_CHc_RESULT, CAL_CTRL, CAL_STAT, CAL_SWAP_S,
   CAL_SWAP_B, CAL_CHK_OUT, CAL_MATCH, CAL_REF, CAL_MENDg_STAT, CAL_PODp_SERIAL_LO,
   CAL_PODp_SERIAL_HI]
/-- The register families of the FLT block. -/
def blockFlt : List RegDef :=
  [FLT_CHc_CFG, FLT_CHc_SDELAY, FLT_CHc_EC, FLT_CHc_TAU, FLT_CHc_TAU_TGT, FLT_CHc_STAT,
   FLT_CHc_EVT, FLT_CHc_CNT, FLT_CHc_RST_LO, FLT_CHc_RST_HI, FLT_CHc_OUT, FLT_CHc_CTRL,
   FLT_CHc_LIN_OUT, FLT_CHc_LIN_STAT, FLT_CHc_LIN_TEMP, FLT_CHc_THRd, FLT_GLB_TAL, FLT_GLB_COEF,
   FLT_GLB_LOAD, FLT_GLB_STAT]
/-- The register families of the CAP block. -/
def blockCap : List RegDef :=
  [CAP_STAT, CAP_MEM, CAP_ECC_CNT, CAP_ECC_ADDR, CAP_TRGt_STAT, CAP_TRGt_CNT,
   CAP_TRGt_LAST_LO, CAP_TRGt_LAST_HI, CAP_TRGt_LOSS, CAP_Ee_CFG, CAP_Ee_GEOM, CAP_Ee_STAT,
   CAP_Ee_PRE, CAP_Ee_POST, CAP_Ee_CTRL, CAP_Ee_SEG, CAP_Ee_WPTR, CAP_Ee_CNT,
   CAP_Ee_DSEL, CAP_Ee_DESCw]
/-- The register families of the LOOP block. -/
def blockLoop : List RegDef :=
  [LOOP_Sn_CFG, LOOP_Sn_KP, LOOP_Sn_KI, LOOP_Sn_KD, LOOP_Sn_KFF, LOOP_Sn_LIM_LO,
   LOOP_Sn_LIM_HI, LOOP_Sn_RAMP, LOOP_Sn_FRZ, LOOP_Sn_STAT, LOOP_Sn_EVT, LOOP_Sn_CMD,
   LOOP_Sn_CMD_FIFO, LOOP_Sn_FIFO, LOOP_Sn_INT_LO, LOOP_Sn_INT_HI, LOOP_Sn_ERR, LOOP_Sn_SCHED,
   LOOP_Sn_OUT, LOOP_Sn_FB, LOOP_Sn_CNT, LOOP_Sn_CNT2, LOOP_Sn_CTRL, LOOP_Sn_LUTj,
   LOOP_ENG_STAT, LOOP_ENG_LS, LOOP_ENG_LS_FRAME, LOOP_ENG_LOAD]
/-- The register families of the SLU block. -/
def blockSlu : List RegDef :=
  [SLU_Oo_CFG, SLU_Oo_PARK, SLU_Oo_STAT, SLU_Oo_EVT, SLU_Oo_WIN, SLU_Oo_APPLIED,
   SLU_Oo_CNT, SLU_Oo_CNT2, SLU_Oo_MEAS, SLU_Oo_CTRL, SLU_HEALTH, SLU_WD,
   SLU_EVT, SLU_CLAIM_TX]
/-- The register families of the LANE block. -/
def blockLane : List RegDef :=
  [LANE_Ln_STAT, LANE_Ln_EVT, LANE_Ln_ERR, LANE_Ln_WIN, LANE_Ln_EQ, LANE_Ln_DFE,
   LANE_Ln_ADAPT, LANE_Ln_TEST, LANE_Ln_PRBS_ERR, LANE_Ln_PRBS_BITS, LANE_Ln_CTRL, LANE_Ln_RETR,
   LANE_Pp_STAT, LANE_Pp_CNT, LANE_POL, LANE_LFp_CNT, LANE_LFp_STAT]
/-- The register families of the RING block. -/
def blockRing : List RegDef :=
  [RING_STAT, RING_EVT, RING_CTRL, RING_POL, RING_MGMT, RING_MISC,
   RING_Pp_STAT, RING_Pp_LSEQ, RING_Pp_TX, RING_Pp_RX, RING_Pp_ERR, RING_Pp_RETX,
   RING_Pp_OVR, RING_Pp_CAP, RING_Pp_RET, RING_STRs_SEQ, RING_STRs_CNT, RING_Hh,
   RING_HSEL, RING_HWk, RING_DISCi_Wj, RING_CFk_ID, RING_CFk_HIGH, RING_CFk_LOSS,
   RING_CFk_DUP, RING_MRSP_VALIDj, RING_MRSPh_Wk]
/-- The register families of the FLD block. -/
def blockFld : List RegDef :=
  [FLD_Pp_STAT, FLD_Pp_EVT, FLD_Pp_SERIAL_LO, FLD_Pp_SERIAL_HI, FLD_Pp_TYPE, FLD_Pp_TDOWN,
   FLD_Pp_CABLE, FLD_Pp_ISNS, FLD_Pp_CNT, FLD_Pp_CNT2, FLD_Pp_BUDGET, FLD_Pp_ECHO,
   FLD_Pp_CTRL, FLD_Pp_DESCk, FLD_STAT]
/-- The register families of the QUE block. -/
def blockQue : List RegDef :=
  [QUE_Qq_CFG, QUE_Qq_WPTR, QUE_Qq_RPTR, QUE_Qq_LEVEL, QUE_Qq_WM_HI, QUE_Qq_WM_LO,
   QUE_Qq_WMSTAT, QUE_Qq_STAT, QUE_Qq_CNT, QUE_Qq_CNT2, QUE_Qq_STALE, QUE_Qq_CTRL,
   QUE_Qq_POP_LO, QUE_Qq_POP_HI, QUE_Qq_POP_STAT, QUE_SRAM, QUE_STAT]
/-- The register families of the DMA block. -/
def blockDma : List RegDef :=
  [DMA_Rr_BASE_LO, DMA_Rr_BASE_HI, DMA_Rr_CFG, DMA_Rr_TAIL, DMA_Rr_HEAD, DMA_Rr_STAT,
   DMA_Rr_CNT, DMA_Rr_BYTES, DMA_PCIE_STAT, DMA_PCIE_EVT, DMA_NSRCi, DMA_NPENDj,
   DMA_RNTF_VALIDj, DMA_RNTFh_Wk]
/-- The register families of the WRG block. -/
def blockWrg : List RegDef :=
  [WRG_Cj_CFG, WRG_Cj_STAT, WRG_Cj_EVT, WRG_Cj_LIMIT, WRG_Cj_CLOSE_US, WRG_Cj_MAXBUF,
   WRG_Cj_IN, WRG_Cj_OUT, WRG_Cj_CHECK, WRG_Cj_CNT, WRG_Cj_LOST, WRG_Cj_CTRL,
   WRG_Cj_END_LO, WRG_STAT]
/-- The register families of the SLT block. -/
def blockSlt : List RegDef :=
  [SLT_STAT, SLT_EVT, SLT_SVC_HEAD, SLT_LIFE_HEAD, SLT_SEQ, SLT_OPT_LO,
   SLT_OPT_HI, SLT_PCC, SLT_FIFO_MAX, SLT_SUPPc, SLT_DROP, SLT_ECC,
   SLT_CTRL, SLT_CURSOR, SLT_WIN_STAT, SLT_WINk]
/-- The register families of the UNIT block. -/
def blockUnit : List RegDef :=
  [UNIT_IDENT, UNIT_INST, UNIT_STAT, UNIT_CNT, UNIT_LAST_LO, UNIT_LAST_HI,
   UNIT_CYCLES, UNIT_CTRL]

end Sys2Proof.Machine.Reg

namespace Sys2Proof.Machine.Fld

def PAT_STAT.REJECT : Field := ⟨Reg.PAT_STAT, 24, 8⟩
def PAT_STAT.STBY_STATE : Field := ⟨Reg.PAT_STAT, 16, 4⟩
def PAT_STAT.WR_DROP : Field := ⟨Reg.PAT_STAT, 8, 1⟩
def PAT_STAT.ACT_VALID : Field := ⟨Reg.PAT_STAT, 7, 1⟩
def PAT_STAT.ACT_SIGNED : Field := ⟨Reg.PAT_STAT, 6, 1⟩
def PAT_STAT.ACT_CALDATA : Field := ⟨Reg.PAT_STAT, 5, 1⟩
def PAT_STAT.COMMIT_PEND : Field := ⟨Reg.PAT_STAT, 3, 1⟩
def PAT_STAT.REJECTED : Field := ⟨Reg.PAT_STAT, 2, 1⟩
def PAT_STAT.CHECKED : Field := ⟨Reg.PAT_STAT, 1, 1⟩
def PAT_STAT.COMMITTED : Field := ⟨Reg.PAT_STAT, 0, 1⟩
def PAT_REJ_DETAIL.DETAIL : Field := ⟨Reg.PAT_REJ_DETAIL, 0, 32⟩
def PAT_REJ_NEED.NEED : Field := ⟨Reg.PAT_REJ_NEED, 0, 32⟩
def PAT_REJ_ALLOW.ALLOW : Field := ⟨Reg.PAT_REJ_ALLOW, 0, 32⟩
def PAT_ACT_DIGESTk.DIGEST : Field := ⟨Reg.PAT_ACT_DIGESTk, 0, 32⟩
def PAT_STBY_DIGESTk.DIGEST : Field := ⟨Reg.PAT_STBY_DIGESTk, 0, 32⟩
def PAT_ACT_SERIAL.SERIAL : Field := ⟨Reg.PAT_ACT_SERIAL, 0, 32⟩
def PAT_STBY_SERIAL.SERIAL : Field := ⟨Reg.PAT_STBY_SERIAL, 0, 32⟩
def PAT_COMMIT_FRAME_LO.FRAME_LO : Field := ⟨Reg.PAT_COMMIT_FRAME_LO, 0, 32⟩
def PAT_COMMIT_FRAME_HI.FRAME_HI : Field := ⟨Reg.PAT_COMMIT_FRAME_HI, 0, 16⟩
def PAT_WADDR.ADDR : Field := ⟨Reg.PAT_WADDR, 2, 22⟩
def PAT_WDATA.DATA : Field := ⟨Reg.PAT_WDATA, 0, 32⟩
def PAT_WLEN.WLEN : Field := ⟨Reg.PAT_WLEN, 0, 25⟩
def PAT_STAT_UNKNOWN.COUNT : Field := ⟨Reg.PAT_STAT_UNKNOWN, 0, 16⟩
def PAT_SIGN_CFG.ANTIROLLBACK : Field := ⟨Reg.PAT_SIGN_CFG, 1, 1⟩
def PAT_SIGN_CFG.REQUIRE : Field := ⟨Reg.PAT_SIGN_CFG, 0, 1⟩
def PAT_MIN_SERIAL.MIN_SERIAL : Field := ⟨Reg.PAT_MIN_SERIAL, 0, 32⟩
def PAT_KEY_STAT.SLOT : Field := ⟨Reg.PAT_KEY_STAT, 0, 16⟩
def PAT_BUDGET_Wr.WORST : Field := ⟨Reg.PAT_BUDGET_Wr, 0, 32⟩
def PAT_BUDGET_Cr.CAPACITY : Field := ⟨Reg.PAT_BUDGET_Cr, 0, 32⟩
def PAT_CHECK_TIME.TIME_US : Field := ⟨Reg.PAT_CHECK_TIME, 0, 32⟩
def UNIT_IDENT.CLASS : Field := ⟨Reg.UNIT_IDENT, 24, 8⟩
def UNIT_IDENT.VERSION : Field := ⟨Reg.UNIT_IDENT, 16, 8⟩
def UNIT_IDENT.UNIT_ID : Field := ⟨Reg.UNIT_IDENT, 0, 14⟩
def UNIT_INST.PARENT : Field := ⟨Reg.UNIT_INST, 16, 16⟩
def UNIT_INST.INSTANCE : Field := ⟨Reg.UNIT_INST, 0, 16⟩
def UNIT_STAT.SETTLING : Field := ⟨Reg.UNIT_STAT, 6, 1⟩
def UNIT_STAT.CLASS_EVT : Field := ⟨Reg.UNIT_STAT, 5, 1⟩
def UNIT_STAT.POISON : Field := ⟨Reg.UNIT_STAT, 4, 1⟩
def UNIT_STAT.INV_IN : Field := ⟨Reg.UNIT_STAT, 3, 1⟩
def UNIT_STAT.OVERRUN : Field := ⟨Reg.UNIT_STAT, 2, 1⟩
def UNIT_STAT.CARRIED : Field := ⟨Reg.UNIT_STAT, 1, 1⟩
def UNIT_STAT.ACTIVE : Field := ⟨Reg.UNIT_STAT, 0, 1⟩
def UNIT_CNT.OVR_CNT : Field := ⟨Reg.UNIT_CNT, 16, 16⟩
def UNIT_CNT.EVT_CNT : Field := ⟨Reg.UNIT_CNT, 0, 16⟩
def UNIT_LAST_LO.FRAME_LO : Field := ⟨Reg.UNIT_LAST_LO, 0, 32⟩
def UNIT_LAST_HI.FRAME_HI : Field := ⟨Reg.UNIT_LAST_HI, 0, 16⟩
def UNIT_CYCLES.COST : Field := ⟨Reg.UNIT_CYCLES, 16, 16⟩
def UNIT_CYCLES.WORST : Field := ⟨Reg.UNIT_CYCLES, 0, 16⟩
def UNIT_CTRL.WORST_CLR : Field := ⟨Reg.UNIT_CTRL, 1, 1⟩
def UNIT_CTRL.CNT_CLR : Field := ⟨Reg.UNIT_CTRL, 0, 1⟩
def GLB_ID.PART : Field := ⟨Reg.GLB_ID, 16, 16⟩
def GLB_ID.REV : Field := ⟨Reg.GLB_ID, 8, 8⟩
def GLB_SERIAL_LO.SERIAL : Field := ⟨Reg.GLB_SERIAL_LO, 0, 32⟩
def GLB_SERIAL_HI.SERIAL : Field := ⟨Reg.GLB_SERIAL_HI, 0, 32⟩
def GLB_FW_VER.COMPAT_MAJOR : Field := ⟨Reg.GLB_FW_VER, 24, 8⟩
def GLB_FW_VER.COMPAT_MINOR : Field := ⟨Reg.GLB_FW_VER, 16, 8⟩
def GLB_FW_VER.BUILD : Field := ⟨Reg.GLB_FW_VER, 0, 16⟩
def GLB_STATE.HUB_ID : Field := ⟨Reg.GLB_STATE, 24, 8⟩
def GLB_STATE.BOOT_FAIL : Field := ⟨Reg.GLB_STATE, 11, 1⟩
def GLB_STATE.RUN_INTENT : Field := ⟨Reg.GLB_STATE, 10, 1⟩
def GLB_STATE.QUARANTINE : Field := ⟨Reg.GLB_STATE, 9, 1⟩
def GLB_STATE.TIME_LOCK : Field := ⟨Reg.GLB_STATE, 8, 1⟩
def GLB_STATE.CAL_VALID : Field := ⟨Reg.GLB_STATE, 7, 1⟩
def GLB_STATE.READY : Field := ⟨Reg.GLB_STATE, 6, 1⟩
def GLB_STATE.DEGRADED : Field := ⟨Reg.GLB_STATE, 5, 1⟩
def GLB_STATE.STATE : Field := ⟨Reg.GLB_STATE, 0, 3⟩
def GLB_STATE_CHG.COUNT : Field := ⟨Reg.GLB_STATE_CHG, 16, 16⟩
def GLB_STATE_CHG.CHANGED : Field := ⟨Reg.GLB_STATE_CHG, 7, 1⟩
def GLB_STATE_CHG.PREV : Field := ⟨Reg.GLB_STATE_CHG, 0, 3⟩
def GLB_DEGRADED.OVERRUN : Field := ⟨Reg.GLB_DEGRADED, 10, 1⟩
def GLB_DEGRADED.SELFDIAG : Field := ⟨Reg.GLB_DEGRADED, 9, 1⟩
def GLB_DEGRADED.MEND : Field := ⟨Reg.GLB_DEGRADED, 8, 1⟩
def GLB_DEGRADED.HEAD : Field := ⟨Reg.GLB_DEGRADED, 7, 1⟩
def GLB_DEGRADED.PARTNER : Field := ⟨Reg.GLB_DEGRADED, 6, 1⟩
def GLB_DEGRADED.POD_LINK : Field := ⟨Reg.GLB_DEGRADED, 5, 1⟩
def GLB_DEGRADED.TIME_DOMAIN : Field := ⟨Reg.GLB_DEGRADED, 4, 1⟩
def GLB_DEGRADED.KR_MARGIN : Field := ⟨Reg.GLB_DEGRADED, 3, 1⟩
def GLB_DEGRADED.STREAM_CAP : Field := ⟨Reg.GLB_DEGRADED, 2, 1⟩
def GLB_DEGRADED.SEGMENT : Field := ⟨Reg.GLB_DEGRADED, 1, 1⟩
def GLB_DEGRADED.LANE : Field := ⟨Reg.GLB_DEGRADED, 0, 1⟩
def GLB_DEGRADED_STICKY.OVERRUN : Field := ⟨Reg.GLB_DEGRADED_STICKY, 10, 1⟩
def GLB_DEGRADED_STICKY.SELFDIAG : Field := ⟨Reg.GLB_DEGRADED_STICKY, 9, 1⟩
def GLB_DEGRADED_STICKY.MEND : Field := ⟨Reg.GLB_DEGRADED_STICKY, 8, 1⟩
def GLB_DEGRADED_STICKY.HEAD : Field := ⟨Reg.GLB_DEGRADED_STICKY, 7, 1⟩
def GLB_DEGRADED_STICKY.PARTNER : Field := ⟨Reg.GLB_DEGRADED_STICKY, 6, 1⟩
def GLB_DEGRADED_STICKY.POD_LINK : Field := ⟨Reg.GLB_DEGRADED_STICKY, 5, 1⟩
def GLB_DEGRADED_STICKY.TIME_DOMAIN : Field := ⟨Reg.GLB_DEGRADED_STICKY, 4, 1⟩
def GLB_DEGRADED_STICKY.KR_MARGIN : Field := ⟨Reg.GLB_DEGRADED_STICKY, 3, 1⟩
def GLB_DEGRADED_STICKY.STREAM_CAP : Field := ⟨Reg.GLB_DEGRADED_STICKY, 2, 1⟩
def GLB_DEGRADED_STICKY.SEGMENT : Field := ⟨Reg.GLB_DEGRADED_STICKY, 1, 1⟩
def GLB_DEGRADED_STICKY.LANE : Field := ⟨Reg.GLB_DEGRADED_STICKY, 0, 1⟩
def GLB_SAFE_CAUSE.CAUSE : Field := ⟨Reg.GLB_SAFE_CAUSE, 0, 8⟩
def GLB_ACC_STAT.RSVD_ACC : Field := ⟨Reg.GLB_ACC_STAT, 1, 1⟩
def GLB_ACC_STAT.RWL_DROP : Field := ⟨Reg.GLB_ACC_STAT, 0, 1⟩
def GLB_FRAME_LO.FRAME_LO : Field := ⟨Reg.GLB_FRAME_LO, 0, 32⟩
def GLB_FRAME_HI.FRAME_HI : Field := ⟨Reg.GLB_FRAME_HI, 0, 16⟩
def GLB_SEQ_STAT.OVR_TICKS : Field := ⟨Reg.GLB_SEQ_STAT, 16, 16⟩
def GLB_SEQ_STAT.OVR_RUN : Field := ⟨Reg.GLB_SEQ_STAT, 8, 8⟩
def GLB_SEQ_STAT.HOUSE_LATE : Field := ⟨Reg.GLB_SEQ_STAT, 2, 1⟩
def GLB_SEQ_STAT.PHASE_LATE : Field := ⟨Reg.GLB_SEQ_STAT, 1, 1⟩
def GLB_SEQ_STAT.OVERRUN : Field := ⟨Reg.GLB_SEQ_STAT, 0, 1⟩
def GLB_OVR_FRAME_LO.FRAME : Field := ⟨Reg.GLB_OVR_FRAME_LO, 0, 32⟩
def GLB_CMD_CNT.CONFLICT : Field := ⟨Reg.GLB_CMD_CNT, 16, 16⟩
def GLB_CMD_CNT.DUP : Field := ⟨Reg.GLB_CMD_CNT, 0, 16⟩
def GLB_DUP_EVICT.EVICT : Field := ⟨Reg.GLB_DUP_EVICT, 0, 16⟩
def GLB_MBX_CTRL.GO : Field := ⟨Reg.GLB_MBX_CTRL, 0, 1⟩
def GLB_MBX_STAT.GO_DROP : Field := ⟨Reg.GLB_MBX_STAT, 2, 1⟩
def GLB_MBX_STAT.RSP_VALID : Field := ⟨Reg.GLB_MBX_STAT, 1, 1⟩
def GLB_MBX_STAT.BUSY : Field := ⟨Reg.GLB_MBX_STAT, 0, 1⟩
def GLB_CMD_BUFk.DATA : Field := ⟨Reg.GLB_CMD_BUFk, 0, 32⟩
def GLB_RSP_BUFk.DATA : Field := ⟨Reg.GLB_RSP_BUFk, 0, 32⟩
def AFE_CHn_CFG.WB_EN : Field := ⟨Reg.AFE_CHn_CFG, 28, 1⟩
def AFE_CHn_CFG.SIX_WIRE : Field := ⟨Reg.AFE_CHn_CFG, 27, 1⟩
def AFE_CHn_CFG.RF : Field := ⟨Reg.AFE_CHn_CFG, 24, 3⟩
def AFE_CHn_CFG.ADAPT_EN : Field := ⟨Reg.AFE_CHn_CFG, 23, 1⟩
def AFE_CHn_CFG.DWELL : Field := ⟨Reg.AFE_CHn_CFG, 12, 11⟩
def AFE_CHn_CFG.AUTO : Field := ⟨Reg.AFE_CHn_CFG, 2, 1⟩
def AFE_CHn_CFG.RANGE : Field := ⟨Reg.AFE_CHn_CFG, 0, 2⟩
def AFE_CHn_EXC.LEVEL : Field := ⟨Reg.AFE_CHn_EXC, 16, 16⟩
def AFE_CHn_EXC.MODE : Field := ⟨Reg.AFE_CHn_EXC, 0, 2⟩
def AFE_CHn_STAT.FALLBACK_4W : Field := ⟨Reg.AFE_CHn_STAT, 15, 1⟩
def AFE_CHn_STAT.RECOVERING : Field := ⟨Reg.AFE_CHn_STAT, 14, 1⟩
def AFE_CHn_STAT.WB_CONF : Field := ⟨Reg.AFE_CHn_STAT, 13, 1⟩
def AFE_CHn_STAT.SIG_OPEN_N : Field := ⟨Reg.AFE_CHn_STAT, 12, 1⟩
def AFE_CHn_STAT.SIG_OPEN_P : Field := ⟨Reg.AFE_CHn_STAT, 11, 1⟩
def AFE_CHn_STAT.SNS_OPEN_N : Field := ⟨Reg.AFE_CHn_STAT, 10, 1⟩
def AFE_CHn_STAT.SNS_OPEN_P : Field := ⟨Reg.AFE_CHn_STAT, 9, 1⟩
def AFE_CHn_STAT.EXC_OPEN : Field := ⟨Reg.AFE_CHn_STAT, 8, 1⟩
def AFE_CHn_STAT.EXC_OC : Field := ⟨Reg.AFE_CHn_STAT, 7, 1⟩
def AFE_CHn_STAT.EXC_ILIM : Field := ⟨Reg.AFE_CHn_STAT, 6, 1⟩
def AFE_CHn_STAT.EXC_ON : Field := ⟨Reg.AFE_CHn_STAT, 5, 1⟩
def AFE_CHn_STAT.CM_OVR : Field := ⟨Reg.AFE_CHn_STAT, 4, 1⟩
def AFE_CHn_STAT.SETTLE : Field := ⟨Reg.AFE_CHn_STAT, 3, 1⟩
def AFE_CHn_STAT.DOWN_PEND : Field := ⟨Reg.AFE_CHn_STAT, 2, 1⟩
def AFE_CHn_STAT.RANGE : Field := ⟨Reg.AFE_CHn_STAT, 0, 2⟩
def AFE_CHn_EVT.RECOVERED : Field := ⟨Reg.AFE_CHn_EVT, 7, 1⟩
def AFE_CHn_EVT.WB : Field := ⟨Reg.AFE_CHn_EVT, 6, 1⟩
def AFE_CHn_EVT.EXC_OC : Field := ⟨Reg.AFE_CHn_EVT, 5, 1⟩
def AFE_CHn_EVT.CM_OVR : Field := ⟨Reg.AFE_CHn_EVT, 4, 1⟩
def AFE_CHn_EVT.CLIP : Field := ⟨Reg.AFE_CHn_EVT, 3, 1⟩
def AFE_CHn_EVT.DOWN_CANCEL : Field := ⟨Reg.AFE_CHn_EVT, 2, 1⟩
def AFE_CHn_EVT.DOWN : Field := ⟨Reg.AFE_CHn_EVT, 1, 1⟩
def AFE_CHn_EVT.UP : Field := ⟨Reg.AFE_CHn_EVT, 0, 1⟩
def AFE_CHn_RCNT.UP_CNT : Field := ⟨Reg.AFE_CHn_RCNT, 16, 16⟩
def AFE_CHn_RCNT.DOWN_CNT : Field := ⟨Reg.AFE_CHn_RCNT, 0, 16⟩
def AFE_CHn_DWELL.COUNT : Field := ⟨Reg.AFE_CHn_DWELL, 0, 11⟩
def AFE_CHn_EXC_I.I_N : Field := ⟨Reg.AFE_CHn_EXC_I, 16, 16⟩
def AFE_CHn_EXC_I.I_P : Field := ⟨Reg.AFE_CHn_EXC_I, 0, 16⟩
def AFE_CHn_LEAD.LEAD_N : Field := ⟨Reg.AFE_CHn_LEAD, 16, 16⟩
def AFE_CHn_LEAD.LEAD_P : Field := ⟨Reg.AFE_CHn_LEAD, 0, 16⟩
def AFE_CHn_WB_LO.FRAME_LO : Field := ⟨Reg.AFE_CHn_WB_LO, 0, 32⟩
def AFE_CHn_WB_HI.CAUSE : Field := ⟨Reg.AFE_CHn_WB_HI, 16, 4⟩
def AFE_CHn_WB_HI.FRAME_HI : Field := ⟨Reg.AFE_CHn_WB_HI, 0, 16⟩
def AFE_CHn_CTRL.EXC_RETRY : Field := ⟨Reg.AFE_CHn_CTRL, 2, 1⟩
def AFE_CHn_CTRL.CNT_CLR : Field := ⟨Reg.AFE_CHn_CTRL, 1, 1⟩
def AFE_CHn_CTRL.RANGE_HOLD : Field := ⟨Reg.AFE_CHn_CTRL, 0, 1⟩
def AFE_GRPg_STAT.MEND_TARGET : Field := ⟨Reg.AFE_GRPg_STAT, 16, 8⟩
def AFE_GRPg_STAT.MEND_CONN : Field := ⟨Reg.AFE_GRPg_STAT, 1, 1⟩
def AFE_GRPg_STAT.POWERED : Field := ⟨Reg.AFE_GRPg_STAT, 0, 1⟩
def AFE_GRPg_EXC_SUM.SUM_N : Field := ⟨Reg.AFE_GRPg_EXC_SUM, 16, 16⟩
def AFE_GRPg_EXC_SUM.SUM_P : Field := ⟨Reg.AFE_GRPg_EXC_SUM, 0, 16⟩
def AFE_GLB_CFG.EXC_OPEN_UA : Field := ⟨Reg.AFE_GLB_CFG, 16, 10⟩
def AFE_GLB_CFG.SIG_WIN : Field := ⟨Reg.AFE_GLB_CFG, 0, 8⟩
def AFE_GLB_VEXC.VEXCN_MV : Field := ⟨Reg.AFE_GLB_VEXC, 16, 16⟩
def AFE_GLB_VEXC.VEXCP_MV : Field := ⟨Reg.AFE_GLB_VEXC, 0, 16⟩
def AFE_GLB_STAT.VEXC_USED : Field := ⟨Reg.AFE_GLB_STAT, 2, 1⟩
def AFE_GLB_STAT.VEXCN_OUT : Field := ⟨Reg.AFE_GLB_STAT, 1, 1⟩
def AFE_GLB_STAT.VEXCP_OUT : Field := ⟨Reg.AFE_GLB_STAT, 0, 1⟩
def SAR_STAT.ENTRY : Field := ⟨Reg.SAR_STAT, 8, 5⟩
def SAR_STAT.ACT : Field := ⟨Reg.SAR_STAT, 4, 2⟩
def SAR_STAT.OVR_SEEN : Field := ⟨Reg.SAR_STAT, 3, 1⟩
def SAR_STAT.INJ_MISS : Field := ⟨Reg.SAR_STAT, 2, 1⟩
def SAR_STAT.SCAN_LONG : Field := ⟨Reg.SAR_STAT, 1, 1⟩
def SAR_STAT.POWERED : Field := ⟨Reg.SAR_STAT, 0, 1⟩
def SAR_SCAN.SCAN_CNT : Field := ⟨Reg.SAR_SCAN, 16, 16⟩
def SAR_SCAN.MAX_TICKS : Field := ⟨Reg.SAR_SCAN, 8, 8⟩
def SAR_SCAN.LAST_TICKS : Field := ⟨Reg.SAR_SCAN, 0, 8⟩
def SAR_SCAN_TIME.LAST_10NS : Field := ⟨Reg.SAR_SCAN_TIME, 0, 24⟩
def SAR_INJ_CNT.MISS_CNT : Field := ⟨Reg.SAR_INJ_CNT, 16, 16⟩
def SAR_INJ_CNT.RUN_CNT : Field := ⟨Reg.SAR_INJ_CNT, 0, 16⟩
def SAR_EXCSEL.SEL3 : Field := ⟨Reg.SAR_EXCSEL, 24, 5⟩
def SAR_EXCSEL.SEL2 : Field := ⟨Reg.SAR_EXCSEL, 16, 5⟩
def SAR_EXCSEL.SEL1 : Field := ⟨Reg.SAR_EXCSEL, 8, 5⟩
def SAR_EXCSEL.SEL0 : Field := ⟨Reg.SAR_EXCSEL, 0, 5⟩
def SAR_RESm.VALUE : Field := ⟨Reg.SAR_RESm, 8, 24⟩
def SAR_RESm.OVR : Field := ⟨Reg.SAR_RESm, 1, 1⟩
def SAR_RESm.VALID : Field := ⟨Reg.SAR_RESm, 0, 1⟩
def SAR_RESm_FRAME.FRAME_LO : Field := ⟨Reg.SAR_RESm_FRAME, 0, 32⟩
def SAR_INJk.VALUE : Field := ⟨Reg.SAR_INJk, 8, 24⟩
def SAR_INJk.OVR : Field := ⟨Reg.SAR_INJk, 1, 1⟩
def SAR_INJk.VALID : Field := ⟨Reg.SAR_INJk, 0, 1⟩
def SAR_INJk_FRAME.FRAME_LO : Field := ⟨Reg.SAR_INJk_FRAME, 0, 32⟩
def SAR_GAINm.GAIN : Field := ⟨Reg.SAR_GAINm, 0, 32⟩
def SAR_OFFm.OFF : Field := ⟨Reg.SAR_OFFm, 0, 32⟩
def SAR_SCAL_CTRL.START : Field := ⟨Reg.SAR_SCAL_CTRL, 16, 1⟩
def SAR_SCAL_CTRL.AVG_LOG2 : Field := ⟨Reg.SAR_SCAL_CTRL, 12, 4⟩
def SAR_SCAL_CTRL.POINT : Field := ⟨Reg.SAR_SCAL_CTRL, 8, 1⟩
def SAR_SCAL_CTRL.INPUT : Field := ⟨Reg.SAR_SCAL_CTRL, 0, 4⟩
def SAR_SCAL_T0.T0 : Field := ⟨Reg.SAR_SCAL_T0, 0, 32⟩
def SAR_SCAL_T1.T1 : Field := ⟨Reg.SAR_SCAL_T1, 0, 32⟩
def SAR_SCAL_N0.N0 : Field := ⟨Reg.SAR_SCAL_N0, 0, 32⟩
def SAR_SCAL_N1.N1 : Field := ⟨Reg.SAR_SCAL_N1, 0, 32⟩
def SAR_SCAL_STAT.CAL_CNT : Field := ⟨Reg.SAR_SCAL_STAT, 16, 16⟩
def SAR_SCAL_STAT.RESULT : Field := ⟨Reg.SAR_SCAL_STAT, 12, 4⟩
def SAR_SCAL_STAT.INPUT : Field := ⟨Reg.SAR_SCAL_STAT, 8, 4⟩
def SAR_SCAL_STAT.START_DROP : Field := ⟨Reg.SAR_SCAL_STAT, 4, 1⟩
def SAR_SCAL_STAT.BUSY : Field := ⟨Reg.SAR_SCAL_STAT, 3, 1⟩
def SAR_SCAL_STAT.DONE1 : Field := ⟨Reg.SAR_SCAL_STAT, 2, 1⟩
def SAR_SCAL_STAT.DONE0 : Field := ⟨Reg.SAR_SCAL_STAT, 1, 1⟩
def SAR_SCAL_STAT.RESULT_NEW : Field := ⟨Reg.SAR_SCAL_STAT, 0, 1⟩
def SAR_MCLK_STAT.PHASE_PS : Field := ⟨Reg.SAR_MCLK_STAT, 16, 16⟩
def SAR_MCLK_STAT.RELOCK_CNT : Field := ⟨Reg.SAR_MCLK_STAT, 8, 8⟩
def SAR_MCLK_STAT.LOCK_LOST : Field := ⟨Reg.SAR_MCLK_STAT, 1, 1⟩
def SAR_MCLK_STAT.LOCK : Field := ⟨Reg.SAR_MCLK_STAT, 0, 1⟩
def SAR_MODn_STAT.OVL_CNT : Field := ⟨Reg.SAR_MODn_STAT, 16, 16⟩
def SAR_MODn_STAT.CLAMP : Field := ⟨Reg.SAR_MODn_STAT, 3, 1⟩
def SAR_MODn_STAT.OVL_SEEN : Field := ⟨Reg.SAR_MODn_STAT, 2, 1⟩
def SAR_MODn_STAT.OVL : Field := ⟨Reg.SAR_MODn_STAT, 1, 1⟩
def SAR_MODn_STAT.RUNNING : Field := ⟨Reg.SAR_MODn_STAT, 0, 1⟩
def SAR_MOD_CTRL.CNT_CLR : Field := ⟨Reg.SAR_MOD_CTRL, 0, 1⟩
def FLT_CHc_CFG.ACTIVE : Field := ⟨Reg.FLT_CHc_CFG, 31, 1⟩
def FLT_CHc_CFG.FORMAT : Field := ⟨Reg.FLT_CHc_CFG, 30, 1⟩
def FLT_CHc_CFG.PHASE : Field := ⟨Reg.FLT_CHc_CFG, 8, 10⟩
def FLT_CHc_CFG.D_LOG2 : Field := ⟨Reg.FLT_CHc_CFG, 4, 4⟩
def FLT_CHc_CFG.SETL_INV : Field := ⟨Reg.FLT_CHc_CFG, 2, 1⟩
def FLT_CHc_CFG.MODE : Field := ⟨Reg.FLT_CHc_CFG, 0, 2⟩
def FLT_CHc_SDELAY.SENSOR_DELAY : Field := ⟨Reg.FLT_CHc_SDELAY, 0, 32⟩
def FLT_CHc_EC.EC : Field := ⟨Reg.FLT_CHc_EC, 0, 32⟩
def FLT_CHc_TAU.TAU : Field := ⟨Reg.FLT_CHc_TAU, 0, 20⟩
def FLT_CHc_TAU_TGT.TARGET : Field := ⟨Reg.FLT_CHc_TAU_TGT, 0, 32⟩
def FLT_CHc_STAT.SETL_LEFT : Field := ⟨Reg.FLT_CHc_STAT, 16, 8⟩
def FLT_CHc_STAT.ARRIVAL : Field := ⟨Reg.FLT_CHc_STAT, 3, 1⟩
def FLT_CHc_STAT.ALIGN_FAIL : Field := ⟨Reg.FLT_CHc_STAT, 2, 1⟩
def FLT_CHc_STAT.TAU_SLEW : Field := ⟨Reg.FLT_CHc_STAT, 1, 1⟩
def FLT_CHc_STAT.SETTLING : Field := ⟨Reg.FLT_CHc_STAT, 0, 1⟩
def FLT_CHc_EVT.MISS : Field := ⟨Reg.FLT_CHc_EVT, 4, 1⟩
def FLT_CHc_EVT.BADLEVEL : Field := ⟨Reg.FLT_CHc_EVT, 3, 1⟩
def FLT_CHc_EVT.SAT : Field := ⟨Reg.FLT_CHc_EVT, 2, 1⟩
def FLT_CHc_EVT.ALIGN_FAIL : Field := ⟨Reg.FLT_CHc_EVT, 1, 1⟩
def FLT_CHc_EVT.RESET : Field := ⟨Reg.FLT_CHc_EVT, 0, 1⟩
def FLT_CHc_CNT.MISS_CNT : Field := ⟨Reg.FLT_CHc_CNT, 16, 16⟩
def FLT_CHc_CNT.RESET_CNT : Field := ⟨Reg.FLT_CHc_CNT, 0, 16⟩
def FLT_CHc_RST_LO.FRAME_LO : Field := ⟨Reg.FLT_CHc_RST_LO, 0, 32⟩
def FLT_CHc_RST_HI.CAUSE : Field := ⟨Reg.FLT_CHc_RST_HI, 16, 4⟩
def FLT_CHc_RST_HI.FRAME_HI : Field := ⟨Reg.FLT_CHc_RST_HI, 0, 16⟩
def FLT_CHc_OUT.WORD : Field := ⟨Reg.FLT_CHc_OUT, 0, 32⟩
def FLT_CHc_CTRL.CNT_CLR : Field := ⟨Reg.FLT_CHc_CTRL, 1, 1⟩
def FLT_CHc_CTRL.SYNC_RESET : Field := ⟨Reg.FLT_CHc_CTRL, 0, 1⟩
def FLT_CHc_LIN_OUT.WORD : Field := ⟨Reg.FLT_CHc_LIN_OUT, 0, 32⟩
def FLT_CHc_LIN_STAT.NONFINITE : Field := ⟨Reg.FLT_CHc_LIN_STAT, 2, 1⟩
def FLT_CHc_LIN_STAT.SAT : Field := ⟨Reg.FLT_CHc_LIN_STAT, 1, 1⟩
def FLT_CHc_LIN_STAT.TEMP_STALE : Field := ⟨Reg.FLT_CHc_LIN_STAT, 0, 1⟩
def FLT_CHc_LIN_TEMP.VALUE : Field := ⟨Reg.FLT_CHc_LIN_TEMP, 8, 24⟩
def FLT_CHc_LIN_TEMP.VALID : Field := ⟨Reg.FLT_CHc_LIN_TEMP, 0, 1⟩
def FLT_CHc_THRd.SET_CNT : Field := ⟨Reg.FLT_CHc_THRd, 16, 16⟩
def FLT_CHc_THRd.STATE : Field := ⟨Reg.FLT_CHc_THRd, 0, 1⟩
def FLT_GLB_TAL.TAL : Field := ⟨Reg.FLT_GLB_TAL, 0, 20⟩
def FLT_GLB_COEF.SETS : Field := ⟨Reg.FLT_GLB_COEF, 0, 5⟩
def FLT_GLB_LOAD.WORST : Field := ⟨Reg.FLT_GLB_LOAD, 16, 16⟩
def FLT_GLB_LOAD.LAST : Field := ⟨Reg.FLT_GLB_LOAD, 0, 16⟩
def FLT_GLB_STAT.COEF_ERR : Field := ⟨Reg.FLT_GLB_STAT, 0, 1⟩
def CAL_CHc_GRr.GR : Field := ⟨Reg.CAL_CHc_GRr, 0, 32⟩
def CAL_CHc_ARr.AR : Field := ⟨Reg.CAL_CHc_ARr, 0, 32⟩
def CAL_CHc_DFE.DFE : Field := ⟨Reg.CAL_CHc_DFE, 0, 16⟩
def CAL_CHc_VALID.VALID : Field := ⟨Reg.CAL_CHc_VALID, 0, 4⟩
def CAL_CHc_CNT.ACC_CNT : Field := ⟨Reg.CAL_CHc_CNT, 16, 16⟩
def CAL_CHc_CNT.REJ_CNT : Field := ⟨Reg.CAL_CHc_CNT, 0, 16⟩
def CAL_CHc_TIME_LO.TIME_LO : Field := ⟨Reg.CAL_CHc_TIME_LO, 0, 32⟩
def CAL_CHc_TIME_HI.TIME_HI : Field := ⟨Reg.CAL_CHc_TIME_HI, 0, 16⟩
def CAL_CHc_QUAL.TEMP : Field := ⟨Reg.CAL_CHc_QUAL, 16, 16⟩
def CAL_CHc_QUAL.RESID : Field := ⟨Reg.CAL_CHc_QUAL, 0, 16⟩
def CAL_CHc_RESULT.SOURCE : Field := ⟨Reg.CAL_CHc_RESULT, 4, 4⟩
def CAL_CHc_RESULT.RESULT : Field := ⟨Reg.CAL_CHc_RESULT, 0, 4⟩
def CAL_CTRL.SUSPEND : Field := ⟨Reg.CAL_CTRL, 0, 1⟩
def CAL_STAT.CHANNEL : Field := ⟨Reg.CAL_STAT, 16, 8⟩
def CAL_STAT.PHASE : Field := ⟨Reg.CAL_STAT, 8, 4⟩
def CAL_STAT.POD_RESET : Field := ⟨Reg.CAL_STAT, 4, 1⟩
def CAL_STAT.WR_DROP : Field := ⟨Reg.CAL_STAT, 3, 1⟩
def CAL_STAT.ABORTED : Field := ⟨Reg.CAL_STAT, 2, 1⟩
def CAL_STAT.REJECTED : Field := ⟨Reg.CAL_STAT, 1, 1⟩
def CAL_STAT.ACCEPTED : Field := ⟨Reg.CAL_STAT, 0, 1⟩
def CAL_SWAP_S.FRAME_LO : Field := ⟨Reg.CAL_SWAP_S, 0, 32⟩
def CAL_SWAP_B.FRAME_LO : Field := ⟨Reg.CAL_SWAP_B, 0, 32⟩
def CAL_CHK_OUT.WORD : Field := ⟨Reg.CAL_CHK_OUT, 0, 32⟩
def CAL_MATCH.MEAN : Field := ⟨Reg.CAL_MATCH, 16, 16⟩
def CAL_MATCH.PAIRS : Field := ⟨Reg.CAL_MATCH, 0, 16⟩
def CAL_REF.VB_UV : Field := ⟨Reg.CAL_REF, 0, 32⟩
def CAL_MENDg_STAT.AGE_S : Field := ⟨Reg.CAL_MENDg_STAT, 16, 16⟩
def CAL_MENDg_STAT.FAIL_CNT : Field := ⟨Reg.CAL_MENDg_STAT, 8, 8⟩
def CAL_MENDg_STAT.RESULT : Field := ⟨Reg.CAL_MENDg_STAT, 4, 4⟩
def CAL_MENDg_STAT.AVAIL : Field := ⟨Reg.CAL_MENDg_STAT, 0, 1⟩
def CAL_PODp_SERIAL_LO.SERIAL : Field := ⟨Reg.CAL_PODp_SERIAL_LO, 0, 32⟩
def CAL_PODp_SERIAL_HI.SERIAL : Field := ⟨Reg.CAL_PODp_SERIAL_HI, 0, 32⟩
def TIM_STAT.PD_W_VALID : Field := ⟨Reg.TIM_STAT, 15, 1⟩
def TIM_STAT.PD_E_VALID : Field := ⟨Reg.TIM_STAT, 14, 1⟩
def TIM_STAT.NEIGH_W_LOCK : Field := ⟨Reg.TIM_STAT, 13, 1⟩
def TIM_STAT.NEIGH_E_LOCK : Field := ⟨Reg.TIM_STAT, 12, 1⟩
def TIM_STAT.TUN : Field := ⟨Reg.TIM_STAT, 11, 1⟩
def TIM_STAT.STEP_PEND : Field := ⟨Reg.TIM_STAT, 10, 1⟩
def TIM_STAT.HOLDOVER : Field := ⟨Reg.TIM_STAT, 9, 1⟩
def TIM_STAT.SLEWING : Field := ⟨Reg.TIM_STAT, 8, 1⟩
def TIM_STAT.COUNTER : Field := ⟨Reg.TIM_STAT, 7, 1⟩
def TIM_STAT.ROOT_B : Field := ⟨Reg.TIM_STAT, 6, 1⟩
def TIM_STAT.ROOT_A : Field := ⟨Reg.TIM_STAT, 5, 1⟩
def TIM_STAT.LOCK_B : Field := ⟨Reg.TIM_STAT, 1, 1⟩
def TIM_STAT.LOCK_A : Field := ⟨Reg.TIM_STAT, 0, 1⟩
def TIM_EVT.TIME_DROP : Field := ⟨Reg.TIM_EVT, 10, 1⟩
def TIM_EVT.INC_CLAMP : Field := ⟨Reg.TIM_EVT, 9, 1⟩
def TIM_EVT.CNT_CONFLICT : Field := ⟨Reg.TIM_EVT, 8, 1⟩
def TIM_EVT.TUN_SET : Field := ⟨Reg.TIM_EVT, 7, 1⟩
def TIM_EVT.STEP_DONE : Field := ⟨Reg.TIM_EVT, 6, 1⟩
def TIM_EVT.HOLDOVER : Field := ⟨Reg.TIM_EVT, 5, 1⟩
def TIM_EVT.SWITCH : Field := ⟨Reg.TIM_EVT, 4, 1⟩
def TIM_EVT.LOSS_B : Field := ⟨Reg.TIM_EVT, 3, 1⟩
def TIM_EVT.LOSS_A : Field := ⟨Reg.TIM_EVT, 2, 1⟩
def TIM_EVT.SYNC_B : Field := ⟨Reg.TIM_EVT, 1, 1⟩
def TIM_EVT.SYNC_A : Field := ⟨Reg.TIM_EVT, 0, 1⟩
def TIM_SEL.CLASS_B : Field := ⟨Reg.TIM_SEL, 24, 8⟩
def TIM_SEL.CLASS_A : Field := ⟨Reg.TIM_SEL, 16, 8⟩
def TIM_SEL.MODE : Field := ⟨Reg.TIM_SEL, 8, 2⟩
def TIM_SEL.NONE : Field := ⟨Reg.TIM_SEL, 1, 1⟩
def TIM_SEL.ACTIVE : Field := ⟨Reg.TIM_SEL, 0, 1⟩
def TIM_SERVO_CTRL.HOST_B : Field := ⟨Reg.TIM_SERVO_CTRL, 1, 1⟩
def TIM_SERVO_CTRL.HOST_A : Field := ⟨Reg.TIM_SERVO_CTRL, 0, 1⟩
def TIM_INC_A_LO.FRAC : Field := ⟨Reg.TIM_INC_A_LO, 0, 32⟩
def TIM_INC_A_HI.INT : Field := ⟨Reg.TIM_INC_A_HI, 0, 8⟩
def TIM_INC_B_LO.FRAC : Field := ⟨Reg.TIM_INC_B_LO, 0, 32⟩
def TIM_INC_B_HI.INT : Field := ⟨Reg.TIM_INC_B_HI, 0, 8⟩
def TIM_INC_L_LO.FRAC : Field := ⟨Reg.TIM_INC_L_LO, 0, 32⟩
def TIM_INC_L_HI.INT : Field := ⟨Reg.TIM_INC_L_HI, 0, 8⟩
def TIM_SLEW.SLEW_NS_S : Field := ⟨Reg.TIM_SLEW, 16, 10⟩
def TIM_SLEW.SLEW_INC : Field := ⟨Reg.TIM_SLEW, 0, 14⟩
def TIM_OFF_L.O : Field := ⟨Reg.TIM_OFF_L, 0, 32⟩
def TIM_THETA_A.THETA : Field := ⟨Reg.TIM_THETA_A, 0, 32⟩
def TIM_THETA_B.THETA : Field := ⟨Reg.TIM_THETA_B, 0, 32⟩
def TIM_ERR.ERR_B : Field := ⟨Reg.TIM_ERR, 16, 16⟩
def TIM_ERR.ERR_A : Field := ⟨Reg.TIM_ERR, 0, 16⟩
def TIM_ADJ_A.ADJ : Field := ⟨Reg.TIM_ADJ_A, 0, 32⟩
def TIM_ADJ_B.ADJ : Field := ⟨Reg.TIM_ADJ_B, 0, 32⟩
def TIM_HOST_Q.CLASS_B : Field := ⟨Reg.TIM_HOST_Q, 8, 8⟩
def TIM_HOST_Q.CLASS_A : Field := ⟨Reg.TIM_HOST_Q, 0, 8⟩
def TIM_NEIGH_E.THETA : Field := ⟨Reg.TIM_NEIGH_E, 0, 32⟩
def TIM_NEIGH_W.THETA : Field := ⟨Reg.TIM_NEIGH_W, 0, 32⟩
def TIM_PORTE_DELAY.DELTA : Field := ⟨Reg.TIM_PORTE_DELAY, 0, 32⟩
def TIM_PORTW_DELAY.DELTA : Field := ⟨Reg.TIM_PORTW_DELAY, 0, 32⟩
def TIM_PORTE_ASYM.ASYM : Field := ⟨Reg.TIM_PORTE_ASYM, 0, 16⟩
def TIM_PORTW_ASYM.ASYM : Field := ⟨Reg.TIM_PORTW_ASYM, 0, 16⟩
def TIM_STEP.STEP_CNT : Field := ⟨Reg.TIM_STEP, 16, 16⟩
def TIM_STEP_F_LO.FRAME_LO : Field := ⟨Reg.TIM_STEP_F_LO, 0, 32⟩
def TIM_CNT.TIME_DROP : Field := ⟨Reg.TIM_CNT, 16, 16⟩
def TIM_CNT.SWITCH_CNT : Field := ⟨Reg.TIM_CNT, 0, 16⟩
def TIM_L_S_LO.S_LO : Field := ⟨Reg.TIM_L_S_LO, 0, 32⟩
def TIM_A_S_LO.S_LO : Field := ⟨Reg.TIM_A_S_LO, 0, 32⟩
def TIM_B_S_LO.S_LO : Field := ⟨Reg.TIM_B_S_LO, 0, 32⟩
def TIM_IRQ_CAP_S_LO.S_LO : Field := ⟨Reg.TIM_IRQ_CAP_S_LO, 0, 32⟩
def TIM_TINk_S_LO.S_LO : Field := ⟨Reg.TIM_TINk_S_LO, 0, 32⟩
def TIM_L_S_HI.VALID : Field := ⟨Reg.TIM_L_S_HI, 31, 1⟩
def TIM_L_S_HI.S_HI : Field := ⟨Reg.TIM_L_S_HI, 0, 16⟩
def TIM_A_S_HI.VALID : Field := ⟨Reg.TIM_A_S_HI, 31, 1⟩
def TIM_A_S_HI.S_HI : Field := ⟨Reg.TIM_A_S_HI, 0, 16⟩
def TIM_B_S_HI.VALID : Field := ⟨Reg.TIM_B_S_HI, 31, 1⟩
def TIM_B_S_HI.S_HI : Field := ⟨Reg.TIM_B_S_HI, 0, 16⟩
def TIM_IRQ_CAP_S_HI.VALID : Field := ⟨Reg.TIM_IRQ_CAP_S_HI, 31, 1⟩
def TIM_IRQ_CAP_S_HI.S_HI : Field := ⟨Reg.TIM_IRQ_CAP_S_HI, 0, 16⟩
def TIM_TINk_S_HI.VALID : Field := ⟨Reg.TIM_TINk_S_HI, 31, 1⟩
def TIM_TINk_S_HI.S_HI : Field := ⟨Reg.TIM_TINk_S_HI, 0, 16⟩
def TIM_L_NS.NS : Field := ⟨Reg.TIM_L_NS, 0, 30⟩
def TIM_A_NS.NS : Field := ⟨Reg.TIM_A_NS, 0, 30⟩
def TIM_B_NS.NS : Field := ⟨Reg.TIM_B_NS, 0, 30⟩
def TIM_IRQ_CAP_NS.NS : Field := ⟨Reg.TIM_IRQ_CAP_NS, 0, 30⟩
def TIM_TINk_NS.NS : Field := ⟨Reg.TIM_TINk_NS, 0, 30⟩
def TIM_L_FRAC.FRAC : Field := ⟨Reg.TIM_L_FRAC, 0, 16⟩
def TIM_A_FRAC.FRAC : Field := ⟨Reg.TIM_A_FRAC, 0, 16⟩
def TIM_B_FRAC.FRAC : Field := ⟨Reg.TIM_B_FRAC, 0, 16⟩
def TIM_IRQ_CAP_FRAC.FRAC : Field := ⟨Reg.TIM_IRQ_CAP_FRAC, 0, 16⟩
def TIM_TINk_FRAC.POL : Field := ⟨Reg.TIM_TINk_FRAC, 16, 1⟩
def TIM_TINk_FRAC.FRAC : Field := ⟨Reg.TIM_TINk_FRAC, 0, 16⟩
def TIM_IRQ_CTRL.REARM : Field := ⟨Reg.TIM_IRQ_CTRL, 0, 1⟩
def TIM_IRQ_STAT.MISS_CNT : Field := ⟨Reg.TIM_IRQ_STAT, 16, 16⟩
def TIM_IRQ_STAT.MISS : Field := ⟨Reg.TIM_IRQ_STAT, 1, 1⟩
def TIM_IRQ_STAT.FULL : Field := ⟨Reg.TIM_IRQ_STAT, 0, 1⟩
def TIM_IRQ_FRAME.FRAME_LO : Field := ⟨Reg.TIM_IRQ_FRAME, 0, 32⟩
def TIM_TINk_STAT.LOST_CNT : Field := ⟨Reg.TIM_TINk_STAT, 16, 16⟩
def TIM_TINk_STAT.OVF : Field := ⟨Reg.TIM_TINk_STAT, 6, 1⟩
def TIM_TINk_STAT.ACTIVE : Field := ⟨Reg.TIM_TINk_STAT, 5, 1⟩
def TIM_TINk_STAT.LEVEL : Field := ⟨Reg.TIM_TINk_STAT, 0, 5⟩
def TIM_TINk_FRAME.FRAME_LO : Field := ⟨Reg.TIM_TINk_FRAME, 0, 32⟩
def TIM_TOUTk_STAT.PULSE_CNT : Field := ⟨Reg.TIM_TOUTk_STAT, 16, 16⟩
def TIM_TOUTk_STAT.LATE_CNT : Field := ⟨Reg.TIM_TOUTk_STAT, 8, 8⟩
def TIM_TOUTk_STAT.ACTIVE : Field := ⟨Reg.TIM_TOUTk_STAT, 2, 1⟩
def TIM_TOUTk_STAT.LATE : Field := ⟨Reg.TIM_TOUTk_STAT, 1, 1⟩
def TIM_TOUTk_STAT.LEVEL : Field := ⟨Reg.TIM_TOUTk_STAT, 0, 1⟩
def TDC_CFG.AUTO_RETURN : Field := ⟨Reg.TDC_CFG, 7, 1⟩
def TDC_CFG.REFIN_RATE : Field := ⟨Reg.TDC_CFG, 3, 2⟩
def TDC_CFG.SRC : Field := ⟨Reg.TDC_CFG, 0, 2⟩
def TDC_STAT.PPS_VALID : Field := ⟨Reg.TDC_STAT, 7, 1⟩
def TDC_STAT.REFIN_VALID : Field := ⟨Reg.TDC_STAT, 6, 1⟩
def TDC_STAT.REFIN_100M : Field := ⟨Reg.TDC_STAT, 5, 1⟩
def TDC_STAT.REFIN_PRESENT : Field := ⟨Reg.TDC_STAT, 4, 1⟩
def TDC_STAT.FALLBACK : Field := ⟨Reg.TDC_STAT, 3, 1⟩
def TDC_STAT.PLL_LOCK : Field := ⟨Reg.TDC_STAT, 2, 1⟩
def TDC_STAT.BASE : Field := ⟨Reg.TDC_STAT, 0, 2⟩
def TDC_EVT.BASE_RETURN : Field := ⟨Reg.TDC_EVT, 3, 1⟩
def TDC_EVT.REF_LOSS : Field := ⟨Reg.TDC_EVT, 2, 1⟩
def TDC_EVT.FIFO_OVF : Field := ⟨Reg.TDC_EVT, 1, 1⟩
def TDC_EVT.SHORT : Field := ⟨Reg.TDC_EVT, 0, 1⟩
def TDC_REF_PPM.PPM : Field := ⟨Reg.TDC_REF_PPM, 0, 32⟩
def TDC_PPS_DEV.DEV : Field := ⟨Reg.TDC_PPS_DEV, 0, 32⟩
def TDC_BASE_CNT.LOSS_CNT : Field := ⟨Reg.TDC_BASE_CNT, 16, 16⟩
def TDC_BASE_CNT.DISC_CNT : Field := ⟨Reg.TDC_BASE_CNT, 0, 16⟩
def TDC_CHk_CFG.SCALE : Field := ⟨Reg.TDC_CHk_CFG, 16, 5⟩
def TDC_CHk_CFG.START_IN : Field := ⟨Reg.TDC_CHk_CFG, 8, 4⟩
def TDC_CHk_CFG.EDGE : Field := ⟨Reg.TDC_CHk_CFG, 2, 2⟩
def TDC_CHk_CFG.MODE : Field := ⟨Reg.TDC_CHk_CFG, 0, 2⟩
def TDC_CHk_STAT.ACTIVE : Field := ⟨Reg.TDC_CHk_STAT, 13, 1⟩
def TDC_CHk_STAT.START_PEND : Field := ⟨Reg.TDC_CHk_STAT, 12, 1⟩
def TDC_CHk_STAT.TIMEOUT : Field := ⟨Reg.TDC_CHk_STAT, 11, 1⟩
def TDC_CHk_STAT.OVF : Field := ⟨Reg.TDC_CHk_STAT, 10, 1⟩
def TDC_CHk_STAT.SHORT : Field := ⟨Reg.TDC_CHk_STAT, 9, 1⟩
def TDC_CHk_STAT.LEVEL : Field := ⟨Reg.TDC_CHk_STAT, 0, 9⟩
def TDC_CHk_CNT.SHORT_CNT : Field := ⟨Reg.TDC_CHk_CNT, 16, 16⟩
def TDC_CHk_CNT.OVF_CNT : Field := ⟨Reg.TDC_CHk_CNT, 0, 16⟩
def TDC_CHk_EDGES.EDGES : Field := ⟨Reg.TDC_CHk_EDGES, 0, 32⟩
def TDC_CHk_SKEW.SKEW : Field := ⟨Reg.TDC_CHk_SKEW, 0, 16⟩
def TDC_CHk_LAST.WORD : Field := ⟨Reg.TDC_CHk_LAST, 0, 32⟩
def TDC_CHk_CTRL.FLUSH : Field := ⟨Reg.TDC_CHk_CTRL, 1, 1⟩
def TDC_CHk_CTRL.CNT_CLR : Field := ⟨Reg.TDC_CHk_CTRL, 0, 1⟩
def TDC_CHk_FIFO_Wj.DATA : Field := ⟨Reg.TDC_CHk_FIFO_Wj, 0, 32⟩
def CAP_STAT.WDROP : Field := ⟨Reg.CAP_STAT, 16, 16⟩
def CAP_STAT.ECC_UE : Field := ⟨Reg.CAP_STAT, 0, 1⟩
def CAP_MEM.SIZE : Field := ⟨Reg.CAP_MEM, 0, 20⟩
def CAP_ECC_CNT.UNCORR : Field := ⟨Reg.CAP_ECC_CNT, 16, 16⟩
def CAP_ECC_CNT.CORR : Field := ⟨Reg.CAP_ECC_CNT, 0, 16⟩
def CAP_ECC_ADDR.BLOCK : Field := ⟨Reg.CAP_ECC_ADDR, 0, 27⟩
def CAP_TRGt_STAT.SRC : Field := ⟨Reg.CAP_TRGt_STAT, 5, 3⟩
def CAP_TRGt_STAT.HOLDOFF : Field := ⟨Reg.CAP_TRGt_STAT, 4, 1⟩
def CAP_TRGt_STAT.PRIMED : Field := ⟨Reg.CAP_TRGt_STAT, 3, 1⟩
def CAP_TRGt_STAT.COND : Field := ⟨Reg.CAP_TRGt_STAT, 2, 1⟩
def CAP_TRGt_STAT.FIRED : Field := ⟨Reg.CAP_TRGt_STAT, 1, 1⟩
def CAP_TRGt_STAT.ACTIVE : Field := ⟨Reg.CAP_TRGt_STAT, 0, 1⟩
def CAP_TRGt_CNT.SENT : Field := ⟨Reg.CAP_TRGt_CNT, 16, 16⟩
def CAP_TRGt_CNT.FIRED_CNT : Field := ⟨Reg.CAP_TRGt_CNT, 0, 16⟩
def CAP_TRGt_LAST_LO.NT_LO : Field := ⟨Reg.CAP_TRGt_LAST_LO, 0, 32⟩
def CAP_TRGt_LAST_HI.ORIGIN : Field := ⟨Reg.CAP_TRGt_LAST_HI, 16, 8⟩
def CAP_TRGt_LAST_HI.NT_HI : Field := ⟨Reg.CAP_TRGt_LAST_HI, 0, 16⟩
def CAP_TRGt_LOSS.LATE_CNT : Field := ⟨Reg.CAP_TRGt_LOSS, 16, 16⟩
def CAP_TRGt_LOSS.HOLD_CNT : Field := ⟨Reg.CAP_TRGt_LOSS, 0, 16⟩
def CAP_Ee_CFG.D_LOG2 : Field := ⟨Reg.CAP_Ee_CFG, 24, 4⟩
def CAP_Ee_CFG.SEGMENTS : Field := ⟨Reg.CAP_Ee_CFG, 16, 8⟩
def CAP_Ee_CFG.AVG_K : Field := ⟨Reg.CAP_Ee_CFG, 12, 4⟩
def CAP_Ee_CFG.REMOTE : Field := ⟨Reg.CAP_Ee_CFG, 11, 1⟩
def CAP_Ee_CFG.N_CH : Field := ⟨Reg.CAP_Ee_CFG, 0, 11⟩
def CAP_Ee_GEOM.CS : Field := ⟨Reg.CAP_Ee_GEOM, 0, 32⟩
def CAP_Ee_STAT.PRCLAMP : Field := ⟨Reg.CAP_Ee_STAT, 7, 1⟩
def CAP_Ee_STAT.PTCLAMP : Field := ⟨Reg.CAP_Ee_STAT, 6, 1⟩
def CAP_Ee_STAT.ARM_DROP : Field := ⟨Reg.CAP_Ee_STAT, 5, 1⟩
def CAP_Ee_STAT.SEG_DONE : Field := ⟨Reg.CAP_Ee_STAT, 4, 1⟩
def CAP_Ee_STAT.STATE : Field := ⟨Reg.CAP_Ee_STAT, 0, 4⟩
def CAP_Ee_PRE.PRE : Field := ⟨Reg.CAP_Ee_PRE, 0, 32⟩
def CAP_Ee_POST.POST : Field := ⟨Reg.CAP_Ee_POST, 0, 32⟩
def CAP_Ee_CTRL.ABORT : Field := ⟨Reg.CAP_Ee_CTRL, 1, 1⟩
def CAP_Ee_CTRL.ARM : Field := ⟨Reg.CAP_Ee_CTRL, 0, 1⟩
def CAP_Ee_SEG.DONE : Field := ⟨Reg.CAP_Ee_SEG, 8, 8⟩
def CAP_Ee_SEG.CUR : Field := ⟨Reg.CAP_Ee_SEG, 0, 8⟩
def CAP_Ee_WPTR.POS : Field := ⟨Reg.CAP_Ee_WPTR, 0, 32⟩
def CAP_Ee_CNT.IGNORED : Field := ⟨Reg.CAP_Ee_CNT, 16, 16⟩
def CAP_Ee_CNT.EARLY : Field := ⟨Reg.CAP_Ee_CNT, 0, 16⟩
def CAP_Ee_DSEL.SEG : Field := ⟨Reg.CAP_Ee_DSEL, 0, 8⟩
def CAP_Ee_DESCw.DATA : Field := ⟨Reg.CAP_Ee_DESCw, 0, 32⟩
def LOOP_Sn_CFG.ACTIVE : Field := ⟨Reg.LOOP_Sn_CFG, 31, 1⟩
def LOOP_Sn_CFG.CMD_LB : Field := ⟨Reg.LOOP_Sn_CFG, 30, 1⟩
def LOOP_Sn_CFG.ALT : Field := ⟨Reg.LOOP_Sn_CFG, 29, 1⟩
def LOOP_Sn_CFG.CASCADE : Field := ⟨Reg.LOOP_Sn_CFG, 28, 1⟩
def LOOP_Sn_CFG.FF_MODE : Field := ⟨Reg.LOOP_Sn_CFG, 19, 2⟩
def LOOP_Sn_CFG.LUT_EN : Field := ⟨Reg.LOOP_Sn_CFG, 18, 1⟩
def LOOP_Sn_CFG.LOSS_POLICY : Field := ⟨Reg.LOOP_Sn_CFG, 16, 2⟩
def LOOP_Sn_CFG.PHASE : Field := ⟨Reg.LOOP_Sn_CFG, 8, 8⟩
def LOOP_Sn_CFG.M_MINUS1 : Field := ⟨Reg.LOOP_Sn_CFG, 0, 8⟩
def LOOP_Sn_KP.MANT : Field := ⟨Reg.LOOP_Sn_KP, 8, 24⟩
def LOOP_Sn_KP.EXP : Field := ⟨Reg.LOOP_Sn_KP, 0, 6⟩
def LOOP_Sn_KI.MANT : Field := ⟨Reg.LOOP_Sn_KI, 8, 24⟩
def LOOP_Sn_KI.EXP : Field := ⟨Reg.LOOP_Sn_KI, 0, 6⟩
def LOOP_Sn_KD.MANT : Field := ⟨Reg.LOOP_Sn_KD, 8, 24⟩
def LOOP_Sn_KD.EXP : Field := ⟨Reg.LOOP_Sn_KD, 0, 6⟩
def LOOP_Sn_KFF.MANT : Field := ⟨Reg.LOOP_Sn_KFF, 8, 24⟩
def LOOP_Sn_KFF.EXP : Field := ⟨Reg.LOOP_Sn_KFF, 0, 6⟩
def LOOP_Sn_LIM_LO.LIMIT : Field := ⟨Reg.LOOP_Sn_LIM_LO, 0, 32⟩
def LOOP_Sn_LIM_HI.LIMIT : Field := ⟨Reg.LOOP_Sn_LIM_HI, 0, 32⟩
def LOOP_Sn_RAMP.RAMP_RATE : Field := ⟨Reg.LOOP_Sn_RAMP, 0, 24⟩
def LOOP_Sn_FRZ.RUN : Field := ⟨Reg.LOOP_Sn_FRZ, 16, 16⟩
def LOOP_Sn_FRZ.FREEZE_K : Field := ⟨Reg.LOOP_Sn_FRZ, 0, 12⟩
def LOOP_Sn_STAT.CLEAN : Field := ⟨Reg.LOOP_Sn_STAT, 16, 16⟩
def LOOP_Sn_STAT.GAIN_PEND : Field := ⟨Reg.LOOP_Sn_STAT, 11, 1⟩
def LOOP_Sn_STAT.FF_STALE : Field := ⟨Reg.LOOP_Sn_STAT, 10, 1⟩
def LOOP_Sn_STAT.CMD_INV : Field := ⟨Reg.LOOP_Sn_STAT, 9, 1⟩
def LOOP_Sn_STAT.CMD_HELD : Field := ⟨Reg.LOOP_Sn_STAT, 8, 1⟩
def LOOP_Sn_STAT.INT_FROZEN : Field := ⟨Reg.LOOP_Sn_STAT, 7, 1⟩
def LOOP_Sn_STAT.SAT_LO : Field := ⟨Reg.LOOP_Sn_STAT, 6, 1⟩
def LOOP_Sn_STAT.SAT_HI : Field := ⟨Reg.LOOP_Sn_STAT, 5, 1⟩
def LOOP_Sn_STAT.FB_FROZEN : Field := ⟨Reg.LOOP_Sn_STAT, 4, 1⟩
def LOOP_Sn_STAT.FB_LOST : Field := ⟨Reg.LOOP_Sn_STAT, 3, 1⟩
def LOOP_Sn_STAT.LSTATE : Field := ⟨Reg.LOOP_Sn_STAT, 0, 3⟩
def LOOP_Sn_EVT.LOCKSTEP : Field := ⟨Reg.LOOP_Sn_EVT, 7, 1⟩
def LOOP_Sn_EVT.CMD_OVF : Field := ⟨Reg.LOOP_Sn_EVT, 6, 1⟩
def LOOP_Sn_EVT.CMD_UNDERRUN : Field := ⟨Reg.LOOP_Sn_EVT, 5, 1⟩
def LOOP_Sn_EVT.CMD_INV : Field := ⟨Reg.LOOP_Sn_EVT, 4, 1⟩
def LOOP_Sn_EVT.SAT : Field := ⟨Reg.LOOP_Sn_EVT, 3, 1⟩
def LOOP_Sn_EVT.RETURN : Field := ⟨Reg.LOOP_Sn_EVT, 2, 1⟩
def LOOP_Sn_EVT.FREEZE : Field := ⟨Reg.LOOP_Sn_EVT, 1, 1⟩
def LOOP_Sn_EVT.LOSS : Field := ⟨Reg.LOOP_Sn_EVT, 0, 1⟩
def LOOP_Sn_CMD.CMD : Field := ⟨Reg.LOOP_Sn_CMD, 8, 24⟩
def LOOP_Sn_CMD_FIFO.CMD : Field := ⟨Reg.LOOP_Sn_CMD_FIFO, 8, 24⟩
def LOOP_Sn_FIFO.LEVEL : Field := ⟨Reg.LOOP_Sn_FIFO, 0, 9⟩
def LOOP_Sn_INT_LO.INT_LO : Field := ⟨Reg.LOOP_Sn_INT_LO, 0, 32⟩
def LOOP_Sn_INT_HI.INT_HI : Field := ⟨Reg.LOOP_Sn_INT_HI, 0, 24⟩
def LOOP_Sn_ERR.ERR : Field := ⟨Reg.LOOP_Sn_ERR, 0, 32⟩
def LOOP_Sn_SCHED.S : Field := ⟨Reg.LOOP_Sn_SCHED, 0, 32⟩
def LOOP_Sn_OUT.WORD : Field := ⟨Reg.LOOP_Sn_OUT, 0, 32⟩
def LOOP_Sn_FB.WORD : Field := ⟨Reg.LOOP_Sn_FB, 0, 32⟩
def LOOP_Sn_CNT.LOSS_CNT : Field := ⟨Reg.LOOP_Sn_CNT, 16, 16⟩
def LOOP_Sn_CNT.FREEZE_CNT : Field := ⟨Reg.LOOP_Sn_CNT, 0, 16⟩
def LOOP_Sn_CNT2.SAT_CNT : Field := ⟨Reg.LOOP_Sn_CNT2, 16, 16⟩
def LOOP_Sn_CNT2.LS_CNT : Field := ⟨Reg.LOOP_Sn_CNT2, 0, 16⟩
def LOOP_Sn_CTRL.BUMPLESS : Field := ⟨Reg.LOOP_Sn_CTRL, 2, 1⟩
def LOOP_Sn_CTRL.FIFO_FLUSH : Field := ⟨Reg.LOOP_Sn_CTRL, 1, 1⟩
def LOOP_Sn_CTRL.CNT_CLR : Field := ⟨Reg.LOOP_Sn_CTRL, 0, 1⟩
def LOOP_Sn_LUTj.ENTRY : Field := ⟨Reg.LOOP_Sn_LUTj, 0, 32⟩
def LOOP_ENG_STAT.SLOT : Field := ⟨Reg.LOOP_ENG_STAT, 16, 6⟩
def LOOP_ENG_STAT.FAIL : Field := ⟨Reg.LOOP_ENG_STAT, 1, 1⟩
def LOOP_ENG_STAT.MISMATCH : Field := ⟨Reg.LOOP_ENG_STAT, 0, 1⟩
def LOOP_ENG_LS.RETRY_OK : Field := ⟨Reg.LOOP_ENG_LS, 16, 16⟩
def LOOP_ENG_LS.FAIL_CNT : Field := ⟨Reg.LOOP_ENG_LS, 0, 16⟩
def LOOP_ENG_LS_FRAME.FRAME_LO : Field := ⟨Reg.LOOP_ENG_LS_FRAME, 0, 32⟩
def LOOP_ENG_LOAD.WORST : Field := ⟨Reg.LOOP_ENG_LOAD, 16, 16⟩
def LOOP_ENG_LOAD.LAST : Field := ⟨Reg.LOOP_ENG_LOAD, 0, 16⟩
def SLU_Oo_CFG.ACTIVE : Field := ⟨Reg.SLU_Oo_CFG, 31, 1⟩
def SLU_Oo_CFG.N_REM : Field := ⟨Reg.SLU_Oo_CFG, 16, 3⟩
def SLU_Oo_CFG.K_S : Field := ⟨Reg.SLU_Oo_CFG, 8, 7⟩
def SLU_Oo_CFG.HOLD_FRAMES : Field := ⟨Reg.SLU_Oo_CFG, 0, 6⟩
def SLU_Oo_PARK.PARK : Field := ⟨Reg.SLU_Oo_PARK, 8, 24⟩
def SLU_Oo_STAT.WIN_HUB : Field := ⟨Reg.SLU_Oo_STAT, 24, 8⟩
def SLU_Oo_STAT.WIN_SRC : Field := ⟨Reg.SLU_Oo_STAT, 20, 4⟩
def SLU_Oo_STAT.HOLD_CNT : Field := ⟨Reg.SLU_Oo_STAT, 8, 8⟩
def SLU_Oo_STAT.FORCED : Field := ⟨Reg.SLU_Oo_STAT, 3, 1⟩
def SLU_Oo_STAT.STATE : Field := ⟨Reg.SLU_Oo_STAT, 0, 3⟩
def SLU_Oo_EVT.FAULT : Field := ⟨Reg.SLU_Oo_EVT, 4, 1⟩
def SLU_Oo_EVT.RANK_BAD : Field := ⟨Reg.SLU_Oo_EVT, 3, 1⟩
def SLU_Oo_EVT.PARK : Field := ⟨Reg.SLU_Oo_EVT, 2, 1⟩
def SLU_Oo_EVT.HOLD : Field := ⟨Reg.SLU_Oo_EVT, 1, 1⟩
def SLU_Oo_EVT.HANDOVER : Field := ⟨Reg.SLU_Oo_EVT, 0, 1⟩
def SLU_Oo_WIN.CLAIM : Field := ⟨Reg.SLU_Oo_WIN, 0, 16⟩
def SLU_Oo_APPLIED.WORD : Field := ⟨Reg.SLU_Oo_APPLIED, 0, 32⟩
def SLU_Oo_CNT.HO_CNT : Field := ⟨Reg.SLU_Oo_CNT, 16, 16⟩
def SLU_Oo_CNT.PARK_CNT : Field := ⟨Reg.SLU_Oo_CNT, 0, 16⟩
def SLU_Oo_CNT2.LATE_CNT : Field := ⟨Reg.SLU_Oo_CNT2, 16, 16⟩
def SLU_Oo_CNT2.RANK_BAD : Field := ⟨Reg.SLU_Oo_CNT2, 0, 16⟩
def SLU_Oo_MEAS.MV : Field := ⟨Reg.SLU_Oo_MEAS, 0, 32⟩
def SLU_Oo_CTRL.CNT_CLR : Field := ⟨Reg.SLU_Oo_CTRL, 0, 1⟩
def SLU_HEALTH.COND : Field := ⟨Reg.SLU_HEALTH, 16, 16⟩
def SLU_HEALTH.H : Field := ⟨Reg.SLU_HEALTH, 0, 8⟩
def SLU_WD.RET_CNT : Field := ⟨Reg.SLU_WD, 16, 16⟩
def SLU_WD.SD : Field := ⟨Reg.SLU_WD, 2, 1⟩
def SLU_WD.HEALTH : Field := ⟨Reg.SLU_WD, 1, 1⟩
def SLU_WD.CLAIMING : Field := ⟨Reg.SLU_WD, 0, 1⟩
def SLU_EVT.PARTNER : Field := ⟨Reg.SLU_EVT, 3, 1⟩
def SLU_EVT.SD_WD : Field := ⟨Reg.SLU_EVT, 2, 1⟩
def SLU_EVT.HEALTH_RET : Field := ⟨Reg.SLU_EVT, 1, 1⟩
def SLU_EVT.HEALTH_WD : Field := ⟨Reg.SLU_EVT, 0, 1⟩
def SLU_CLAIM_TX.SENT : Field := ⟨Reg.SLU_CLAIM_TX, 0, 32⟩
def LANE_Ln_STAT.STATE : Field := ⟨Reg.LANE_Ln_STAT, 24, 4⟩
def LANE_Ln_STAT.PSTATE : Field := ⟨Reg.LANE_Ln_STAT, 22, 2⟩
def LANE_Ln_STAT.RATE : Field := ⟨Reg.LANE_Ln_STAT, 20, 2⟩
def LANE_Ln_STAT.MODE8B : Field := ⟨Reg.LANE_Ln_STAT, 19, 1⟩
def LANE_Ln_STAT.FROZEN : Field := ⟨Reg.LANE_Ln_STAT, 18, 1⟩
def LANE_Ln_STAT.MEMBER : Field := ⟨Reg.LANE_Ln_STAT, 17, 1⟩
def LANE_Ln_STAT.BLOCK_LOCK : Field := ⟨Reg.LANE_Ln_STAT, 16, 1⟩
def LANE_Ln_STAT.PEER_PORT : Field := ⟨Reg.LANE_Ln_STAT, 10, 1⟩
def LANE_Ln_STAT.PEER_LANE : Field := ⟨Reg.LANE_Ln_STAT, 8, 2⟩
def LANE_Ln_STAT.PEER_VALID : Field := ⟨Reg.LANE_Ln_STAT, 0, 1⟩
def LANE_Ln_EVT.PEER_MISMATCH : Field := ⟨Reg.LANE_Ln_EVT, 8, 1⟩
def LANE_Ln_EVT.PRBS_RESYNC : Field := ⟨Reg.LANE_Ln_EVT, 7, 1⟩
def LANE_Ln_EVT.TAP_BOUND : Field := ⟨Reg.LANE_Ln_EVT, 6, 1⟩
def LANE_Ln_EVT.FREEZE : Field := ⟨Reg.LANE_Ln_EVT, 5, 1⟩
def LANE_Ln_EVT.ERR_LIMIT : Field := ⟨Reg.LANE_Ln_EVT, 4, 1⟩
def LANE_Ln_EVT.LOCK_LOSS : Field := ⟨Reg.LANE_Ln_EVT, 3, 1⟩
def LANE_Ln_EVT.CHECK_FAIL : Field := ⟨Reg.LANE_Ln_EVT, 2, 1⟩
def LANE_Ln_EVT.JOIN : Field := ⟨Reg.LANE_Ln_EVT, 1, 1⟩
def LANE_Ln_EVT.DROP : Field := ⟨Reg.LANE_Ln_EVT, 0, 1⟩
def LANE_Ln_ERR.SH_ERR : Field := ⟨Reg.LANE_Ln_ERR, 16, 16⟩
def LANE_Ln_ERR.BLK_ERR : Field := ⟨Reg.LANE_Ln_ERR, 0, 16⟩
def LANE_Ln_WIN.DROP_CNT : Field := ⟨Reg.LANE_Ln_WIN, 16, 16⟩
def LANE_Ln_WIN.WIN_ERR : Field := ⟨Reg.LANE_Ln_WIN, 0, 16⟩
def LANE_Ln_EQ.FFE_PRE : Field := ⟨Reg.LANE_Ln_EQ, 24, 4⟩
def LANE_Ln_EQ.FFE_MAIN : Field := ⟨Reg.LANE_Ln_EQ, 16, 6⟩
def LANE_Ln_EQ.FFE_POST : Field := ⟨Reg.LANE_Ln_EQ, 8, 5⟩
def LANE_Ln_EQ.CTLE : Field := ⟨Reg.LANE_Ln_EQ, 0, 4⟩
def LANE_Ln_DFE.TAP5 : Field := ⟨Reg.LANE_Ln_DFE, 24, 6⟩
def LANE_Ln_DFE.TAP4 : Field := ⟨Reg.LANE_Ln_DFE, 18, 6⟩
def LANE_Ln_DFE.TAP3 : Field := ⟨Reg.LANE_Ln_DFE, 12, 6⟩
def LANE_Ln_DFE.TAP2 : Field := ⟨Reg.LANE_Ln_DFE, 6, 6⟩
def LANE_Ln_DFE.TAP1 : Field := ⟨Reg.LANE_Ln_DFE, 0, 6⟩
def LANE_Ln_ADAPT.TD : Field := ⟨Reg.LANE_Ln_ADAPT, 16, 8⟩
def LANE_Ln_ADAPT.DIV : Field := ⟨Reg.LANE_Ln_ADAPT, 0, 7⟩
def LANE_Ln_TEST.LOOP : Field := ⟨Reg.LANE_Ln_TEST, 8, 2⟩
def LANE_Ln_TEST.CHK : Field := ⟨Reg.LANE_Ln_TEST, 4, 3⟩
def LANE_Ln_TEST.GEN : Field := ⟨Reg.LANE_Ln_TEST, 0, 3⟩
def LANE_Ln_PRBS_ERR.ERR : Field := ⟨Reg.LANE_Ln_PRBS_ERR, 0, 32⟩
def LANE_Ln_PRBS_BITS.BITS : Field := ⟨Reg.LANE_Ln_PRBS_BITS, 0, 32⟩
def LANE_Ln_CTRL.CNT_CLR : Field := ⟨Reg.LANE_Ln_CTRL, 1, 1⟩
def LANE_Ln_CTRL.PRBS_CLR : Field := ⟨Reg.LANE_Ln_CTRL, 0, 1⟩
def LANE_Ln_RETR.RETRAIN_CNT : Field := ⟨Reg.LANE_Ln_RETR, 16, 16⟩
def LANE_Ln_RETR.CHECK_ERR : Field := ⟨Reg.LANE_Ln_RETR, 0, 16⟩
def LANE_Pp_STAT.SPARE : Field := ⟨Reg.LANE_Pp_STAT, 24, 4⟩
def LANE_Pp_STAT.ACTIVE : Field := ⟨Reg.LANE_Pp_STAT, 20, 4⟩
def LANE_Pp_STAT.TS_LANE : Field := ⟨Reg.LANE_Pp_STAT, 18, 2⟩
def LANE_Pp_STAT.RATE : Field := ⟨Reg.LANE_Pp_STAT, 16, 2⟩
def LANE_Pp_STAT.LEAF : Field := ⟨Reg.LANE_Pp_STAT, 11, 1⟩
def LANE_Pp_STAT.MISMATCH : Field := ⟨Reg.LANE_Pp_STAT, 10, 1⟩
def LANE_Pp_STAT.UP : Field := ⟨Reg.LANE_Pp_STAT, 9, 1⟩
def LANE_Pp_STAT.SKEW : Field := ⟨Reg.LANE_Pp_STAT, 0, 8⟩
def LANE_Pp_CNT.DOWN_CNT : Field := ⟨Reg.LANE_Pp_CNT, 16, 16⟩
def LANE_Pp_CNT.SET_CNT : Field := ⟨Reg.LANE_Pp_CNT, 0, 16⟩
def LANE_POL.ERR_LIMIT : Field := ⟨Reg.LANE_POL, 16, 16⟩
def LANE_POL.TD_MIN : Field := ⟨Reg.LANE_POL, 8, 8⟩
def LANE_POL.DIV_MIN : Field := ⟨Reg.LANE_POL, 0, 7⟩
def LANE_LFp_CNT.CRC_CNT : Field := ⟨Reg.LANE_LFp_CNT, 16, 16⟩
def LANE_LFp_CNT.FRAME_CNT : Field := ⟨Reg.LANE_LFp_CNT, 0, 16⟩
def LANE_LFp_STAT.SEQ : Field := ⟨Reg.LANE_LFp_STAT, 16, 16⟩
def LANE_LFp_STAT.TIMEOUT : Field := ⟨Reg.LANE_LFp_STAT, 1, 1⟩
def LANE_LFp_STAT.SYNC : Field := ⟨Reg.LANE_LFp_STAT, 0, 1⟩
def RING_STAT.HUB_ID : Field := ⟨Reg.RING_STAT, 24, 8⟩
def RING_STAT.IDSRC : Field := ⟨Reg.RING_STAT, 22, 2⟩
def RING_STAT.TOPO : Field := ⟨Reg.RING_STAT, 20, 2⟩
def RING_STAT.DISC_N : Field := ⟨Reg.RING_STAT, 8, 8⟩
def RING_STAT.QUAR_ID : Field := ⟨Reg.RING_STAT, 5, 1⟩
def RING_STAT.MISWIRE : Field := ⟨Reg.RING_STAT, 4, 1⟩
def RING_STAT.ORDER_OK : Field := ⟨Reg.RING_STAT, 3, 1⟩
def RING_STAT.DISC_DONE : Field := ⟨Reg.RING_STAT, 2, 1⟩
def RING_STAT.WEST_UP : Field := ⟨Reg.RING_STAT, 1, 1⟩
def RING_STAT.EAST_UP : Field := ⟨Reg.RING_STAT, 0, 1⟩
def RING_EVT.UNKNOWN : Field := ⟨Reg.RING_EVT, 9, 1⟩
def RING_EVT.RETRY_OVR : Field := ⟨Reg.RING_EVT, 8, 1⟩
def RING_EVT.TTL : Field := ⟨Reg.RING_EVT, 7, 1⟩
def RING_EVT.OVERSIZE : Field := ⟨Reg.RING_EVT, 6, 1⟩
def RING_EVT.COLLISION : Field := ⟨Reg.RING_EVT, 5, 1⟩
def RING_EVT.MISWIRE : Field := ⟨Reg.RING_EVT, 4, 1⟩
def RING_EVT.ORDER_MISMATCH : Field := ⟨Reg.RING_EVT, 3, 1⟩
def RING_EVT.HUB_BACK : Field := ⟨Reg.RING_EVT, 2, 1⟩
def RING_EVT.HUB_LOST : Field := ⟨Reg.RING_EVT, 1, 1⟩
def RING_EVT.TOPO_CHANGE : Field := ⟨Reg.RING_EVT, 0, 1⟩
def RING_CTRL.CNT_CLR : Field := ⟨Reg.RING_CTRL, 0, 1⟩
def RING_POL.SILENT_MS : Field := ⟨Reg.RING_POL, 16, 16⟩
def RING_POL.RETX_TIMEOUT_NS : Field := ⟨Reg.RING_POL, 0, 16⟩
def RING_MGMT.RELAY_CNT : Field := ⟨Reg.RING_MGMT, 16, 16⟩
def RING_MGMT.TIMEOUT_CNT : Field := ⟨Reg.RING_MGMT, 0, 16⟩
def RING_MISC.TTL_CNT : Field := ⟨Reg.RING_MISC, 24, 8⟩
def RING_MISC.UNKNOWN_CNT : Field := ⟨Reg.RING_MISC, 16, 8⟩
def RING_MISC.DUP_CNT : Field := ⟨Reg.RING_MISC, 0, 16⟩
def RING_Pp_STAT.UP : Field := ⟨Reg.RING_Pp_STAT, 31, 1⟩
def RING_Pp_STAT.RETRY_OVR : Field := ⟨Reg.RING_Pp_STAT, 30, 1⟩
def RING_Pp_STAT.FLUSHED : Field := ⟨Reg.RING_Pp_STAT, 29, 1⟩
def RING_Pp_STAT.LEVEL : Field := ⟨Reg.RING_Pp_STAT, 0, 19⟩
def RING_Pp_LSEQ.NEXT : Field := ⟨Reg.RING_Pp_LSEQ, 16, 16⟩
def RING_Pp_LSEQ.MARK : Field := ⟨Reg.RING_Pp_LSEQ, 0, 16⟩
def RING_Pp_TX.FRAMES : Field := ⟨Reg.RING_Pp_TX, 0, 32⟩
def RING_Pp_RX.FRAMES : Field := ⟨Reg.RING_Pp_RX, 0, 32⟩
def RING_Pp_ERR.CRC_ERR : Field := ⟨Reg.RING_Pp_ERR, 16, 16⟩
def RING_Pp_ERR.STOMP : Field := ⟨Reg.RING_Pp_ERR, 0, 16⟩
def RING_Pp_RETX.NAK_RX : Field := ⟨Reg.RING_Pp_RETX, 16, 16⟩
def RING_Pp_RETX.RETX_CNT : Field := ⟨Reg.RING_Pp_RETX, 0, 16⟩
def RING_Pp_OVR.OVR_CNT : Field := ⟨Reg.RING_Pp_OVR, 16, 16⟩
def RING_Pp_OVR.FLUSH_CNT : Field := ⟨Reg.RING_Pp_OVR, 0, 16⟩
def RING_Pp_CAP.CAP_DROP : Field := ⟨Reg.RING_Pp_CAP, 16, 16⟩
def RING_Pp_CAP.LINKDUP : Field := ⟨Reg.RING_Pp_CAP, 0, 16⟩
def RING_Pp_RET.RETURN : Field := ⟨Reg.RING_Pp_RET, 16, 16⟩
def RING_Pp_RET.NAK_TX : Field := ⟨Reg.RING_Pp_RET, 0, 16⟩
def RING_STRs_SEQ.SEQ : Field := ⟨Reg.RING_STRs_SEQ, 0, 32⟩
def RING_STRs_CNT.CAP_DROP : Field := ⟨Reg.RING_STRs_CNT, 16, 16⟩
def RING_STRs_CNT.SENT : Field := ⟨Reg.RING_STRs_CNT, 0, 16⟩
def RING_Hh.PRESENT : Field := ⟨Reg.RING_Hh, 31, 1⟩
def RING_Hh.SILENT : Field := ⟨Reg.RING_Hh, 30, 1⟩
def RING_Hh.QUAR : Field := ⟨Reg.RING_Hh, 29, 1⟩
def RING_Hh.STATE : Field := ⟨Reg.RING_Hh, 26, 3⟩
def RING_Hh.ASSIGNED : Field := ⟨Reg.RING_Hh, 25, 1⟩
def RING_Hh.AGE_MS : Field := ⟨Reg.RING_Hh, 0, 16⟩
def RING_HSEL.HUB : Field := ⟨Reg.RING_HSEL, 0, 7⟩
def RING_HWk.DATA : Field := ⟨Reg.RING_HWk, 0, 32⟩
def RING_DISCi_Wj.DATA : Field := ⟨Reg.RING_DISCi_Wj, 0, 32⟩
def RING_CFk_ID.ACTIVE : Field := ⟨Reg.RING_CFk_ID, 31, 1⟩
def RING_CFk_ID.SRC_LOST : Field := ⟨Reg.RING_CFk_ID, 30, 1⟩
def RING_CFk_ID.STREAM : Field := ⟨Reg.RING_CFk_ID, 8, 6⟩
def RING_CFk_ID.HUB : Field := ⟨Reg.RING_CFk_ID, 0, 7⟩
def RING_CFk_HIGH.H : Field := ⟨Reg.RING_CFk_HIGH, 0, 32⟩
def RING_CFk_LOSS.LATE_CNT : Field := ⟨Reg.RING_CFk_LOSS, 16, 16⟩
def RING_CFk_LOSS.LOST_CNT : Field := ⟨Reg.RING_CFk_LOSS, 0, 16⟩
def RING_CFk_DUP.DUP_CNT : Field := ⟨Reg.RING_CFk_DUP, 16, 16⟩
def RING_CFk_DUP.FIRST_W : Field := ⟨Reg.RING_CFk_DUP, 0, 16⟩
def RING_MRSP_VALIDj.VALID : Field := ⟨Reg.RING_MRSP_VALIDj, 0, 32⟩
def RING_MRSPh_Wk.DATA : Field := ⟨Reg.RING_MRSPh_Wk, 0, 32⟩
def FLD_Pp_STAT.PSTAT : Field := ⟨Reg.FLD_Pp_STAT, 16, 16⟩
def FLD_Pp_STAT.TDOWN_VALID : Field := ⟨Reg.FLD_Pp_STAT, 9, 1⟩
def FLD_Pp_STAT.PWREN : Field := ⟨Reg.FLD_Pp_STAT, 8, 1⟩
def FLD_Pp_STAT.UP_SYNC : Field := ⟨Reg.FLD_Pp_STAT, 7, 1⟩
def FLD_Pp_STAT.DN_ON : Field := ⟨Reg.FLD_Pp_STAT, 6, 1⟩
def FLD_Pp_STAT.LSTATE : Field := ⟨Reg.FLD_Pp_STAT, 0, 4⟩
def FLD_Pp_EVT.CMD_FAIL : Field := ⟨Reg.FLD_Pp_EVT, 7, 1⟩
def FLD_Pp_EVT.TDOWN_JUMP : Field := ⟨Reg.FLD_Pp_EVT, 6, 1⟩
def FLD_Pp_EVT.NOLOAD : Field := ⟨Reg.FLD_Pp_EVT, 5, 1⟩
def FLD_Pp_EVT.OC : Field := ⟨Reg.FLD_Pp_EVT, 4, 1⟩
def FLD_Pp_EVT.FOREIGN : Field := ⟨Reg.FLD_Pp_EVT, 3, 1⟩
def FLD_Pp_EVT.BOUND : Field := ⟨Reg.FLD_Pp_EVT, 2, 1⟩
def FLD_Pp_EVT.DETACH : Field := ⟨Reg.FLD_Pp_EVT, 1, 1⟩
def FLD_Pp_EVT.ATTACH : Field := ⟨Reg.FLD_Pp_EVT, 0, 1⟩
def FLD_Pp_SERIAL_LO.SERIAL : Field := ⟨Reg.FLD_Pp_SERIAL_LO, 0, 32⟩
def FLD_Pp_SERIAL_HI.SERIAL : Field := ⟨Reg.FLD_Pp_SERIAL_HI, 0, 32⟩
def FLD_Pp_TYPE.POD_TYPE : Field := ⟨Reg.FLD_Pp_TYPE, 16, 16⟩
def FLD_Pp_TYPE.REJ : Field := ⟨Reg.FLD_Pp_TYPE, 12, 4⟩
def FLD_Pp_TYPE.K : Field := ⟨Reg.FLD_Pp_TYPE, 8, 4⟩
def FLD_Pp_TYPE.N_OUT : Field := ⟨Reg.FLD_Pp_TYPE, 0, 3⟩
def FLD_Pp_TDOWN.TDOWN : Field := ⟨Reg.FLD_Pp_TDOWN, 0, 32⟩
def FLD_Pp_CABLE.CABLE : Field := ⟨Reg.FLD_Pp_CABLE, 0, 32⟩
def FLD_Pp_ISNS.PEAK : Field := ⟨Reg.FLD_Pp_ISNS, 16, 16⟩
def FLD_Pp_ISNS.MEAN : Field := ⟨Reg.FLD_Pp_ISNS, 0, 16⟩
def FLD_Pp_CNT.SLICE_MISS : Field := ⟨Reg.FLD_Pp_CNT, 16, 16⟩
def FLD_Pp_CNT.TICK_MISS : Field := ⟨Reg.FLD_Pp_CNT, 0, 16⟩
def FLD_Pp_CNT2.OC_CNT : Field := ⟨Reg.FLD_Pp_CNT2, 24, 8⟩
def FLD_Pp_CNT2.RANGE_ERR : Field := ⟨Reg.FLD_Pp_CNT2, 16, 8⟩
def FLD_Pp_CNT2.ATTACH_CNT : Field := ⟨Reg.FLD_Pp_CNT2, 0, 16⟩
def FLD_Pp_BUDGET.A : Field := ⟨Reg.FLD_Pp_BUDGET, 16, 16⟩
def FLD_Pp_BUDGET.U : Field := ⟨Reg.FLD_Pp_BUDGET, 0, 16⟩
def FLD_Pp_ECHO.ARR : Field := ⟨Reg.FLD_Pp_ECHO, 16, 16⟩
def FLD_Pp_ECHO.ECHO : Field := ⟨Reg.FLD_Pp_ECHO, 0, 16⟩
def FLD_Pp_CTRL.CNT_CLR : Field := ⟨Reg.FLD_Pp_CTRL, 0, 1⟩
def FLD_Pp_DESCk.DATA : Field := ⟨Reg.FLD_Pp_DESCk, 0, 32⟩
def FLD_STAT.POWERED : Field := ⟨Reg.FLD_STAT, 16, 16⟩
def FLD_STAT.BOUND : Field := ⟨Reg.FLD_STAT, 0, 16⟩
def QUE_Qq_CFG.ACTIVE : Field := ⟨Reg.QUE_Qq_CFG, 31, 1⟩
def QUE_Qq_CFG.CONSUMER : Field := ⟨Reg.QUE_Qq_CFG, 30, 1⟩
def QUE_Qq_CFG.BOUND : Field := ⟨Reg.QUE_Qq_CFG, 29, 1⟩
def QUE_Qq_CFG.SIZE_LOG2 : Field := ⟨Reg.QUE_Qq_CFG, 24, 5⟩
def QUE_Qq_CFG.BASE : Field := ⟨Reg.QUE_Qq_CFG, 0, 19⟩
def QUE_Qq_WPTR.PTR : Field := ⟨Reg.QUE_Qq_WPTR, 0, 19⟩
def QUE_Qq_RPTR.PTR : Field := ⟨Reg.QUE_Qq_RPTR, 0, 19⟩
def QUE_Qq_LEVEL.LEVEL : Field := ⟨Reg.QUE_Qq_LEVEL, 0, 19⟩
def QUE_Qq_WM_HI.WM : Field := ⟨Reg.QUE_Qq_WM_HI, 0, 19⟩
def QUE_Qq_WM_LO.WM : Field := ⟨Reg.QUE_Qq_WM_LO, 0, 19⟩
def QUE_Qq_WMSTAT.XCNT : Field := ⟨Reg.QUE_Qq_WMSTAT, 16, 8⟩
def QUE_Qq_WMSTAT.WMX : Field := ⟨Reg.QUE_Qq_WMSTAT, 1, 1⟩
def QUE_Qq_WMSTAT.WML : Field := ⟨Reg.QUE_Qq_WMSTAT, 0, 1⟩
def QUE_Qq_STAT.STALE : Field := ⟨Reg.QUE_Qq_STAT, 3, 1⟩
def QUE_Qq_STAT.POISON : Field := ⟨Reg.QUE_Qq_STAT, 2, 1⟩
def QUE_Qq_STAT.GAP : Field := ⟨Reg.QUE_Qq_STAT, 1, 1⟩
def QUE_Qq_STAT.TIMER : Field := ⟨Reg.QUE_Qq_STAT, 0, 1⟩
def QUE_Qq_CNT.DROP : Field := ⟨Reg.QUE_Qq_CNT, 16, 16⟩
def QUE_Qq_CNT.POISON_CNT : Field := ⟨Reg.QUE_Qq_CNT, 0, 16⟩
def QUE_Qq_CNT2.STALE_CNT : Field := ⟨Reg.QUE_Qq_CNT2, 16, 16⟩
def QUE_Qq_CNT2.EMPTY_CNT : Field := ⟨Reg.QUE_Qq_CNT2, 0, 16⟩
def QUE_Qq_STALE.STALE_US : Field := ⟨Reg.QUE_Qq_STALE, 0, 20⟩
def QUE_Qq_CTRL.FLUSH : Field := ⟨Reg.QUE_Qq_CTRL, 1, 1⟩
def QUE_Qq_CTRL.CNT_CLR : Field := ⟨Reg.QUE_Qq_CTRL, 0, 1⟩
def QUE_Qq_POP_LO.DATA : Field := ⟨Reg.QUE_Qq_POP_LO, 0, 32⟩
def QUE_Qq_POP_HI.DATA : Field := ⟨Reg.QUE_Qq_POP_HI, 0, 32⟩
def QUE_Qq_POP_STAT.REFUSED : Field := ⟨Reg.QUE_Qq_POP_STAT, 3, 1⟩
def QUE_Qq_POP_STAT.EMPTY : Field := ⟨Reg.QUE_Qq_POP_STAT, 2, 1⟩
def QUE_Qq_POP_STAT.POISON : Field := ⟨Reg.QUE_Qq_POP_STAT, 1, 1⟩
def QUE_Qq_POP_STAT.MARKER : Field := ⟨Reg.QUE_Qq_POP_STAT, 0, 1⟩
def QUE_SRAM.USED : Field := ⟨Reg.QUE_SRAM, 0, 20⟩
def QUE_STAT.WAIT_NS : Field := ⟨Reg.QUE_STAT, 1, 12⟩
def QUE_STAT.PARITY : Field := ⟨Reg.QUE_STAT, 0, 1⟩
def DMA_Rr_BASE_LO.ADDR : Field := ⟨Reg.DMA_Rr_BASE_LO, 5, 27⟩
def DMA_Rr_BASE_HI.ADDR_HI : Field := ⟨Reg.DMA_Rr_BASE_HI, 0, 32⟩
def DMA_Rr_CFG.ENABLE : Field := ⟨Reg.DMA_Rr_CFG, 31, 1⟩
def DMA_Rr_CFG.SIZE_LOG2 : Field := ⟨Reg.DMA_Rr_CFG, 24, 4⟩
def DMA_Rr_CFG.KIND : Field := ⟨Reg.DMA_Rr_CFG, 16, 2⟩
def DMA_Rr_CFG.SRC : Field := ⟨Reg.DMA_Rr_CFG, 0, 6⟩
def DMA_Rr_TAIL.INDEX : Field := ⟨Reg.DMA_Rr_TAIL, 0, 16⟩
def DMA_Rr_HEAD.INDEX : Field := ⟨Reg.DMA_Rr_HEAD, 0, 16⟩
def DMA_Rr_STAT.LAST_STATUS : Field := ⟨Reg.DMA_Rr_STAT, 16, 8⟩
def DMA_Rr_STAT.CFG_ERR : Field := ⟨Reg.DMA_Rr_STAT, 5, 1⟩
def DMA_Rr_STAT.TAIL_ERR : Field := ⟨Reg.DMA_Rr_STAT, 4, 1⟩
def DMA_Rr_STAT.DONE : Field := ⟨Reg.DMA_Rr_STAT, 3, 1⟩
def DMA_Rr_STAT.STATE : Field := ⟨Reg.DMA_Rr_STAT, 0, 2⟩
def DMA_Rr_CNT.ERR_CNT : Field := ⟨Reg.DMA_Rr_CNT, 16, 16⟩
def DMA_Rr_CNT.DONE_CNT : Field := ⟨Reg.DMA_Rr_CNT, 0, 16⟩
def DMA_Rr_BYTES.BYTES : Field := ⟨Reg.DMA_Rr_BYTES, 0, 32⟩
def DMA_PCIE_STAT.BME : Field := ⟨Reg.DMA_PCIE_STAT, 10, 1⟩
def DMA_PCIE_STAT.MSIX_EN : Field := ⟨Reg.DMA_PCIE_STAT, 9, 1⟩
def DMA_PCIE_STAT.LINK_UP : Field := ⟨Reg.DMA_PCIE_STAT, 8, 1⟩
def DMA_PCIE_STAT.WIDTH : Field := ⟨Reg.DMA_PCIE_STAT, 4, 4⟩
def DMA_PCIE_STAT.SPEED : Field := ⟨Reg.DMA_PCIE_STAT, 0, 4⟩
def DMA_PCIE_EVT.CPL_ERR : Field := ⟨Reg.DMA_PCIE_EVT, 3, 1⟩
def DMA_PCIE_EVT.FLR : Field := ⟨Reg.DMA_PCIE_EVT, 2, 1⟩
def DMA_PCIE_EVT.PERST : Field := ⟨Reg.DMA_PCIE_EVT, 1, 1⟩
def DMA_PCIE_EVT.LINK_DOWN : Field := ⟨Reg.DMA_PCIE_EVT, 0, 1⟩
def DMA_NSRCi.RING_EN : Field := ⟨Reg.DMA_NSRCi, 10, 1⟩
def DMA_NSRCi.IRQ_EN : Field := ⟨Reg.DMA_NSRCi, 9, 1⟩
def DMA_NSRCi.MSIX_EN : Field := ⟨Reg.DMA_NSRCi, 8, 1⟩
def DMA_NSRCi.VECTOR : Field := ⟨Reg.DMA_NSRCi, 0, 6⟩
def DMA_NPENDj.PEND : Field := ⟨Reg.DMA_NPENDj, 0, 32⟩
def DMA_RNTF_VALIDj.VALID : Field := ⟨Reg.DMA_RNTF_VALIDj, 0, 32⟩
def DMA_RNTFh_Wk.PEND : Field := ⟨Reg.DMA_RNTFh_Wk, 0, 32⟩
def WRG_Cj_CFG.ACTIVE : Field := ⟨Reg.WRG_Cj_CFG, 31, 1⟩
def WRG_Cj_CFG.SRC_QUEUE : Field := ⟨Reg.WRG_Cj_CFG, 16, 6⟩
def WRG_Cj_CFG.DST_RING : Field := ⟨Reg.WRG_Cj_CFG, 8, 5⟩
def WRG_Cj_CFG.DIR : Field := ⟨Reg.WRG_Cj_CFG, 7, 1⟩
def WRG_Cj_CFG.FIRST_DIFF : Field := ⟨Reg.WRG_Cj_CFG, 6, 1⟩
def WRG_Cj_CFG.WRAP : Field := ⟨Reg.WRG_Cj_CFG, 4, 2⟩
def WRG_Cj_CFG.LEVEL : Field := ⟨Reg.WRG_Cj_CFG, 0, 4⟩
def WRG_Cj_STAT.BUFS : Field := ⟨Reg.WRG_Cj_STAT, 16, 5⟩
def WRG_Cj_STAT.RESULT : Field := ⟨Reg.WRG_Cj_STAT, 8, 4⟩
def WRG_Cj_STAT.CUT_PEND : Field := ⟨Reg.WRG_Cj_STAT, 3, 1⟩
def WRG_Cj_STAT.WAIT_BUF : Field := ⟨Reg.WRG_Cj_STAT, 2, 1⟩
def WRG_Cj_STAT.WAIT_IN : Field := ⟨Reg.WRG_Cj_STAT, 1, 1⟩
def WRG_Cj_STAT.BUSY : Field := ⟨Reg.WRG_Cj_STAT, 0, 1⟩
def WRG_Cj_EVT.FAIL : Field := ⟨Reg.WRG_Cj_EVT, 1, 1⟩
def WRG_Cj_EVT.DONE : Field := ⟨Reg.WRG_Cj_EVT, 0, 1⟩
def WRG_Cj_LIMIT.LIMIT : Field := ⟨Reg.WRG_Cj_LIMIT, 0, 27⟩
def WRG_Cj_CLOSE_US.CLOSE_US : Field := ⟨Reg.WRG_Cj_CLOSE_US, 0, 20⟩
def WRG_Cj_MAXBUF.MAXBUF : Field := ⟨Reg.WRG_Cj_MAXBUF, 0, 5⟩
def WRG_Cj_IN.BYTES : Field := ⟨Reg.WRG_Cj_IN, 0, 32⟩
def WRG_Cj_OUT.BYTES : Field := ⟨Reg.WRG_Cj_OUT, 0, 32⟩
def WRG_Cj_CHECK.CHECK : Field := ⟨Reg.WRG_Cj_CHECK, 0, 32⟩
def WRG_Cj_CNT.FAIL_CNT : Field := ⟨Reg.WRG_Cj_CNT, 16, 16⟩
def WRG_Cj_CNT.JOB_CNT : Field := ⟨Reg.WRG_Cj_CNT, 0, 16⟩
def WRG_Cj_LOST.LOST : Field := ⟨Reg.WRG_Cj_LOST, 0, 32⟩
def WRG_Cj_CTRL.CNT_CLR : Field := ⟨Reg.WRG_Cj_CTRL, 2, 1⟩
def WRG_Cj_CTRL.ABORT : Field := ⟨Reg.WRG_Cj_CTRL, 1, 1⟩
def WRG_Cj_CTRL.CUT : Field := ⟨Reg.WRG_Cj_CTRL, 0, 1⟩
def WRG_Cj_END_LO.FRAME_LO : Field := ⟨Reg.WRG_Cj_END_LO, 0, 32⟩
def WRG_STAT.MEM_ERR : Field := ⟨Reg.WRG_STAT, 17, 1⟩
def WRG_STAT.LOADER : Field := ⟨Reg.WRG_STAT, 16, 1⟩
def WRG_STAT.BUSY : Field := ⟨Reg.WRG_STAT, 0, 16⟩
def SLT_STAT.LEVEL : Field := ⟨Reg.SLT_STAT, 16, 7⟩
def SLT_STAT.PFAIL : Field := ⟨Reg.SLT_STAT, 5, 1⟩
def SLT_STAT.CLEARING : Field := ⟨Reg.SLT_STAT, 4, 1⟩
def SLT_STAT.ARMED : Field := ⟨Reg.SLT_STAT, 3, 1⟩
def SLT_STAT.LIFE_FULL : Field := ⟨Reg.SLT_STAT, 2, 1⟩
def SLT_STAT.FULL : Field := ⟨Reg.SLT_STAT, 1, 1⟩
def SLT_STAT.WRITING : Field := ⟨Reg.SLT_STAT, 0, 1⟩
def SLT_EVT.UE : Field := ⟨Reg.SLT_EVT, 3, 1⟩
def SLT_EVT.SUPPR : Field := ⟨Reg.SLT_EVT, 2, 1⟩
def SLT_EVT.WARN : Field := ⟨Reg.SLT_EVT, 1, 1⟩
def SLT_EVT.FULL : Field := ⟨Reg.SLT_EVT, 0, 1⟩
def SLT_SVC_HEAD.HEAD : Field := ⟨Reg.SLT_SVC_HEAD, 0, 16⟩
def SLT_LIFE_HEAD.HEAD : Field := ⟨Reg.SLT_LIFE_HEAD, 0, 16⟩
def SLT_SEQ.NEXT : Field := ⟨Reg.SLT_SEQ, 0, 32⟩
def SLT_OPT_LO.OPT_LO : Field := ⟨Reg.SLT_OPT_LO, 0, 32⟩
def SLT_OPT_HI.OPT_HI : Field := ⟨Reg.SLT_OPT_HI, 0, 16⟩
def SLT_PCC.PCC : Field := ⟨Reg.SLT_PCC, 0, 32⟩
def SLT_FIFO_MAX.MAX : Field := ⟨Reg.SLT_FIFO_MAX, 0, 7⟩
def SLT_SUPPc.COUNT : Field := ⟨Reg.SLT_SUPPc, 0, 32⟩
def SLT_DROP.DROP : Field := ⟨Reg.SLT_DROP, 0, 32⟩
def SLT_ECC.UNCORR : Field := ⟨Reg.SLT_ECC, 16, 16⟩
def SLT_ECC.CORR : Field := ⟨Reg.SLT_ECC, 0, 16⟩
def SLT_CTRL.CNT_CLR : Field := ⟨Reg.SLT_CTRL, 0, 1⟩
def SLT_CURSOR.AUTO : Field := ⟨Reg.SLT_CURSOR, 31, 1⟩
def SLT_CURSOR.AREA : Field := ⟨Reg.SLT_CURSOR, 16, 1⟩
def SLT_CURSOR.SLOT : Field := ⟨Reg.SLT_CURSOR, 0, 16⟩
def SLT_WIN_STAT.OUT : Field := ⟨Reg.SLT_WIN_STAT, 3, 1⟩
def SLT_WIN_STAT.UE : Field := ⟨Reg.SLT_WIN_STAT, 2, 1⟩
def SLT_WIN_STAT.CRC_OK : Field := ⟨Reg.SLT_WIN_STAT, 1, 1⟩
def SLT_WIN_STAT.OCC : Field := ⟨Reg.SLT_WIN_STAT, 0, 1⟩
def SLT_WINk.DATA : Field := ⟨Reg.SLT_WINk, 0, 32⟩
def SUP_SD_STAT.LAST : Field := ⟨Reg.SUP_SD_STAT, 16, 16⟩
def SUP_SD_STAT.ACTIVE : Field := ⟨Reg.SUP_SD_STAT, 0, 6⟩
def SUP_SD_EVT.ONSET : Field := ⟨Reg.SUP_SD_EVT, 0, 6⟩
def SUP_SD_CNT.SD_CNT : Field := ⟨Reg.SUP_SD_CNT, 16, 16⟩
def SUP_QUAR.QCAUSE : Field := ⟨Reg.SUP_QUAR, 16, 8⟩
def SUP_QUAR.INHERITED : Field := ⟨Reg.SUP_QUAR, 3, 1⟩
def SUP_QUAR.CDIG_PEND : Field := ⟨Reg.SUP_QUAR, 2, 1⟩
def SUP_QUAR.CDIG_VALID : Field := ⟨Reg.SUP_QUAR, 1, 1⟩
def SUP_QUAR.COMMAND : Field := ⟨Reg.SUP_QUAR, 0, 1⟩
def SUP_CDIGk.DIGEST : Field := ⟨Reg.SUP_CDIGk, 0, 32⟩
def SUP_CDIG_F_LO.FRAME_LO : Field := ⟨Reg.SUP_CDIG_F_LO, 0, 32⟩
def SUP_COMPAT.PEND_MAJOR : Field := ⟨Reg.SUP_COMPAT, 8, 8⟩
def SUP_COMPAT.MAJOR : Field := ⟨Reg.SUP_COMPAT, 0, 8⟩
def SUP_PEER_Qj.QUAR : Field := ⟨Reg.SUP_PEER_Qj, 0, 32⟩
def SUP_EVT.COUNTER : Field := ⟨Reg.SUP_EVT, 4, 1⟩
def SUP_EVT.PEER_Q : Field := ⟨Reg.SUP_EVT, 3, 1⟩
def SUP_EVT.ADOPT : Field := ⟨Reg.SUP_EVT, 2, 1⟩
def SUP_EVT.QUAR_OFF : Field := ⟨Reg.SUP_EVT, 1, 1⟩
def SUP_EVT.QUAR_ON : Field := ⟨Reg.SUP_EVT, 0, 1⟩
def SUP_QCNT.QUAR_CNT : Field := ⟨Reg.SUP_QCNT, 16, 16⟩
def SUP_QCNT.PEER_CNT : Field := ⟨Reg.SUP_QCNT, 0, 16⟩
def SUP_CTRL.CNT_CLR : Field := ⟨Reg.SUP_CTRL, 0, 1⟩
def PMU_STAT.MODE : Field := ⟨Reg.PMU_STAT, 14, 2⟩
def PMU_STAT.RST_CAUSE : Field := ⟨Reg.PMU_STAT, 8, 4⟩
def PMU_STAT.PFAIL : Field := ⟨Reg.PMU_STAT, 2, 1⟩
def PMU_STAT.XTAL_OK : Field := ⟨Reg.PMU_STAT, 1, 1⟩
def PMU_STAT.PG : Field := ⟨Reg.PMU_STAT, 0, 1⟩
def PMU_PD_STAT.ON : Field := ⟨Reg.PMU_PD_STAT, 0, 20⟩
def PMU_RAIL_STAT.RAIL : Field := ⟨Reg.PMU_RAIL_STAT, 0, 14⟩
def PMU_RAIL_EVT.RAIL : Field := ⟨Reg.PMU_RAIL_EVT, 0, 14⟩
def PMU_CLK_STAT.TDC : Field := ⟨Reg.PMU_CLK_STAT, 7, 1⟩
def PMU_CLK_STAT.PCIE : Field := ⟨Reg.PMU_CLK_STAT, 6, 1⟩
def PMU_CLK_STAT.SDW : Field := ⟨Reg.PMU_CLK_STAT, 5, 1⟩
def PMU_CLK_STAT.SDE : Field := ⟨Reg.PMU_CLK_STAT, 4, 1⟩
def PMU_CLK_STAT.MOD : Field := ⟨Reg.PMU_CLK_STAT, 3, 1⟩
def PMU_CLK_STAT.MEM : Field := ⟨Reg.PMU_CLK_STAT, 2, 1⟩
def PMU_CLK_STAT.CORE : Field := ⟨Reg.PMU_CLK_STAT, 1, 1⟩
def PMU_CLK_STAT.TIME : Field := ⟨Reg.PMU_CLK_STAT, 0, 1⟩
def PMU_FW.RUN_SVN : Field := ⟨Reg.PMU_FW, 16, 8⟩
def PMU_FW.MIN_SVN : Field := ⟨Reg.PMU_FW, 8, 8⟩
def PMU_FW.B_VALID : Field := ⟨Reg.PMU_FW, 3, 1⟩
def PMU_FW.A_VALID : Field := ⟨Reg.PMU_FW, 2, 1⟩
def PMU_FW.FALLBACK : Field := ⟨Reg.PMU_FW, 1, 1⟩
def PMU_FW.RUN_SLOT : Field := ⟨Reg.PMU_FW, 0, 1⟩
def PMU_FW_VER_A.VER : Field := ⟨Reg.PMU_FW_VER_A, 0, 32⟩
def PMU_FW_VER_B.VER : Field := ⟨Reg.PMU_FW_VER_B, 0, 32⟩
def PMU_FWU_CTRL.START : Field := ⟨Reg.PMU_FWU_CTRL, 31, 1⟩
def PMU_FWU_CTRL.LEN : Field := ⟨Reg.PMU_FWU_CTRL, 0, 23⟩
def PMU_FWU_STAT.DONE : Field := ⟨Reg.PMU_FWU_STAT, 5, 1⟩
def PMU_FWU_STAT.BUSY : Field := ⟨Reg.PMU_FWU_STAT, 4, 1⟩
def PMU_FWU_STAT.RESULT : Field := ⟨Reg.PMU_FWU_STAT, 0, 4⟩
def PMU_BOOT_CNT.COUNT : Field := ⟨Reg.PMU_BOOT_CNT, 0, 32⟩
def PMU_SRV.SERVER : Field := ⟨Reg.PMU_SRV, 24, 8⟩
def PMU_SRV.RESTARTS : Field := ⟨Reg.PMU_SRV, 16, 8⟩
def PMU_SRV.FSTATE : Field := ⟨Reg.PMU_SRV, 0, 3⟩
def PMU_SRV_BYTES.BYTES : Field := ⟨Reg.PMU_SRV_BYTES, 0, 32⟩
def PMU_QSPI_CTRL.GO : Field := ⟨Reg.PMU_QSPI_CTRL, 31, 1⟩
def PMU_QSPI_CTRL.DIR : Field := ⟨Reg.PMU_QSPI_CTRL, 30, 1⟩
def PMU_QSPI_CTRL.WIDTH : Field := ⟨Reg.PMU_QSPI_CTRL, 28, 2⟩
def PMU_QSPI_CTRL.ABYTES : Field := ⟨Reg.PMU_QSPI_CTRL, 26, 2⟩
def PMU_QSPI_CTRL.DUMMY : Field := ⟨Reg.PMU_QSPI_CTRL, 21, 5⟩
def PMU_QSPI_CTRL.LEN : Field := ⟨Reg.PMU_QSPI_CTRL, 12, 9⟩
def PMU_QSPI_CTRL.OPCODE : Field := ⟨Reg.PMU_QSPI_CTRL, 0, 8⟩
def PMU_QSPI_ADDR.ADDR : Field := ⟨Reg.PMU_QSPI_ADDR, 0, 32⟩
def PMU_QSPI_STAT.DROP : Field := ⟨Reg.PMU_QSPI_STAT, 2, 1⟩
def PMU_QSPI_STAT.DONE : Field := ⟨Reg.PMU_QSPI_STAT, 1, 1⟩
def PMU_QSPI_STAT.BUSY : Field := ⟨Reg.PMU_QSPI_STAT, 0, 1⟩
def PMU_QSPI_INFO.SFDP_OK : Field := ⟨Reg.PMU_QSPI_INFO, 7, 1⟩
def PMU_QSPI_INFO.ADDR4 : Field := ⟨Reg.PMU_QSPI_INFO, 6, 1⟩
def PMU_QSPI_INFO.SIZE_LOG2 : Field := ⟨Reg.PMU_QSPI_INFO, 0, 6⟩
def PMU_QSPI_DATAk.DATA : Field := ⟨Reg.PMU_QSPI_DATAk, 0, 32⟩
def PMU_APAT_Wk.DATA : Field := ⟨Reg.PMU_APAT_Wk, 0, 32⟩

end Sys2Proof.Machine.Fld
end

