-- ==== Sys2Proof/Machine/State.lean ====
section
/-! DEFINITION. The state of the hub: the register file, every table, FIFO, buffer and store the spec gives it, and
the queue of waiting commands; its value right after reset; and the reasons a step can stop. -/

namespace Sys2Proof.Machine

/-- A byte memory: (address, byte) pairs with strictly rising addresses, no byte equal to 0; an unlisted address
reads 0 (R101 for the banks; for the other memories the choice of log entry 5). -/
abbrev Memory := List Host.Cell


/-! ## The Pattern (chapters 02 and 03) -/

/-- One unit of the UNITS section with its assigned instance and parameter words (R73, R135). -/
structure PatUnit where
  id : Nat
  cls : Nat
  ver : Nat
  parent : Nat
  inst : Nat
  flags : Nat
  params : List Nat
deriving DecidableEq, Repr

/-- One net: driver port and sink ports (R77); after flattening no endpoint is a patch (R140). -/
structure PNet where
  id : Nat
  typ : Nat
  drvUnit : Nat
  drvPort : Nat
  sinks : List (Nat × Nat)
deriving DecidableEq, Repr

/-- One PATCHES record (R75). -/
structure PPatch where
  patch : Nat
  port : Nat
  kind : Nat
  inner : Nat
  innerPort : Nat
deriving DecidableEq, Repr

/-- One hub table entry of CLUSTER (R84). -/
structure HubEntry where
  hub : Nat
  lanes : Nat
  rate : Nat
  part : Nat
  cableNs : Nat
  serial : Nat
deriving DecidableEq, Repr

/-- One stream table entry of CLUSTER (R85). -/
structure StreamEntry where
  hub : Nat
  stream : Nat
  slots : Nat
  dLog2 : Nat
  sflags : Nat
  phase : Nat
deriving DecidableEq, Repr

/-- One dual-home table entry of CLUSTER (R86). -/
structure DualEntry where
  primary : Nat
  secondary : Nat
  port : Nat
  stream : Nat
deriving DecidableEq, Repr

/-- The CLUSTER section (R83). -/
structure Cluster where
  ffCode : Nat
  topology : Nat
  kR : Nat
  head0 : Nat
  head1 : Nat
  leafE : Nat
  leafW : Nat
  clusterId : Nat
  hubs : List HubEntry
  streams : List StreamEntry
  duals : List DualEntry
deriving DecidableEq, Repr

/-- The slot list of a STREAM unit of some hub, for subscriptions and remote references (R133). -/
structure StreamSlots where
  hub : Nat
  stream : Nat
  slots : List Nat
  /-- those of the slots that a LINEARISER fills -/
  lin : List Nat
  /-- (slot, filter mode, log2 of the decimation) of the slots that a chain fills -/
  modes : List (Nat × Nat × Nat)
deriving DecidableEq, Repr

/-- An entry of REMOTE_DRIVE (R453), with the K_S of the OUTPUT unit it names and the rank that unit gives this hub. -/
structure RemoteDrive where
  hub : Nat
  outputId : Nat
  loopId : Nat
  kS : Nat
  rank : Nat
deriving DecidableEq, Repr

/-- A Pattern as the loader accepts it for this hub (R72): its own units, flattened nets, policy, cluster and timing. -/
structure Pattern where
  digest : List Byte
  serial : Nat
  flags : Nat
  signed : Bool
  keySlot : Nat
  fwCompat : Nat
  hubId : Nat
  units : List PatUnit
  nets : List PNet
  /-- command loop-back nets kept apart by flattening (R726 step 6, R419) -/
  loopBack : List PNet
  policy : List (Nat × List Nat)
  unknownKeys : Nat
  cluster : Cluster
  timing : List Nat
  caldata : List (Nat × Nat)
  streamSlots : List StreamSlots
  /-- this hub's REMOTE_DRIVE entries (R453) -/
  remoteDrive : List RemoteDrive
  budgetW : List Nat
  budgetC : List Nat
deriving DecidableEq, Repr

/-- Standby bank state (R99). -/
inductive BankState where
  | empty | writing | checking | checked | rejected | scheduled | previous
deriving DecidableEq, Repr

/-- The outcome of a loader check (R103): accepted, or the code, DETAIL, NEED and ALLOW of the rejection. -/
structure Reject where
  code : Nat
  detail : Nat
  need : Nat := 0
  allow : Nat := 0
deriving DecidableEq, Repr

/-- The two banks, the check in progress and a scheduled commit (R98 to R119). -/
structure Banks where
  /-- bytes of the standby window (R98) -/
  stby : Memory
  stbyState : BankState
  /-- one more than the highest byte written (R101) -/
  wlen : Nat
  /-- the image the check accepted, or the previous Pattern -/
  stbyPat : Option Pattern
  /-- the state a cancelled commit returns to (R119) -/
  returnTo : BankState
  /-- bytes of the active bank, read through the active image window (R676) -/
  actBytes : Memory
  actLen : Nat
  act : Option Pattern
  /-- the check in progress began at this operating time (ns); REQUIRE and ANTIROLLBACK as they were then (R97) -/
  checkStart : Nat
  checkRequire : Bool
  checkAnti : Bool
  /-- the check is the power-up check, to be committed by POWER_UP_COMMIT (R122) -/
  powerUp : Bool
  /-- a QSPI copy into the bank is to end before the check starts (PAT_LOAD with SOURCE 1, R673) -/
  qspiCopy : Option Nat
  /-- the scheduled commit's frame -/
  commitF : Option Nat
  /-- the commit is past FT(F-1) + START_HOUSE -/
  irrevocable : Bool
  /-- the Pattern that was active before the switch, until the commit completes (R114 step 5) -/
  outgoing : Option Pattern
  /-- commit switched at this frame and waits for its completion -/
  switched : Bool
  /-- the 8 installed public keys (64 bytes each), key-store slots (R95) -/
  keys : Tab (List Byte)
deriving DecidableEq, Repr

/-! ## States and commands (chapter 04) -/

/-- A state transition that falls due at a frame (R155, R158). -/
structure Transition where
  target : Nat
  frame : Nat
  /-- precedence of R158: 0 BOOT, 1 SAFE, 2 quarantine, 3 command-driven -/
  rank : Nat
deriving DecidableEq, Repr

/-- A command record that waits for a House phase (R166). -/
structure Waiting where
  origin : Origin
  bytes : List Byte
deriving DecidableEq, Repr

/-- What the execution of a command answers: STATUS, DETAIL and RESULT of R162. -/
structure Answer where
  status : Nat
  detail : Nat := 0
  result : List Byte := []
deriving DecidableEq, Repr

/-- An entry of the duplicate table (R169). -/
structure DupEntry where
  source : Nat
  request : Nat
  opcode : Nat
  argCrc : Nat
  status : Nat
  detail : Nat
  result : List Byte
  frame : Nat
  optime : Nat
deriving DecidableEq, Repr

/-- Per-source count of STATE_CONFLICT answers since the last COMMAND_CONFLICT record (R172). -/
structure ConflictCount where
  source : Nat
  count : Nat
  last : Option Nat
deriving DecidableEq, Repr

/-- A unicast record that this hub relayed for one of its mailboxes and that has no response yet (R532). -/
structure Relay where
  path : Path
  opcode : Nat
  target : Nat
  source : Nat
  request : Nat
  notify : Bool
deriving DecidableEq, Repr

/-- Sequencer, transitions, commands and safe causes. -/
structure Seq where
  /-- the frame counter (R31); meaningful once `counter` holds -/
  frame : Nat
  counter : Bool
  /-- the phase reached in this tick: 0 Acquire to 4 House -/
  phase : Nat
  due : List Transition
  /-- F of the last START while RUN_INTENT = 1 (R159) -/
  startF : Nat
  /-- READY became 1 at this frame since RUN_INTENT was set or the hub left RUN -/
  readyAt : Option Nat
  waiting : List Waiting
  dup : List DupEntry
  conflicts : List ConflictCount
  /-- safe causes whose condition is present now (R183) -/
  safeLive : Nat
  /-- frame of the last overrun (GLB_DEGRADED.OVERRUN lasts 1024 ticks) -/
  lastOvr : Option Nat
  /-- consecutive ticks with late House work (R180) -/
  houseLate : Nat
  /-- the hub has become READY before (R651) -/
  everReady : Bool
  /-- consecutive ticks with an overrun; GLB_SEQ_STAT.OVR_RUN shows it saturated (R181) -/
  ovrRun : Nat
  relays : List Relay
deriving DecidableEq, Repr

/-- The values latched for one access path (R185, R633, R719). -/
structure PathBank where
  /-- GLB offsets 0x0040 to 0x02FF of the path, as differences from reset -/
  mbx : Tab Word
  frameHi : Nat
  optHi : Nat
  loopIntHi : Tab Nat
  /-- high halves of the last pops, by queue (R575) -/
  popHi : Tab Nat
  /-- latched TIM_L, TIM_A and TIM_B groups -/
  timL : TimeVal
  timA : TimeVal
  timB : TimeVal
  tdcW : Tab (List Nat)
  cursor : Nat
  window : List Byte
  winStat : Nat
deriving DecidableEq, Repr

/-! ## Front end, converters and filter chains (chapters 05, 06, 07) -/

/-- What an excitation driver does (R210, R211). -/
inductive Drive where
  | off | ramping | on | ocOff
deriving DecidableEq, Repr

/-- One wire-break detector: consecutive observations or checks that show its condition, and the timeline position
of the last one that did not (R213, R217). -/
structure Detector where
  count : Nat
  lastOk : Nat
deriving DecidableEq, Repr

/-- One analogue channel, 0 to 95 local and 96 to 99 mend (R186, R223). -/
structure Chan where
  /-- no up-range before this modulator period (R195, R198) -/
  settleEnd : Nat
  /-- gain stage settling shown until this period (R230) -/
  gsettleEnd : Nat
  dwellArmed : Bool
  drive : Drive
  /-- detectors: 0 excitation open, 1 and 2 sense P and N, 3 and 4 signal P and N (R213) -/
  det : List Detector
  /-- a confirmed break by overcurrent (R211) -/
  ocBreak : Bool
  /-- consecutive clean samples of the recovery (R220) -/
  clean : Nat
  /-- an observation or check of the present output period showed a condition -/
  dirty : Bool
  /-- the run-in of R229 is over -/
  runIn : Bool
  /-- the CMO condition held in the period of this index -/
  cmoAt : Option Nat
  /-- the last wire check fell at the frame tick that is about to begin -/
  atFt : Bool
deriving DecidableEq, Repr

/-- One filter chain (R260): its data history on the common scale and its tag history on the timeline (R269). -/
structure Chain where
  /-- range-compensated values, newest first (R267) -/
  hist : List Int
  /-- timeline positions (alignment units) of overloaded periods -/
  ovl : List Int
  /-- switch instants with the range from then on, newest first -/
  switches : List (Int × Nat)
  breaks : List Int
  /-- range before the oldest retained switch -/
  baseRange : Nat
  /-- causes of resets that take effect at the next tick (R295) -/
  resets : List Nat
  /-- the last pre-decimated pod sample (R285) -/
  podLast : Option Nat
  /-- pod words that arrived and are not yet placed, by absolute modulator period (R284); for FORMAT 1 the pre-decimated
  samples by tick (R285) -/
  podIn : Tab Nat
  /-- the next modulator period, or for FORMAT 1 the next tick, of a pod chain to be placed (R277) -/
  fed : Nat
deriving DecidableEq, Repr

/-- Chains whose next sample read a failed coefficient set, and the frame of each set's last error, by
16 * MODE + D_LOG2 (R297). -/
structure CoefState where
  failed : List Nat
  lastErr : Tab Nat
deriving DecidableEq, Repr

/-- What the auxiliary converter does (R245 to R249): the entry in progress. -/
inductive AuxAct where
  | idle
  | regular (entry : Nat)
  | injected (entry : Nat)
  | supervisor (entry : Nat)
deriving DecidableEq, Repr

/-- Auxiliary converter and system calibration. -/
structure Aux where
  act : AuxAct
  /-- what the injected run interrupted -/
  resume : AuxAct
  /-- tick of the scan's start, and the operating time (ns) of its start -/
  scanTick : Nat
  scanNs : Nat
  /-- the supervisor's entries follow this scan (R249) -/
  superDue : Bool
  /-- a scan is due when the injected run completes (R248) -/
  scanDue : Bool
  /-- output words per entry: regular k at k, injected k at 32 + k; completed this tick, carried from the next -/
  fresh : Tab Nat
  carried : Tab Nat
  /-- slot words per multiplexer input, fresh and carried (R251) -/
  freshIn : Tab Nat
  carriedIn : Tab Nat
  /-- conversions summed for the system calibration point in progress, their count, and whether one was bad -/
  sum : Int
  cnt : Nat
  /-- a conversion used for N0 or for N1 had OVR set or was POISON (R256) -/
  bad0 : Bool
  bad1 : Bool
  /-- input and point of the measurement in progress -/
  scal : Option (Nat × Nat)
  /-- the measured zero point belongs to this input -/
  zeroOf : Option Nat
  /-- N1 is complete: compute in House (R255 step 3) -/
  ready : Bool
  /-- coefficients staged and in force from the next tick (R257): gains at m, offsets at 16 + m -/
  inForce : Tab Nat
deriving DecidableEq, Repr

/-- The words that flow through the frame's phases. -/
structure Flow where
  /-- own-hub slot words of this tick (R36) -/
  slot : Tab Nat
  /-- remote samples delivered in this tick, by 65536 * hub + 1024 * stream + slot (R53, R54) -/
  remote : Tab Nat
  /-- sample outputs by 256 * UNIT_ID + port -/
  out : Tab Nat
  /-- asserted event outputs of this tick, 256 * UNIT_ID + port -/
  evt : List Nat
  /-- event outputs held asserted (THRESHOLD) -/
  held : List Nat
  /-- times delivered in this tick on time outputs -/
  time : Tab TimeVal
  /-- events and marks that assert in the next Decide phase -/
  evtNext : List Nat
  /-- event outputs asserted in the last Emit phase, after its tick's Decide phase (R405) -/
  late : List Nat
deriving DecidableEq, Repr


/-! ## Calibration (chapter 08) -/

/-- The phase of the calibration unit, in the code order of CAL_STAT.PHASE (R325). -/
inductive CalPhase where
  | idle | mendCal | shadow | matchIn | measure | reconnect | matchBack | podPoint | maint
deriving DecidableEq, Repr

/-- Coefficients of one chain: gain ratio and offset per range, D_FE and VALID (R298). -/
structure Coefs where
  gr : List Nat
  ar : List Int
  dfe : Nat
  valid : Nat
deriving DecidableEq, Repr

/-- The swap or bus calibration in progress (R304 to R311). -/
structure Swap where
  /-- channel 0 to 99 in the swap or on the bus -/
  ch : Nat
  /-- the channel whose swap follows a MEND_CAL -/
  forCh : Option Nat
  force : Bool
  /-- the coefficients in force when the swap began -/
  old : Coefs
  /-- the ranges to calibrate -/
  ranges : List Nat
  /-- range in force at the swap-in -/
  rangeIn : Nat
  /-- the step in progress: 3 per range, then delay, then residual; none between steps -/
  step : Nat
  /-- tick at which the next step or phase begins -/
  due : Option Nat
  /-- periods of the step fed so far, the sum of x over the averaged ones, and whether one was overloaded -/
  fed : Nat
  sum : Int
  ovld : Bool
  /-- the step's averaging has ended and House evaluates it, with the mean edge position of a delay step -/
  ended : Option Int
  /-- sums of the gain and offset steps so far -/
  sums : List Int
  /-- results computed so far -/
  gr : List Nat
  ar : List Int
  dfe : Nat
  rho : Int
  /-- match window: differences, newest first; own ticks since its first settled sample; a match has passed -/
  diffs : List Int
  pairs : Nat
  ticks : Nat
  passed : Bool
  /-- MATCH_BACK runs for the second time -/
  second : Bool
  /-- the new coefficients came into force at r_c -/
  applied : Bool
  /-- result so far (R326) -/
  result : Nat
  /-- the slot carries the mend's sample -/
  standIn : Bool
  /-- CAL_ABORT or an abort waits for the next own tick: the result it ends with -/
  aborting : Option Nat
deriving DecidableEq, Repr

/-- A pod point measurement in progress (R323). -/
structure PodPoint where
  chain : Nat
  range : Nat
  point : Nat
  t : Int
  sum : Int
  words : Nat
  /-- tick at which the measurement started -/
  start : Nat
  ovld : Bool
deriving DecidableEq, Repr

/-- A completed pod point: target, sum and number of words. -/
structure PodMean where
  t : Int
  sum : Int
  n : Nat
deriving DecidableEq, Repr

/-- The calibration unit. -/
structure Cal where
  phase : CalPhase
  swap : Option Swap
  /-- channels queued by CAL_RUN, head first, with FORCE -/
  queue : List (Nat × Bool)
  /-- staged coefficient words by register address (R300) -/
  staged : Tab Word
  /-- chains whose staged write set a VALID bit by software or CALDATA (R319) -/
  validSet : List Nat
  /-- chains that have a reference (R319) -/
  refs : List Nat
  /-- operating time (ms) of the last rejected or aborted result per channel -/
  failedAt : Tab Nat
  /-- operating time (ms) and die temperature of each mend channel's last calibration (R319, R320) -/
  mendCal : Tab (Nat × Int)
  /-- mend channels marked unavailable (R320) -/
  badMend : List Nat
  pod : Option PodPoint
  podMeans : Tab PodMean
deriving DecidableEq, Repr

/-! ## Time (chapter 09) -/

/-- A SYNC copy that waits for the other copy of its number (R342): the message, the port, θ_D in 2^-16 ns and the
operating time of the first copy. -/
structure HeldSync where
  msg : SyncMsg
  port : Nat
  theta : Int
  at_ : Nat
deriving DecidableEq, Repr

/-- One time domain at this hub (R332 to R346). -/
structure Domain where
  t : TimeVal
  inc : Nat
  /-- a class that is to come into force, and its CLASS_FRAME (R336) -/
  pend : Option (Nat × Nat)
  /-- the class this root announces, and its CLASS_FRAME -/
  ann : Nat
  annFrame : Nat
  /-- consecutive usable SYNC within LOCK_NS, and beyond four times it (R346) -/
  good : Nat
  bad : Nat
  held : Option HeldSync
  /-- the last number whose copy has been used -/
  lastSeq : Option Nat
  /-- number of the last SYNC this root sent -/
  seqOut : Nat
  /-- θ_D at the last 8 PPS edges, 2^-16 ns, newest first, and consecutive edges 1 s ± 1 µs apart (R335) -/
  edges : List Int
  spaced : Nat
  lastEdge : Option Int
  /-- the root is in holdover since this operating time (ns), with its error bound then -/
  holdSince : Option Nat
  holdErr : Nat
  /-- seconds to set at the next PPS edge (R364); TIME_SET_TOD has executed -/
  tod : Option Nat
  todDone : Bool
  lockedAt : Option Nat
deriving DecidableEq, Repr

/-- Peer delay measurement of one ring port (R339, R340, R354). Delays are in 1/131,072,000 ns: 2^-16 ns / 2000. -/
structure PdPort where
  seq : Nat
  /-- number and transmit time (2^-16 ns) of the request that waits for its answer -/
  sent : Option (Nat × Int)
  /-- accepted values of d_in, newest first -/
  vals : List Int
  accepted : Nat
  discards : Nat
  overRun : Nat
  underRun : Nat
deriving DecidableEq, Repr

/-- A scheduled time step (R355): F, Δ in 2^-32 ns, L_ONLY. -/
structure TimeStep where
  f : Nat
  delta : Int
  lOnly : Bool
deriving DecidableEq, Repr

/-- A step that was applied, for its record (R356). -/
structure StepDone where
  f : Nat
  oldL : TimeVal
  newL : TimeVal
  lOnly : Bool
deriving DecidableEq, Repr

/-- A TIME_IN pin (R359): captures not yet delivered, oldest first, with their polarity, and the last captured edge. -/
structure TinPin where
  fifo : List (TimeVal × Bool)
  last : Option Int
deriving DecidableEq, Repr

/-- A TIME_OUT pin (R361): the next pulse, and a pulse in progress. -/
structure ToutPin where
  next : Option TimeVal
  high : Bool
deriving DecidableEq, Repr

/-- A message this hub put on a ring port or a field port downlink (R339, R506): the record of what it sent. -/
inductive PortTx where
  | sync (port : Nat) (msg : SyncMsg)
  | pdReq (port : Nat) (msg : PdMsg)
  | pdResp (port : Nat) (msg : PdMsg) (turn : Int)
  | frame (port : Nat) (bytes : List Byte)
  | link (port : Nat) (block : List Byte)
  | pod (port : Nat) (block : List Byte)
deriving DecidableEq, Repr

/-- The time unit. -/
structure Timing where
  l : TimeVal
  incL : Nat
  doms : List Domain
  ports : List PdPort
  /-- L at the latest frame tick -/
  tickL : TimeVal
  /-- the domain L follows: none before the first selection -/
  follow : Option Nat
  /-- an acquisition set is due at the next tick, and one has been made (R349) -/
  acq : Bool
  acquired : Bool
  step : Option TimeStep
  lastStep : Option Nat
  stepDone : Option StepDone
  /-- streams that owe TSTEP in their next frame (R356) -/
  tstep : List Nat
  /-- a commanded selection: its frame (none: the next tick) and mode (R364) -/
  select : Option (Option Nat × Nat)
  /-- TIME_SELECT has overridden SEL_MODE -/
  modeCmd : Bool
  /-- the first counter heard: frame and L at that tick (R352) -/
  heard : Option (Nat × TimeVal)
  /-- operating time (ns) of the last message with a counter -/
  heardAt : Option Nat
  /-- ROOT_B takes ROOT_A's place (R352) -/
  takeover : Bool
  tin : Tab TinPin
  tout : Tab ToutPin
deriving DecidableEq, Repr

/-! ## Edge timing (chapter 10) -/

/-- An event FIFO entry (R383). -/
structure TdcEntry where
  result : Nat
  m : Nat
  pol : Bool
  base : Bool
  lost : Bool
  step : Bool
  count : Nat
deriving DecidableEq, Repr

/-- A measured edge: coarse time in bins, count of selected edges up to it, and its polarity. -/
structure TdcEdge where
  t : Int
  n : Nat
  falling : Bool
  /-- it was taken on the fallback base (R372, R382) -/
  base : Bool
deriving DecidableEq, Repr

/-- One TDC input (R374 to R384). -/
structure TdcIn where
  /-- raw1 and raw2 of interpolators X and Y, and which of them takes the next edge -/
  cal : List (Nat × Nat)
  turn : Nat
  last : Option Int
  n : Nat
  start : Option Int
  /-- edge a of the frequency mode, and whether a result has used it -/
  a : Option TdcEdge
  /-- measured edges of the interval in progress, oldest first -/
  edges : List TdcEdge
  /-- last interval completed in this tick, in bins, and its stop edge -/
  ivl : Option Nat
  ivlT : Int
  /-- the edge of the last result: its offset from FT(m) in bins, and the bins of that interval (R391) -/
  res : Int × Int
  lost : Bool
  fifo : List TdcEntry
  /-- VALUE of the last frequency sample -/
  value : Nat
deriving DecidableEq, Repr

/-- The edge-timing unit. -/
structure Tdc where
  ins : Tab TdcIn
  /-- coarse time of the last frame tick in bins, and of the interval before it -/
  cap : Int
  span : Int
  /-- a return to the source is permitted (R372) -/
  ret : Bool
  /-- consecutive good REFIN windows (R370) -/
  windows : Nat
  /-- last PPS edge on L and on the time clock, 2^-16 ns, and consecutive edges in place (R371) -/
  ppsL : Option Int
  ppsClk : Int
  ppsRun : Nat
deriving DecidableEq, Repr

/-! ## Triggers and capture (chapter 11) -/

/-- A trigger event: n_t, t_x in 2^-16 ns, SRC, origin hub, and whether a broadcast line carried it (R391 to R394). -/
structure TrigEvent where
  nt : Nat
  tx : Int
  src : Nat
  origin : Nat
  bcast : Bool
deriving DecidableEq, Repr

/-- One TRIGGER unit (R388 to R394). -/
structure Trig where
  /-- condition in the last evaluated tick, and the inputs asserted then -/
  cond : Bool
  ins : List Nat
  primed : Bool
  /-- ticks up to this one lie in the holdoff -/
  holdTo : Option Nat
  /-- a forced firing at this tick (R407) -/
  force : Option Nat
  /-- line events that wait for their resolution -/
  line : List TrigEvent
  /-- the firing of this tick -/
  fired : Option TrigEvent
  /-- the local event to broadcast in Emit -/
  send : Option TrigEvent
deriving DecidableEq, Repr

/-- What a threshold detector keeps for R392: its last two samples in 1/1000 of its comparison scale, and those of the
sample that set it, with that sample's label. -/
structure ThrMem where
  cur : Option Int
  prev : Option Int
  setCur : Int
  setPrev : Option Int
  setAt : Nat
deriving DecidableEq, Repr

/-- One capture engine (R396 to R405). -/
structure Engine where
  /-- arms at the first record boundary at or after this tick -/
  armAt : Option Nat
  abortAt : Option Nat
  armTick : Nat
  /-- the record boundary at which the next segment begins, once a segment is done (R405) -/
  nextSeg : Option Nat
  seg : Nat
  /-- label of the segment's first record, and records written in it -/
  segFirst : Nat
  written : Nat
  /-- PRE and POST in force for the segment -/
  pre : Nat
  post : Nat
  /-- own-hub words of intervals whose remote words have not arrived: label, words in SLOT_REF order -/
  delay : List (Nat × List Nat)
  /-- sample rows of the interval in progress, oldest first -/
  rows : List (List Nat)
  /-- label of the trigger record -/
  trec : Option Nat
  /-- label of the newest record of the segment with a poisoned word -/
  poisonAt : Option Nat
  ignored : Nat
  descs : Tab (List Nat)
deriving DecidableEq, Repr

/-- Triggers, engines and capture memory. -/
structure Cap where
  trigs : Tab Trig
  thr : Tab ThrMem
  engines : Tab Engine
  mem : Memory
  /-- poisoned 32-byte blocks (R410) -/
  poisoned : List Nat
  initDone : Bool
deriving DecidableEq, Repr

/-! ## Loop engine (chapter 12) -/

/-- One feedback input of a loop slot: the last word received, the run of identical words, the run of clean samples,
and whether it is lost or frozen now (R427, R431). -/
structure LoopFb where
  word : Option Nat
  run : Nat
  clean : Nat
  lost : Bool
  frozen : Bool
deriving DecidableEq, Repr

/-- One loop slot (R414 to R435). -/
structure LoopSlot where
  /-- integrator, in 2^-16 codes -/
  int : Int
  yPrev : Int
  c1 : Int
  c2 : Int
  /-- commands seen by the slot's computations, up to 3 -/
  seen : Nat
  restart : Bool
  /-- the last output sent in RUN -/
  uLast : Int
  /-- tick of the last completed computation and its output word's value, for a cascade (R420) -/
  casc : Option (Nat × Int)
  /-- the tick at which the unit started -/
  started : Nat
  ff : Int
  fb1 : LoopFb
  fb2 : LoopFb
  /-- LSTATE while the hub is in RUN (R435) -/
  lstate : Nat
  /-- gain words in force: KP, KI, KD, KFF -/
  gains : List Nat
  /-- gain words staged since the last frame tick, and those that the next computation takes (R426) -/
  staged : Tab Nat
  ready : Tab Nat
  /-- a staged LOOP_Sn_CMD -/
  cmd : Option Nat
  fifo : List Nat
  /-- LOOP_INT_SET: from this tick on, this value -/
  intSet : Option (Nat × Int)
  /-- LOOP_RETURN waits for a clean sample -/
  ret : Bool
  /-- the setpoint word computed in the tick -/
  sent : Option (Nat × Nat)
deriving DecidableEq, Repr

/-- The loop engine: its slots, and the tick of the last absorbed lockstep mismatch (R433). -/
structure Loops where
  slots : Tab LoopSlot
  absorbed : Option Nat
deriving DecidableEq, Repr

/-! ## Output stages (chapter 13) -/

/-- A candidate setpoint (R448): local input 0 to 7 or 8 + index of the remote entry, first labelled tick, further ticks
it stands for, the word, and for a remote one its claim. -/
structure Cand where
  src : Nat
  label : Nat
  stand : Nat
  word : Nat
  claim : Nat
deriving DecidableEq, Repr

/-- One Sluice (R439 to R459). -/
structure Sluice where
  cands : List Cand
  /-- word and source of the last drive tick -/
  last : Option Nat
  lastWin : Option Nat
  /-- consecutive silent ticks -/
  hold : Nat
  /-- word to be loaded in the next Emit phase, and the word applied -/
  next : Nat
  word : Nat
  /-- a change of the forced state and its tick (R451) -/
  forceNext : Option (Nat × Bool)
  /-- consecutive ticks without a candidate, per remote source, and the sources found silent (R455) -/
  silent : List Nat
  gone : List Nat
  /-- a pod output's best candidate of this tick: word and claim (R456) -/
  best : Option (Nat × Nat)
deriving DecidableEq, Repr

/-! ## Serial lanes (chapter 14) -/

/-- One lane (R463 to R483) beside what its registers hold. -/
structure Lane where
  /-- intact TRAIN blocks in a row, and what the last one said: READY, RATES, TARGET where valid -/
  train : Nat
  peerReady : Bool
  peerRates : Nat
  peerTarget : Option Nat
  /-- the target this end has computed -/
  target : Option Nat
  /-- status of the neighbour's last request: pre, main, post (R470) -/
  status : List Nat
  /-- the outcome of the check that has ended, until the port judges it -/
  checked : Option Bool
  /-- the equalisers of a RETRAIN are trained, and the check runs -/
  checking : Bool
  /-- this end wants the lane in ACTIVE, lists it there since its last AM, and the neighbour lists it -/
  want : Bool
  listed : Bool
  peerListed : Bool
  /-- the receiver no longer accepts the lane, the neighbour demands its drop (R477) -/
  reject : Bool
  peerDrop : Bool
  /-- the mode of LANE_ADMIN: 0 up, 1 standby, 2 down -/
  admin : Nat
  /-- adaptation windows of the error window so far (R476), and windows checked by the PRBS checker (R490) -/
  windows : Nat
  prbsWindows : Nat
  /-- measured skew in ns (R468) -/
  skew : Nat
deriving DecidableEq, Repr

/-- The PZ220 leaf of a port (R486, R487): the last intact frame, its overload bits and its samples. -/
structure Leaf where
  ovl : Nat
  samples : List Nat
  live : Bool
deriving DecidableEq, Repr

/-- Lanes, AM counts per port, leaves. -/
structure Lanes where
  lanes : Tab Lane
  amCount : List Nat
  /-- AM_COUNT expected next per lane -/
  amNext : Tab Nat
  leaves : List Leaf
deriving DecidableEq, Repr

/-! ## Baroth ring (chapter 15) -/

/-- One ring port's link layer (R509 to R516). -/
structure RingPort where
  next : Nat
  /-- frames not yet acknowledged, oldest first: LSEQ and bytes -/
  retry : List (Nat × List Byte)
  /-- the LSEQ below which everything has been received or skipped, and those received above it -/
  rxNext : Nat
  rxGot : List Nat
  /-- one more than the highest LSEQ seen -/
  rxHigh : Nat
  /-- own STREAM frames that wait for the port: stream and bytes (R510) -/
  wait : List (Nat × List Byte)
deriving DecidableEq, Repr

/-- A STREAM copy held for its use: label, EMIT, sample words (R520, R648). -/
structure Held where
  label : Nat
  emit : Nat
  words : List Nat
deriving DecidableEq, Repr

/-- One confluence entry (R517 to R520, R649). -/
structure Conf where
  high : Option Nat
  got : List Nat
  store : List Held
  aside : List Held
  /-- samples labelled before this frame belong to another slot list (R118) -/
  absentBefore : Nat
deriving DecidableEq, Repr

/-- A key under which a frame has been kept (R521): type, key fields, and the frame (or for MGMT the operating ms) until
which it is held. -/
structure SeenKey where
  type : Nat
  key : List Nat
  until_ : Nat
deriving DecidableEq, Repr

/-- A discovery probe sent on a port, and its return: turned or not, and its records (R522 to R524). -/
structure Probe where
  pseq : Nat
  change : Bool
  back : Option (Bool × List (List Byte))
deriving DecidableEq, Repr

/-- The last HELLO of a serial (R529): its hub ID in EMIT, when it arrived (operating ms), its bytes. -/
structure HelloRec where
  serial : Nat
  hub : Nat
  ms : Nat
  bytes : List Byte
deriving DecidableEq, Repr

/-- The ring unit. -/
structure Baroth where
  ports : List RingPort
  confs : Tab Conf
  seen : List SeenKey
  pseq : Nat
  probes : List (Option Probe)
  /-- a probe is owed because another hub's CHANGE probe was forwarded -/
  owed : Bool
  /-- origins whose CHANGE probes have been forwarded: serial and PSEQ -/
  changes : List (Nat × Nat)
  /-- last completed result: TOPO and records in ring order -/
  result : Option (Nat × List (List Byte))
  hseq : Nat
  mseq : Nat
  hellos : List HelloRec
  /-- per hub ID: operating ms and tick of the last intact frame -/
  heardMs : Tab Nat
  heardAt : Tab Nat
  /-- operating time (ns) at which a port first came up -/
  upSince : Option Nat
  /-- the previous ID in use, and the operating time (ns) until which its frames are removed -/
  prevId : Option (Nat × Nat)
  capTick : Option Nat
  /-- copies of the other home's frames of dual-homed streams that have passed in time: stream and label (R561) -/
  dualSeen : List (Nat × Nat)
  /-- last broadcast response per hub (R532) -/
  mrsp : Tab (List Byte)
deriving DecidableEq, Repr

/-! ## Imzer field ports (chapter 16) -/

/-- A command sent to a pod and not yet answered (R548). -/
structure FieldCmd where
  cseq : Nat
  opc : Nat
  args : List Byte
  tries : Nat
deriving DecidableEq, Repr

/-- One field port (R536 to R561). -/
structure FieldPort where
  /-- accepted results 2 t_down in 2^-8 ns, newest first; results accepted and discarded in a row (R547) -/
  vals : List Int
  accepted : Nat
  discards : Nat
  /-- tick of a PING that waits for its PING_ACK, and the round trip its echo showed, in 2^-8 ns -/
  ping : Option Nat
  rtt : Option Nat
  cmd : Option FieldCmd
  /-- commands to send after the one in progress: opcode and arguments -/
  todo : List (Nat × List Byte)
  cseq : Nat
  /-- the descriptor has been read and accepted -/
  good : Bool
  /-- F_b of the last CONFIG, and whether the pod has answered it with OK (R552) -/
  fb : Option Nat
  cfgOk : Bool
  /-- serial and type that FLD_ADOPT has accepted; type of the first pod bound since the unit started (R551, R553) -/
  adopted : Option (Nat × Nat)
  firstType : Option Nat
  /-- off by command, powered off by R553, in a power cycle -/
  off : Bool
  foreignOff : Bool
  cycling : Bool
  /-- consecutive overcurrent turn-offs, the operating time (ns) of the last, and whether FAULT is latched (R559) -/
  ocRun : Nat
  ocAt : Nat
  latched : Bool
  /-- the pod's tick, whether its TICK block has come, and the next slice index of it -/
  tick : Option Nat
  sawTick : Bool
  slice : Nat
  /-- range per position, and the period up to which each position shows GSETTLE (R543) -/
  ranges : List Nat
  gsettle : List Nat
deriving DecidableEq, Repr

/-- The field ports; the next TICK carries STEP (R539). -/
structure FieldPorts where
  ports : Tab FieldPort
  step : Bool
deriving DecidableEq, Repr
/-! ## Queues, notices, rings and the PCI Express endpoint (chapter 17) -/

/-- A stored queue word: 64 data bits and the marker bit; its parity bit follows from them (R567). -/
structure QWord where
  data : Nat
  marker : Bool
deriving DecidableEq, Repr

/-- A pop that waits on an empty queue (R575): its path, and whether it reads 8 bytes. -/
structure WaitPop where
  path : Path
  wide : Bool
deriving DecidableEq, Repr

/-- One queue: its words oldest first, its wrapping pointers, its waiting pops (R566 to R579). -/
structure Queue where
  words : List QWord
  w : Nat
  r : Nat
  pops : List WaitPop
  /-- operating time (ns) of the last restart of the stale timer; none when it does not run or has fired -/
  stale : Option Nat
  /-- own-hub words of labels whose remote words have not arrived (R570) -/
  delay : List (Nat × List Nat)
deriving DecidableEq, Repr

/-- The descriptor a ring works on: queue words taken for it, or bytes moved so far. -/
structure RingJob where
  desc : Descriptor
  words : List QWord
  done : Nat
deriving DecidableEq, Repr

/-- One DMA ring: posted descriptors from HEAD on, the one in progress, and its completion count (R583 to R588). -/
structure Ring where
  posted : List Descriptor
  job : Option RingJob
  wseq : Nat
deriving DecidableEq, Repr

/-- A Wring job (R603 to R609) with the parameters of its unit. -/
structure WringJob where
  unit : Nat
  expand : Bool
  level : Nat
  wrap : Nat
  fd : Bool
  slots : Nat
  queue : Nat
  ring : Nat
  /-- tick of the start; LIMIT and MAXBUF in force -/
  start : Nat
  limit : Nat
  maxbuf : Nat
  /-- words read, and whether any item is held -/
  words : List QWord
  /-- bytes of a decompression job's input, and its verdict: result and output -/
  bytes : List Byte
  verdict : Option (Nat × List Byte)
  /-- no further input; the unit has ended at a commit -/
  cut : Bool
  orphan : Bool
deriving DecidableEq, Repr

/-- What the endpoint sent to the host: MSI-X messages, buffer data and descriptor write-backs (R581, R586, R589). -/
inductive HostWrite where
  | msix (vector : Nat)
  | data (addr : Nat) (bytes : List Byte)
  | writeBack (addr doneLen status wflags wseq : Nat)
deriving DecidableEq, Repr

/-- Queues, DMA rings, notices and the host link. -/
structure HostIf where
  queues : Tab Queue
  rings : Tab Ring
  /-- Wring jobs in progress, by context -/
  wring : Tab WringJob
  sent : List HostWrite
  /-- MSI-X table words (64 vectors of 4 words), as differences from reset -/
  msix : Tab Word
  pba : Nat
  fnMask : Bool
  d3hot : Bool
  spiPartial : Bool
  spiAlign : Bool
  /-- bytes the hub drove on SPI_MISO for the last transaction -/
  miso : List Byte
  /-- what the last BAR0 read returned: low and high half -/
  readData : List Nat
  /-- a ring notice waits for the end of the interval (R582), and the notice sequence number -/
  ringNotice : Bool
  noticeSeq : Nat
  /-- the completed pops, oldest first: path, low half, high half -/
  popData : List (Path × Nat × Nat)
deriving DecidableEq, Repr

/-! ## Silt log (chapter 19) -/

/-- A staged event: the whole record but SEQ (R622, R626). -/
structure SiltEvent where
  code : Nat
  data : List Byte
  optime : Nat
  pcc : Nat
  valid : Bool
  ntS : Nat
  ntNs : Nat
  frame : Nat
  hub : Nat
  state : Nat
deriving DecidableEq, Repr

/-- The record the writer works on, its SEQ and the copies still to be written, lifetime copies as true (R625). -/
structure SiltJob where
  ev : SiltEvent
  seq : Nat
  copies : List Bool
deriving DecidableEq, Repr

/-- First and last OPTIME of the events counted in a suppression counter (R635, SUPPRESSED). -/
structure SuppSpan where
  first : Nat
  last : Nat
deriving DecidableEq, Repr

/-- An arm of a clear (R631). -/
structure ClearArm where
  token : Nat
  source : Nat
  optime : Nat
deriving DecidableEq, Repr

/-- An accepted clear in progress (R632). -/
structure ClearJob where
  source : Nat
  request : Nat
deriving DecidableEq, Repr

/-- The silt log: MRAM bytes (lifetime area at 0, service area at 0x4_0000), staging FIFO, writer and clearing. -/
structure Silt where
  mram : Memory
  fifo : List SiltEvent
  job : Option SiltJob
  supp : Tab SuppSpan
  arm : Option ClearArm
  /-- the clear in progress, with the pending mark of the non-volatile store (R632) -/
  clear : Option ClearJob
  /-- the operating-time checkpoint of the non-volatile store, ms (R624) -/
  checkpoint : Nat
  /-- operating time in ns since manufacture (R329, R624) -/
  opNs : Nat
deriving DecidableEq, Repr

/-! ## Faults and cluster agreement (chapter 20) -/

/-- A cluster digest with its compatibility major (R644). -/
structure CDigest where
  digest : List Byte
  major : Nat
deriving DecidableEq, Repr

/-- The supervisor's agreement state. The pair in force lies in SUP_CDIGk and SUP_COMPAT (R656). -/
structure Sup where
  /-- pending pair and its effective frame -/
  pend : Option (CDigest × Nat)
  inForce : Option CDigest
  /-- the previous pair, known for R648, and the frame from which the pair in force holds -/
  prev : Option CDigest
  since : Nat
  /-- an ADOPT has executed since reset (R645) -/
  adopted : Bool
  /-- R528 names this hub: the serial of the other hub -/
  collision : Option Nat
  /-- R650 holds until reset -/
  counterBad : Bool
  /-- consecutive SYNC that disagree (R650) -/
  conflicts : Nat
  /-- last SELFDIAG record per code, operating ms (R642) -/
  sdLast : Tab Nat
  /-- the tick from which the self-diagnosis withdrawal applies (R447) -/
  withdrawFrom : Nat
  /-- health and health withdrawal as evaluated, in force from the next Emit phase (R445, R446) -/
  hNext : Nat
  hwNext : Bool
  /-- judgements of other hubs that apply from the next tick (R648): hub ID, quarantined -/
  peerNext : List (Nat × Bool)
deriving DecidableEq, Repr

/-! ## Power, reset and boot (chapter 21) -/

/-- A firmware slot: version, security version (R670). -/
structure FwSlot where
  ver : Nat
  svn : Nat
deriving DecidableEq, Repr

/-- A fetch from a ring neighbour (R675): the server, the DIGEST of its HELLO or of the header read, the header read first,
IMAGE_LEN, the next chunk to ask for, the chunks in flight, and whether the header is read again. -/
structure Fetch where
  server : Nat
  digest : List Byte
  header : Option (List Byte)
  len : Nat
  next : Nat
  flight : List Nat
  confirm : Bool
deriving DecidableEq, Repr

/-- The always-on part: pins, non-volatile store beside the log's, and boot. -/
structure Pmu where
  /-- the factory data by register address, as differences from reset (R669) -/
  factory : Tab Word
  slotA : Option FwSlot
  slotB : Option FwSlot
  /-- version of the firmware that last reached HELD (R670) -/
  lastVer : Nat
  /-- RESET_N is low; XTAL_IN is lost; PERST_N is low -/
  resetLow : Bool
  xtalLost : Bool
  perst : Bool
  /-- operating time (ns) of the last power good -/
  bootNs : Nat
  /-- the power-up image is being read from flash (R673) -/
  flashBoot : Bool
  fetch : Option Fetch
  /-- restarts since the fetch began or resumed (R675) -/
  fetchFails : Nat
  /-- instruction the test access port acts on (R704) -/
  tap : Nat
deriving DecidableEq, Repr


/-! ## The whole state -/

/-- The hub. -/
structure State where
  /-- every register, by BAR0 byte offset: the exclusive-or of its value and its reset value, where that is not 0 -/
  regs : Tab Word
  seq : Seq
  bankP : PathBank
  bankS : PathBank
  bankM : PathBank
  banks : Banks
  host : HostIf
  silt : Silt
  flow : Flow
  chans : Tab Chan
  chains : Tab Chain
  coef : CoefState
  aux : Aux
  cal : Cal
  time : Timing
  /-- messages sent on the ring and field ports, oldest first -/
  tx : List PortTx
  tdc : Tdc
  cap : Cap
  loop : Loops
  sluices : Tab Sluice
  lanes : Lanes
  fieldPorts : FieldPorts
  ring : Baroth
  sup : Sup
  pmu : Pmu
  /-- draws of free values so far (the model's own field) -/
  free : Nat
  /-- commands that wait, first in, first out -/
  pending : List Instr
deriving DecidableEq, Repr

/-- Why a step stops with a fault: nothing does. The spec gives every command an effect in every state. -/
inductive Fault where
  /-- Raised by nothing; kept so that the type has a name for a stop. Safe: a stop claims nothing. -/
  | none
deriving DecidableEq, Repr

/-- Why a step is refused. -/
inductive Refusal where
  /-- A command of the table that has no meaning yet, by its mnemonic. Safe: nothing can be proved of a run that
  stops here. -/
  | notModelled (mnemonic : String)
deriving DecidableEq, Repr

/-! ## Reset -/

/-- The factory data of a new PZH9608 (R299, R669), by register address and as differences from the reset values of the
register tables: the part, D_FE of the local and mend chains, V_B, the capture memory size. The serial number, the gain
and offset coefficients and the TDC skews are at the reset values of the tables (log entries 13 and 14). -/
def factoryData : Tab Word :=
  (0x0, 0x96080000#32) :: (List.range 100).map (fun c => (0xA0020 + 0x40 * c, 31#32)) ++
    [(0xAA018, 2048000#32), (0x100004, 0xF0000#32)]

/-- The registers right after reset, as differences from the register tables: the factory data, the rails in range, and
firmware slot A verified (log entries 13 and 14). -/
def resetRegs : Tab Word :=
  (0x0, 0x96080000#32) :: (0x10008, 0xFFF#32) :: (0x10014, 0x4#32) ::
    (List.range 100).map (fun c => (0xA0020 + 0x40 * c, 31#32)) ++ [(0xAA018, 2048000#32), (0x100004, 0xF0000#32)]

/-- The access banks at reset. -/
def PathBank.reset : PathBank :=
  { mbx := [], frameHi := 0, optHi := 0, loopIntHi := [], popHi := [], timL := ⟨0, 0, 0⟩, timA := ⟨0, 0, 0⟩, timB := ⟨0, 0, 0⟩, tdcW := []
    cursor := 0x80000000, window := List.replicate 64 0, winStat := 0 }

/-- The sequencer at reset: no frame counter (R31), no commands, no causes. -/
def Seq.reset : Seq :=
  { frame := 0, counter := false, phase := 0, due := [], startF := 0, readyAt := none, waiting := [], dup := []
    conflicts := [], safeLive := 0, lastOvr := none, houseLate := 0, everReady := false, ovrRun := 0, relays := [] }

/-- Both banks empty (R669). -/
def Banks.reset : Banks :=
  { stby := [], stbyState := .empty, wlen := 0, stbyPat := none, returnTo := .empty, actBytes := [], actLen := 0, act := none
    checkStart := 0, checkRequire := false, checkAnti := false, powerUp := false, qspiCopy := none, commitF := none
    irrevocable := false, outgoing := none, switched := false, keys := [] }

/-- The host side at reset. -/
def HostIf.reset : HostIf :=
  { queues := [], rings := [], wring := [], sent := [], msix := [], pba := 0, fnMask := false, d3hot := false
    spiPartial := false, spiAlign := false, miso := [], readData := [], ringNotice := false, noticeSeq := 0, popData := [] }

/-- The calibration unit at reset. -/
def Cal.reset : Cal :=
  { phase := .idle, swap := none, queue := [], staged := [], validSet := [], refs := [], failedAt := [], mendCal := [], badMend := []
    pod := none, podMeans := [] }

/-- The auxiliary converter at reset. -/
def Aux.reset : Aux :=
  { act := .idle, resume := .idle, scanTick := 0, scanNs := 0, superDue := false, scanDue := false, fresh := [], carried := []
    freshIn := [], carriedIn := [], sum := 0, cnt := 0, bad0 := false, bad1 := false, scal := none, zeroOf := none
    ready := false, inForce := [] }

/-- A time domain at reset (R331): counter 0, nominal increment 2 ns, class 0xFF. -/
def Domain.reset : Domain :=
  { t := ⟨0, 0, 0⟩, inc := 8589934592, pend := none, ann := 0xFF, annFrame := 0, good := 0, bad := 0, held := none
    lastSeq := none, seqOut := 0, edges := [], spaced := 0, lastEdge := none, holdSince := none, holdErr := 0xFFFF
    tod := none, todDone := false, lockedAt := none }

/-- Peer delay measurement at reset. -/
def PdPort.reset : PdPort :=
  { seq := 0, sent := none, vals := [], accepted := 0, discards := 0, overRun := 0, underRun := 0 }

/-- The time unit at reset (R331). -/
def Timing.reset : Timing :=
  { l := ⟨0, 0, 0⟩, incL := 8589934592, doms := [.reset, .reset], ports := [.reset, .reset], tickL := ⟨0, 0, 0⟩, follow := none
    acq := false, acquired := false, step := none, lastStep := none, stepDone := none, tstep := [], select := none
    modeCmd := false, heard := none, heardAt := none, takeover := false, tin := [], tout := [] }

/-- The ring unit at reset. -/
def Baroth.reset : Baroth :=
  let p : RingPort := { next := 0, retry := [], rxNext := 0, rxGot := [], rxHigh := 0, wait := [] }
  { ports := [p, p], confs := [], seen := [], pseq := 0, probes := [none, none], owed := false, changes := [], result := none
    hseq := 0, mseq := 0, hellos := [], heardMs := [], heardAt := [], upSince := none, prevId := none, capTick := none
    dualSeen := [], mrsp := [] }

/-- The silt log of a new hub: empty MRAM (log entry 13). -/
def Silt.reset : Silt :=
  { mram := [], fifo := [], job := none, supp := [], arm := none, clear := none, checkpoint := 0, opNs := 0 }

/-- Cluster agreement at reset. -/
def Sup.reset : Sup :=
  { pend := none, inForce := none, prev := none, since := 0, adopted := false, collision := none, counterBad := false
    conflicts := 0, sdLast := [], withdrawFrom := 0, hNext := 255, hwNext := false, peerNext := [] }

/-- The always-on part of a new hub in BOOT: firmware in slot A, PERST_N low (log entry 13). -/
def Pmu.reset : Pmu :=
  { factory := factoryData, slotA := some ⟨0, 0⟩, slotB := none, lastVer := 0, resetLow := false, xtalLost := false
    perst := true, bootNs := 0, flashBoot := false, fetch := none, fetchFails := 0, tap := 0x01 }

/-- The hub right after reset: in BOOT (GLB_STATE reads 0x1), every register at its reset value, no Pattern, no frame
counter, every memory and FIFO empty, no command waiting. -/
def State.reset : State :=
  { regs := resetRegs, seq := .reset, bankP := .reset, bankS := .reset, bankM := .reset, banks := .reset, host := .reset
    silt := .reset
    flow := { slot := [], remote := [], out := [], evt := [], held := [], time := [], evtNext := [], late := [] }
    chans := [], chains := [], coef := { failed := [], lastErr := [] }, aux := .reset, cal := .reset, time := .reset, tx := []
    tdc := { ins := [], cap := 0, span := 0, ret := false, windows := 0, ppsL := none, ppsClk := 0, ppsRun := 0 }
    cap := { trigs := [], thr := [], engines := [], mem := [], poisoned := [], initDone := false }
    loop := { slots := [], absorbed := none }, sluices := []
    lanes := { lanes := [], amCount := [0, 0], amNext := []
               leaves := [{ ovl := 0, samples := [], live := false }, { ovl := 0, samples := [], live := false }] }
    fieldPorts := { ports := [], step := false }, ring := .reset, sup := .reset, pmu := .reset, free := 0, pending := [] }

/-- The PZH4804 right after reset: the same state with that part's factory data (R1, R2, R409, R326). -/
def State.reset4804 : State :=
  let d := (List.range 100).map (fun c => (0xA0020 + 0x40 * c, 31#32)) ++ [(0x100004, 0x70000#32)]
  { State.reset with
    regs := (0x0, 0x48040000#32) :: (0x10008, 0xFFF#32) :: (0x10014, 0x4#32) :: d
    pmu.factory := (0x0, 0x48040000#32) :: d }

end Sys2Proof.Machine
end

