-- ==== Sys2Proof/Machine/Ops.lean ====
section
/-! DEFINITION. The shared operations of the hub: registers by access code (R5 to R10), byte memories, notices
(R580, R581), the silt log's staging (R622 to R628), degraded and safe causes (R153, R183), and the look-ups in the
active Pattern that every family uses. -/

namespace Sys2Proof.Machine

/-! ## Control -/

/-- Applies `f` where the condition holds. -/
def State.when (s : State) (c : Bool) (f : State → State) : State := if c then f s else s

/-- Applies `f` once for each element, in order. -/
def State.forEach {α : Type} (s : State) (l : List α) (f : α → State → State) : State := l.foldl (fun t a => f a t) s

/-! ## Registers -/

/-- The register family has a register with indices i and j. -/
def RegDef.has (r : RegDef) (i j : Nat) : Bool := decide (i < r.n1) && decide (j < r.n2)

/-- The value of a register: its reset value where nothing else was stored (R5). -/
def State.rd (s : State) (r : RegDef) (i : Nat := 0) (j : Nat := 0) : Word :=
  if r.has i j then tabGet s.regs 0 (r.at i j) ^^^ BitVec.ofNat 32 r.reset else BitVec.ofNat 32 r.reset

/-- Stores a register; a register at its reset value is not listed. What the family does not have stays unwritten. -/
def State.wr (s : State) (r : RegDef) (v : Word) (i : Nat := 0) (j : Nat := 0) : State :=
  let d := v ^^^ BitVec.ofNat 32 r.reset
  if r.has i j then
    { s with regs := if d = 0 then tabErase s.regs (r.at i j) else tabSet s.regs (r.at i j) d }
  else s

/-- The value of a register field. -/
def State.get (s : State) (f : Field) (i : Nat := 0) (j : Nat := 0) : Nat := getBits (s.rd f.reg i j) f.lsb f.width

/-- Sets a register field to the low bits of `v`. -/
def State.put (s : State) (f : Field) (v : Nat) (i : Nat := 0) (j : Nat := 0) : State :=
  s.wr f.reg (putBits (s.rd f.reg i j) f.lsb f.width v) i j

/-- The hub is a PZH4804, the part with fused resources (R1, R184). -/
def State.small (s : State) : Bool := s.get Fld.GLB_ID.PART == 0x4804

/-- A one-bit field as a truth value. -/
def State.is (s : State) (f : Field) (i : Nat := 0) (j : Nat := 0) : Bool := s.get f i j != 0

/-- Adds to a counter field that saturates. -/
def State.sat (s : State) (f : Field) (k : Nat := 1) (i : Nat := 0) (j : Nat := 0) : State :=
  s.put f (satAdd f.width (s.get f i j) k) i j

/-- Adds to a counter field that wraps. -/
def State.wrap (s : State) (f : Field) (k : Nat := 1) (i : Nat := 0) (j : Nat := 0) : State :=
  s.put f (s.get f i j + k) i j

/-- The signed value of a field. -/
def State.getI (s : State) (f : Field) (i : Nat := 0) (j : Nat := 0) : Int := signed f.width (s.get f i j)

/-- Sets a field to a signed value, saturated to its width. -/
def State.putI (s : State) (f : Field) (v : Int) (i : Nat := 0) (j : Nat := 0) : State :=
  s.put f (unsigned f.width (satSigned f.width v)) i j

/-- What a software write of `v` leaves in a register, by its access codes (R5): RW and RWH bits take the value, W1C
bits clear and W1S bits set where a 1 is written, RWL bits take the value outside RUN, all others stay. -/
def writeCodes (r : RegDef) (inRun : Bool) (old v : Word) : Word :=
  let rw := BitVec.ofNat 32 (if inRun then r.rw else r.rw ||| r.rwl)
  let kept := (old &&& ~~~rw) ||| (v &&& rw)
  (kept &&& ~~~(v &&& BitVec.ofNat 32 r.w1c)) ||| (v &&& BitVec.ofNat 32 r.w1s)

/-- The state codes of GLB_STATE.STATE (R149). -/
def stOff : Nat := 0
def stBoot : Nat := 1
def stHeld : Nat := 2
def stArmed : Nat := 3
def stRun : Nat := 4
def stSafe : Nat := 5
def stMaint : Nat := 6

/-- The hub's state code (R149). -/
def State.hubState (s : State) : Nat := s.get Fld.GLB_STATE.STATE

/-- The hub is in one of the listed states. -/
def State.inStates (s : State) (l : List Nat) : Bool := l.contains s.hubState

/-- The assigned hub ID, 0xFF until one is assigned. -/
def State.hubId (s : State) : Nat := s.get Fld.GLB_STATE.HUB_ID

/-- The register map beyond the PMU block and the mailboxes responds: from HELD onward (R671). -/
def State.mapOpen (s : State) : Bool := decide (stHeld ≤ s.hubState)

/-- A software write to a register by its access codes; a write to an RWL field in RUN is dropped and flagged (R9). -/
def State.writeByCode (s : State) (r : RegDef) (v : Nat) (i : Nat := 0) (j : Nat := 0) : State :=
  let inRun := s.hubState == stRun
  let s := s.wr r (writeCodes r inRun (s.rd r i j) (BitVec.ofNat 32 v)) i j
  s.when (inRun && r.rwl != 0) (·.put Fld.GLB_ACC_STAT.RWL_DROP 1)

/-- What a read of a register returns: WO bits read 0 (R5). -/
def State.readByCode (s : State) (r : RegDef) (i : Nat := 0) (j : Nat := 0) : Nat :=
  (s.rd r i j &&& ~~~(BitVec.ofNat 32 r.wo)).toNat

/-! ## Memories -/

/-- The byte at an address; an unlisted address reads 0 (R101). -/
def Memory.read (m : Memory) (a : Nat) : Byte := tabGet m 0 a

/-- The memory with one byte stored, in canonical form. -/
def Memory.write (m : Memory) (a : Nat) (b : Byte) : Memory := if b = 0 then tabErase m a else tabSet m a b

/-- `n` bytes from an address. -/
def Memory.readN (m : Memory) (a n : Nat) : List Byte := (List.range n).map fun k => Memory.read m (a + k)

/-- The memory with a byte list stored from an address on. -/
def Memory.writeN : Memory → Nat → List Byte → Memory
  | m, _, [] => m
  | m, a, b :: bs => Memory.writeN (Memory.write m a b) (a + 1) bs

/-- The canonical form of a memory: addresses rise strictly and no entry equals what an unlisted address reads. -/
def Memory.wf (m : Memory) : Bool := tabWf m && m.all fun c => c.2 != 0

/-! ## Operating time (R329, R624) -/

/-- Operating time in ms. -/
def State.opMs (s : State) : Nat := s.silt.opNs / 1000000

/-! ## Notices (R580, R581) -/

/-- The pending bit of a notice source. -/
def State.pendingBit (s : State) (i : Nat) : Bool := bit (s.get Fld.DMA_NPENDj.PEND (i / 32)) (i % 32)

/-- The vector-control word of an MSI-X table entry: bit 0 masks the vector and is 1 at reset (log entry 10). -/
def State.msixMasked (s : State) (v : Nat) : Bool :=
  s.host.fnMask || bit ((tabGet s.host.msix 0 (4 * v + 3)).toNat ^^^ 1) 0

/-- The policy value of a 4-byte item, or its default (R80, R182). -/
def State.policy (s : State) (key dflt : Nat) : Nat :=
  match s.banks.act with
  | none => dflt
  | some p =>
    match p.policy.find? (fun e => e.1 == key) with
    | some (_, w :: _) => w
    | _ => dflt

/-- This hub is a head hub of the active Pattern (R25). -/
def State.isHead (s : State) : Bool :=
  match s.banks.act with
  | none => false
  | some p => (s.hubId == p.cluster.head0 || s.hubId == p.cluster.head1) && s.hubId != 0xFF

/-- Raises a notice source: its pending bit is set, and at 0 to 1 one MSI-X message is sent or held in the PBA (R581);
a hub that is not a head hub then owes a ring notice where RING_EN = 1 (R582). -/
def State.raise (s : State) (i : Nat) : State :=
  if s.pendingBit i then s else
  let s := s.put Fld.DMA_NPENDj.PEND (s.get Fld.DMA_NPENDj.PEND (i / 32) ||| 2 ^ (i % 32)) (i / 32)
  let v := s.get Fld.DMA_NSRCi.VECTOR i
  let s :=
    if s.is Fld.DMA_NSRCi.MSIX_EN i && s.is Fld.DMA_PCIE_STAT.MSIX_EN then
      if s.msixMasked v then { s with host.pba := s.host.pba ||| 2 ^ v }
      else { s with host.sent := s.host.sent ++ [.msix v] }
    else s
  s.when (s.is Fld.DMA_NSRCi.RING_EN i && s.banks.act.isSome && !s.isHead) fun s => { s with host.ringNotice := true }

/-- IRQ_N is asserted while any pending source has IRQ_EN = 1 (R581). -/
def State.irqN (s : State) : Bool :=
  (List.range 109).any fun i => s.pendingBit i && s.is Fld.DMA_NSRCi.IRQ_EN i

/-- Sets a flag whose 0 to 1 change raises a notice source (R580: a flag already 1 raises nothing). -/
def State.evt (s : State) (f : Field) (src : Nat) (i : Nat := 0) (j : Nat := 0) : State :=
  if s.is f i j then s else (s.put f 1 i j).raise src

/-! ## Silt log staging (R622 to R628) -/

/-- The class of an event code (R635). -/
def codeClass (code : Nat) : Nat := code / 256

/-- Events of classes 1 to 3 are copied to the lifetime area (R634). -/
def lifeClass (c : Nat) : Bool := c == 1 || c == 2 || c == 3

/-- The local timescale L has a value that the record may carry once the counter is adopted (R623). -/
def State.siltEvent (s : State) (code : Nat) (data : List Byte) : SiltEvent :=
  let v := s.seq.counter
  { code := code, data := padTo 20 data, optime := s.opMs, pcc := (s.rd Reg.SLT_PCC).toNat, valid := v
    ntS := if v then s.time.l.s else 0, ntNs := if v then s.time.l.ns else 0
    frame := if v then s.seq.frame else 0, hub := s.hubId, state := s.hubState }

/-- The 64 bytes of a record copy (R622). -/
def recordBytes (e : SiltEvent) (seq : Nat) (life : Bool) : List Byte :=
  let body := [BitVec.ofNat 8 (codeClass e.code), BitVec.ofNat 8 (b2n e.valid * 3 + b2n life * 4)]
    ++ leBytes 4 seq ++ leBytes 6 e.optime ++ leBytes 2 e.code ++ leBytes 4 e.pcc ++ leBytes 6 e.ntS
    ++ leBytes 4 e.ntNs ++ leBytes 6 e.frame ++ leBytes 1 e.hub ++ leBytes 1 e.state ++ padTo 20 e.data
    ++ leBytes 4 0
  leBytes 2 0xA55A ++ body ++ leBytes 2 (crc16 body)

/-- The service area begins behind the 4096 lifetime slots (R619). -/
def serviceBase : Nat := 4096 * 64

/-- SEQ for the next record: taken and advanced, saturating (R624). -/
def State.takeSeq (s : State) : Nat × State := ((s.rd Reg.SLT_SEQ).toNat, s.sat Fld.SLT_SEQ.NEXT)

/-- The writer's last service slot, kept for LOG_FULL (R628). -/
def lastSlot : Nat := 61439

/-- The lifetime area takes a copy of this event (R626, R629). -/
def State.lifeDue (s : State) (e : SiltEvent) : Bool :=
  lifeClass (codeClass e.code) && decide (s.get Fld.SLT_LIFE_HEAD.HEAD < 4096)

/-- Gives the writer a record: its SEQ is taken now (R623). -/
def State.setJob (s : State) (e : SiltEvent) (copies : List Bool) : State :=
  let (q, s) := s.takeSeq
  ({ s with silt.job := some { ev := e, seq := q, copies := copies } } : State).put Fld.SLT_STAT.WRITING 1

/-- LOG_FULL goes into the last service slot in place of the record that was due (R628). -/
def State.startLogFull (s : State) : State :=
  let prev := leAt (Memory.readN s.silt.mram (serviceBase + 64 * (lastSlot - 1)) 64) 4 4
  s.setJob (s.siltEvent 0x0402 (leBytes 4 prev)) [false]

/-- Starts the record of an event, the lifetime copy first (R626). A service copy that is due at the last free slot is
displaced by LOG_FULL and counted in SLT_DROP (R628). -/
def State.startRecord (s : State) (e : SiltEvent) : State :=
  let full := s.is Fld.SLT_STAT.FULL
  let room := !full && decide (s.get Fld.SLT_SVC_HEAD.HEAD < lastSlot)
  if s.lifeDue e then s.setJob e (if room then [true, false] else [true])
  else if room then s.setJob e [false]
  else if full then s else (s.sat Fld.SLT_DROP.DROP).startLogFull

/-- Counts an event of OPTIME `t` that is not recorded in the suppression counter of its class (R627). -/
def State.suppress (s : State) (cls t : Nat) : State :=
  let old := tabGet s.silt.supp ⟨t, t⟩ cls
  let span : SuppSpan := if s.get Fld.SLT_SUPPc.COUNT cls = 0 then ⟨t, t⟩ else { old with last := t }
  let s := { s with silt.supp := tabSet s.silt.supp cls span }
  s.sat Fld.SLT_SUPPc.COUNT 1 cls

/-- Sets the FIFO level registers (R639). -/
def State.fifoLevel (s : State) : State :=
  let n := s.silt.fifo.length
  let s := s.put Fld.SLT_STAT.LEVEL n
  s.when (s.get Fld.SLT_FIFO_MAX.MAX < n) (·.put Fld.SLT_FIFO_MAX.MAX n)

/-- The log writer runs once the supervisor firmware is authenticated (R625), but not after PFAIL_N (R630) and not while
a clear runs (R632). -/
def State.writerRuns (s : State) : Bool :=
  s.hubState != stOff && s.hubState != stBoot && !s.is Fld.SLT_STAT.PFAIL && s.silt.clear.isNone

/-- An event of the log arises (R626 to R628, R630): counted after PFAIL_N, discarded for a full service area unless
its lifetime copy still has room, taken by an idle writer at once, staged, or counted when the FIFO is full. -/
def State.stage (s : State) (code : Nat) (data : List Byte) : State :=
  let e := s.siltEvent code data
  if s.is Fld.SLT_STAT.PFAIL then s.suppress (codeClass code) e.optime else
  let full := s.is Fld.SLT_STAT.FULL && s.silt.clear.isNone
  let s := s.when full (·.sat Fld.SLT_DROP.DROP)
  if full && !s.lifeDue e then s
  else if s.silt.job.isNone && s.silt.fifo.isEmpty && s.writerRuns then s.startRecord e
  else if s.silt.fifo.length < 64 then ({ s with silt.fifo := s.silt.fifo ++ [e] } : State).fifoLevel
  else s.suppress (codeClass code) e.optime

/-- Reads and clears the suppression counter of a class and starts its SUPPRESSED record; at the last free slot the
count stays and LOG_FULL is written (R627, R628). -/
def State.startSuppressed (s : State) (c : Nat) : State :=
  if lastSlot ≤ s.get Fld.SLT_SVC_HEAD.HEAD then s.startLogFull else
  let n := s.get Fld.SLT_SUPPc.COUNT c
  let p := tabGet s.silt.supp ⟨0, 0⟩ c
  let e := s.siltEvent 0x0401 (leBytes 1 c ++ leBytes 4 n ++ leBytes 6 p.first ++ leBytes 6 p.last)
  (s.put Fld.SLT_SUPPc.COUNT 0 c).setJob e [false]

/-- The writer looks for work: it takes the oldest staged event, or starts SUPPRESSED records in class order, or rests
(R626, R627). -/
def State.writerNext (s : State) : State :=
  let s := ({ s with silt.job := none } : State).put Fld.SLT_STAT.WRITING 0
  if !s.writerRuns then s else
  let full := s.is Fld.SLT_STAT.FULL
  match s.silt.fifo.dropWhile (fun e => full && !s.lifeDue e) with
  | e :: rest => (({ s with silt.fifo := rest } : State).fifoLevel).startRecord e
  | [] =>
    let s := ({ s with silt.fifo := [] } : State).fifoLevel
    match (List.range 13).find? (fun c => s.get Fld.SLT_SUPPc.COUNT c != 0) with
    | some c => if full then s else s.startSuppressed c
    | none => s

/-! ## Causes -/

/-- Forms GLB_STATE.DEGRADED (R153). -/
def State.formDegraded (s : State) : State :=
  s.put Fld.GLB_STATE.DEGRADED (b2n (s.hubState == stRun && (s.rd Reg.GLB_DEGRADED) != 0))

/-- Sets or clears a live degraded cause; an occurrence latches in the sticky register and raises source 108. -/
def State.degrade (s : State) (live sticky : Field) (on : Bool) : State :=
  let s := s.put live (b2n on)
  (if on then s.evt sticky 108 else s).formDegraded

/-- A safe cause latches (R183) and moves ARMED and RUN to SAFE at the next tick
(R155, R158); in HELD, MAINT and BOOT it is only recorded. -/
def State.safeCause (s : State) (b : Nat) : State :=
  let old := s.get Fld.GLB_SAFE_CAUSE.CAUSE
  let s := s.put Fld.GLB_SAFE_CAUSE.CAUSE (old ||| 2 ^ b)
  let s := s.when (b ≥ 2) fun s => { s with seq.safeLive := s.seq.safeLive ||| 2 ^ b }
  s.when (s.inStates [stArmed, stRun]) fun s =>
    { s with seq.due := s.seq.due ++ [{ target := stSafe, frame := s.seq.frame + 1, rank := 1 }] }

/-! ## The active Pattern -/

/-- Class codes (R130). -/
def cINPUT : Nat := 0x01
def cADAPTER : Nat := 0x02
def cPOD_CHANNEL : Nat := 0x03
def cFILTER : Nat := 0x04
def cLINEARISER : Nat := 0x05
def cTHRESHOLD : Nat := 0x06
def cTRIGGER : Nat := 0x07
def cCAPTURE : Nat := 0x08
def cLOOP : Nat := 0x09
def cOUTPUT : Nat := 0x0A
def cTDC : Nat := 0x0B
def cAUX : Nat := 0x0C
def cSTREAM : Nat := 0x0D
def cQUEUE : Nat := 0x0E
def cWRING : Nat := 0x0F
def cTIME_OUT : Nat := 0x10
def cTIME_IN : Nat := 0x11
def cPOD_BINDING : Nat := 0x12
def cSUBSCRIBE : Nat := 0x13
def cPATCH : Nat := 0x7F

/-- Parameter field of a unit: word, lowest bit, width (R135). -/
def PatUnit.p (u : PatUnit) (word lsb width : Nat) : Nat := field (u.params.getD word 0) lsb width

/-- Units of one class in the active Pattern. -/
def State.units (s : State) (cls : Nat) : List PatUnit :=
  match s.banks.act with
  | none => []
  | some p => p.units.filter (fun u => u.cls == cls)

/-- The unit of a class that holds a hardware instance. -/
def State.unitAt (s : State) (cls inst : Nat) : Option PatUnit := (s.units cls).find? (fun u => u.inst == inst)

/-- The unit with a UNIT_ID. -/
def State.unitId (s : State) (id : Nat) : Option PatUnit :=
  match s.banks.act with
  | none => none
  | some p => p.units.find? (fun u => u.id == id)

/-- The driver port of an input port in a net list, as 256 * UNIT_ID + port (R126: at most one net drives it). -/
def driverIn (nets : List PNet) (unit port : Nat) : Option (Nat × Nat) :=
  match nets.find? (fun n => n.sinks.contains (unit, port)) with
  | some n => some (n.drvUnit, n.drvPort)
  | none => none

/-- The driver of an input port in the active Pattern. -/
def State.driver (s : State) (unit port : Nat) : Option (Nat × Nat) :=
  match s.banks.act with
  | none => none
  | some p => driverIn p.nets unit port

/-- A tick n is an own tick for decimation 2^dLog2 and phase P (R35). -/
def dueTick (dLog2 phase n : Nat) : Bool := n % 2 ^ dLog2 == phase

/-- The remote delay K_R in ticks, 0 for a single hub (R53, R27). -/
def State.kR (s : State) : Nat :=
  match s.banks.act with
  | none => 0
  | some p => p.cluster.kR

/-- f_F in hertz by its code (R28). -/
def ffHz (code : Nat) : Nat :=
  match code with
  | 0 => 4000 | 1 => 8000 | 2 => 12000 | 3 => 16000 | 4 => 24000 | 5 => 32000 | 6 => 48000 | 7 => 64000
  | 8 => 96000 | 9 => 128000 | 10 => 192000 | _ => 4000

/-- The f_F code in force (R28); with no active Pattern the choice of log entry 11. -/
def State.ff (s : State) : Nat :=
  match s.banks.act with
  | none => 0
  | some p => p.cluster.ffCode

/-- The frame period in ns, rounded down. -/
def State.tFns (s : State) : Nat := 1000000000 / ffHz s.ff

/-- Modulator periods per frame, N (R28, R261). -/
def State.nPer (s : State) : Nat := 12288000 / ffHz s.ff

/-- FT(n) on the timeline, in alignment units of T_M / 256 (R269, R270). -/
def State.ftPos (s : State) (n : Nat) : Int := ((n * s.nPer * 256 : Nat) : Int)

/-! ## Sample words (R11 to R20) -/

def rABSENT : Nat := 1
def rSETTLING : Nat := 2
def rPOISON : Nat := 3
def rWIREBREAK : Nat := 4
def rLOST : Nat := 5
def rQUARANTINE : Nat := 6
def rOVERRUN : Nat := 7
def rHUB_LOST : Nat := 8

/-- An invalid sample word: reason, TUN and RANGE (R14, R17). -/
def invWord (reason tun range : Nat) : Nat := reason * 256 + 0x80 + tun * 4 + range

/-- INV of a sample word. -/
def wInv (w : Nat) : Bool := bit w 7

/-- SETL of a sample word. -/
def wSetl (w : Nat) : Bool := bit w 5

/-- RANGE of a sample word. -/
def wRange (w : Nat) : Nat := w % 4

/-- VALUE of a sample word, signed 24 bits (R16). -/
def wVal (w : Nat) : Int := signed 24 (w / 256)

/-- The reason code of an invalid word. -/
def wReason (w : Nat) : Nat := w / 256 % 2 ^ 24

/-- A valid sample word from a saturated VALUE and the tag bits. -/
def valWord (v : Int) (tags : Nat) : Nat := unsigned 24 v * 256 + tags

/-- The TUN bit of this hub (R354). -/
def State.tun (s : State) : Nat := s.get Fld.TIM_STAT.TUN

/-- An unconnected sample input reads INV = 1 with reason ABSENT (R126). -/
def absentWord : Nat := invWord rABSENT 0 0

/-- The sample on an input port of a unit (R126). -/
def State.sampleIn (s : State) (unit port : Nat) : Nat :=
  match s.driver unit port with
  | some (u, p) => tabGet s.flow.out absentWord (256 * u + p)
  | none => absentWord

/-- The remote sample of a slot of another hub's stream that was delivered in this tick; LOST where none was (R54). -/
def State.remoteWord (s : State) (hub stream slot : Nat) : Nat :=
  tabGet s.flow.remote (invWord rLOST 0 0) (65536 * hub + 1024 * stream + slot)

/-- The event on an input port of a unit in this tick. -/
def State.eventIn (s : State) (unit port : Nat) : Bool :=
  match s.driver unit port with
  | some (u, p) => s.flow.evt.contains (256 * u + p) || s.flow.held.contains (256 * u + p)
  | none => false

/-- Asserts an event output in this tick. -/
def State.assertEvt (s : State) (unit port : Nat) : State :=
  if s.flow.evt.contains (256 * unit + port) then s else { s with flow.evt := s.flow.evt ++ [256 * unit + port] }

/-- Asserts an event output in the next Decide phase. -/
def State.assertNext (s : State) (unit port : Nat) : State :=
  if s.flow.evtNext.contains (256 * unit + port) then s
  else { s with flow.evtNext := s.flow.evtNext ++ [256 * unit + port] }

/-! ## Unit status blocks (R147) -/

/-- A unit's field of the common status block. -/
def unitBlock (id : Nat) : Nat := 256 * id

/-- Reads a field of a unit's status block. -/
def State.uGet (s : State) (f : Field) (id : Nat) : Nat :=
  getBits (tabGet s.regs 0 (f.reg.base + unitBlock id)) f.lsb f.width

/-- Writes a field of a unit's status block. -/
def State.uPut (s : State) (f : Field) (v id : Nat) : State :=
  let a := f.reg.base + unitBlock id
  let w := putBits (tabGet s.regs 0 a) f.lsb f.width v
  if id ≤ 0x3FFF then { s with regs := if w = 0 then tabErase s.regs a else tabSet s.regs a w } else s

/-- Counts a class-specific event of a unit and sets CLASS_EVT (R147). -/
def State.classEvt (s : State) (id : Nat) : State :=
  (s.uPut Fld.UNIT_STAT.CLASS_EVT 1 id).uPut Fld.UNIT_CNT.EVT_CNT (satAdd 16 (s.uGet Fld.UNIT_CNT.EVT_CNT id) 1) id

/-- Counts a class-specific event without the flag. -/
def State.countEvt (s : State) (id : Nat) : State :=
  s.uPut Fld.UNIT_CNT.EVT_CNT (satAdd 16 (s.uGet Fld.UNIT_CNT.EVT_CNT id) 1) id

/-- A unit ran in this tick: UNIT_LAST holds its frame counter (R147). -/
def State.ran (s : State) (id : Nat) : State :=
  (s.uPut Fld.UNIT_LAST_LO.FRAME_LO s.seq.frame id).uPut Fld.UNIT_LAST_HI.FRAME_HI (s.seq.frame / 2 ^ 32) id

/-- The unit handled words: INV_IN where one carried INV = 1, POISON where one carried reason POISON (R147). -/
def State.sawWords (s : State) (id : Nat) (ws : List Nat) : State :=
  let s := s.when (ws.any wInv) (·.uPut Fld.UNIT_STAT.INV_IN 1 id)
  s.when (ws.any fun w => wInv w && wReason w == rPOISON) (·.uPut Fld.UNIT_STAT.POISON 1 id)

end Sys2Proof.Machine
end

