-- ==== Sys2Proof/Machine/Faults.lean ====
section
/-! DEFINITION. Self-diagnosis failures (R641, R642), withdrawal of claims (R446, R447) and the safe causes (R183). -/

namespace Sys2Proof.Machine

/-- Self-diagnosis failure codes (R641). -/
def sdMCLK : Nat := 1
def sdCOEF : Nat := 2
def sdLOCKSTEP : Nat := 3
def sdMEMORY : Nat := 4
def sdSUPPLY : Nat := 5
def sdTHERMAL : Nat := 6

/-- The SAFE cause bit of a failure code, where its row names one (R641, R183). -/
def sdSafeBit (code : Nat) : Option Nat :=
  match code with
  | 3 => some 2
  | 4 => some 4
  | 5 => some 7
  | 6 => some 6
  | _ => none

/-- The hub withdraws its claims by self-diagnosis (R447): the latch is set, a CLAIM record is written, and from this
or the next Decide phase on its own sources take no part. -/
def State.sdWithdraw (s : State) : State :=
  let first := !s.is Fld.SLU_WD.SD
  let s := (s.put Fld.SLU_WD.SD 1).put Fld.SLU_WD.CLAIMING 0
  let s := s.evt Fld.SLU_EVT.SD_WD 105
  let s := s.when first (·.stage 0x0902 (leBytes 1 2 ++ leBytes 1 (s.get Fld.SLU_HEALTH.H)))
  let s := s.when (s.hubState == stRun) (·.degrade Fld.GLB_DEGRADED.SELFDIAG Fld.GLB_DEGRADED_STICKY.SELFDIAG true)
  s.when first fun s => { s with sup.withdrawFrom := if s.seq.phase < 2 then s.seq.frame else s.seq.frame + 1 }

/-- The onset of a self-diagnosis failure (R642). -/
def State.selfDiag (s : State) (code : Nat) : State :=
  let b := 2 ^ (code - 1)
  let s := s.put Fld.SUP_SD_STAT.ACTIVE (s.get Fld.SUP_SD_STAT.ACTIVE ||| b)
  let s := s.put Fld.SUP_SD_EVT.ONSET (s.get Fld.SUP_SD_EVT.ONSET ||| b)
  let s := (s.put Fld.SUP_SD_STAT.LAST code).sat Fld.SUP_SD_CNT.SD_CNT
  let fresh := match tabGet? s.sup.sdLast code with
    | some t => t + 1000 ≤ s.opMs
    | none => true
  let s := s.when fresh fun s => { s.stage 0x0305 (leBytes 2 code) with sup.sdLast := tabSet s.sup.sdLast code s.opMs }
  let s := s.sdWithdraw
  match sdSafeBit code with
  | some k => s.safeCause k
  | none => s.when (s.policy 0x0703 0 == 1) (·.safeCause 3)

/-- A self-diagnosis failure is gone (R641): its live bit clears, and the SELFDIAG cause is gone with the last one. -/
def State.selfDiagGone (s : State) (code : Nat) : State :=
  let a := s.get Fld.SUP_SD_STAT.ACTIVE
  let s := s.when (bit a (code - 1)) (·.put Fld.SUP_SD_STAT.ACTIVE (a - 2 ^ (code - 1)))
  s.when (s.get Fld.SUP_SD_STAT.ACTIVE == 0) fun s =>
    { s with seq.safeLive := if bit s.seq.safeLive 3 then s.seq.safeLive - 8 else s.seq.safeLive }

/-- The condition of a latched safe cause has been absent for 100 ms (R183). -/
def State.causeGone (s : State) (b : Nat) : State :=
  { s with seq.safeLive := if bit s.seq.safeLive b then s.seq.safeLive - 2 ^ b else s.seq.safeLive }

end Sys2Proof.Machine
end

