-- ==== Sys2Proof/Machine/FrontEnd.lean ====
section
/-! DEFINITION. Sensor inputs, excitation, ranging and wire-break detection (R186 to R226), the modulator bank
(R227 to R238), and the meanings of the commands of these families. -/

namespace Sys2Proof.Machine

/-- A channel before anything acted on it. -/
def Chan.rest : Chan :=
  { settleEnd := 0, gsettleEnd := 0, dwellArmed := false, drive := .off, det := List.replicate 5 ⟨0, 0⟩,
    ocBreak := false, clean := 0, dirty := false, runIn := false, cmoAt := none, atFt := false }

/-- A chain before anything acted on it. -/
def Chain.rest : Chain :=
  { hist := [], ovl := [], switches := [], breaks := [], baseRange := 0, resets := [], podLast := none,
    podIn := [], fed := 0 }

/-- Channel n of the front end. -/
def State.chan (s : State) (n : Nat) : Chan := tabGet s.chans Chan.rest n

/-- Stores channel n. -/
def State.setChan (s : State) (n : Nat) (c : Chan) : State := { s with chans := tabSet s.chans n c }

/-- Chain c of the filter engine. -/
def State.chain (s : State) (c : Nat) : Chain := tabGet s.chains Chain.rest c

/-- Stores chain c. -/
def State.setChain (s : State) (c : Nat) (x : Chain) : State := { s with chains := tabSet s.chains c x }

/-- The group of a channel: local channels by 24, mend channels one per group (R186). -/
def groupOf (n : Nat) : Nat := if n < 96 then n / 24 else n - 96

/-- A synchronising reset of a chain is due at the next tick, with its cause (R280, R295). -/
def State.resetNext (s : State) (c cause : Nat) : State :=
  let x := s.chain c
  s.setChain c { x with resets := if x.resets.contains cause then x.resets else x.resets ++ [cause] }

/-- The chains of local channels that the active Pattern runs. -/
def State.localChains (s : State) : List Nat := ((s.units cFILTER).map (·.inst)).filter (· < 96)

/-! ## Ranging (R194 to R204) -/

/-- The channel may range by itself: AUTO = 1 and RANGE_HOLD = 0 (R194). -/
def State.autoRange (s : State) (n : Nat) : Bool :=
  s.is Fld.AFE_CHn_CFG.AUTO n && !s.is Fld.AFE_CHn_CTRL.RANGE_HOLD n

/-- Cancels a scheduled down-range without an event (R194, R198). -/
def State.cancelDown (s : State) (n : Nat) : State := s.put Fld.AFE_CHn_STAT.DOWN_PEND 0 n

/-- Records a switch instant on the channel's chain: the range from there on (R201, R202). -/
def State.switchAt (s : State) (n : Nat) (pos : Int) (range : Nat) : State :=
  let x := s.chain n
  s.setChain n { x with switches := (pos, range) :: x.switches }

/-- An up-range caused by the overload of modulator period k: one larger range from period k + 1, settling for six
periods, dwell restarted (R195, R198, R204). -/
def State.upRange (s : State) (n k : Nat) : State :=
  let r := s.get Fld.AFE_CHn_STAT.RANGE n - 1
  let s := s.put Fld.AFE_CHn_STAT.RANGE r n
  let s := s.switchAt n (((k + 1) * 256 : Nat) : Int) r
  let s := s.setChan n { s.chan n with settleEnd := k + 7, gsettleEnd := k + 7, dwellArmed := false }
  let s := (s.put Fld.AFE_CHn_DWELL.COUNT 0 n).put Fld.AFE_CHn_STAT.SETTLE 1 n
  (s.put Fld.AFE_CHn_EVT.UP 1 n).sat Fld.AFE_CHn_RCNT.UP_CNT 1 n

/-- An overload marks its period on the channel's chain for the CLIP tag (R200). -/
def State.markOvl (s : State) (c k : Nat) : State :=
  let x := s.chain c
  let p : Int := ((k * 256 : Nat) : Int)
  if x.ovl.contains p then s else s.setChain c { x with ovl := p :: x.ovl }

/-- The overload flag of modulator period k of channel n (R195, R197, R198, R232). -/
def State.overload (s : State) (n k : Nat) (clamp : Bool) : State :=
  let again := k != 0 && (s.chain n).ovl.contains (((k - 1) * 256 : Nat) : Int)
  let s := s.markOvl n k
  let s := (s.put Fld.SAR_MODn_STAT.OVL 1 n).put Fld.SAR_MODn_STAT.OVL_SEEN 1 n
  let s := s.when (!again) (·.sat Fld.SAR_MODn_STAT.OVL_CNT 1 n)
  let s := s.when clamp (·.put Fld.SAR_MODn_STAT.CLAMP 1 n)
  let s := s.put Fld.AFE_CHn_EVT.CLIP 1 n
  let s := s.when (s.is Fld.AFE_CHn_CTRL.RANGE_HOLD n) (·.cancelDown n)
  let s := s.when (s.is Fld.AFE_CHn_STAT.DOWN_PEND n) fun s => (s.cancelDown n).put Fld.AFE_CHn_EVT.DOWN_CANCEL 1 n
  s.when (s.autoRange n && s.get Fld.AFE_CHn_STAT.RANGE n != 0 && (s.chan n).settleEnd ≤ k) (·.upRange n k)

/-- MODULATOR_OVERLOAD: period j of this tick's interval carries the overload flag (R195, R232). -/
def execModulatorOverload (ch j : Nat) (clamp : Bool) (s : State) : Host.Outcome State Fault Refusal :=
  .next (s.overload ch (s.seq.frame * s.nPer + j) clamp)

/-- CM_OVERLOAD: the common-mode voltage leaves ±10.5 V in period j; the period counts for CLIP and the range stays (R193). -/
def execCmOverload (ch j : Nat) (s : State) : Host.Outcome State Fault Refusal :=
  let k := s.seq.frame * s.nPer + j
  let s := (s.markOvl ch k).setChan ch { (s.markOvl ch k).chan ch with cmoAt := some k }
  .next ((s.put Fld.AFE_CHn_STAT.CM_OVR 1 ch).put Fld.AFE_CHn_EVT.CM_OVR 1 ch)

/-- The live bits of channel n at FT(n): the gain stage has settled, and the last period before FT carried no common-mode
overload and no overload flag (R193, R230). -/
def State.frontLive (s : State) (n : Nat) : State :=
  let kFT := s.seq.frame * s.nPer
  let last := (((kFT - 1) * 256 : Nat) : Int)
  let s := s.when (s.chan n).atFt fun s => s.setChan n { s.chan n with atFt := false }
  let s := s.when (s.is Fld.AFE_CHn_STAT.SETTLE n && (s.chan n).gsettleEnd ≤ kFT) (·.put Fld.AFE_CHn_STAT.SETTLE 0 n)
  let s := s.when (s.is Fld.AFE_CHn_STAT.CM_OVR n && (s.chan n).cmoAt != some (kFT - 1)) (·.put Fld.AFE_CHn_STAT.CM_OVR 0 n)
  s.when (s.is Fld.SAR_MODn_STAT.OVL n && !(s.chain n).ovl.contains last) (·.put Fld.SAR_MODn_STAT.OVL 0 n)

/-- A scheduled down-range takes effect at FT(n) (R197, R198, R204). -/
def State.downRange (s : State) (n : Nat) : State :=
  if !s.is Fld.AFE_CHn_STAT.DOWN_PEND n then s else
  let kFT := s.seq.frame * s.nPer
  let r := s.get Fld.AFE_CHn_STAT.RANGE n + 1
  let s := (s.put Fld.AFE_CHn_STAT.RANGE r n).put Fld.AFE_CHn_STAT.DOWN_PEND 0 n
  let s := s.switchAt n (((kFT * 256 : Nat)) : Int) r
  let s := s.setChan n { s.chan n with settleEnd := kFT, gsettleEnd := kFT + 6, dwellArmed := false }
  let s := (s.put Fld.AFE_CHn_STAT.SETTLE 1 n).put Fld.AFE_CHn_DWELL.COUNT 0 n
  (s.put Fld.AFE_CHn_EVT.DOWN 1 n).sat Fld.AFE_CHn_RCNT.DOWN_CNT 1 n

/-- Full scale of a range in the common scale u (R265). -/
def fsU (r : Nat) : Nat := 2 ^ 22 * 10 ^ (3 - r)

/-- The dwell count of one output sample (R196, R198): `peak` is the peak magnitude of the CIC output in u. -/
def State.dwell (s : State) (n : Nat) (rtr : Bool) (peak : Nat) : State :=
  let s := s.when (!rtr) fun s => s.setChan n { s.chan n with dwellArmed := true }
  let r := s.get Fld.AFE_CHn_STAT.RANGE n
  let quiet := s.autoRange n && r < 3 && (s.chan n).dwellArmed && peak * 100 < 8 * fsU (r + 1)
  let d := if quiet then s.get Fld.AFE_CHn_DWELL.COUNT n + 1 else 0
  if d ≥ s.get Fld.AFE_CHn_CFG.DWELL n && quiet then
    (s.put Fld.AFE_CHn_DWELL.COUNT 0 n).put Fld.AFE_CHn_STAT.DOWN_PEND 1 n
  else s.put Fld.AFE_CHn_DWELL.COUNT d n

/-! ## Excitation (R207 to R212) -/

/-- Excitation is wanted in ARMED, RUN and SAFE for a channel whose INPUT unit uses it (R210). -/
def State.excWanted (s : State) (n : Nat) : Bool :=
  s.inStates [stArmed, stRun, stSafe] && (s.unitAt cINPUT n).isSome && s.get Fld.AFE_CHn_EXC.MODE n != 0

/-- A driver starts its ramp, also as the retry after an overcurrent (R210, R211). -/
def State.excRamp (s : State) (n : Nat) : State :=
  ((s.setChan n { s.chan n with drive := .ramping, ocBreak := false }).put Fld.AFE_CHn_STAT.EXC_ON 1 n).put Fld.AFE_CHn_STAT.EXC_OC 0 n

/-- A driver turns off and ramps down; it is then off as the state asks, no longer for overcurrent (R210, R211). -/
def State.excOff (s : State) (n : Nat) : State :=
  (((s.setChan n { s.chan n with drive := .off, ocBreak := false }).put Fld.AFE_CHn_STAT.EXC_ON 0 n).put
    Fld.AFE_CHn_STAT.EXC_ILIM 0 n).put Fld.AFE_CHn_STAT.EXC_OC 0 n

/-- Turns the drivers on and off as the state and the Pattern ask; `changed` names channels whose level or mode a
commit changed, which ramp anew (R210). -/
def State.excUpdate (s : State) (changed : List Nat) : State :=
  (s.forEach (List.range 96) fun n s =>
    let d := (s.chan n).drive
    if s.excWanted n then
      if d = .off || changed.contains n then s.excRamp n else s
    else if d = .off then s else s.excOff n).put Fld.AFE_GLB_STAT.VEXC_USED
      (b2n ((s.units cINPUT).any fun u => u.p 1 0 2 != 0))

/-- EXC_RAMP_END: the ramp ends, and the channel's chain resets at the first tick after it (R210, cause 0x3). -/
def execExcRampEnd (ch : Nat) (s : State) : Host.Outcome State Fault Refusal :=
  if (s.chan ch).drive = .ramping then
    .next ((s.setChan ch { s.chan ch with drive := .on }).resetNext ch 3)
  else .next s

/-! ## Wire-break detection (R213 to R222) -/

/-- The window bound of a detector: consecutive observations or checks to a confirmation (R213). -/
def detNeed (d : Nat) : Nat := if d = 0 then 8 else 2

/-- Feeds one observation to detector d of channel n at a timeline position: the first observation that shows the
condition places the break instant at the last one that did not (R217, R218). -/
def State.observe (s : State) (n d : Nat) (pos : Nat) (cond : Bool) : State :=
  let c := s.chan n
  let det := c.det.getD d ⟨0, 0⟩
  if cond then
    let s := s.when (det.count == 0) fun s =>
      let x := s.chain n
      s.setChain n { x with breaks := (det.lastOk : Int) :: x.breaks }
    let c := { s.chan n with det := c.det.set d { det with count := det.count + 1 }, dirty := true }
    let s := s.setChan n { c with clean := if s.is Fld.AFE_CHn_STAT.WB_CONF n then 0 else c.clean }
    s
  else s.setChan n { c with det := c.det.set d ⟨0, pos⟩ }

/-- Wire-break detection runs on the channel (R213, R222). -/
def State.wbOn (s : State) (n : Nat) : Bool := s.is Fld.AFE_CHn_CFG.WB_EN n && (s.unitAt cINPUT n).isSome

/-- One channel of an excitation observation at the k-th half microsecond of the tick: the detectors observe their
conditions (R213), and the current limit is shown (R211). -/
def State.excObserve (s : State) (k : Nat) (o : ExcObs) : State :=
  let n := o.ch
  let mode := s.get Fld.AFE_CHn_EXC.MODE n
  let on := (s.chan n).drive == .on
  let thr : Int := s.get Fld.AFE_GLB_CFG.EXC_OPEN_UA
  let open_ := if mode == 1 then o.iP.natAbs < thr.natAbs || o.iN.natAbs < thr.natAbs
    else mode == 2 && (o.vP.natAbs > 5400 || o.vN.natAbs > 5400)
  let s := s.put Fld.AFE_CHn_STAT.EXC_ILIM (b2n (o.ilim && mode == 1)) n
  if s.wbOn n && on && mode != 0 then
    let pos := (s.ftPos s.seq.frame).toNat + k * 1572864 / 1000
    (s.observe n 0 pos open_).put Fld.AFE_CHn_STAT.EXC_OPEN (b2n open_) n
  else s

/-- EXC_OBSERVATION. -/
def execExcObservation (k : Nat) (obs : List ExcObs) (s : State) : Host.Outcome State Fault Refusal :=
  .next (s.forEach obs fun o s => s.excObserve k o)

/-- The half-width of the signal window in mV without excitation, and its margin otherwise (R215). -/
def State.sigOut (s : State) (n : Nat) (v excP excN : Int) : Bool :=
  let m : Int := 10 * (s.get Fld.AFE_GLB_CFG.SIG_WIN : Int)
  let lvl : Int := s.get Fld.AFE_CHn_EXC.LEVEL n
  match s.get Fld.AFE_CHn_EXC.MODE n with
  | 1 => decide (v < -lvl - m) || decide (v > lvl + m)
  | 2 => decide (v < excN - m) || decide (v > excP + m)
  | _ => decide (v < -10750) || decide (v > 10750)

/-- A wire check of one channel: the sense lines and the signal lines at FT + T_F/2, or at the FT that is about to begin,
whose check comes before its Acquire phase (R213 to R216, R218, R219). -/
def State.wireCheck (s : State) (half : Bool) (o : WireObs) : State :=
  let n := o.ch
  if !s.wbOn n then s else
  let pos := if half then (s.ftPos s.seq.frame).toNat + s.nPer * 128 else (s.ftPos (s.seq.frame + 1)).toNat
  let s := s.setChan n { s.chan n with atFt := !half }
  let lim : Int := 5700 - (s.get Fld.AFE_CHn_EXC.LEVEL n : Int) + 200
  let six := s.is Fld.AFE_CHn_CFG.SIX_WIRE n
  let adapt := s.is Fld.AFE_CHn_CFG.ADAPT_EN n
  let snP := six && !adapt && (decide (o.dropP > lim) || o.satP)
  let snN := six && !adapt && (decide (o.dropN > lim) || o.satN)
  let sgP := !adapt && s.sigOut n o.ainP o.excP o.excN
  let sgN := !adapt && s.sigOut n o.ainN o.excP o.excN
  let s := if six && !adapt then (s.observe n 1 pos snP).observe n 2 pos snN else s
  let s := if adapt then s else (s.observe n 3 pos sgP).observe n 4 pos sgN
  let s := (s.put Fld.AFE_CHn_STAT.SNS_OPEN_P (b2n snP) n).put Fld.AFE_CHn_STAT.SNS_OPEN_N (b2n snN) n
  let s := (s.put Fld.AFE_CHn_STAT.SIG_OPEN_P (b2n sgP) n).put Fld.AFE_CHn_STAT.SIG_OPEN_N (b2n sgN) n
  s.when (!snP && !snN) (·.put Fld.AFE_CHn_STAT.FALLBACK_4W 0 n)

/-- WIRE_CHECK. -/
def execWireCheck (half : Bool) (obs : List WireObs) (s : State) : Host.Outcome State Fault Refusal :=
  .next (s.forEach obs fun o s => s.wireCheck half o)

/-- The causes whose detectors have reached their count, lowest first (R225). -/
def State.confirmable (s : State) (n : Nat) : List Nat :=
  let c := s.chan n
  let at_ := fun (d : Nat) => decide ((c.det.getD d ⟨0, 0⟩).count ≥ detNeed d)
  (if at_ 0 then [1] else []) ++ (if c.ocBreak then [2] else []) ++ (if at_ 1 then [3] else [])
    ++ (if at_ 2 then [4] else []) ++ (if at_ 3 then [5] else []) ++ (if at_ 4 then [6] else [])

/-- The confirmation of a wire break (R218, R219, R221); the frame counter is that of the check or observation. -/
def State.confirmBreak (s : State) (n cause : Nat) : State :=
  let s := s.put Fld.AFE_CHn_STAT.WB_CONF 1 n
  let s := (s.put Fld.AFE_CHn_STAT.RECOVERING 0 n).setChan n { s.chan n with clean := 0 }
  let f := s.seq.frame + b2n ((s.chan n).atFt && s.seq.counter)
  let s := (s.put Fld.AFE_CHn_WB_LO.FRAME_LO f n).put Fld.AFE_CHn_WB_HI.FRAME_HI (f / 2 ^ 32) n
  let s := s.put Fld.AFE_CHn_WB_HI.CAUSE cause n
  let s := s.when (cause == 3 || cause == 4) (·.put Fld.AFE_CHn_STAT.FALLBACK_4W 1 n)
  let s := (s.put Fld.AFE_CHn_EVT.WB 1 n).stage 0x0701 (leBytes 1 n ++ leBytes 1 cause)
  match s.unitAt cINPUT n with
  | some u => s.classEvt u.id
  | none => s

/-- WIRE_BREAK_CONFIRM: a condition of the channel has reached its confirmation count; from then on the chain emits
WIREBREAK, and a mend swap of the channel ends (R218, R221, R314). With no condition confirmed nothing changes. -/
def State.wireBreak (s : State) (n : Nat) : State :=
  match s.confirmable n with
  | cause :: _ => if s.is Fld.AFE_CHn_STAT.WB_CONF n then s else s.confirmBreak n cause
  | [] => s

/-- No detector of the channel shows its condition (R220). -/
def State.wireClean (s : State) (n : Nat) : Bool :=
  (s.chan n).det.all (fun d => d.count == 0) && !(s.chan n).ocBreak

/-- Counts one output sample of the chain for the recovery: clean when no observation or check within its output
period showed a condition (R220). -/
def State.recoverSample (s : State) (n : Nat) : State :=
  let c := s.chan n
  if !s.is Fld.AFE_CHn_STAT.WB_CONF n then s.setChan n { c with dirty := false } else
  let ok := s.wireClean n && !c.dirty
  (s.setChan n { c with dirty := false, clean := if ok then c.clean + 1 else 0 }).put Fld.AFE_CHn_STAT.RECOVERING
    (b2n (s.wireClean n)) n

/-- The settling length L of a filter mode in output samples (R263). -/
def settleLen (mode : Nat) : Nat := match mode with | 0 => 72 | 1 => 30 | _ => 1

/-- WIRE_RECOVER: after 2 × L consecutive clean samples the chain emits values again (R220, R221). -/
def execWireRecover (ch : Nat) (s : State) : Host.Outcome State Fault Refusal :=
  let mode := s.get Fld.FLT_CHc_CFG.MODE ch
  if s.is Fld.AFE_CHn_STAT.WB_CONF ch && decide ((s.chan ch).clean ≥ 2 * settleLen mode) then
    let s := (s.put Fld.AFE_CHn_STAT.WB_CONF 0 ch).put Fld.AFE_CHn_STAT.RECOVERING 0 ch
    let s := s.setChan ch { s.chan ch with clean := 0 }
    .next ((s.put Fld.AFE_CHn_EVT.RECOVERED 1 ch).stage 0x0702 (leBytes 1 ch))
  else .next s

/-- EXC_OVERCURRENT_OFF: after 1 ms in the limit without a break the driver turns off, and the channel has a confirmed
break with cause EXC_OC, WB_EN or not (R211). -/
def execExcOvercurrentOff (ch : Nat) (s : State) : Host.Outcome State Fault Refusal :=
  let s := s.setChan ch { s.chan ch with drive := .ocOff, ocBreak := true }
  let s := (s.put Fld.AFE_CHn_STAT.EXC_ON 0 ch).put Fld.AFE_CHn_STAT.EXC_ILIM 0 ch
  let s := (s.put Fld.AFE_CHn_STAT.EXC_OC 1 ch).put Fld.AFE_CHn_EVT.EXC_OC 1 ch
  .next (s.confirmBreak ch 2)

/-- A driver that is off for overcurrent retries with a ramp (R211). -/
def State.excRetry (s : State) (n : Nat) : State :=
  if (s.chan n).drive = .ocOff then
    let s := s.setChan n { s.chan n with ocBreak := false }
    if s.excWanted n then s.excRamp n else s.excOff n
  else s

/-- EXC_RETRY_TIMER: 1 s after the turn-off (R211). -/
def execExcRetryTimer (ch : Nat) (s : State) : Host.Outcome State Fault Refusal := .next (s.excRetry ch)

/-! ## Register writes of the AFE block -/

/-- A write of AFE_CHn_CFG: RWL, DWELL clamped to 4 to 1024; a fixed RANGE becomes the range in force (R194, R224). -/
def State.wrAfeCfg (s : State) (n v : Nat) : State :=
  if n ≥ 96 then s else
  if s.hubState == stRun then s.put Fld.GLB_ACC_STAT.RWL_DROP 1 else
  let d := clampNat 4 1024 (field v 12 11)
  let s := s.writeByCode Reg.AFE_CHn_CFG v n
  let s := s.put Fld.AFE_CHn_CFG.DWELL d n
  let r := s.get Fld.AFE_CHn_CFG.RANGE n
  if s.is Fld.AFE_CHn_CFG.AUTO n || s.get Fld.AFE_CHn_STAT.RANGE n == r then s else
    (s.put Fld.AFE_CHn_STAT.RANGE r n).switchAt n (s.ftPos s.seq.frame) r

/-- A write of AFE_CHn_EXC: RWL; a MODE of 0b11 is discarded (R224). -/
def State.wrAfeExc (s : State) (n v : Nat) : State :=
  if n ≥ 96 then s else
  if s.hubState == stRun then s.put Fld.GLB_ACC_STAT.RWL_DROP 1 else
  if field v 0 2 = 3 then s else s.writeByCode Reg.AFE_CHn_EXC v n

/-- A write of AFE_CHn_CTRL (R194, R211, R226). -/
def State.wrAfeCtrl (s : State) (n v : Nat) : State :=
  let s := s.put Fld.AFE_CHn_CTRL.RANGE_HOLD (v % 2) n
  let s := s.when (bit v 0) (·.cancelDown n)
  let s := s.when (bit v 1) fun s => (s.put Fld.AFE_CHn_RCNT.UP_CNT 0 n).put Fld.AFE_CHn_RCNT.DOWN_CNT 0 n
  s.when (bit v 2) (·.excRetry n)

/-- A write of AFE_GLB_CFG: RWL with both fields clamped (R226). -/
def State.wrAfeGlb (s : State) (v : Nat) : State :=
  if s.hubState == stRun then s.put Fld.GLB_ACC_STAT.RWL_DROP 1 else
  (s.put Fld.AFE_GLB_CFG.EXC_OPEN_UA (clampNat 10 1000 (field v 16 10))).put Fld.AFE_GLB_CFG.SIG_WIN
    (clampNat 1 100 (field v 0 8))

/-! ## Modulator bank -/

/-- MODULATOR_RUN_IN_END: the 1024 periods are over, and the chain resets at the first tick at or after (R229, cause 0x2). -/
def execModulatorRunInEnd (ch : Nat) (s : State) : Host.Outcome State Fault Refusal :=
  if s.is Fld.SAR_MODn_STAT.RUNNING ch && !(s.chan ch).runIn then
    .next ((s.setChan ch { s.chan ch with runIn := true }).resetNext ch 2)
  else .next s

/-- A modulator starts: it runs, and its run-in is not over (R229). -/
def State.modStart (s : State) (n : Nat) : State :=
  if s.is Fld.SAR_MODn_STAT.RUNNING n then s else
  (s.put Fld.SAR_MODn_STAT.RUNNING 1 n).setChan n { s.chan n with runIn := false }

/-- A modulator stops: no INPUT unit is bound and the calibration unit does not use it (R229). -/
def State.modStop (s : State) (n : Nat) : State :=
  (s.put Fld.SAR_MODn_STAT.RUNNING 0 n).setChan n { s.chan n with runIn := false }

/-- MCLK_LOCK_LOSS: the flag, the record and the self-diagnosis failure (R238, R641). -/
def execMclkLockLoss (s : State) : Host.Outcome State Fault Refusal :=
  let s := ((s.put Fld.SAR_MCLK_STAT.LOCK 0).put Fld.SAR_MCLK_STAT.LOCK_LOST 1).put Fld.PMU_CLK_STAT.MOD 0
  .next ((s.stage 0x0304 (leBytes 1 0)).selfDiag sdMCLK)

/-- MCLK_LOCK_REGAINED: lock returns, and every local chain resets at the next tick (R238, cause 0x5). -/
def execMclkLockRegained (s : State) : Host.Outcome State Fault Refusal :=
  let s := ((s.put Fld.SAR_MCLK_STAT.LOCK 1).sat Fld.SAR_MCLK_STAT.RELOCK_CNT).put Fld.PMU_CLK_STAT.MOD 1
  let s := s.stage 0x0304 (leBytes 1 1)
  .next (s.forEach s.localChains fun c s => s.resetNext c 5)

end Sys2Proof.Machine
end

