-- ==== Sys2Proof/Machine/Converters.lean ====
section
/-! DEFINITION. The auxiliary converter and its system calibration (R241 to R259), and the meanings of its commands. -/

namespace Sys2Proof.Machine

/-- Draws a free value. -/
def State.draw (s : State) : Nat × State := (Config.freeValue s.free, { s with free := s.free + 1 })

/-! ## Sequences (R244 to R250) -/

/-- Entries of an AUX_SEQUENCE unit instance; none without the unit. -/
def State.auxEntries (s : State) (inst : Nat) : Nat :=
  match s.unitAt cAUX inst with
  | some u => u.p 0 0 6
  | none => 0

/-- The multiplexer input of entry e of an instance. -/
def State.auxMux (s : State) (inst e : Nat) : Nat :=
  match s.unitAt cAUX inst with
  | some u => u.p (e + 1) 0 5
  | none => 0

/-- The regular and injected sequences run in ARMED, RUN and SAFE (R250). -/
def State.auxRuns (s : State) : Bool := s.inStates [stArmed, stRun, stSafe]

/-- Shows the converter's activity in SAR_STAT. -/
def State.auxShow (s : State) : State :=
  let p := match s.aux.act with
    | .idle => (0, 0)
    | .regular e => (1, e)
    | .injected e => (2, e)
    | .supervisor e => (3, e)
  (s.put Fld.SAR_STAT.ACT p.1).put Fld.SAR_STAT.ENTRY p.2

/-- Sets the activity. -/
def State.auxGo (s : State) (a : AuxAct) : State := ({ s with aux.act := a } : State).auxShow

/-- Starts the scan due at tick n: the regular sequence where it runs, with the supervisor's entries behind it at
n mod 256 = 0; those alone where no regular sequence runs (R245, R249, R250). -/
def State.startScan (s : State) : State :=
  let n := s.seq.frame
  let sup := n % 256 == 0
  let s := { s with aux.scanTick := n, aux.scanNs := s.silt.opNs, aux.superDue := sup, aux.scanDue := false }
  if s.auxRuns && s.auxEntries 0 != 0 then s.auxGo (.regular 0)
  else if sup && s.hubState ≥ stHeld then s.auxGo (.supervisor 0)
  else s

/-- No scan is in progress. -/
def State.noScan (s : State) : Bool :=
  match s.aux.act with
  | .idle => true
  | .injected _ => s.aux.resume == .idle
  | _ => false

/-- The converter's work at a frame tick: staged coefficients come into force (R257), results completed before FT are
carried (R251), and a scan starts unless one is in progress (R245, R248). -/
def State.auxTick (s : State) : State :=
  let inForce := (List.range 16).foldl (fun t m =>
    tabSet (tabSet t m (s.get Fld.SAR_GAINm.GAIN m)) (16 + m) (s.get Fld.SAR_OFFm.OFF m)) s.aux.inForce
  let merge := fun (a b : Tab Nat) => b.foldl (fun t e => tabSet t e.1 e.2) a
  let s := { s with aux.inForce := inForce, aux.carried := merge s.aux.carried s.aux.fresh, aux.fresh := []
                    aux.carriedIn := merge s.aux.carriedIn s.aux.freshIn, aux.freshIn := [] }
  if !s.noScan then s
  else match s.aux.act with
    | .injected _ => { s with aux.scanDue := true }
    | _ => s.startScan

/-- A scan ends: its spans and counts (R245, R258). -/
def State.scanEnd (s : State) (regular : Bool) : State :=
  let t := s.seq.frame - s.aux.scanTick + 1
  let s := s.when regular fun s =>
    let s := (s.wrap Fld.SAR_SCAN.SCAN_CNT).put Fld.SAR_SCAN.LAST_TICKS (min t 255)
    let s := s.put Fld.SAR_SCAN.MAX_TICKS (max (s.get Fld.SAR_SCAN.MAX_TICKS) (min t 255))
    let s := s.when (t > 1) (·.put Fld.SAR_STAT.SCAN_LONG 1)
    let s := s.put Fld.SAR_SCAN_TIME.LAST_10NS ((s.silt.opNs - s.aux.scanNs) / 10)
    match s.unitAt cAUX 0 with
    | some u => (s.countEvt u.id).ran u.id
    | none => s
  s.auxGo .idle

/-! ## Results (R242, R243, R251, R252, R254) -/

/-- VALUE of an input for a raw code, by R242, and for inputs 0 to 15 by R254 with the coefficients in force. -/
def State.auxValue (s : State) (m raw : Nat) : Int :=
  let r : Int := raw
  if m < 16 then
    let g : Int := ((tabGet s.aux.inForce 0x40000000 m : Nat) : Int)
    let o := signed 32 (tabGet s.aux.inForce 0 (16 + m))
    satSigned 24 (roundDiv (g * (r * 16000 - o)) (2 ^ 38))
  else if m < 20 then roundDiv (r * 75) 4
  else if m < 24 then satSigned 24 (Config.tempOf m raw)
  else if m = 24 then r * 25
  else if m = 25 then -(r * 25)
  else if m = 26 then roundDiv (r * 25) 2
  else if m = 27 then roundDiv (-(r * 25)) 2
  else if m = 28 then roundDiv (r * 25) 2
  else roundDiv (r * 125) 2

/-- The raw code saturates beyond the converter's span (R243). -/
def auxRaw (x : Int) : Nat := (clampInt 0 65535 x).toNat

/-- Stores a result of input m and returns its slot word without the TUN bit; after a parity error the word is POISON,
and what the result register then shows is free (R252; log entry 1). -/
def State.auxStore (s : State) (injected : Option Nat) (m : Nat) (x : Int) (parity : Bool) : Nat × State :=
  let ovr := decide (x < 0) || decide (x > 65535)
  let (v, s) : Int × State := if parity then
      let (d, s) := s.draw
      (signed 24 d, s)
    else (s.auxValue m (auxRaw x), s)
  let s := s.when ovr (·.put Fld.SAR_STAT.OVR_SEEN 1)
  let reg := unsigned 24 v * 256 + b2n ovr * 2 + 1
  let s := match injected with
    | some k => (s.wr Reg.SAR_INJk (BitVec.ofNat 32 reg) k).put Fld.SAR_INJk_FRAME.FRAME_LO s.seq.frame k
    | none => (s.wr Reg.SAR_RESm (BitVec.ofNat 32 reg) m).put Fld.SAR_RESm_FRAME.FRAME_LO s.seq.frame m
  (if parity then invWord rPOISON 0 0 else valWord v 0, s)

/-- The word that an auxiliary output or slot carries at this tick (R251). -/
def State.auxWord (s : State) (t : Tab Nat) (k : Nat) : Nat :=
  match tabGet? t k with
  | some w => w + 4 * s.tun
  | none => invWord rABSENT s.tun 0

/-- Adds a regular conversion to the calibration point in progress (R255). -/
def State.scalAdd (s : State) (m : Nat) (x : Int) (parity : Bool) : State :=
  match s.aux.scal with
  | some (i, pt) =>
    if i = m && s.aux.cnt < 2 ^ s.get Fld.SAR_SCAL_CTRL.AVG_LOG2 then
      let bad := parity || decide (x < 0) || decide (x > 65535)
      let a := { s.aux with sum := s.aux.sum + (auxRaw x : Int) * 16000, cnt := s.aux.cnt + 1 }
      { s with aux := if pt = 0 then { a with bad0 := a.bad0 || bad } else { a with bad1 := a.bad1 || bad } }
    else s
  | none => s

/-- A regular or supervisor conversion of input m completes. -/
def State.auxRegular (s : State) (entry : Option Nat) (m : Nat) (x : Int) (parity : Bool) : State :=
  let (w, s) := s.auxStore none m x parity
  let s := { s with aux.freshIn := tabSet s.aux.freshIn m w }
  match entry with
  | some e => ({ s with aux.fresh := tabSet s.aux.fresh e w } : State).scalAdd m x parity
  | none => s

/-- An injected run completes; the interrupted scan resumes, or a scan that became due starts (R247, R248). -/
def State.injectEnd (s : State) : State :=
  let s := s.wrap Fld.SAR_INJ_CNT.RUN_CNT
  let s := match s.unitAt cAUX 1 with
    | some u => (s.countEvt u.id).ran u.id
    | none => s
  let s := ({ s with aux.resume := .idle } : State).auxGo s.aux.resume
  if s.aux.act = .idle && s.aux.scanDue then s.startScan else s

/-- AUX_CONVERSION_DONE: the entry in progress completes with an unsaturated code and a parity check. -/
def execAuxConversionDone (code : Int) (parity : Bool) (s : State) : Host.Outcome State Fault Refusal :=
  match s.aux.act with
  | .idle => .next s
  | .regular e =>
    let s := s.auxRegular (some e) (s.auxMux 0 e) code parity
    .next (if e + 1 < s.auxEntries 0 then s.auxGo (.regular (e + 1))
      else if s.aux.superDue then s.auxGo (.supervisor 0) else s.scanEnd true)
  | .supervisor e =>
    let s := s.auxRegular none (20 + e) code parity
    .next (if e < 3 then s.auxGo (.supervisor (e + 1)) else s.scanEnd (s.auxRuns && s.auxEntries 0 != 0))
  | .injected e =>
    let (w, s) := s.auxStore (some e) (s.auxMux 1 e) code parity
    let s := { s with aux.fresh := tabSet s.aux.fresh (32 + e) w }
    .next (if e + 1 < s.auxEntries 1 then s.auxGo (.injected (e + 1)) else s.injectEnd)

/-- AUX_INJECT_START: the start event of the injected sequence asserts (R247, R248). -/
def execAuxInjectStart (s : State) : Host.Outcome State Fault Refusal :=
  match s.unitAt cAUX 1 with
  | none => .next s
  | some u =>
    if !s.auxRuns then .next s else
    match s.aux.act with
    | .injected _ =>
      .next (((s.sat Fld.SAR_INJ_CNT.MISS_CNT).uPut Fld.UNIT_STAT.CLASS_EVT 1 u.id).put Fld.SAR_STAT.INJ_MISS 1)
    | a => .next (({ s with aux.resume := a } : State).auxGo (.injected 0))

/-- The samples of the auxiliary slots and outputs at this tick (R246, R251). -/
def State.auxDeliver (s : State) : State :=
  let s := s.forEach (List.range (s.auxEntries 0)) fun e s =>
    { s with flow.slot := tabSet s.flow.slot (656 + s.auxMux 0 e) (s.auxWord s.aux.carriedIn (s.auxMux 0 e)) }
  let s := s.forEach [20, 21, 22, 23] fun m s =>
    { s with flow.slot := tabSet s.flow.slot (656 + m) (s.auxWord s.aux.carriedIn m) }
  let outs := fun (s : State) (inst off : Nat) =>
    match s.unitAt cAUX inst with
    | some u => s.forEach (List.range (s.auxEntries inst)) fun e s =>
        { s with flow.out := tabSet s.flow.out (256 * u.id + e) (s.auxWord s.aux.carried (off + e)) }
    | none => s
  outs (outs s 0 0) 1 32

/-- A commit at FT(F): sequences that are not carried over are abandoned (R253). -/
def State.auxCommit (s : State) (carried0 carried1 : Bool) : State :=
  let s := if carried0 then s else
    let s := { s with aux.fresh := s.aux.fresh.filter (·.1 ≥ 32), aux.carried := s.aux.carried.filter (·.1 ≥ 32)
                      aux.freshIn := s.aux.freshIn.filter (·.1 ≥ 20), aux.carriedIn := s.aux.carriedIn.filter (·.1 ≥ 20) }
    match s.aux.act with
    | .injected _ => { s with aux.resume := .idle }
    | _ => s.auxGo .idle
  if carried1 then s else
    let s := { s with aux.fresh := s.aux.fresh.filter (·.1 < 32), aux.carried := s.aux.carried.filter (·.1 < 32) }
    let s := s.forEach (List.range 8) fun k s => s.wr Reg.SAR_INJk 0 k
    match s.aux.act with
    | .injected _ => ({ s with aux.resume := .idle } : State).auxGo s.aux.resume
    | _ => s

/-! ## System calibration (R255 to R257) -/

/-- Ends a calibration with a result: the record, the flags, no measurement in progress (R256). -/
def State.scalResult (s : State) (m result : Nat) : State :=
  let s := { s with aux.scal := none, aux.ready := false }
  let s := ((s.put Fld.SAR_SCAL_STAT.BUSY 0).put Fld.SAR_SCAL_STAT.RESULT result).put Fld.SAR_SCAL_STAT.INPUT m
  let s := s.put Fld.SAR_SCAL_STAT.RESULT_NEW 1
  s.stage 0x0703 (leBytes 1 m ++ leBytes 1 result ++ leBytes 2 0 ++ leBytes 4 (s.get Fld.SAR_GAINm.GAIN m)
    ++ leBytes 4 (s.get Fld.SAR_OFFm.OFF m))

/-- Input m is named by an entry of the regular sequence. -/
def State.inSeq (s : State) (m : Nat) : Bool := (List.range (s.auxEntries 0)).any fun e => s.auxMux 0 e == m

/-- A start of a zero or full-scale measurement (R255). -/
def State.scalStart (s : State) : State :=
  let m := s.get Fld.SAR_SCAL_CTRL.INPUT
  let pt := s.get Fld.SAR_SCAL_CTRL.POINT
  let zeroOk := s.is Fld.SAR_SCAL_STAT.DONE0 && s.aux.zeroOf == some m
  if s.is Fld.SAR_SCAL_STAT.BUSY || !s.auxRuns || (pt == 1 && !zeroOk) then s.put Fld.SAR_SCAL_STAT.START_DROP 1
  else if !s.inSeq m then s.scalResult m 2
  else
    let s := s.when (pt == 0) (·.put Fld.SAR_SCAL_STAT.DONE1 0)
    let s := s.when (s.aux.zeroOf != some m) (·.put Fld.SAR_SCAL_STAT.DONE0 0)
    let a := { s.aux with scal := some (m, pt), sum := 0, cnt := 0 }
    ({ s with aux := if pt = 0 then { a with bad0 := false } else { a with bad1 := false } } : State).put
      Fld.SAR_SCAL_STAT.BUSY 1

/-- A write of SAR_SCAL_CTRL: AVG_LOG2 clamped, then START (R258). -/
def State.wrScalCtrl (s : State) (v : Nat) : State :=
  let s := s.writeByCode Reg.SAR_SCAL_CTRL v
  let s := s.put Fld.SAR_SCAL_CTRL.AVG_LOG2 (min 10 (field v 12 4))
  s.when (bit v 16) (·.scalStart)

/-- SAR_SCAL_POINT_DONE: the averaging of the point completes; the average is rounded to the nearest unit (DEDUCED from
the rounding of R254, log entry 4). -/
def execSarScalPointDone (s : State) : Host.Outcome State Fault Refusal :=
  match s.aux.scal with
  | none => .next s
  | some (m, pt) =>
    let k := s.get Fld.SAR_SCAL_CTRL.AVG_LOG2
    if s.aux.cnt < 2 ^ k then .next s else
    let avg := unsigned 32 (roundDiv s.aux.sum (2 ^ k))
    let s := s.put Fld.SAR_SCAL_STAT.BUSY 0
    if pt = 0 then
      .next (({ s with aux.scal := none, aux.zeroOf := some m } : State).put Fld.SAR_SCAL_N0.N0 avg
        |>.put Fld.SAR_SCAL_STAT.DONE0 1)
    else
      .next (({ s with aux.scal := none, aux.ready := true } : State).put Fld.SAR_SCAL_N1.N1 avg
        |>.put Fld.SAR_SCAL_STAT.DONE1 1)

/-- The rejection of a calibration, in the order of R256; 1 when it is accepted. -/
def State.scalJudge (s : State) : Nat :=
  let t0 := signed 32 (s.get Fld.SAR_SCAL_T0.T0)
  let t1 := signed 32 (s.get Fld.SAR_SCAL_T1.T1)
  let dT := t1 - t0
  let n0 : Int := s.get Fld.SAR_SCAL_N0.N0
  let dN : Int := (s.get Fld.SAR_SCAL_N1.N1 : Int) - n0
  let sgn : Int := if dN < 0 then -1 else 1
  let g256 := dT * 256 * sgn
  let aN : Int := dN.natAbs
  if !s.inSeq (s.aux.zeroOf.getD 0) then 2
  else if s.aux.bad0 || s.aux.bad1 then 3
  else if aN < 409600 * 256 || dT = 0 then 4
  else if g256 * 100 < 95 * aN || g256 * 100 > 105 * aN then 5
  else if (n0 * dT - t0 * dN).natAbs > 40960 * 256 * dT.natAbs then 6
  else 1

/-- The House phase of the tick in which N1 completed (R255 step 3). -/
def State.scalHouse (s : State) : State :=
  if !s.aux.ready then s else
  let m := s.aux.zeroOf.getD 0
  let r := s.scalJudge
  if r ≠ 1 then s.scalResult m r else
  let t0 := signed 32 (s.get Fld.SAR_SCAL_T0.T0)
  let dT := signed 32 (s.get Fld.SAR_SCAL_T1.T1) - t0
  let n0 : Int := s.get Fld.SAR_SCAL_N0.N0
  let dN : Int := (s.get Fld.SAR_SCAL_N1.N1 : Int) - n0
  let sN : Int := if dN < 0 then -1 else 1
  let sT : Int := if dT < 0 then -1 else 1
  let s := s.put Fld.SAR_GAINm.GAIN (unsigned 32 (roundDiv (dT * 256 * 2 ^ 30 * sN) dN.natAbs)) m
  let s := s.put Fld.SAR_OFFm.OFF (unsigned 32 (roundDiv ((n0 * dT - t0 * dN) * sT) dT.natAbs)) m
  (s.wrap Fld.SAR_SCAL_STAT.CAL_CNT).scalResult m 1

/-- An input that leaves the regular sequence at a commit ends its measurement (R256). -/
def State.scalCommit (s : State) : State :=
  match s.aux.scal with
  | some (m, _) => if s.inSeq m then s else s.scalResult m 2
  | none => s

/-! ## Register writes of the SAR block -/

/-- A write of SAR_EXCSEL: each selector above 23 is discarded (R258). -/
def State.wrExcsel (s : State) (v : Nat) : State :=
  let one := fun (s : State) (f : Field) => if field v f.lsb 5 > 23 then s else s.put f (field v f.lsb 5)
  one (one (one (one s Fld.SAR_EXCSEL.SEL0) Fld.SAR_EXCSEL.SEL1) Fld.SAR_EXCSEL.SEL2) Fld.SAR_EXCSEL.SEL3

/-- A write of SAR_MOD_CTRL: CNT_CLR sets every OVL_CNT to 0 (R258). -/
def State.wrModCtrl (s : State) (v : Nat) : State :=
  s.when (bit v 0) fun s => s.forEach (List.range 100) fun n s => s.put Fld.SAR_MODn_STAT.OVL_CNT 0 n

end Sys2Proof.Machine
end

