-- ==== Sys2Proof/Machine/Filters.lean ====
section
/-! DEFINITION. Filter chains: range compensation, alignment, synchronising resets and sample words (R260 to R285,
R294 to R297), and the meanings of their commands. -/

namespace Sys2Proof.Machine

/-! ## Chain parameters -/

/-- log2 of the decimation of chain c. -/
def State.dLog2 (s : State) (c : Nat) : Nat := s.get Fld.FLT_CHc_CFG.D_LOG2 c

/-- Filter mode of chain c (R262). -/
def State.fMode (s : State) (c : Nat) : Nat := s.get Fld.FLT_CHc_CFG.MODE c

/-- Tick n is an own tick of chain c (R35). -/
def State.ownTick (s : State) (c n : Nat) : Bool := dueTick (s.dLog2 c) (s.get Fld.FLT_CHc_CFG.PHASE c) n

/-- The first own tick of chain c after tick n. -/
def State.nextOwn (s : State) (c n : Nat) : Nat :=
  let d := 2 ^ s.dLog2 c
  n + 1 + (s.get Fld.FLT_CHc_CFG.PHASE c + d - (n + 1) % d) % d

/-- The slot of chain c (R260). -/
def slotOf (c : Nat) : Nat := if c < 100 then c else c + 28

/-- The FILTER unit of chain c; mend chains have none. -/
def State.filterUnit (s : State) (c : Nat) : Option PatUnit := s.unitAt cFILTER c

/-- Acquisition runs in ARMED, RUN and SAFE (R150). -/
def State.acquires (s : State) : Bool := s.inStates [stArmed, stRun, stSafe]

/-- The chain runs: its unit exists, its pod is bound, and its alignment holds (R278). -/
def State.chainRuns (s : State) (c : Nat) : Bool := s.is Fld.FLT_CHc_CFG.ACTIVE c && s.acquires

/-! ## Range compensation (R265 to R267) -/

/-- NOM[r] of R265, in u per level unit. -/
def nomU (r : Nat) : Int := 2621440 * (10 ^ (3 - r) : Nat)

/-- LEVEL of a modulator word (R231); none for a reserved code. -/
def levelOf (w : Nat) : Option Int :=
  match w % 8 with
  | 0 => some 0 | 1 => some 1 | 2 => some 2 | 6 => some (-2) | 7 => some (-1)
  | _ => none

/-- x[k] of R267 in u. -/
def compX (lvl gr ar : Int) (r : Nat) : Int := (lvl * nomU r * gr + 2 ^ 29) / 2 ^ 30 - ar

/-- The range at a position of the timeline: the switch instant itself has the new range (R202). -/
def rangeAt : List (Int × Nat) → Nat → Int → Nat
  | [], base, _ => base
  | (p, r) :: rest, base, pos => if p ≤ pos then r else rangeAt rest base pos

/-- What a chain's period shows beside its data: a reserved level, a missing word. -/
structure FeedFlags where
  bad : Bool
  miss : Nat
deriving DecidableEq, Repr

/-- Places one modulator period on a chain's timeline. A pod word that is missing is an overloaded period of LEVEL 0
(R284). For a local chain the command's operand stands for LEVEL 0 without flags where it lists no word. -/
def feedOne (pod : Bool) (gr ar : Nat → Int) (dflt k : Nat) (w : Option Nat) (x : Chain) (f : FeedFlags) :
    Chain × FeedFlags :=
  let pos : Int := ((k * 256 : Nat) : Int)
  let cur := if pod then rangeAt x.switches x.baseRange pos else dflt
  let r := match w with
    | some w => field w 4 2
    | none => cur
  let lvl := match w with
    | some w => levelOf w
    | none => some 0
  let ovd := lvl.isNone || (match w with | some w => bit w 3 || bit w 7 | none => pod)
  let x := if pod && r != cur then { x with switches := (pos, r) :: x.switches } else x
  let x := if ovd && !x.ovl.contains pos then { x with ovl := pos :: x.ovl } else x
  ({ x with hist := compX (lvl.getD 0) (gr r) (ar r) r :: x.hist },
    { bad := f.bad || lvl.isNone, miss := f.miss + b2n (pod && w.isNone) })

/-- Places the periods of one frame interval, from absolute period k on. -/
def feedAll (pod : Bool) (gr ar : Nat → Int) (dflt : Nat) (word : Nat → Option Nat) :
    (left k j : Nat) → Chain → FeedFlags → Chain × FeedFlags
  | 0, _, _, x, f => (x, f)
  | n + 1, k, j, x, f =>
    let (x, f) := feedOne pod gr ar dflt k (word j) x f
    feedAll pod gr ar dflt word n (k + 1) (j + 1) x f

/-- Drops what no later window can hold. -/
def trimChain (x : Chain) (keep : Nat) (now : Int) : Chain :=
  let lim := now - (keep * 256 : Nat)
  { x with hist := x.hist.take keep
           ovl := x.ovl.filter (fun p => decide (lim < p)), breaks := x.breaks.filter (fun p => decide (lim < p))
           switches := x.switches.filter (fun p => decide (lim < p.1)), baseRange := rangeAt x.switches x.baseRange lim }

/-- Places `left` periods of chain c from absolute period k0 on (R267, R284). -/
def State.feedFrom (s : State) (c k0 left : Nat) (word : Nat → Option Nat) : State :=
  let pod := c ≥ 100
  let dflt := if pod then 0 else s.get Fld.AFE_CHn_STAT.RANGE c
  let gr := fun r => ((s.get Fld.CAL_CHc_GRr.GR c r : Nat) : Int)
  let ar := fun r => s.getI Fld.CAL_CHc_ARr.AR c r
  let (x, f) := feedAll pod gr ar dflt word left k0 0 (s.chain c) ⟨false, 0⟩
  let keep := settleLen (s.fMode c) * 2 ^ s.dLog2 c * s.nPer + s.nPer + 4096
  let s := s.setChain c (trimChain x keep (s.ftPos s.seq.frame))
  let s := s.when f.bad (·.put Fld.FLT_CHc_EVT.BADLEVEL 1 c)
  s.when (f.miss != 0) fun s => (s.put Fld.FLT_CHc_EVT.MISS 1 c).sat Fld.FLT_CHc_CNT.MISS_CNT f.miss c

/-- The words of the interval that just ended enter local or mend chain c (R267). -/
def State.feedChain (s : State) (c : Nat) (word : Nat → Option Nat) : State :=
  s.feedFrom c ((s.seq.frame - 1) * s.nPer) s.nPer word

/-- The periods of a pod chain whose place has come: those at or before FT(n) − τ_c (R277); the first and their number. -/
def State.podSpan (s : State) (c : Nat) : Nat × Nat :=
  let stop := ((s.ftPos s.seq.frame - (s.get Fld.FLT_CHc_TAU.TAU c : Nat)) / 256).toNat
  let fed := (s.chain c).fed
  let start := if fed ≤ stop && stop - fed ≤ 2 * s.nPer then fed else stop - s.nPer
  (start, stop - start)

/-- The words of a FORMAT 0 pod chain whose place has come enter the chain; what has not arrived is missing (R284). -/
def State.feedPod (s : State) (c : Nat) : State :=
  let (k, left) := s.podSpan c
  if (s.chain c).fed > k + left then s else
  let words := (s.chain c).podIn
  let s := s.feedFrom c k left fun j => tabGet? words (k + j)
  s.setChain c { s.chain c with fed := k + left, podIn := words.filter fun e => k + left ≤ e.1 }

/-- Takes `left` pre-decimated samples from tick m on; a missing one is the previous one with CLIP set (R285), and where
there is none its VALUE is free (log entry 1). -/
def State.feedSamples (s : State) (c : Nat) : (left m : Nat) → State
  | 0, _ => s
  | k + 1, m =>
    let x := s.chain c
    let (w, miss, s) := match tabGet? x.podIn m, x.podLast with
      | some w, _ => (w, false, s)
      | none, some w => (if bit w 6 then w else w + 0x40, true, s)
      | none, none => (Config.freeValue s.free % 2 ^ 24 * 256 + 0x40, true, { s with free := s.free + 1 })
    let hist := (wVal w * (10 ^ (3 - wRange w) : Nat) :: x.hist).take 128
    let s := s.setChain c { x with podLast := some w, hist := hist, fed := m + 1 }
    let s := s.when miss fun s => (s.put Fld.FLT_CHc_EVT.MISS 1 c).sat Fld.FLT_CHc_CNT.MISS_CNT 1 c
    s.feedSamples c k (m + 1)

/-- The samples of a FORMAT 1 pod chain whose place has come (R285). -/
def State.feedPod1 (s : State) (c : Nat) : State :=
  let per := s.nPer * 256
  let behind := (s.get Fld.FLT_CHc_TAU.TAU c + per - 1) / per
  let stop := s.seq.frame + 1 - behind
  let fed := (s.chain c).fed
  let start := if fed ≤ stop && stop ≤ fed + 2 then fed else stop - 1
  if fed > stop then s else
  let s := s.feedSamples c (stop - start) start
  s.setChain c { s.chain c with podIn := (s.chain c).podIn.filter fun e => decide (stop ≤ e.1) }

/-! ## Alignment (R270 to R279) -/

/-- Nanoseconds with `frac` fraction bits in alignment units, rounded to nearest, ties away from zero (R270). -/
def nsToAu (frac : Nat) (ns : Int) : Int := roundDiv (ns * 3145728) (1000000 * 2 ^ frac)

/-- T_AL (R274). -/
def State.tAl (s : State) : Int := ((s.policy 0x0280 8192 : Nat) : Int)

/-- The field port of a pod chain. -/
def podPort (c : Nat) : Nat := (c - 100) / 32

/-- Word k of the descriptor copy of port p (R549). -/
def State.podDesc (s : State) (p k : Nat) : Nat := (s.rd Reg.FLD_Pp_DESCk p k).toNat

/-- t_pfe of pod chain c in ps: T_PFE + DT of its channel (R549). -/
def State.podPfe (s : State) (c : Nat) : Int :=
  signed 32 (s.podDesc (podPort c) 8) + signed 16 (s.podDesc (podPort c) (16 + (c - 100) % 32) / 65536)

/-- t_out of port p in ps (R549). -/
def State.podOut (s : State) (p : Nat) : Int := ((s.podDesc p 9 : Nat) : Int)

/-- Picoseconds in alignment units (R270). -/
def psToAu (ps : Int) : Int := roundDiv (ps * 3145728) 1000000000

/-- t_down in use of a port in 2^-8 ns (R547). -/
def State.tDown (s : State) (p : Nat) : Int := ((s.get Fld.FLD_Pp_TDOWN.TDOWN p : Nat) : Int)

/-- e_c of R271. -/
def State.ecOf (s : State) (c : Nat) : Int :=
  let sd := s.getI Fld.FLT_CHc_SDELAY.SENSOR_DELAY c
  if c < 100 then (s.get Fld.CAL_CHc_DFE.DFE c : Nat) + sd
  else psToAu (s.podPfe c) - nsToAu 8 (s.tDown (podPort c)) + sd

/-- R277 fails: a word could arrive too late. -/
def State.lateArrival (s : State) (c : Nat) (tau : Int) : Bool :=
  let p := podPort c
  decide (c ≥ 100) && decide (tau < roundDiv ((2000 * s.tDown p + 256 * s.podOut p + 256 * 40000) * 3145728) (256 * 1000000000))

/-- Takes a τ_c as the one in use. -/
def State.takeTau (s : State) (c : Nat) (tau : Int) : State :=
  ((s.put Fld.FLT_CHc_TAU.TAU (unsigned 20 tau) c).put Fld.FLT_CHc_STAT.TAU_SLEW 0 c).put Fld.FLT_CHc_EC.EC
    (unsigned 32 (s.tAl - tau)) c

/-- A chain stops because its alignment fails (R278). -/
def State.alignFails (s : State) (c : Nat) : State :=
  let s := (s.put Fld.FLT_CHc_CFG.ACTIVE 0 c).put Fld.FLT_CHc_STAT.TAU_SLEW 0 c
  if s.is Fld.FLT_CHc_STAT.ALIGN_FAIL c then s else
  ((s.put Fld.FLT_CHc_STAT.ALIGN_FAIL 1 c).put Fld.FLT_CHc_EVT.ALIGN_FAIL 1 c).stage 0x0704
    (leBytes 2 c ++ leBytes 2 0 ++ leBytes 4 (s.get Fld.FLT_CHc_TAU_TGT.TARGET c))

/-- Re-evaluates the τ_c target of chain c (R278, R279): with `take` it is taken at once as part of a reset; otherwise
a small change slews and a large one is taken at the next tick with a reset of cause 7. -/
def State.alignEval (s : State) (c : Nat) (take : Bool) : State :=
  let tgt := s.tAl - s.ecOf c
  let s := s.put Fld.FLT_CHc_TAU_TGT.TARGET (unsigned 32 tgt) c
  let late := s.lateArrival c tgt
  let s := s.put Fld.FLT_CHc_STAT.ARRIVAL (b2n late) c
  if decide (tgt < 0) || decide (tgt > 1048575) || late then s.alignFails c else
  let failed := s.is Fld.FLT_CHc_STAT.ALIGN_FAIL c
  let s := (s.put Fld.FLT_CHc_STAT.ALIGN_FAIL 0 c).put Fld.FLT_CHc_CFG.ACTIVE 1 c
  let cur : Int := s.get Fld.FLT_CHc_TAU.TAU c
  if take then s.takeTau c tgt
  else if failed || (tgt - cur).natAbs > 256 then s.resetNext c 7
  else s.put Fld.FLT_CHc_STAT.TAU_SLEW (b2n (tgt != cur)) c

/-- One tick of a slew: τ_c moves by one unit toward its target (R279). -/
def State.slewTau (s : State) (c : Nat) : State :=
  if !s.is Fld.FLT_CHc_STAT.TAU_SLEW c then s else
  let cur : Int := s.get Fld.FLT_CHc_TAU.TAU c
  let tgt := s.getI Fld.FLT_CHc_TAU_TGT.TARGET c
  let nxt := if cur < tgt then cur + 1 else if tgt < cur then cur - 1 else cur
  (s.takeTau c nxt).put Fld.FLT_CHc_STAT.TAU_SLEW (b2n (nxt != tgt)) c

/-- The chains whose alignment is evaluated: those of FILTER units whose pod, if any, is bound. -/
def State.alignable (s : State) : List Nat :=
  ((s.units cFILTER).map (·.inst)).filter fun c => c < 100 || bit (s.get Fld.FLD_STAT.BOUND) (podPort c)

/-! ## Synchronising reset (R280, R281) -/

/-- Units of chain c whose UNIT_STAT.SETTLING follows the chain (R281). -/
def State.chainUnits (s : State) (c : Nat) : List PatUnit :=
  (s.units cFILTER).filter (·.inst == c) ++ (s.units cLINEARISER).filter (·.inst == c)
    ++ (s.units cTHRESHOLD).filter (·.inst / 2 == c)

/-- Shows the settling of a chain. -/
def State.showSettling (s : State) (c : Nat) (on : Bool) : State :=
  (s.put Fld.FLT_CHc_STAT.SETTLING (b2n on) c).forEach (s.chainUnits c) fun u s =>
    s.uPut Fld.UNIT_STAT.SETTLING (b2n on) u.id

/-- τ_c behind the newest placed datum of chain c: a pod chain's data end before FT(n) (R277). -/
def State.histTau (s : State) (c : Nat) : Nat :=
  let tau := s.get Fld.FLT_CHc_TAU.TAU c
  if c < 100 then tau else
  let newest := if s.is Fld.FLT_CHc_CFG.FORMAT c then s.ftPos ((s.chain c).fed - 1) else (((s.chain c).fed * 256 : Nat) : Int)
  tau - (s.ftPos s.seq.frame - newest).toNat

/-- A synchronising reset of chain c takes effect at this tick (R280, R281, R295). -/
def State.syncReset (s : State) (c cause : Nat) : State :=
  let tau := s.histTau c
  let s := s.setChain c (trimChain { s.chain c with resets := [] } ((tau - 1) / 256) (s.ftPos s.seq.frame))
  let s := (s.put Fld.FLT_CHc_STAT.SETL_LEFT (settleLen (s.fMode c)) c).showSettling c true
  let s := (s.put Fld.FLT_CHc_EVT.RESET 1 c).sat Fld.FLT_CHc_CNT.RESET_CNT 1 c
  let s := s.put Fld.FLT_CHc_RST_LO.FRAME_LO s.seq.frame c
  (s.put Fld.FLT_CHc_RST_HI.FRAME_HI (s.seq.frame / 2 ^ 32) c).put Fld.FLT_CHc_RST_HI.CAUSE cause c

/-- Carries out the resets that are due for chain c at this tick: the lowest cause is recorded (R295), and τ_c is taken
where any of the causes takes it (R279). -/
def State.takeResets (s : State) (c : Nat) : State :=
  match (s.chain c).resets with
  | [] => s
  | l =>
    let direct := l.any fun k => k == 7 || k == 9 || k == 1 || k == 6
    (s.when direct (fun s => s.takeTau c (s.getI Fld.FLT_CHc_TAU_TGT.TARGET c))).syncReset c (l.foldl min 15)

/-! ## The sample (R199 to R203, R268, R281) -/

/-- An instant lies strictly inside the filter window (R199). -/
def inWindow (lo hi : Int) (p : Int) : Bool := decide (lo < p) && decide (p < hi)

/-- G in 1/4 output periods, at DC (R263). -/
def delayQ (mode : Nat) : Nat := match mode with | 0 => 144 | 1 => 29 | _ => 2

/-- The range of the sample of chain c labelled with this tick (R202, R268). -/
def State.sampleRange (s : State) (c : Nat) : Nat :=
  if c < 100 && !s.autoRange c then s.get Fld.AFE_CHn_STAT.RANGE c else
  let dn : Nat := 2 ^ s.dLog2 c * s.nPer
  let centre := s.ftPos s.seq.frame - (s.get Fld.FLT_CHc_TAU.TAU c : Nat) - (delayQ (s.fMode c) * dn * 64 : Nat)
  rangeAt (s.chain c).switches (s.chain c).baseRange centre

/-- The value and tags of a sample before the reasons of R18: the word, and whether VALUE saturated. -/
def State.rawSample (s : State) (c range : Nat) : Nat × Bool :=
  let x := s.chain c
  let mode := s.fMode c
  let d := s.dLog2 c
  let tau : Int := s.get Fld.FLT_CHc_TAU.TAU c
  let hi := s.ftPos s.seq.frame - tau
  let lo := hi - (settleLen mode * 2 ^ d * s.nPer * 256 : Nat)
  let y := Config.firOutput mode d s.ff (s.histTau c) x.hist
  let v := roundDiv y (256 * 10 ^ (3 - range))
  let sat := decide (v > 0x7FFFFF) || decide (v < -0x800000)
  let clip := sat || x.ovl.any (inWindow lo hi)
  let tags := b2n clip * 64 + b2n (s.get Fld.FLT_CHc_STAT.SETL_LEFT c != 0) * 32
    + b2n (x.switches.any fun p => inWindow lo hi p.1) * 16 + b2n (x.breaks.any (inWindow lo hi)) * 8
    + s.tun * 4 + range
  (valWord (satSigned 24 v) tags, sat)

/-- The sample of a FORMAT 1 pod chain: value and flags of the pod's own sample behind the fractional delay (R285). -/
def State.rawPodSample (s : State) (c : Nat) : Nat × Bool :=
  let w := (s.chain c).podLast.getD 0
  let y := Config.firOutput 3 0 s.ff (s.histTau c) (s.chain c).hist
  let v := roundDiv y (256 * 10 ^ (3 - wRange w))
  let sat := decide (v > 0x7FFFFF) || decide (v < -0x800000)
  let tags := b2n (sat || bit w 6) * 64 + b2n (s.get Fld.FLT_CHc_STAT.SETL_LEFT c != 0) * 32 + b2n (bit w 4) * 16
    + b2n (bit w 3) * 8 + s.tun * 4 + wRange w
  (valWord (satSigned 24 v) tags, sat)

/-- The sample has a settled filter again: SETL_LEFT counts down, and settling ends with the first settled one (R281). -/
def State.countSettled (s : State) (c : Nat) : State :=
  let l := s.get Fld.FLT_CHc_STAT.SETL_LEFT c
  if l = 0 then s.when (s.is Fld.FLT_CHc_STAT.SETTLING c) (·.showSettling c false)
  else s.put Fld.FLT_CHc_STAT.SETL_LEFT (l - 1) c

/-- The own sample word of chain c at an own tick, with the first reason of R18 that applies. -/
def State.ownSample (s : State) (c : Nat) : Nat × State :=
  let fmt1 := c ≥ 100 && s.is Fld.FLT_CHc_CFG.FORMAT c
  let range := if fmt1 then wRange ((s.chain c).podLast.getD 0) else s.sampleRange c
  let poison := s.coef.failed.contains c
  let s := { s with coef.failed := s.coef.failed.filter (· != c) }
  let (w, sat) := if fmt1 then s.rawPodSample c else s.rawSample c range
  let word := if poison then invWord rPOISON s.tun range
    else if c < 100 && s.is Fld.AFE_CHn_STAT.WB_CONF c then invWord rWIREBREAK s.tun range
    else if s.get Fld.FLT_CHc_STAT.SETL_LEFT c != 0 && s.is Fld.FLT_CHc_CFG.SETL_INV c then
      invWord rSETTLING s.tun range
    else w
  let s := s.when sat (·.put Fld.FLT_CHc_EVT.SAT 1 c)
  let s := s.countSettled c
  if c ≥ 100 then (word, s) else
  let peak := Config.cicPeak (s.fMode c) (s.dLog2 c) s.ff ((s.chain c).hist.take (2 ^ s.dLog2 c * s.nPer))
  (word, (s.dwell c (bit w 4) peak).recoverSample c)

/-- The word that FILTER output 0 of chain c carries is set, unlinearised (R132). -/
def State.setOutput (s : State) (u : PatUnit) (word : Nat) : State :=
  let s := s.put Fld.FLT_CHc_OUT.WORD word u.inst
  { (s.ran u.id) with flow.out := tabSet s.flow.out (256 * u.id) word, flow.slot := tabSet s.flow.slot (slotOf u.inst) word }

/-! ## Parity errors of the coefficient memory (R297) -/

/-- COEF_PARITY_ERROR: a read of set (mode, log2 D) fails; `running` are the chains of this Acquire phase whose
computation still runs, `next` those whose next sample read the set before the reload. -/
def execCoefParityError (mode d : Nat) (running next : List Nat) (s : State) : Host.Outcome State Fault Refusal :=
  let s := s.put Fld.FLT_GLB_STAT.COEF_ERR 1
  let s := s.forEach running fun c s =>
    match s.filterUnit c with
    | some u =>
      let w := tabGet s.flow.out absentWord (256 * u.id)
      if wInv w && wReason w == rABSENT then s else s.setOutput u (invWord rPOISON s.tun (wRange w))
    | none => s
  let key := 16 * mode + d
  let again := match tabGet? s.coef.lastErr key with
    | some f => decide (s.seq.frame < f + 1024)
    | none => false
  let s := { s with coef.lastErr := tabSet s.coef.lastErr key s.seq.frame, coef.failed := s.coef.failed ++ next }
  .next (s.when again (·.selfDiag sdCOEF))

/-! ## Register writes of the FLT block -/

/-- A write of FLT_CHc_CTRL: SYNC_RESET is discarded while the chain does not run (R295); CNT_CLR clears the counts. -/
def State.wrFltCtrl (s : State) (c v : Nat) : State :=
  let s := s.when (bit v 0 && s.chainRuns c) (·.resetNext c 8)
  s.when (bit v 1) fun s =>
    ((s.wr Reg.FLT_CHc_CNT 0 c).put Fld.FLT_CHc_THRd.SET_CNT 0 c 0).put Fld.FLT_CHc_THRd.SET_CNT 0 c 1

end Sys2Proof.Machine
end

