-- ==== Sys2Proof/Machine/Condition.lean ====
section
/-! DEFINITION. The Condition phase: linearisers (R286 to R289) and threshold detectors (R290 to R293). -/

namespace Sys2Proof.Machine

/-! ## Lineariser -/

/-- K_R of R286: the binary32 value nearest to FS_R / 2^22 in volts. -/
def kOfRange (r : Nat) : F32 :=
  f32Mul (match r with | 0 => .fin 10 0 | 1 => .fin 1 0 | 2 => f32Rat 1 10 | _ => f32Rat 1 100) (.fin 1 (-22))

/-- The signal argument x of a sample on chain c (R286). -/
def State.linArg (s : State) (c w : Nat) : F32 :=
  let x := f32Mul (kOfRange (wRange w)) (.fin (wVal w) 0)
  match s.unitAt cADAPTER c with
  | some u => f32Mul x (f32Rat 1 (100 * 10 ^ u.p 0 0 3))
  | none => x

/-- The polynomial of R287 for signal x and temperature t. -/
def linPoly (u : PatUnit) (x t : F32) : F32 :=
  let ns := u.p 0 0 3
  let nt := u.p 0 4 2
  let c := fun i j => f32Bits (u.params.getD (2 + i * (nt + 1) + j) 0)
  let down := fun (n : Nat) => (List.range n).reverse
  let a := fun i => f32Horner (c i nt) t ((down nt).map (c i))
  f32Mul (f32Bits (u.params.getD 1 0)) (f32Horner (a ns) x ((down ns).map a))

/-- The temperature of the lineariser: received, or the last valid one (R289); none before the first. -/
def State.linTemp (s : State) (u : PatUnit) : Option Int × State :=
  let c := u.inst
  match s.driver u.id 1 with
  | none => (some 0, s)
  | some _ =>
    let w := s.sampleIn u.id 1
    let s := if wInv w then (s.put Fld.FLT_CHc_LIN_STAT.TEMP_STALE 1 c).uPut Fld.UNIT_STAT.INV_IN 1 u.id
      else ((s.put Fld.FLT_CHc_LIN_STAT.TEMP_STALE 0 c).put Fld.FLT_CHc_LIN_TEMP.VALUE (w / 256) c).put
        Fld.FLT_CHc_LIN_TEMP.VALID 1 c
    (if s.is Fld.FLT_CHc_LIN_TEMP.VALID c then some (s.getI Fld.FLT_CHc_LIN_TEMP.VALUE c) else none, s)

/-- One computation of a lineariser (R286 to R289). -/
def State.linearise (s : State) (u : PatUnit) : State :=
  let c := u.inst
  if !s.ownTick c s.seq.frame then s else
  let w := s.sampleIn u.id 0
  let (t, s) := s.linTemp u
  let (out, s) : Nat × State :=
    if wInv w then (w, s) else
    match t with
    | none => (invWord rABSENT s.tun 0, s)
    | some t =>
      let (v, sat, nonfinite) := f32Value (linPoly u (s.linArg c w) (.fin t 0))
      let s := s.when (sat && !nonfinite) (·.put Fld.FLT_CHc_LIN_STAT.SAT 1 c)
      let s := s.when nonfinite (·.put Fld.FLT_CHc_LIN_STAT.NONFINITE 1 c)
      (valWord v ((w % 256) ||| (b2n sat * 64)), s)
  let s := s.sawWords u.id ([w] ++ if (s.driver u.id 1).isSome then [s.sampleIn u.id 1] else [])
  let s := (s.put Fld.FLT_CHc_LIN_OUT.WORD out c).ran u.id
  { s with flow.out := tabSet s.flow.out (256 * u.id) out, flow.slot := tabSet s.flow.slot (slotOf c) out }

/-! ## Threshold detectors -/

/-- A comparison value of a sample, scaled with its bound (R291): a FILTER's sample of range R against a bound in the
scale of range r0. -/
def State.thrScale (s : State) (u : PatUnit) (w : Nat) : Int × Int :=
  let byFilter : Bool := match s.driver u.id 0 with
    | some (d, _) => ((s.unitId d).map (·.cls)) == some cFILTER
    | none => false
  let c := u.inst / 2
  let r0 := if c ≥ 96 then 0 else match s.unitAt cINPUT c with
    | some i => i.p 0 1 2
    | none => 0
  if byFilter then (wVal w * (10 ^ r0 : Nat), (10 ^ wRange w : Nat)) else (wVal w, 1)

/-- Keeps what R392 needs of a detector's sample: its value in 1/1000 of the comparison scale, none for a sample that
is invalid or settling. -/
def State.thrKeep (s : State) (u : PatUnit) (v : Option Int) : State :=
  let m := tabGet s.cap.thr ⟨none, none, 0, none, 0⟩ u.inst
  { s with cap.thr := tabSet s.cap.thr u.inst { m with prev := m.cur, cur := v } }

/-- Keeps the crossing of a detector that sets (R392). -/
def State.thrMark (s : State) (u : PatUnit) : State :=
  let m := tabGet s.cap.thr ⟨none, none, 0, none, 0⟩ u.inst
  let m := { m with setCur := m.cur.getD 0, setPrev := m.prev, setAt := s.seq.frame }
  { s with cap.thr := tabSet s.cap.thr u.inst m }

/-- Sets or clears a detector and its event output (R290, R293). -/
def State.thrSet (s : State) (u : PatUnit) (on : Bool) : State :=
  let c := u.inst / 2
  let d := u.inst % 2
  let ev := 256 * u.id
  let s := s.put Fld.FLT_CHc_THRd.STATE (b2n on) c d
  if on then
    ({ s with flow.held := ev :: s.flow.held.filter (· != ev) } : State).classEvt u.id
      |>.sat Fld.FLT_CHc_THRd.SET_CNT 1 c d
  else { s with flow.held := s.flow.held.filter (· != ev) }

/-- One evaluation of a detector (R290 to R292). -/
def State.threshold (s : State) (u : PatUnit) : State :=
  let c := u.inst / 2
  if !s.ownTick c s.seq.frame then s else
  let w := s.sampleIn u.id 0
  let s := (s.sawWords u.id [w]).ran u.id
  if wInv w || wSetl w then s.thrKeep u none else
  let (v, k) := s.thrScale u w
  let s := s.thrKeep u (some (roundDiv (v * 1000) k.toNat))
  let hi := signed 32 (u.params.getD 1 0) * k
  let lo := signed 32 (u.params.getD 2 0) * k
  let pol := u.p 0 0 1
  let set_ := if pol = 0 then decide (v > hi) else decide (v < lo)
  let clear := if pol = 0 then decide (v < lo) else decide (v > hi)
  let on := s.is Fld.FLT_CHc_THRd.STATE c (u.inst % 2)
  if set_ && !on then (s.thrSet u true).thrMark u else if clear && on then s.thrSet u false else s

/-- A phase that starts behind its offset sets PHASE_LATE (R178). -/
def State.enterPhase (s : State) (k : Nat) (late : Bool) : State :=
  ({ s with seq.phase := k } : State).when late (·.put Fld.GLB_SEQ_STAT.PHASE_LATE 1)

/-- CONDITION_PHASE: linearisers, then thresholds, where acquisition runs (R177, R150). -/
def execConditionPhase (late : Bool) (s : State) : Host.Outcome State Fault Refusal :=
  if !s.acquires then .next s else
  let s := s.enterPhase 1 late
  let s := s.forEach (s.units cLINEARISER) fun u s => s.linearise u
  .next (s.forEach (s.units cTHRESHOLD) fun u s => s.threshold u)

end Sys2Proof.Machine
end

