-- ==== Sys2Proof/Machine/Calibration.lean ====
section
/-! DEFINITION. Calibration and mend channels (R298 to R327): coefficients and their staging, bus measurements, the
mend swap, scheduling, pod points; and the meanings of the commands that are not records. -/

namespace Sys2Proof.Machine

/-! ## Coefficients (R298 to R302) -/

/-- The mend channel of a channel's group (R309). -/
def mendOf (c : Nat) : Nat := 96 + groupOf c

/-- The coefficients of chain c in force. -/
def State.coefs (s : State) (c : Nat) : Coefs :=
  { gr := (List.range 4).map (fun r => s.get Fld.CAL_CHc_GRr.GR c r)
    ar := (List.range 4).map (fun r => s.getI Fld.CAL_CHc_ARr.AR c r)
    dfe := s.get Fld.CAL_CHc_DFE.DFE c, valid := s.get Fld.CAL_CHc_VALID.VALID c }

/-- Puts one coefficient word in force; `key` is 64 * chain + offset in the block. -/
def State.applyCoef (s : State) (key : Nat) (v : Word) : State :=
  let c := key / 64
  let off := key % 64
  if off < 16 then s.wr Reg.CAL_CHc_GRr v c (off / 4)
  else if off < 32 then s.wr Reg.CAL_CHc_ARr v c ((off - 16) / 4)
  else if off = 32 then s.put Fld.CAL_CHc_DFE.DFE v.toNat c
  else s.put Fld.CAL_CHc_VALID.VALID v.toNat c

/-- Stages one coefficient word (R300). -/
def State.stageCoef (s : State) (c off v : Nat) : State :=
  { s with cal.staged := tabSet s.cal.staged (64 * c + off) (BitVec.ofNat 32 v) }

/-- The word of a coefficient block as a read returns it: staged, or in force (R300). -/
def State.readCoef (s : State) (c off : Nat) : Nat :=
  match tabGet? s.cal.staged (64 * c + off) with
  | some v => v.toNat
  | none =>
    if off < 16 then s.get Fld.CAL_CHc_GRr.GR c (off / 4)
    else if off < 32 then s.get Fld.CAL_CHc_ARr.AR c ((off - 16) / 4)
    else if off = 32 then s.get Fld.CAL_CHc_DFE.DFE c
    else s.get Fld.CAL_CHc_VALID.VALID c

/-- The analogue die temperature in 1/256 °C (R249). -/
def State.dieTemp (s : State) : Int := s.getI Fld.SAR_RESm.VALUE 20

/-- Records the reference of chain c, with ρ in 0.1 ppm (R319, R325). -/
def State.setRef (s : State) (c : Nat) (rho : Int) : State :=
  let t := s.opMs
  let s := (s.put Fld.CAL_CHc_TIME_LO.TIME_LO t c).put Fld.CAL_CHc_TIME_HI.TIME_HI (t / 2 ^ 32) c
  let s := (s.putI Fld.CAL_CHc_QUAL.TEMP s.dieTemp c).putI Fld.CAL_CHc_QUAL.RESID rho c
  { s with cal.refs := c :: s.cal.refs.filter (· != c) }

/-- Staged words come into force at a frame tick, all together (R300); a chain that a commit or software set valid takes
its reference (R319). -/
def State.applyStaged (s : State) : State :=
  let l := s.cal.staged
  let v := s.cal.validSet
  let s := { s with cal.staged := [], cal.validSet := [] }
  let s := l.foldl (fun s e => s.applyCoef e.1 e.2) s
  s.forEach v fun c s => s.setRef c 0

/-- The channels whose D_FE word waits for the next frame tick. -/
def State.stagedDfe (s : State) : List Nat :=
  (s.cal.staged.filter fun e => e.1 % 64 == 32 && e.1 / 64 < 96).map fun e => e.1 / 64

/-- A D_FE that came into force at this tick is aligned: a slew or a reset begins at the next tick (R278, R279). -/
def State.alignDfe (s : State) (l : List Nat) : State :=
  s.forEach l fun c s => s.when (s.alignable.contains c) (·.alignEval c false)

/-- Chain c is part of a mend swap, from connection to swap-back (R301). -/
def State.inSwap (s : State) (c : Nat) : Bool :=
  match s.cal.swap with
  | none => false
  | some w =>
    [CalPhase.shadow, .matchIn, .measure, .reconnect, .matchBack].contains s.cal.phase && (w.ch == c || mendOf w.ch == c)
      && !(s.cal.phase == .shadow && w.due.isSome)

/-- A write of a coefficient word by software or CALDATA: `source` is the SOURCE code (R300, R301, R323 to R325). -/
def State.wrCoef (s : State) (c off v source : Nat) : State :=
  if off > 36 || (c ≥ 100 && off == 32) then s
  else if source == 5 && s.inSwap c then s.put Fld.CAL_STAT.WR_DROP 1
  else
    let v := if off = 32 then v % 65536 else if off = 36 then v % 16 else v
    let sets := off == 36 && v != 0
    let s := (s.stageCoef c off v).put Fld.CAL_CHc_RESULT.SOURCE source c
    let s := if sets then { s with cal.validSet := c :: s.cal.validSet.filter (· != c) } else s
    if c < 100 then s else
    let p := podPort c
    (s.put Fld.CAL_PODp_SERIAL_LO.SERIAL (s.get Fld.FLD_Pp_SERIAL_LO.SERIAL p) p).put Fld.CAL_PODp_SERIAL_HI.SERIAL
      (s.get Fld.FLD_Pp_SERIAL_HI.SERIAL p) p

/-- CAL_COEF_WRITE: a software write of the word at an offset of a coefficient block. -/
def execCalCoefWrite (chain off v : Nat) (s : State) : Host.Outcome State Fault Refusal :=
  if !s.mapOpen then .next s else
  .next (if chain < 612 && off % 4 == 0 then s.wrCoef chain off v 5 else s)

/-- A write of CAL_CTRL (R319). -/
def State.wrCalCtrl (s : State) (v : Nat) : State := s.writeByCode Reg.CAL_CTRL v

/-- CAL_CTRL_SUSPEND: new swaps are stopped or permitted. -/
def execCalCtrlSuspend (on : Bool) (s : State) : Host.Outcome State Fault Refusal :=
  if !s.mapOpen then .next s else
  .next (s.wrCalCtrl (b2n on))

/-- The ranges an INPUT unit can use (R302, R306). -/
def State.calRanges (s : State) (c : Nat) : List Nat :=
  match s.unitAt cINPUT c with
  | some u => if u.p 0 0 1 = 1 then [0, 1, 2, 3] else [u.p 0 1 2]
  | none => [0, 1, 2, 3]

/-- The coefficients of a local channel are valid (R302). -/
def State.calOk (s : State) (c : Nat) : Bool :=
  s.policy 0x0105 0 == 1 || (s.calRanges c).all fun r => bit (s.get Fld.CAL_CHc_VALID.VALID c) r

/-! ## Results (R315, R325, R326) -/

/-- Shows the calibration unit in CAL_STAT. -/
def State.calShow (s : State) : State :=
  let code := match s.cal.phase with
    | .idle => if s.cal.pod.isSome then 7 else 0
    | .mendCal => 1 | .shadow => 2 | .matchIn => 3 | .measure => 4 | .reconnect => 5 | .matchBack => 6
    | .podPoint => 7 | .maint => 8
  (s.put Fld.CAL_STAT.PHASE code).put Fld.CAL_STAT.CHANNEL
    (match s.cal.swap with | some w => w.ch | none => 255)

/-- Sets the phase and the swap. -/
def State.calGo (s : State) (p : CalPhase) (w : Option Swap) : State :=
  ({ s with cal.phase := p, cal.swap := w } : State).calShow

/-- GLB_DEGRADED.MEND: a mend channel of a group with INPUT units is unavailable (R320). -/
def State.mendDegraded (s : State) : State :=
  s.degrade Fld.GLB_DEGRADED.MEND Fld.GLB_DEGRADED_STICKY.MEND
    (s.cal.badMend.any fun m => (s.units cINPUT).any fun u => groupOf u.inst == groupOf m)

/-- The result code of a calibration and what goes with it: counts, flags, reference, record (R315). -/
def State.calResult (s : State) (c result source : Nat) (rho : Int) (record : Bool) : State :=
  let s := (s.put Fld.CAL_CHc_RESULT.RESULT result c).put Fld.CAL_CHc_RESULT.SOURCE source c
  let abort := result == 9 || (result ≥ 0xB && result ≤ 0xE)
  let s := if result = 1 then ((s.sat Fld.CAL_CHc_CNT.ACC_CNT 1 c).evt Fld.CAL_STAT.ACCEPTED 100).setRef c rho
    else if abort then s.evt Fld.CAL_STAT.ABORTED 100
    else (s.sat Fld.CAL_CHc_CNT.REJ_CNT 1 c).evt Fld.CAL_STAT.REJECTED 100
  let s := if result = 1 then s else { s with cal.failedAt := tabSet s.cal.failedAt c s.opMs }
  s.when record fun s =>
    let r := s.get Fld.AFE_CHn_STAT.RANGE c
    s.stage 0x0705 (leBytes 1 c ++ leBytes 1 result ++ leBytes 1 r ++ leBytes 1 0 ++ leBytes 4 (s.readCoef c (4 * r))
      ++ leBytes 4 (s.readCoef c (16 + 4 * r)) ++ leBytes 2 (s.get Fld.CAL_CHc_QUAL.RESID c))

/-- The result of a MEND_CAL (R316, R317, R320). -/
def State.mendResult (s : State) (m result : Nat) (rho : Int) (source : Nat) : State :=
  let g := m - 96
  let s := (s.calResult m result source rho false).put Fld.CAL_MENDg_STAT.RESULT result g
  let s := if result = 1 then
      ({ s with cal.badMend := s.cal.badMend.filter (· != m),
                cal.mendCal := tabSet s.cal.mendCal m (s.opMs, s.dieTemp) } : State).put Fld.CAL_MENDg_STAT.AVAIL 1 g
        |>.put Fld.CAL_MENDg_STAT.AGE_S 0 g
    else if result < 9 then
      ({ s with cal.badMend := m :: s.cal.badMend.filter (· != m) } : State).put Fld.CAL_MENDg_STAT.AVAIL 0 g
        |>.sat Fld.CAL_MENDg_STAT.FAIL_CNT 1 g
    else s
  s.mendDegraded

/-- The calibration unit rests; the mend chain of channel c is disconnected. -/
def State.calRest (s : State) (c : Nat) : State :=
  let m := mendOf c
  let s := ((s.calGo .idle none).put Fld.CAL_CHK_OUT.WORD 0).put Fld.FLT_CHc_CFG.ACTIVE 0 m
  { s with flow.slot := tabErase s.flow.slot m }

/-! ## Steps on the bus (R304 to R308) -/

/-- The hub takes the residual step, which the PZH4804 does not (R307). -/
def State.big (s : State) : Bool := !s.small

/-- The chain that a bus measurement measures now. -/
def State.onBus (s : State) : Option Nat :=
  match s.cal.swap with
  | some w => if [CalPhase.mendCal, .measure, .maint].contains s.cal.phase && w.due.isNone && w.ended.isNone
      then some w.ch else none
  | none => none

/-- Steps of a calibration: three per range, the delay step, and the residual step of a PZH9608 (R306, R307). -/
def State.stepCount (s : State) (w : Swap) : Nat := 3 * w.ranges.length + 1 + b2n s.big

/-- The range of step i. -/
def stepRange (w : Swap) (i : Nat) : Nat := if i < 3 * w.ranges.length then w.ranges.getD (i / 3) 0 else w.rangeIn

/-- Averaged periods per step, n (R304). -/
def State.stepN (s : State) : Nat := 2 ^ s.policy 0x010C 4 * 4096

/-- Periods of step i, discarded ones included (R304, R307). -/
def State.stepLen (s : State) (w : Swap) : Nat := if w.step = 3 * w.ranges.length then 32768 else 4096 + s.stepN

/-- Begins the step that is due: the unit sets its range on the measured channel (R309). -/
def State.stepBegin (s : State) (w : Swap) : State :=
  let r := stepRange w w.step
  let s := if s.get Fld.AFE_CHn_STAT.RANGE w.ch = r then s else
    (s.put Fld.AFE_CHn_STAT.RANGE r w.ch).switchAt w.ch (s.ftPos s.seq.frame) r
  s.calGo s.cal.phase (some { w with due := none, fed := 0, sum := 0, ovld := false, ended := none })

/-- Feeds one period of the measured channel to the accumulator (R304, R305). -/
def stepFeed (total : Nat) (delay : Bool) (dflt : Nat) (w : Option Nat) (x : Swap) : Swap :=
  if x.fed ≥ total then x else
  let lvl := match w with | some w => levelOf w | none => some 0
  let r := match w with | some w => field w 4 2 | none => dflt
  let bad := lvl.isNone || (match w with | some w => bit w 3 || bit w 7 | none => false)
  let live := delay || decide (x.fed ≥ 4096)
  { x with fed := x.fed + 1
           sum := if live && !delay then x.sum + compX (lvl.getD 0) (2 ^ 30) 0 r else x.sum
           ovld := x.ovld || (live && bad) }

/-- Feeds the words of one interval. -/
def stepFeedAll (total : Nat) (delay : Bool) (dflt : Nat) (word : Nat → Option Nat) : Nat → Nat → Swap → Swap
  | 0, _, x => x
  | n + 1, j, x => stepFeedAll total delay dflt word n (j + 1) (stepFeed total delay dflt (word j) x)

/-- The accumulator takes the interval that just ended. -/
def State.calFeed (s : State) (word : Nat → Nat → Option Nat) : State :=
  match s.onBus, s.cal.swap with
  | some c, some w =>
    let delay := w.step == 3 * w.ranges.length
    { s with cal.swap := some (stepFeedAll (s.stepLen w) delay (s.get Fld.AFE_CHn_STAT.RANGE c) (word c) s.nPer 0 w) }
  | _, _ => s

/-- CAL_STEP_END: a step's averaging ends; for the delay step `edge` is the mean edge position in alignment units. -/
def execCalStepEnd (edge : Int) (s : State) : Host.Outcome State Fault Refusal :=
  match s.onBus, s.cal.swap with
  | some _, some w =>
    .next (if w.fed < s.stepLen w then s else { s with cal.swap := some { w with ended := some edge } })
  | _, _ => .next s

/-- 10 P_r in u (R306): 0.9 of full scale, or 20 mA with the 100 Ω adapter on range 0. -/
def State.tenP (s : State) (c r : Nat) : Int :=
  match s.unitAt cADAPTER c with
  | some u => if u.p 0 0 3 = 0 && r == 0 then (2 * fsU 0 : Nat) else (9 * fsU r : Nat)
  | none => (9 * fsU r : Nat)

/-- gr and ar of the k-th calibrated range from its three sums (R306); gr 0 where A⁺ = A⁻, which fails check 2. -/
def State.gainOf (s : State) (w : Swap) (k : Nat) : Int × Int :=
  let z := w.sums.getD (3 * k) 0
  let d := w.sums.getD (3 * k + 1) 0 - w.sums.getD (3 * k + 2) 0
  let n : Int := s.stepN
  let gr := if d = 0 then 0 else
    roundDiv (2 ^ 30 * 2 * s.tenP w.ch (w.ranges.getD k 0) * n * (if d < 0 then -1 else 1)) (10 * d.natAbs)
  (gr, roundDiv (z * gr) (s.stepN * 2 ^ 30))

/-- Checks 2 to 5 of R308 over the calibrated ranges: the first that fails, or 1. -/
def State.gainChecks (s : State) (w : Swap) (g : List (Int × Int)) : Nat :=
  let idx := List.range w.ranges.length
  let r := fun k => w.ranges.getD k 0
  let gr := fun k => (g.getD k (0, 0)).1
  let ar := fun k => (g.getD k (0, 0)).2
  let gOld := fun k => ((w.old.gr.getD (r k) 0 : Nat) : Int)
  let aOld := fun k => w.old.ar.getD (r k) 0
  let free := fun k => w.force || !bit w.old.valid (r k)
  if idx.any fun k => decide (gr k * 100 < 98 * 2 ^ 30) || decide (gr k * 100 > 102 * 2 ^ 30) then 3
  else if idx.any fun k => !free k && decide (((gr k - gOld k).natAbs * 1000000 : Nat) >
      s.policy 0x0106 500 * (gOld k).natAbs) then 4
  else if idx.any fun k => decide ((ar k).natAbs * 200 > fsU (r k)) then 5
  else if idx.any fun k => !free k && decide ((ar k - aOld k).natAbs * 1000000 > s.policy 0x0107 200 * fsU (r k)) then 6
  else 1

/-- D_FE limits of R276 by the front end of channel c. -/
def State.dfeLimits (s : State) (c : Nat) : Nat × Nat :=
  match s.unitAt cADAPTER c with
  | none => (31, 472)
  | some u => match u.p 0 0 3 with
    | 0 => (31, 786) | 1 => (31, 786) | 2 => (63, 1887) | 3 => (157, 7864) | _ => (629, 31457)

/-- Check 6 of R308. -/
def State.delayCheck (s : State) (w : Swap) (e : Int) : Bool :=
  let (lo, hi) := s.dfeLimits w.ch
  let free := w.force || w.ranges.any fun r => !bit w.old.valid r
  decide ((lo : Int) ≤ e) && decide (e ≤ hi) && (free || (e - w.old.dfe).natAbs ≤ 16)

/-- ρ in 0.1 ppm from the sum of the residual step, numerator and denominator (R307). -/
def State.rhoOf (s : State) (w : Swap) : Int × Nat :=
  let r := w.rangeIn
  let k := (w.ranges.findIdx? (· == r)).getD 0
  let gr : Int := w.gr.getD k 0
  let ar := w.ar.getD k 0
  let n := s.stepN
  let vb : Int := s.get Fld.CAL_REF.VB_UV
  let m := (w.sum * gr - ar * (n * 2 ^ 30 : Nat)) * (10 ^ (4 + r) : Nat)
  let ref := vb * (2 ^ 22 * n * 2 ^ 30 : Nat)
  ((m - ref) * 10000000, n * 2 ^ 30 * 10 ^ (4 + r) * fsU r)

/-- The measurement ends with a result (1 for plausible): a mend or MAINT calibration is final, a swap reconnects at
the channel's next own tick. -/
def State.measured (s : State) (w : Swap) (result : Nat) : State :=
  let n := s.seq.frame
  match s.cal.phase with
  | .measure => s.calGo .measure (some { w with result := result, step := 99, ended := none, due := some (s.nextOwn w.ch n) })
  | p =>
    let src := if p == .maint then 2 else 1
    let s := if result = 1 then
        let s := s.forEach (List.range w.ranges.length) fun k s =>
          (s.stageCoef w.ch (4 * w.ranges.getD k 0) (w.gr.getD k 0)).stageCoef w.ch (16 + 4 * w.ranges.getD k 0)
            (unsigned 32 (w.ar.getD k 0))
        (s.stageCoef w.ch 32 w.dfe).stageCoef w.ch 36 (w.ranges.foldl (fun v r => v ||| 2 ^ r) w.old.valid)
      else s
    let s := if w.ch ≥ 96 then s.mendResult w.ch result w.rho src else s.calResult w.ch result src w.rho true
    match w.forCh with
    | some c =>
      if result = 1 then
        s.calGo .shadow (some { w with
          ch := c, forCh := none, old := s.coefs c, ranges := s.calRanges c, step := 0, sums := [], gr := [], ar := []
          rho := 0, ended := none, result := 0, due := some (s.nextOwn c n) })
      else s.calGo .idle none
    | none => s.calGo .idle none

/-- The evaluation of a step in the House phase after its end (R304 to R308). -/
def State.stepEval (s : State) : State :=
  match s.cal.swap with
  | none => s
  | some w =>
    match w.ended with
    | none => s
    | some e =>
      let k3 := 3 * w.ranges.length
      let nxt := fun (w : Swap) => if w.step + 1 < s.stepCount w then
          s.calGo s.cal.phase (some { w with step := w.step + 1, ended := none, due := some (s.seq.frame + 1) })
        else s.measured w 1
      if w.ovld then s.measured w 2
      else if w.step < k3 then
        let w := { w with sums := w.sums ++ [w.sum] }
        if w.step + 1 < k3 then nxt w else
        let g := (List.range w.ranges.length).map (s.gainOf w)
        let c := s.gainChecks w g
        if c ≠ 1 then s.measured w c else nxt { w with gr := g.map (·.1.toNat), ar := g.map (·.2) }
      else if w.step = k3 then
        if s.delayCheck w e then nxt { w with dfe := e.toNat } else s.measured w 7
      else
        let (num, den) := s.rhoOf w
        let w := { w with rho := roundDiv num den }
        if num.natAbs > 10 * s.policy 0x0108 100 * den then s.measured w 8 else nxt w

/-! ## The mend swap (R309 to R315) -/

/-- The mend chain takes the mode, rate and settings of channel c's chain and front end (R309). -/
def State.mendFollow (s : State) (c : Nat) : State :=
  let m := mendOf c
  let act := s.get Fld.FLT_CHc_CFG.ACTIVE m
  let s := (s.wr Reg.FLT_CHc_CFG (s.rd Reg.FLT_CHc_CFG c) m).put Fld.FLT_CHc_CFG.ACTIVE act m
  let s := s.wr Reg.FLT_CHc_SDELAY (s.rd Reg.FLT_CHc_SDELAY c) m
  let s := s.wr Reg.AFE_CHn_CFG (s.rd Reg.AFE_CHn_CFG c) m
  s.put Fld.AFE_CHn_CTRL.RANGE_HOLD (s.get Fld.AFE_CHn_CTRL.RANGE_HOLD c) m

/-- FT(s0): Mg is connected in parallel, on the channel's range, with a synchronising reset (R309). -/
def State.shadowBegin (s : State) (w : Swap) : State :=
  let m := mendOf w.ch
  let r := s.get Fld.AFE_CHn_STAT.RANGE w.ch
  let s := (s.mendFollow w.ch).put Fld.AFE_CHn_STAT.RANGE r m
  let s := (s.setChan m Chan.rest).setChain m { Chain.rest with baseRange := r }
  let s := (s.alignEval m true).resetNext m 9
  s.calGo .shadow (some { w with due := none, old := s.coefs w.ch })

/-- A match begins: its window is empty. -/
def matchStart (w : Swap) : Swap := { w with diffs := [], pairs := 0, ticks := 0, passed := false, due := none }

/-- Own ticks a match may take (R311). -/
def State.matchLimit (s : State) (c : Nat) : Nat :=
  settleLen (s.fMode c) + s.policy 0x0109 32 + s.policy 0x010B 256

/-- FT(s): STAND_IN and MEASURE begin (R309). -/
def State.swapIn (s : State) (w : Swap) : State :=
  let s := s.put Fld.CAL_SWAP_S.FRAME_LO s.seq.frame
  let w := { w with standIn := true, rangeIn := s.get Fld.AFE_CHn_STAT.RANGE w.ch, step := 0, sums := [], passed := false }
  (s.calGo .measure (some w)).stepBegin w

/-- Puts the coefficients of channel c in force at once. -/
def State.forceCoefs (s : State) (c : Nat) (k : Coefs) : State :=
  let s := s.forEach [0, 1, 2, 3] fun r s =>
    (s.put Fld.CAL_CHc_GRr.GR (k.gr.getD r 0) c r).put Fld.CAL_CHc_ARr.AR (unsigned 32 (k.ar.getD r 0)) c r
  (s.put Fld.CAL_CHc_DFE.DFE k.dfe c).put Fld.CAL_CHc_VALID.VALID k.valid c

/-- The coefficients in force after an accepted measurement. -/
def newCoefs (w : Swap) : Coefs :=
  (List.range w.ranges.length).foldl (fun (k : Coefs) i =>
    { k with gr := k.gr.set (w.ranges.getD i 0) (w.gr.getD i 0), ar := k.ar.set (w.ranges.getD i 0) (w.ar.getD i 0)
             valid := k.valid ||| 2 ^ w.ranges.getD i 0 }) { w.old with dfe := w.dfe }

/-- The channel's gain stage returns to AINc on the mend's range, dwell 0, with a synchronising reset and τ_c taken
directly (R309). -/
def State.reconnect (s : State) (w : Swap) (k : Coefs) : State :=
  let c := w.ch
  let r := s.get Fld.AFE_CHn_STAT.RANGE (mendOf c)
  let s := (s.put Fld.AFE_CHn_STAT.RANGE r c).put Fld.AFE_CHn_DWELL.COUNT 0 c
  let s := (s.setChan c { s.chan c with dwellArmed := false }).switchAt c (s.ftPos s.seq.frame) r
  ((s.forceCoefs c k).alignEval c true).resetNext c 9

/-- FT(r_c): RECONNECT with the new coefficients of a plausible result, or the old ones. -/
def State.reconnectBegin (s : State) (w : Swap) : State :=
  let ok := w.result == 1
  (s.reconnect w (if ok then newCoefs w else w.old)).calGo .reconnect (some { matchStart w with applied := ok })

/-- FT(r_c2): the coefficients before the swap return, with a reset (R311). -/
def State.revert (s : State) (w : Swap) : State :=
  ((s.forceCoefs w.ch w.old).alignEval w.ch true).resetNext w.ch 9
    |>.calGo .reconnect (some { matchStart w with applied := false, second := true })

/-- FT(b): SWAP_BACK. An accepted result needs its coefficients in force (R315). -/
def State.swapBack (s : State) (w : Swap) : State :=
  let s := s.put Fld.CAL_SWAP_B.FRAME_LO s.seq.frame
  (s.calRest w.ch).calResult w.ch w.result 1 w.rho true

/-- An aborted swap ends at its tick: in STAND_IN and later the channel is back on its own sample with the old
coefficients and a reset (R314). -/
def State.abortNow (s : State) (w : Swap) (code : Nat) : State :=
  let s := if w.standIn then s.reconnect w w.old else s
  (s.calRest w.ch).calResult w.ch code 1 0 true

/-- An abort at the next own tick. -/
def State.abortAt (s : State) (w : Swap) (code : Nat) : State :=
  s.calGo s.cal.phase (some { w with aborting := some code, due := some (s.nextOwn w.ch s.seq.frame), ended := none })

/-- The calibration unit's work at a frame tick: staged words, then whatever is due now. -/
def State.calTick (s : State) : State :=
  let s := s.applyStaged
  match s.cal.swap with
  | none => s
  | some w =>
    let s := if s.inSwap w.ch then s.mendFollow w.ch else s
    if w.due ≠ some s.seq.frame then s else
    match w.aborting with
    | some code => s.abortNow w code
    | none =>
      match s.cal.phase with
      | .mendCal => s.stepBegin w
      | .maint => s.stepBegin w
      | .shadow => s.shadowBegin w
      | .matchIn => s.swapIn w
      | .measure => if w.step = 99 then s.reconnectBegin w else s.stepBegin w
      | .reconnect => s.revert w
      | .matchBack => if w.passed then s.swapBack w else s.revert w
      | _ => s

/-- A pair is comparable (R310). -/
def comparable (a b : Nat) : Bool := a % 256 / 8 == 0 && b % 256 / 8 == 0 && wRange a == wRange b

/-- One pair of samples: the window of MATCH_N pairs and its verdict (R310, R325). -/
def State.matchPair (s : State) (w : Swap) (own mend : Nat) : State :=
  let n := s.policy 0x0109 32
  let w := { w with ticks := w.ticks + 1 }
  if w.passed || w.due.isSome then s else
  if !comparable own mend then { s with cal.swap := some w } else
  let diffs := ((wVal mend - wVal own) :: w.diffs).take n
  let sum := diffs.foldl (· + ·) 0
  let w := { w with diffs := diffs, pairs := w.pairs + 1 }
  let lim := s.policy 0x010A 200 * (if (s.unitAt cADAPTER w.ch).isSome then 4 else 1)
  let ok := decide (w.pairs ≥ n) && decide (sum.natAbs * 1000000 ≤ lim * n * 2 ^ 22) && w.ticks ≤ s.matchLimit w.ch
  let s := (s.put Fld.CAL_MATCH.PAIRS (min w.pairs 0xFFFF)).putI Fld.CAL_MATCH.MEAN
    (roundDiv (sum * 1000000) (diffs.length * 2 ^ 22))
  { s with cal.swap := some (if ok then { w with passed := true, due := some (s.nextOwn w.ch s.seq.frame) } else w) }

/-- The match work at an own tick of the channel in a swap, after its samples are formed: a match begins with the first
settled sample of the chain that was reset (R309). -/
def State.calMatch (s : State) (own mend : Nat) : State :=
  match s.cal.swap with
  | none => s
  | some w =>
    let go := fun (s : State) => match s.cal.swap with | some w => s.matchPair w own mend | none => s
    match s.cal.phase with
    | .shadow => if w.due.isNone && !s.is Fld.FLT_CHc_STAT.SETTLING (mendOf w.ch) then
        go (s.calGo .matchIn (some (matchStart w))) else s
    | .reconnect => if w.due.isNone && !s.is Fld.FLT_CHc_STAT.SETTLING w.ch then
        go (s.calGo .matchBack (some (matchStart w))) else s
    | .matchIn => go s
    | .matchBack => go s
    | _ => s

/-- The second MATCH_BACK failed: mend channel m is unavailable (R311, R320). Without coefficients to revert the one
match back that fails says nothing of the mend (log entry 25). -/
def State.mendFails (s : State) (m : Nat) (second : Bool) (result : Nat) : State :=
  s.when second fun s =>
    let s := { s with cal.badMend := m :: s.cal.badMend.filter (· != m), cal.failedAt := tabSet s.cal.failedAt m s.opMs }
    ((s.put Fld.CAL_MENDg_STAT.AVAIL 0 (m - 96)).put Fld.CAL_MENDg_STAT.RESULT result (m - 96)).mendDegraded

/-- MATCH_TIMEOUT: a match has not passed within its limit (R311). -/
def execMatchTimeout (s : State) : Host.Outcome State Fault Refusal :=
  match s.cal.swap with
  | none => .next s
  | some w =>
    let nxt := some (s.nextOwn w.ch s.seq.frame)
    if w.passed || w.due.isSome || w.ticks < s.matchLimit w.ch then .next s else
    match s.cal.phase with
    | .matchIn => .next (s.abortAt w 9)
    | .matchBack =>
      if w.applied then .next (s.calGo .matchBack (some { w with result := 0xA, due := nxt }))
      else
        let m := mendOf w.ch
        .next ((s.mendFails m w.second w.result).calGo .matchBack (some { w with passed := true, due := nxt }))
    | _ => .next s

/-- A wire break confirmed on the channel of a swap (R314); while its mend channel is calibrated, nothing is connected. -/
def State.calWireBreak (s : State) (n : Nat) : State :=
  match s.cal.swap with
  | some w =>
    if w.forCh = some n then (s.calRest w.ch).calResult n 0xB 1 0 true
    else if w.ch = n && s.cal.phase != .maint then s.abortAt w 0xB else s
  | none => s

/-- The channel returns at once: entry to HELD or MAINT, or a commit that drops its units (R314). -/
def State.calEnd (s : State) (code : Nat) : State :=
  match s.cal.swap with
  | none => s
  | some w =>
    let s := if w.standIn && code == 0xD then s.reconnect w w.old else s
    match w.forCh with
    | some c => (s.calRest w.ch).calResult c code 1 0 true
    | none =>
    if w.ch ≥ 96 then (s.calRest w.ch).mendResult w.ch code 0 1
    else (s.calRest w.ch).calResult w.ch code (if s.cal.phase == .maint then 2 else 1) 0 true

/-- WIRE_BREAK_CONFIRM (R218, R221, R314). -/
def execWireBreakConfirm (ch : Nat) (s : State) : Host.Outcome State Fault Refusal :=
  let was := s.is Fld.AFE_CHn_STAT.WB_CONF ch
  let s := s.wireBreak ch
  .next (if !was && s.is Fld.AFE_CHn_STAT.WB_CONF ch then s.calWireBreak ch else s)

/-! ## Scheduling (R316 to R321) -/

/-- A swap record before it begins. -/
def swapInit (ch : Nat) (force : Bool) (old : Coefs) (ranges : List Nat) (rangeIn due : Nat) : Swap :=
  { ch := ch, forCh := none, force := force, old := old, ranges := ranges, rangeIn := rangeIn, step := 0, due := some due
    fed := 0, sum := 0, ovld := false, ended := none, sums := [], gr := [], ar := [], dfe := 0, rho := 0, diffs := []
    pairs := 0, ticks := 0, passed := false, second := false, applied := false, result := 0, standIn := false
    aborting := none }

/-- Age in ms of a chain's reference. -/
def State.refAge (s : State) (c : Nat) : Nat :=
  s.opMs - (s.get Fld.CAL_CHc_TIME_HI.TIME_HI c * 2 ^ 32 + s.get Fld.CAL_CHc_TIME_LO.TIME_LO c)

/-- Temperature difference from a chain's reference. -/
def State.refDelta (s : State) (c : Nat) : Nat := (s.dieTemp - s.getI Fld.CAL_CHc_QUAL.TEMP c).natAbs

/-- MEND_CAL is due for mend chain m (R317). -/
def State.mendDue (s : State) (m : Nat) : Bool :=
  match tabGet? s.cal.mendCal m with
  | none => true
  | some (t, temp) => decide (s.opMs - t > 1000 * s.policy 0x010D 600) ||
      decide ((s.dieTemp - temp).natAbs > s.policy 0x0103 512)

/-- A result of chain c was rejected or aborted within MIN_AGE_S (R319, R320). -/
def State.recentFail (s : State) (c : Nat) : Bool :=
  match tabGet? s.cal.failedAt c with
  | some t => decide (s.opMs < t + 1000 * s.policy 0x0104 60)
  | none => false

/-- Starts the calibration of channel c: a MEND_CAL first where it is due, directly on the bus for a mend channel and in
MAINT (R316 to R318). -/
def State.calStart (s : State) (c : Nat) (force : Bool) : State :=
  let n := s.seq.frame
  let m := mendOf c
  let bus := fun (ch : Nat) (f : Option Nat) (p : CalPhase) =>
    let ranges := if ch ≥ 96 then [0, 1, 2, 3] else s.calRanges ch
    let w := swapInit ch force (s.coefs ch) ranges (s.get Fld.AFE_CHn_STAT.RANGE ch) (n + 1)
    s.calGo p (some { w with forCh := f })
  if s.hubState == stMaint then bus c none .maint
  else if c ≥ 96 then bus c none .mendCal
  else if s.mendDue m then bus m (some c) .mendCal
  else s.calGo .shadow (some (swapInit c force (s.coefs c) (s.calRanges c) 0 (s.nextOwn c n)))

/-- Channel c is due by R319. -/
def State.calDue (s : State) (c : Nat) : Bool :=
  let mode := s.policy 0x0101 1
  let ref := s.cal.refs.contains c
  let age := s.refAge c
  !s.recentFail c && !s.cal.badMend.contains (mendOf c) &&
    (decide (ref && age > 1000 * s.policy 0x0102 3600) ||
     (mode == 1 && (!s.calOk c || !ref ||
       (decide (s.refDelta c > s.policy 0x0103 512) && decide (age > 1000 * s.policy 0x0104 60)))) ||
     (mode == 2 && !ref))

/-- Rank of a due channel in the order of R319, smaller first: not valid, temperature difference, without a reference,
oldest reference. -/
def State.calRank (s : State) (c : Nat) : Nat × Nat × Nat × Nat :=
  let ref := s.cal.refs.contains c
  (b2n (s.calOk c), 65535 * 256 - (if ref then s.refDelta c else 0), b2n ref, 2 ^ 64 - (if ref then s.refAge c else 0))

/-- One rank comes before another. -/
def rankLt (a b : Nat × Nat × Nat × Nat) : Bool :=
  decide (a.1 < b.1) || (a.1 == b.1 && (decide (a.2.1 < b.2.1) || (a.2.1 == b.2.1 &&
    (decide (a.2.2.1 < b.2.2.1) || (a.2.2.1 == b.2.2.1 && decide (a.2.2.2 < b.2.2.2))))))

/-- The due channel that starts first. -/
def State.calPick (s : State) : Option Nat :=
  (((s.units cINPUT).map (·.inst)).filter s.calDue).foldl (fun best c =>
    match best with
    | none => some c
    | some b => if rankLt (s.calRank c) (s.calRank b) || (!rankLt (s.calRank b) (s.calRank c) && decide (c < b))
        then some c else some b) none

/-- The mend channel of a group with INPUT units whose MEND_CAL is due while it is idle, or to be retried (R317, R320). -/
def State.mendPick (s : State) : Option Nat :=
  [96, 97, 98, 99].find? fun m =>
    ((s.units cINPUT).any fun u => mendOf u.inst == m) && (s.mendDue m || s.cal.badMend.contains m) && !s.recentFail m

/-- Starts what is due in the House phase of this tick (R318, R319). -/
def State.calSchedule (s : State) : State :=
  if s.cal.swap.isSome || s.is Fld.CAL_CTRL.SUSPEND || !s.inStates [stArmed, stRun, stMaint] then s else
  match s.cal.queue.find? (fun q => q.1 ≥ 96 || !s.cal.badMend.contains (mendOf q.1) || s.hubState == stMaint) with
  | some (c, f) => ({ s with cal.queue := s.cal.queue.erase (c, f) } : State).calStart c f
  | none =>
    if s.hubState == stMaint || s.policy 0x0101 1 == 0 || s.seq.frame % 256 != 0 then s else
    match s.calPick with
    | some c => s.calStart c false
    | none => match s.mendPick with
      | some m => s.calStart m false
      | none => s

/-- The calibration unit's House phase: the evaluation of an ended step, ages, CAL_VALID, then the schedule. -/
def State.calHouse (s : State) : State :=
  let s := s.stepEval
  let s := s.forEach [96, 97, 98, 99] fun m s =>
    match tabGet? s.cal.mendCal m with
    | some (t, _) => s.put Fld.CAL_MENDg_STAT.AGE_S (min 0xFFFF ((s.opMs - t) / 1000)) (m - 96)
    | none => s
  let s := s.put Fld.GLB_STATE.CAL_VALID (b2n (s.banks.act.isSome && (s.units cINPUT).all fun u => s.calOk u.inst))
  s.calSchedule.calShow

/-! ## Pod points (R323, R324) -/

/-- Words averaged for a pod point. -/
def State.podN (s : State) : Nat := 2 ^ s.policy 0x010C 4 * 4096

/-- A pod point takes the words of the interval that carry its range (R323). -/
def podFeed (n range : Nat) (word : Nat → Option Nat) : Nat → Nat → PodPoint → PodPoint
  | 0, _, p => p
  | k + 1, j, p =>
    let p := match word j with
      | none => p
      | some w =>
        if field w 4 2 != range || p.words ≥ n then p else
        { p with words := p.words + 1, sum := p.sum + compX ((levelOf w).getD 0) (2 ^ 30) 0 range
                 ovld := p.ovld || (levelOf w).isNone || bit w 3 || bit w 7 }
    podFeed n range word k (j + 1) p

/-- The pod point's share of the words that chain c places at this tick; called before they are placed. -/
def State.calPodFeed (s : State) (c : Nat) : State :=
  match s.cal.pod with
  | none => s
  | some p =>
    if p.chain != c then s else
    let (k, left) := s.podSpan c
    let words := (s.chain c).podIn
    { s with cal.pod := some (podFeed s.podN p.range (fun j => tabGet? words (k + j)) left 0 p) }

/-- Ends the pod point in progress with a result of its chain. -/
def State.podResult (s : State) (c result : Nat) : State :=
  (({ s with cal.pod := none } : State).calResult c result 3 0 false).calShow

/-- Key of a completed pod point. -/
def podKey (c r pt : Nat) : Nat := 8 * c + 2 * r + pt

/-- CAL_POD_POINT_DONE: the words of a point are complete; with both points gr, ar and VALID are staged if plausible. -/
def execCalPodPointDone (s : State) : Host.Outcome State Fault Refusal :=
  match s.cal.pod with
  | none => .next s
  | some p =>
    if p.words < s.podN then .next s else
    if p.ovld then .next (s.podResult p.chain 2) else
    let k := podKey p.chain p.range
    let means := tabSet s.cal.podMeans (k p.point) { t := p.t, sum := p.sum, n := p.words }
    let s := { s with cal.podMeans := means, cal.pod := none }
    match tabGet? means (k 0), tabGet? means (k 1) with
    | some a, some b =>
      let s := { s with cal.podMeans := tabErase (tabErase means (k 0)) (k 1) }
      let d := b.sum * a.n - a.sum * b.n
      let num := 2 ^ 30 * (b.t - a.t) * (a.n * b.n : Nat)
      let gr := if d = 0 then 0 else roundDiv (if d < 0 then -num else num) d.natAbs
      let ar := roundDiv (a.sum * gr - a.t * (2 ^ 30 * a.n : Nat)) (2 ^ 30 * a.n)
      if gr * 100 < 98 * 2 ^ 30 ∨ gr * 100 > 102 * 2 ^ 30 then .next (s.podResult p.chain 3)
      else if ar.natAbs * 200 > fsU p.range then .next (s.podResult p.chain 5)
      else
        let s := (s.wrCoef p.chain (4 * p.range) gr.toNat 3).wrCoef p.chain (16 + 4 * p.range) (unsigned 32 ar) 3
        let s := s.stageCoef p.chain 36 (s.readCoef p.chain 36 ||| 2 ^ p.range)
        .next (s.podResult p.chain 1)
    | _, _ => .next s.calShow

/-- CAL_POD_POINT_TIMEOUT: the words have not arrived in time (R323). -/
def execCalPodPointTimeout (s : State) : Host.Outcome State Fault Refusal :=
  match s.cal.pod with
  | some p =>
    .next (if p.words < s.podN && decide (16 * s.podN ≤ (s.seq.frame - p.start) * s.nPer) then s.podResult p.chain 2 else s)
  | none => .next s

/-- A pod with another serial is bound to port p: the blocks of its chains are reset (R324). -/
def State.podBlocks (s : State) (p : Nat) : State :=
  let lo := s.get Fld.FLD_Pp_SERIAL_LO.SERIAL p
  let hi := s.get Fld.FLD_Pp_SERIAL_HI.SERIAL p
  if s.get Fld.CAL_PODp_SERIAL_LO.SERIAL p = lo ∧ s.get Fld.CAL_PODp_SERIAL_HI.SERIAL p = hi then s else
  if s.get Fld.CAL_PODp_SERIAL_LO.SERIAL p = 0 ∧ s.get Fld.CAL_PODp_SERIAL_HI.SERIAL p = 0 then s else
  let s := s.forEach (List.range 32) fun k s =>
    let c := 100 + 32 * p + k
    let s := s.forEach [0, 1, 2, 3] fun r s => (s.wr Reg.CAL_CHc_GRr 0x40000000 c r).wr Reg.CAL_CHc_ARr 0 c r
    let s := (s.wr Reg.CAL_CHc_VALID 0 c).wr Reg.CAL_CHc_RESULT 0 c
    { s with cal.staged := s.cal.staged.filter (fun e => e.1 / 64 != c), cal.refs := s.cal.refs.filter (· != c) }
  let s := (s.put Fld.CAL_PODp_SERIAL_LO.SERIAL 0 p).put Fld.CAL_PODp_SERIAL_HI.SERIAL 0 p
  s.put Fld.CAL_STAT.POD_RESET 1

end Sys2Proof.Machine
end

