-- ==== Sys2Proof/Machine/Path.lean ====
section
/-! DEFINITION. Ring path bounds (R51 to R53): the smallest K_R that a path allows. -/

namespace Sys2Proof.Machine

/-- Serialisation of `bytes` at `lanes` lanes of rate code `rate`, in 1/2400 ns (R51, R464): 64b/66b coding. -/
def serTime (bytes lanes rate : Nat) : Nat := if lanes = 0 then 0 else bytes * 66 * 96 / (lanes * 2 ^ rate)

/-- Largest element sum of `k` elements of a list. -/
def topSum : (k : Nat) → List Nat → Nat
  | 0, _ => 0
  | k + 1, l =>
    let m := l.foldl max 0
    m + topSum k (l.erase m)

/-- T_path of the longest path, N − 1 hops, in 1/2400 ns; `cable i` is the cable delay of segment i in 1/2400 ns
(R51, R52). A closed ring with a cut segment leaves the slowest N − 1 hops. -/
def longestPath (c : Cluster) (cable : Nat → Nat) : Nat :=
  let segs := (c.hubs.zipIdx).filter fun e => e.1.lanes != 0
  let big := c.streams.foldl (fun a t => max a (44 + 4 * t.slots)) 0
  let hop := fun (e : HubEntry × Nat) => (150 * 2400) + serTime 4104 e.1.lanes e.1.rate + cable e.2
  let ser := segs.foldl (fun a e => max a (serTime big e.1.lanes e.1.rate)) 0
  ser + topSum (c.hubs.length - 1) (segs.map hop) + 300 * 2400

/-- K_R covers a path bound (R53): t_E is START_HOUSE and t_D START_DECIDE, in units of T_F / 65,536. -/
def krFits (c : Cluster) (timing : List Nat) (path : Nat) : Bool :=
  let span := timing.getD 3 0 - timing.getD 1 0
  decide (path * ffHz c.ffCode * 65536 + 2400 * 1000000000 * span ≤ 2400 * 1000000000 * (c.kR * 65536))

/-- Index of this hub in the hub table. -/
def State.hubIndex (s : State) : Option Nat :=
  match s.banks.act with
  | none => none
  | some p => (p.cluster.hubs.zipIdx.find? fun e => e.1.hub == s.hubId).map (·.2)

/-- Index of the hub table entry that describes the segment of port p: 0 East, 1 West (R84). -/
def State.segIndex (s : State) (p : Nat) : Option Nat :=
  match s.banks.act, s.hubIndex with
  | some q, some i =>
    let n := q.cluster.hubs.length
    if p = 0 then some i
    else if 0 < i then some (i - 1)
    else if q.cluster.topology = 1 then some (n - 1) else none
  | _, _ => none

/-- LANES and RATE that the active Pattern declares for the segment of port p; 0 lanes where there is no segment. -/
def State.segment (s : State) (p : Nat) : Nat × Nat :=
  match s.banks.act, s.segIndex p with
  | some q, some i => (q.cluster.hubs[i]?.map fun e => (e.lanes, e.rate)).getD (0, 0)
  | _, _ => (0, 0)

/-- The measured delay of a port no longer fits within K_R (R55); `delay` is in 1/2400 ns. -/
def State.krMargin (s : State) (p delay : Nat) : State :=
  match s.banks.act, s.segIndex p with
  | some q, some i =>
    let path := longestPath q.cluster fun k => if k = i then delay else (q.cluster.hubs[k]?.map (·.cableNs * 2400)).getD 0
    s.degrade Fld.GLB_DEGRADED.KR_MARGIN Fld.GLB_DEGRADED_STICKY.KR_MARGIN (!krFits q.cluster q.timing path)
  | _, _ => s

end Sys2Proof.Machine
end

