-- ==== Sys2Proof/Machine/Timeline.lean ====
section
/-! DEFINITION. Moves of the timeline on which channels and chains keep their instants (R269): when the frame counter is
adopted (R31), and when a commit changes the number of modulator periods per frame (R28). -/

namespace Sys2Proof.Machine

/-- A natural number moved by an integer. -/
def moveNat (k : Int) (n : Nat) : Nat := ((n : Int) + k).toNat

/-- A channel's instants moved by k modulator periods. -/
def Chan.move (k : Int) (c : Chan) : Chan :=
  { c with
    settleEnd := moveNat k c.settleEnd, gsettleEnd := moveNat k c.gsettleEnd, cmoAt := c.cmoAt.map (moveNat k)
    det := c.det.map fun (d : Detector) => { d with lastOk := moveNat (k * 256) d.lastOk } }

/-- A chain's instants moved by k modulator periods, `d` ticks. -/
def Chain.move (fmt1 : Bool) (d k : Int) (x : Chain) : Chain :=
  let unit : Int := if fmt1 then d else k
  { x with
    ovl := x.ovl.map fun (p : Int) => p + k * 256, breaks := x.breaks.map fun (p : Int) => p + k * 256
    switches := x.switches.map fun (e : Int × Nat) => (e.1 + k * 256, e.2)
    podIn := x.podIn.map fun (e : Nat × Nat) => (moveNat unit e.1, e.2), fed := moveNat unit x.fed }

/-- Every instant that channels and chains keep moves by k modulator periods, and the ticks of pre-decimated chains by d. -/
def State.movePeriods (s : State) (d k : Int) : State :=
  { s with
    chans := s.chans.map fun (e : Nat × Chan) => (e.1, e.2.move k)
    chains := s.chains.map fun (e : Nat × Chain) => (e.1, e.2.move (s.is Fld.FLT_CHc_CFG.FORMAT e.1) d k) }

/-- The frame counter takes over from the count of local ticks: what waits for a tick waits for the same tick under its
new number (R31; DEDUCED, log entry 20). -/
def State.moveTicks (s : State) (d : Int) : State :=
  let k := d * (s.nPer : Int)
  let swap := s.cal.swap.map fun (w : Swap) => { w with due := w.due.map (moveNat d) }
  let port := fun (p : FieldPort) =>
    { p with tick := p.tick.map (moveNat d), ping := p.ping.map (moveNat d), gsettle := p.gsettle.map (moveNat k) }
  let s := s.movePeriods d k
  { s with
    seq.due := s.seq.due.map fun (t : Transition) => { t with frame := moveNat d t.frame }
    seq.lastOvr := s.seq.lastOvr.map (moveNat d), banks.commitF := s.banks.commitF.map (moveNat d)
    aux.scanTick := moveNat d s.aux.scanTick, cal.swap := swap
    cal.pod := s.cal.pod.map fun (p : PodPoint) => { p with start := moveNat d p.start }
    fieldPorts.ports := s.fieldPorts.ports.map fun (e : Nat × FieldPort) => (e.1, port e.2)
    sup.withdrawFrom := moveNat d s.sup.withdrawFrom }

end Sys2Proof.Machine
end

