-- ==== Sys2Proof/Machine/Time.lean ====
section
/-! DEFINITION. Network time (R328 to R368): counters, domains, delay measurement, servo, the local timescale, the frame
counter, time steps, the interrupt capture and the time pins; and the meanings of these families' commands. -/

namespace Sys2Proof.Machine

/-! ## Counters (R328 to R331) -/

/-- A time as a number of 2^-32 ns. -/
def tu (t : TimeVal) : Int := (((t.s * 1000000000 + t.ns) * 2 ^ 32 + t.frac : Nat) : Int)

/-- The time of a number of 2^-32 ns; seconds wrap at 48 bits. -/
def ofTu (x : Int) : TimeVal :=
  let y := (x % ((2 ^ 48 * 1000000000 * 2 ^ 32 : Nat) : Int)).toNat
  { s := y / (1000000000 * 2 ^ 32), ns := y / 2 ^ 32 % 1000000000, frac := y % 2 ^ 32 }

/-- A time moved by a number of 2^-32 ns. -/
def addTu (t : TimeVal) (d : Int) : TimeVal := ofTu (tu t + d)

/-- The nominal increment, 2 ns (R329). -/
def incNom : Nat := 0x0200000000

/-- The clamp of R329 for the increments of T_A and T_B. -/
def incClamp (x : Int) : Nat := (clampInt 0x01FFE5EAA9 0x02001A1557 x).toNat

/-- A domain at reset (R331). -/
def Domain.rest : Domain :=
  { t := ⟨0, 0, 0⟩, inc := incNom, pend := none, ann := 0xFF, annFrame := 0, good := 0, bad := 0, held := none
    lastSeq := none, seqOut := 0, edges := [], spaced := 0, lastEdge := none, holdSince := none, holdErr := 0xFFFF
    tod := none, todDone := false, lockedAt := none }

/-- A port's delay measurement at reset. -/
def PdPort.rest : PdPort :=
  { seq := 0, sent := none, vals := [], accepted := 0, discards := 0, overRun := 0, underRun := 0 }

/-- Domain d: 0 A, 1 B. -/
def State.dom (s : State) (d : Nat) : Domain := s.time.doms.getD d Domain.rest

/-- Stores domain d. -/
def State.setDom (s : State) (d : Nat) (x : Domain) : State := { s with time.doms := s.time.doms.set d x }

/-- The delay measurement of ring port p: 0 East, 1 West. -/
def State.pd (s : State) (p : Nat) : PdPort := s.time.ports.getD p PdPort.rest

/-- Stores port p's delay measurement. -/
def State.setPd (s : State) (p : Nat) (x : PdPort) : State := { s with time.ports := s.time.ports.set p x }

/-- Picks the A or the B field. -/
def ab (d : Nat) (a b : Field) : Field := if d = 0 then a else b

/-- Shows an increment in its registers. -/
def State.showInc (s : State) (d inc : Nat) : State :=
  (s.put (ab d Fld.TIM_INC_A_LO.FRAC Fld.TIM_INC_B_LO.FRAC) inc).put (ab d Fld.TIM_INC_A_HI.INT Fld.TIM_INC_B_HI.INT)
    (inc / 2 ^ 32)

/-- Sets a domain's increment. -/
def State.setInc (s : State) (d inc : Nat) : State := (s.setDom d { s.dom d with inc := inc }).showInc d inc

/-! ## Roots and classes (R332 to R336, R727, R728) -/

/-- The root hub of domain d; 255 for none. -/
def State.rootHub (s : State) (d : Nat) : Nat :=
  match s.banks.act with
  | none => 255
  | some p => if d = 0 then s.policy 0x0201 ((p.cluster.hubs.map (·.hub)).headD 255) else s.policy 0x0202 255

/-- This hub is the root of domain d. -/
def State.isRoot (s : State) (d : Nat) : Bool := s.rootHub d != 255 && s.hubId == s.rootHub d

/-- The source of domain d (R333). -/
def State.srcOf (s : State) (d : Nat) : Nat := s.policy (0x0203 + d) 0

/-- The domain is configured. -/
def State.configured (s : State) (d : Nat) : Bool := s.rootHub d != 255

/-- The class of domain d in force. -/
def State.cls (s : State) (d : Nat) : Nat := s.get (ab d Fld.TIM_SEL.CLASS_A Fld.TIM_SEL.CLASS_B)

/-- T_D is locked. -/
def State.locked (s : State) (d : Nat) : Bool := s.is (ab d Fld.TIM_STAT.LOCK_A Fld.TIM_STAT.LOCK_B)

/-- Sets the lock of T_D. -/
def State.setLock (s : State) (d : Nat) (on : Bool) : State :=
  let x := s.dom d
  let s := s.setDom d { x with lockedAt := if on then some (x.lockedAt.getD s.silt.opNs) else none }
  s.put (ab d Fld.TIM_STAT.LOCK_A Fld.TIM_STAT.LOCK_B) (b2n on)

/-- A domain is eligible (R346). -/
def State.eligible (s : State) (d : Nat) : Bool := s.locked d && s.cls d != 0xFF

/-- GLB_DEGRADED.TIME_DOMAIN (R350). -/
def State.timeDegraded (s : State) : State :=
  s.degrade Fld.GLB_DEGRADED.TIME_DOMAIN Fld.GLB_DEGRADED_STICKY.TIME_DOMAIN
    ([0, 1].any fun d => s.configured d && (s.cls d == 0xFF || s.cls d == 0x40))

/-- Puts a class in force. -/
def State.setCls (s : State) (d c : Nat) : State :=
  ((s.setDom d { s.dom d with pend := none }).put (ab d Fld.TIM_SEL.CLASS_A Fld.TIM_SEL.CLASS_B) c).timeDegraded

/-- The class the source of a root gives now (R333, R335, R727). A PPS root that has not locked since BOOT runs free. -/
def State.sourceCls (s : State) (d : Nat) : Nat :=
  match s.srcOf d with
  | 0 => 0x50
  | 3 => s.get (ab d Fld.TIM_HOST_Q.CLASS_A Fld.TIM_HOST_Q.CLASS_B)
  | k =>
    if (s.dom d).holdSince.isSome then 0x40
    else if !s.locked d then 0x50
    else if k = 2 && s.is Fld.TDC_STAT.REFIN_VALID then 0x10 else 0x20

/-- A class change that arises at a root is announced with CLASS_FRAME = n + K_R + 2, or n + 2 for a single hub; before
the root has a frame counter it applies at once (R336). -/
def State.rootClass (s : State) (d : Nat) : State :=
  if !s.isRoot d then s else
  let c := s.sourceCls d
  if (s.dom d).ann = c then s else
  if !s.seq.counter then (s.setDom d { s.dom d with ann := c, annFrame := 0 }).setCls d c
  else
    let f := s.seq.frame + s.kR + 2
    s.setDom d { s.dom d with ann := c, annFrame := f, pend := some (c, f) }

/-- ERR_NS that a root sends (R728). -/
def State.rootErr (s : State) (d : Nat) : Nat :=
  let x := s.dom d
  let worst := x.edges.foldl (fun m e => max m e.natAbs) 0
  if s.srcOf d = 0 || s.srcOf d = 3 then 0xFFFF
  else match x.holdSince with
    | some t => if x.holdErr = 0xFFFF then 0xFFFF else min 0xFFFE (x.holdErr + (s.silt.opNs - t) / 1000000000)
    | none => if !s.locked d then 0xFFFF else min 0xFFFE (ceilDiv worst 65536)

/-! ## The frame counter (R352, R353) -/

/-- Rounds a difference of times to frame periods: round(Δ × f_F). -/
def State.ticksOf (s : State) (d : Int) : Int := roundDiv (d * ffHz s.ff) (1000000000 * 2 ^ 32)

/-- A received frame counter converted to this hub's latest tick (R352). -/
def State.counterHere (s : State) (m : Nat × TimeVal) : Int := m.1 + s.ticksOf (tu s.time.tickL - tu m.2)

/-- A PD or SYNC message carried a frame counter: it is kept for adoption, or compared with this hub's own (R352, R353). -/
def State.hear (s : State) (m : Option (Nat × TimeVal)) (hub : Nat) : State :=
  match m with
  | none => s
  | some m =>
    let s := { s with time.heardAt := some s.silt.opNs }
    if !s.seq.counter then (if s.time.heard.isSome then s else { s with time.heard := some m }) else
    let got := s.counterHere m
    if got = s.seq.frame then s else
    let s := s.evt Fld.TIM_EVT.CNT_CONFLICT 101
    s.stage 0x0804 (leBytes 6 s.seq.frame ++ leBytes 6 (unsigned 48 got) ++ leBytes 1 hub)

/-- The hub's frame counter as its messages carry it (R339). -/
def State.ownCounter (s : State) : Option (Nat × TimeVal) :=
  if s.seq.counter then some (s.seq.frame, s.time.tickL) else none

/-- GLB_STATE.TIME_LOCK (R351). -/
def State.showLock (s : State) : State :=
  let ok := match s.time.follow with
    | some d => s.eligible d && !s.is Fld.TIM_STAT.HOLDOVER
    | none => false
  (s.put Fld.GLB_STATE.TIME_LOCK (b2n (s.seq.counter && ok))).put Fld.TIM_STAT.COUNTER (b2n s.seq.counter)

/-- The frame counter exists from now on with value n at this tick. -/
def State.setCounter (s : State) (n : Nat) : State :=
  let s := s.moveTicks ((n : Int) - s.seq.frame)
  ({ s with seq.counter := true, seq.frame := n } : State).showLock

/-- FRAME_COUNTER_START: the conditions of R352 for the root of A, or for ROOT_B in its place. -/
def execFrameCounterStart (s : State) : Host.Outcome State Fault Refusal :=
  let d := if s.isRoot 0 then some 0 else if s.isRoot 1 && s.time.takeover then some 1 else none
  match d with
  | none => .next s
  | some d =>
    let quiet := match s.time.heardAt with
      | some t => decide (s.silt.opNs ≥ t + 1000000000)
      | none => true
    let tod := s.policy 0x020C 0 == 0 || (s.dom 0).todDone
    .next (if !s.seq.counter && s.locked d && quiet && tod then s.setCounter 0 else s)

/-- FRAME_COUNTER_ADOPT: at the first tick after the acquisition set, with a counter heard (R352). -/
def execFrameCounterAdopt (s : State) : Host.Outcome State Fault Refusal :=
  match s.time.heard with
  | some m =>
    .next (if !s.seq.counter && s.time.acquired && s.hubState ≥ stHeld then s.setCounter (s.counterHere m).toNat else s)
  | none => .next s

/-- ROOT_B_TAKEOVER: ROOT_A is absent from discovery 10 s after T_B locks (R352); a locked T_B since then is asked. -/
def execRootBTakeover (s : State) : Host.Outcome State Fault Refusal :=
  let since := match (s.dom 1).lockedAt with
    | some t => decide (s.silt.opNs ≥ t + 10000000000)
    | none => false
  .next (if s.isRoot 1 && s.locked 1 && since then { s with time.takeover := true } else s)

/-! ## Peer delay (R339, R340, R354) -/

/-- One nanosecond in the units of a port's delay values. -/
def pdNs : Int := 131072000

/-- δ_p: the mean of the last 16 accepted values (R340). -/
def PdPort.delta (p : PdPort) : Int := if p.vals = [] then 0 else roundDiv (p.vals.foldl (· + ·) 0) p.vals.length

/-- δ_p is valid after 4 accepted values. -/
def PdPort.valid (p : PdPort) : Bool := decide (p.accepted ≥ 4)

/-- The port is up: a timestamping lane is in L0. -/
def State.portUp (s : State) (p : Nat) : Bool := s.is Fld.LANE_Pp_STAT.UP p

/-- Shows δ_p (R366). -/
def State.showPd (s : State) (p : Nat) : State :=
  let x := s.pd p
  let v := (roundDiv (x.delta * 256) pdNs.toNat).toNat
  (s.put (if p = 0 then Fld.TIM_PORTE_DELAY.DELTA else Fld.TIM_PORTW_DELAY.DELTA) v).put
    (if p = 0 then Fld.TIM_STAT.PD_E_VALID else Fld.TIM_STAT.PD_W_VALID) (b2n x.valid)

/-- The filter of a port restarts (R340). -/
def State.pdRestart (s : State) (p : Nat) : State :=
  (s.setPd p { s.pd p with vals := [], accepted := 0, discards := 0, sent := none }).showPd p

/-- The sender fields of a PD message of this hub. -/
def State.pdMsg (s : State) (seq : Nat) (t : TimeVal) : PdMsg :=
  { seq := seq, t := t, hub := s.hubId, lock := s.is Fld.GLB_STATE.TIME_LOCK, counter := s.ownCounter }

/-- L in 2^-16 ns, rounded down. -/
def State.l16 (s : State) : Int := tu s.time.l / 65536

/-- PD_REQ_SEND: a request with t1 on one port (R339). -/
def execPdReqSend (port : Nat) (s : State) : Host.Outcome State Fault Refusal :=
  if s.hubState < stHeld || !s.portUp port then .next s else
  let q := ((s.pd port).seq + 1) % 65536
  let s := s.setPd port { s.pd port with seq := q, sent := some (q, s.l16) }
  .next { s with tx := s.tx ++ [.pdReq port (s.pdMsg q s.time.l)] }

/-- PD_REQ: a request received `ago` 2^-16 ns before now is answered with t2 and the turnaround (R339). -/
def execPdReq (port : Nat) (msg : PdMsg) (ago turn : Int) (s : State) : Host.Outcome State Fault Refusal :=
  if s.hubState < stHeld then .next s else
  let s := s.put (if port = 0 then Fld.TIM_STAT.NEIGH_E_LOCK else Fld.TIM_STAT.NEIGH_W_LOCK) (b2n msg.lock)
  let s := s.hear msg.counter msg.hub
  .next { s with tx := s.tx ++ [.pdResp port (s.pdMsg msg.seq (addTu s.time.l (-ago * 65536))) turn] }

/-- TIM_STAT.TUN from the consecutive measurements of the neighbours that report TIME_LOCK (R354). -/
def State.judgeTun (s : State) : State :=
  let near := (if s.is Fld.TIM_STAT.NEIGH_E_LOCK && s.portUp 0 then [0] else [])
    ++ (if s.is Fld.TIM_STAT.NEIGH_W_LOCK && s.portUp 1 then [1] else [])
  let was := s.is Fld.TIM_STAT.TUN
  let on := if near = [] then false
    else if near.any fun p => decide ((s.pd p).underRun ≥ 2) then false
    else if near.all fun p => decide ((s.pd p).overRun ≥ 2) then true else was
  let s := s.put Fld.TIM_STAT.TUN (b2n on)
  s.when (on && !was) fun s =>
    (s.evt Fld.TIM_EVT.TUN_SET 101).stage 0x0805 (leBytes 4 (s.get Fld.TIM_NEIGH_E.THETA) ++ leBytes 4 (s.get Fld.TIM_NEIGH_W.THETA))

/-- One accepted or discarded value of d_in (R340). -/
def State.pdValue (s : State) (p : Nat) (d : Int) : State :=
  let x := s.pd p
  let far := x.valid && decide ((d - x.delta).natAbs > 2 * pdNs.natAbs)
  let s := s.setPd p (if far then
      (if x.discards + 1 ≥ 8 then { x with vals := [], accepted := 0, discards := 0 }
       else { x with discards := x.discards + 1 })
    else { x with vals := (d :: x.vals).take 16, accepted := x.accepted + 1, discards := 0 })
  s.showPd p

/-- PD_RESP: the answer to the request that waits, received `ago` 2^-16 ns before now (R340). -/
def execPdResp (port : Nat) (msg : PdMsg) (turn ago : Int) (s : State) : Host.Outcome State Fault Refusal :=
  if s.hubState < stHeld then .next s else
  let s := s.put (if port = 0 then Fld.TIM_STAT.NEIGH_E_LOCK else Fld.TIM_STAT.NEIGH_W_LOCK) (b2n msg.lock)
  let s := s.hear msg.counter msg.hub
  match (s.pd port).sent with
  | none => .next s
  | some (q, t1) =>
    if q ≠ msg.seq then .next s else
    let s := s.setPd port { s.pd port with sent := none }
    if turn > 10000 * 65536 then .next s else
    let asym := signed 16 (s.get (if port = 0 then Fld.TIM_PORTE_ASYM.ASYM else Fld.TIM_PORTW_ASYM.ASYM)) * 65536
    let t4 := s.l16 - ago
    let t2 := tu msg.t / 65536
    let rtt := (t4 - t1) - turn
    let theta := ((t2 - t1) - (t4 - (t2 + turn))) * 1000 + asym
    let s := s.pdValue port (rtt * 1000 + asym)
    let s := s.when (s.pd port).valid (·.krMargin port ((s.pd port).delta * 2400 / pdNs).toNat)
    let s := s.putI (if port = 0 then Fld.TIM_NEIGH_E.THETA else Fld.TIM_NEIGH_W.THETA) (roundDiv (theta * 256) pdNs.toNat)
    let out := decide (theta.natAbs > s.policy 0x0208 50 * pdNs.natAbs)
    let x := s.pd port
    let s := s.setPd port { x with overRun := if out && msg.lock then x.overRun + 1 else 0, underRun := if out || !msg.lock then 0 else x.underRun + 1 }
    .next (if msg.lock then s.judgeTun else s)

/-! ## SYNC, servo and lock (R341 to R346) -/

/-- Lock judgement after one usable SYNC (R346). -/
def State.judgeLock (s : State) (d : Nat) (theta : Int) : State :=
  let lim := s.policy 0x020B 10 * 65536
  let x := s.dom d
  let good := if theta.natAbs ≤ lim then x.good + 1 else 0
  let bad := if theta.natAbs > 4 * lim then x.bad + 1 else 0
  let s := s.setDom d { x with good := good, bad := bad }
  if good ≥ 8 then s.setLock d true else if bad ≥ 4 then s.setLock d false else s

/-- The supervisor's servo on one θ_D in 2^-16 ns (R344, R345): a step, or a proportional-integral correction whose gains
are not published, so that the new increment is free within its limits (log entry 6). -/
def State.servo (s : State) (d : Nat) (theta : Int) : State :=
  if s.is (ab d Fld.TIM_SERVO_CTRL.HOST_A Fld.TIM_SERVO_CTRL.HOST_B) then s else
  let root := s.isRoot d
  if root && s.srcOf d == 3 then s else
  if theta.natAbs > 1000 * 65536 then
    if root && s.seq.counter then s
    else s.setDom d { s.dom d with t := addTu (s.dom d).t (-theta * 65536) }
  else
    let (v, s) := s.draw
    let k : Int := s.get Fld.TIM_SLEW.SLEW_INC
    let want : Int := v
    let inc := if root && s.seq.counter then
        incClamp (clampInt (((s.dom d).inc : Int) - k) (((s.dom d).inc : Int) + k) want)
      else incClamp want
    s.setInc d inc

/-- Shows θ_D (R366). -/
def State.showTheta (s : State) (d : Nat) (theta : Int) : State :=
  s.putI (ab d Fld.TIM_THETA_A.THETA Fld.TIM_THETA_B.THETA) (roundDiv theta 256)

/-- A used SYNC of domain A, or of B while A is lost, counts toward a frame counter conflict at every hub but ROOT_A; after
CONFLICT_N in a row the hub takes QCAUSE COUNTER until reset (R650). -/
def State.counterAgree (s : State) (m : SyncMsg) : State :=
  match m.counter with
  | some c =>
    if !s.seq.counter || s.isRoot 0 || !(m.domain == 0 || s.cls 0 == 0xFF) then s
    else if s.counterHere c = s.seq.frame then { s with sup.conflicts := 0 }
    else
      let n := s.sup.conflicts + 1
      let s := { s with sup.conflicts := n }
      if s.policy 0x0B03 4 ≤ n && !s.sup.counterBad then
        ({ s with sup.counterBad := true } : State).put Fld.SUP_EVT.COUNTER 1
      else s
  | none => s

/-- The copy of a number that is used (R342): θ_D, servo, lock, class and error bound. -/
def State.useSync (s : State) (h : HeldSync) : State :=
  let m := h.msg
  let d := m.domain
  let s := (s.setDom d { s.dom d with held := none, lastSeq := some m.seq }).counterAgree m
  let s := s.showTheta d h.theta
  let s := (s.servo d h.theta).judgeLock d h.theta
  let s := s.put (ab d Fld.TIM_ERR.ERR_A Fld.TIM_ERR.ERR_B) m.errNs
  let s := if m.classFrame = 0 || !s.seq.counter || m.classFrame ≤ s.seq.frame then s.setCls d m.cls
    else s.setDom d { s.dom d with pend := some (m.cls, m.classFrame) }
  (s.evt (ab d Fld.TIM_EVT.SYNC_A Fld.TIM_EVT.SYNC_B) 101).showLock

/-- The SYNC interval in ns (R365). -/
def State.syncNs (s : State) : Nat := 1000000000 / 2 ^ (-(signed 32 (s.policy 0x0205 0xFFFFFFF9))).toNat

/-- A held copy whose number can have no better copy any more is used (R342). -/
def State.settleSync (s : State) (d : Nat) : State :=
  match (s.dom d).held with
  | some h => if s.silt.opNs > h.at_ + s.syncNs / 2 then s.useSync h else s
  | none => s

/-- A time step discards SYNC messages from its other side (R343). -/
def State.syncFiltered (s : State) (m : SyncMsg) : Bool :=
  match m.counter, (match s.time.step with | some t => some t.f | none => s.time.lastStep) with
  | some (n, _), some f => s.seq.counter && ((s.seq.frame ≥ f && n < f) || (s.seq.frame < f && n ≥ f))
  | _, _ => false

/-- A usable copy arrives: the first is held for the second, the better of two is used (R342). -/
def State.offerSync (s : State) (port : Nat) (m : SyncMsg) (theta : Int) : State :=
  let d := m.domain
  let new : HeldSync := { msg := m, port := port, theta := theta, at_ := s.silt.opNs }
  let s := match (s.dom d).held with
    | some h => if h.msg.seq ≠ m.seq then s.useSync h else s
    | none => s
  match (s.dom d).held with
  | some h =>
    if s.silt.opNs > h.at_ + s.syncNs / 2 then s.useSync h
    else if m.hops < h.msg.hops || (m.hops = h.msg.hops && port = 0) then s.useSync { new with at_ := h.at_ }
    else s.useSync h
  | none =>
    if (s.dom d).lastSeq = some m.seq then s else s.setDom d { s.dom d with held := some new }

/-- SYNC: a SYNC received on a port `ago` 2^-16 ns before now; `res` is the residence time of its forwarding on T_D. -/
def execSync (port : Nat) (msg : SyncMsg) (ago res : Int) (crcOk : Bool) (s : State) : Host.Outcome State Fault Refusal :=
  if s.hubState < stHeld || msg.domain ≥ 2 then .next s else
  if !crcOk then .next ((s.sat Fld.TIM_CNT.TIME_DROP).evt Fld.TIM_EVT.TIME_DROP 101) else
  let d := msg.domain
  if s.isRoot d then .next s else
  let p := s.pd port
  let delta16 := roundDiv p.delta 2000
  let other := 1 - port
  let fwd : SyncMsg := { msg with correction := msg.correction + delta16 + res, hops := msg.hops + 1, bad := msg.bad || !p.valid }
  let s := if s.portUp other then { s with tx := s.tx ++ [.sync other fwd] } else s
  if s.syncFiltered msg then .next s else
  let s := s.hear msg.counter msg.emit
  if msg.bad || !p.valid then .next s else
  let rx := tu (s.dom d).t / 65536 - ago
  .next (s.offerSync port msg (rx - (tu msg.origin / 65536 + msg.correction + delta16)))

/-- SYNC_SEND: a root sends the SYNC of its domain on both ports (R339, R727). -/
def execSyncSend (domain : Nat) (s : State) : Host.Outcome State Fault Refusal :=
  if s.hubState < stHeld || domain ≥ 2 || !s.isRoot domain then .next s else
  let s := s.rootClass domain
  let x := s.dom domain
  let q := (x.seqOut + 1) % 65536
  let m : SyncMsg :=
    { domain := domain, seq := q, origin := x.t, correction := 0, hops := 0, bad := false, cls := x.ann
      errNs := s.rootErr domain, classFrame := x.annFrame, counter := s.ownCounter, emit := s.hubId }
  let s := s.setDom domain { x with seqOut := q }
  .next (s.forEach ([0, 1].filter s.portUp) fun p s => { s with tx := s.tx ++ [.sync p m] })

/-- DOMAIN_LOSS: no usable SYNC for LOSS_SYNCS intervals; never at the domain's root (R342, R727). -/
def execDomainLoss (domain : Nat) (s : State) : Host.Outcome State Fault Refusal :=
  if domain ≥ 2 || s.isRoot domain || s.cls domain == 0xFF then .next s else
  let s := s.setDom domain { s.dom domain with good := 0, bad := 0, held := none }
  let s := ((s.setLock domain false).setCls domain 0xFF).evt (ab domain Fld.TIM_EVT.LOSS_A Fld.TIM_EVT.LOSS_B) 101
  .next s.showLock

/-! ## PPS roots (R333, R335) -/

/-- θ_D of a PPS edge in 2^-16 ns: the counter minus the nearest whole second (R342). -/
def ppsTheta (t : TimeVal) (ago : Int) : Int :=
  let x := ((t.ns * 2 ^ 32 + t.frac : Nat) : Int) / 65536 - ago
  let sec : Int := 1000000000 * 65536
  let r := x % sec
  if r > sec / 2 then r - sec else r

/-- A PPS edge at the root of domain d: seconds of TIME_SET_TOD, θ_D, servo, source lock and the end of holdover. -/
def State.ppsRoot (s : State) (d : Nat) (ago : Int) : State :=
  if !s.isRoot d || !(s.srcOf d == 1 || s.srcOf d == 2) then s else
  let x := s.dom d
  let td := tu x.t / 65536 - ago
  let sec : Int := 1000000000 * 65536
  let theta := ppsTheta x.t ago
  let spaced := match x.lastEdge with
    | some e => decide ((td - e - sec).natAbs ≤ 1000 * 65536)
    | none => false
  let t := match x.tod with
    | some v => if s.seq.counter then x.t else ofTu (((v : Int) * sec + theta + ago) * 65536)
    | none => x.t
  let n := if spaced then x.spaced + 1 else 0
  let x := { x with t := t, tod := none, edges := (theta :: x.edges).take 8, spaced := n }
  let x := if x.holdSince.isSome && n ≥ 3 then { x with holdSince := none } else x
  let s := ((s.setDom d x).showTheta d theta).put (ab d Fld.TIM_ERR.ERR_A Fld.TIM_ERR.ERR_B) (s.rootErr d)
  let s := s.when (n ≥ 7) (·.setLock d true)
  let s := if x.holdSince.isSome then s else s.servo d theta
  let s := s.setDom d { s.dom d with lastEdge := some (tu (s.dom d).t / 65536 - ago) }
  (s.rootClass d).showLock

/-- ROOT_HOLDOVER: a PPS root receives no edge for 1.5 s; the increment stays (R335). -/
def execRootHoldover (domain : Nat) (s : State) : Host.Outcome State Fault Refusal :=
  if domain ≥ 2 || !s.isRoot domain || !(s.srcOf domain == 1 || s.srcOf domain == 2) then .next s else
  if (s.dom domain).holdSince.isSome || !s.locked domain then .next s else
  let e := s.rootErr domain
  let s := s.setDom domain { s.dom domain with holdSince := some s.silt.opNs, holdErr := e, spaced := 0, lastEdge := none }
  .next (s.rootClass domain)

/-! ## Selection and the local timescale (R347 to R350) -/

/-- O = L − T_sel in 2^-32 ns. -/
def State.offL (s : State) : Int :=
  match s.time.follow with
  | some d => tu s.time.l - tu (s.dom d).t
  | none => 0

/-- The class of domain d in force at tick n. -/
def State.clsAt (s : State) (d n : Nat) : Nat :=
  match (s.dom d).pend with
  | some (c, f) => if f ≤ n then c else s.cls d
  | none => s.cls d

/-- The mode of selection in force: TIME_SELECT overrides SEL_MODE (R347, R364). -/
def State.selMode (s : State) : Nat := if s.time.modeCmd then s.get Fld.TIM_SEL.MODE else s.policy 0x020A 0

/-- The selected domain, none before the first selection. -/
def State.selected (s : State) : Option Nat :=
  if s.is Fld.TIM_SEL.NONE then none else some (s.get Fld.TIM_SEL.ACTIVE)

/-- The domain that R347 selects for tick n. -/
def State.pickDomain (s : State) (n : Nat) : Option Nat :=
  let ok := fun d => s.locked d && s.clsAt d n != 0xFF
  match s.selMode with
  | 1 => if s.selected.isSome || ok 0 then some 0 else none
  | 2 => if s.selected.isSome || ok 1 then some 1 else none
  | _ =>
    match s.selected with
    | none =>
      if ok 0 && ok 1 then some (if s.clsAt 1 n < s.clsAt 0 n then 1 else 0)
      else if ok 0 then some 0 else if ok 1 then some 1 else none
    | some d =>
      let o := 1 - d
      if !ok d && ok o then some o
      else if ok d && ok o && s.clsAt o n < s.clsAt d n then some o
      else some d

/-- Takes a selection: counts, flag and record of a change (R347). -/
def State.takeDomain (s : State) (d : Nat) : State :=
  if s.selected = some d then s else
  let prev := match s.selected with | some p => p | none => 0xFF
  let s := (s.put Fld.TIM_SEL.NONE 0).put Fld.TIM_SEL.ACTIVE d
  let s := (s.sat Fld.TIM_CNT.SWITCH_CNT).evt Fld.TIM_EVT.SWITCH 101
  s.stage 0x0801 (leBytes 1 prev ++ leBytes 1 d ++ leBytes 1 (s.cls 0) ++ leBytes 1 (s.cls 1))

/-- Enters or leaves holdover (R350). -/
def State.judgeHoldover (s : State) : State :=
  let on := match s.selected with
    | none => false
    | some d => !s.eligible d
  let was := s.is Fld.TIM_STAT.HOLDOVER
  let s := s.put Fld.TIM_STAT.HOLDOVER (b2n on)
  let s := s.when (on && !was) fun s => (s.evt Fld.TIM_EVT.HOLDOVER 101).stage 0x0803 (leBytes 1 1)
  let s := s.when (on && !was) fun s =>
    match s.time.follow with
    | some d => ({ s with time.incL := (s.dom d).inc } : State).put Fld.TIM_STAT.SLEWING 0
    | none => s
  s.when (!on && was) (·.stage 0x0803 (leBytes 1 0))

/-- The lock of a root's own domain follows its source (R346). -/
def State.rootLock (s : State) (d : Nat) : State :=
  if !s.isRoot d then s else
  match s.srcOf d with
  | 0 => s.setLock d true
  | 3 => s.setLock d (s.get (ab d Fld.TIM_HOST_Q.CLASS_A Fld.TIM_HOST_Q.CLASS_B) == 0x30)
  | _ => s

/-- The time unit's House phase: held SYNC copies, root classes, the selection for the next tick, holdover, the
acquisition set, the neighbours that count for TUN, and the record of a step (R336, R342, R347, R349, R350, R354,
R356). -/
def State.timeHouse (s : State) : State :=
  let s := (s.settleSync 0).settleSync 1
  let s := ((s.rootLock 0).rootLock 1)
  let s := (s.rootClass 0).rootClass 1
  let s := (s.put Fld.TIM_STAT.ROOT_A (b2n (s.isRoot 0))).put Fld.TIM_STAT.ROOT_B (b2n (s.isRoot 1))
  let s := match s.pickDomain (s.seq.frame + 1) with
    | some d => s.takeDomain d
    | none => s
  let s := s.judgeHoldover.judgeTun
  let s := match s.selected with
    | some d =>
      let o := tu s.time.l - tu (s.dom d).t
      if !s.seq.counter && s.eligible d && (!s.time.acquired || o.natAbs > 1000 * 2 ^ 32) then
        { s with time.acq := true } else s
    | none => s
  let s := match s.time.stepDone with
    | some x =>
      if s.seq.frame < x.f then s else
      let s := { s with time.stepDone := none }
      let s := s.stage 0x0806 (leBytes 6 x.oldL.s ++ leBytes 4 x.oldL.ns ++ leBytes 6 x.newL.s
        ++ leBytes 4 (x.newL.ns + b2n x.lOnly * 2 ^ 31))
      (s.sat Fld.TIM_STEP.STEP_CNT).evt Fld.TIM_EVT.STEP_DONE 101
    | none => s
  s.showLock

/-- The time unit's work at a frame tick: classes and the selection come into force, and an acquisition set is made. -/
def State.timeTick (s : State) : State :=
  let s := s.forEach [0, 1] fun d s =>
    match (s.dom d).pend with
    | some (c, f) => if f ≤ s.seq.frame then s.setCls d c else s
    | none => s
  let s := { s with time.follow := s.selected }
  let s := if !s.time.acq then s else
    match s.time.follow with
    | none => s
    | some d =>
      let o := tu s.time.l - tu (s.dom d).t
      let s := s.stage 0x0802 (leBytes 1 d ++ leBytes 3 0 ++ leBytes 8 (unsigned 64 (o / 2 ^ 24)))
      let s := { s with time.l := (s.dom d).t, time.acq := false, time.acquired := true, fieldPorts.step := true }
      s.forEach s.localChains fun c s => s.resetNext c 4
  { s with time.tickL := s.time.l }

/-- One edge of the 500 MHz time clock (R328, R348, R350). -/
def State.clockEdge (s : State) : State :=
  let t := s.time
  let a := s.dom 0
  let b := s.dom 1
  let k : Int := s.get Fld.TIM_SLEW.SLEW_INC
  let step := fun (x : Domain) => { x with t := addTu x.t x.inc }
  let move : Int × Option TimeVal × Bool :=
    match t.follow with
    | none => (t.incL, none, false)
    | some d =>
      if s.is Fld.TIM_STAT.HOLDOVER then (t.incL, none, false) else
      let x := s.dom d
      let o := tu t.l - tu x.t
      if (o.natAbs : Int) ≤ k then (x.inc, some (addTu x.t x.inc), false)
      else (x.inc - (if o < 0 then -k else k), none, true)
  let l := match move.2.1 with
    | some v => v
    | none => addTu t.l move.1
  let incL := move.1.toNat
  let s := { s with time.l := l, time.incL := incL, time.doms := [step a, step b], silt.opNs := s.silt.opNs + 2 }
  s.put Fld.TIM_STAT.SLEWING (b2n move.2.2)

/-! ## Time steps (R355 to R357) -/

/-- TIME_OUT parameters. -/
def toutPeriodic (u : PatUnit) : Bool := u.p 0 0 1 == 1
def toutStart (u : PatUnit) : TimeVal := { s := u.params.getD 2 0 + u.p 3 0 16 * 2 ^ 32, ns := u.p 4 0 30, frac := 0 }
def toutPeriod (u : PatUnit) : Int := ((u.params.getD 5 0 * 2 ^ 32 : Nat) : Int)

/-- The first time start + k × period, k ≥ 0, at or after `lim`. -/
def firstPulse (start period lim : Int) : Int :=
  if lim ≤ start || period ≤ 0 then start else start + (lim - start + period - 1) / period * period

/-- A pulse time that is too early is not produced: LATE (R361). -/
def State.toutLate (s : State) (k : Nat) : State :=
  (s.put Fld.TIM_TOUTk_STAT.LATE 1 k).sat Fld.TIM_TOUTk_STAT.LATE_CNT 1 k

/-- Schedules a TIME_OUT unit from a start time, no earlier than `lim` (R361). -/
def State.toutPlan (s : State) (u : PatUnit) (start lim : Int) : State :=
  let pin := tabGet s.time.tout ⟨none, false⟩ u.inst
  let set_ := fun (s : State) (n : Option TimeVal) => { s with time.tout := tabSet s.time.tout u.inst { pin with next := n } }
  if toutPeriodic u then set_ s (some (ofTu (firstPulse start (toutPeriod u) lim)))
  else if start < lim then (set_ s none).toutLate u.inst
  else set_ s (some (ofTu start))

/-- Two microseconds in 2^-32 ns. -/
def us2 : Int := 2000 * 2 ^ 32

/-- TIME_OUT units after a step of L (R357). -/
def State.toutStep (s : State) : State :=
  s.forEach (s.units cTIME_OUT) fun u s =>
    match (tabGet s.time.tout ⟨none, false⟩ u.inst).next with
    | none => s
    | some n => s.toutPlan u (if toutPeriodic u then tu (toutStart u) else tu n) (tu s.time.l)

/-- TIME_STEP_APPLY: at t_s the counters move by Δ, and every local chain resets at tick F (R355, R237). -/
def execTimeStepApply (s : State) : Host.Outcome State Fault Refusal :=
  match s.time.step with
  | none => .next s
  | some x =>
    let old := s.time.l
    let new := addTu old x.delta
    let mv := fun (d : Domain) => if x.lOnly then d else
      { d with t := addTu d.t x.delta, lastEdge := d.lastEdge.map (· + x.delta / 65536) }
    let done : StepDone := { f := x.f, oldL := old, newL := new, lOnly := x.lOnly }
    let streams := (s.units cSTREAM).map (·.inst)
    let s := { s with time.l := new, time.doms := s.time.doms.map mv, time.step := none, time.lastStep := some x.f
                      time.stepDone := some done, time.tstep := streams, fieldPorts.step := true }
    let s := (s.put Fld.TIM_STAT.STEP_PEND 0).toutStep
    .next (s.forEach s.localChains fun c s => s.resetNext c 4)

/-- TIME_SELECT_EFFECT: a commanded selection takes effect at its tick (R364). -/
def execTimeSelectEffect (s : State) : Host.Outcome State Fault Refusal :=
  match s.time.select with
  | none => .next s
  | some (f, mode) =>
    let due := match f with | some f => decide (s.seq.frame ≥ f) | none => true
    .next (if due then ({ s with time.select := none, time.modeCmd := true } : State).put Fld.TIM_SEL.MODE mode else s)

/-! ## Interrupt-time capture and time pins (R358 to R361) -/

/-- Writes a time group (R367). -/
def State.putTime (s : State) (lo : Field) (hi : Field) (ns frac : Field) (valid : Field) (t : TimeVal) (k : Nat) : State :=
  ((((s.put lo t.s k).put hi (t.s / 2 ^ 32) k).put valid 1 k).put ns t.ns k).put frac (t.frac / 65536) k

/-- The IRQ_N capture (R358). -/
def State.irqCapture (s : State) : State :=
  if s.is Fld.TIM_IRQ_STAT.FULL then (s.put Fld.TIM_IRQ_STAT.MISS 1).sat Fld.TIM_IRQ_STAT.MISS_CNT
  else
    let s := s.putTime Fld.TIM_IRQ_CAP_S_LO.S_LO Fld.TIM_IRQ_CAP_S_HI.S_HI Fld.TIM_IRQ_CAP_NS.NS
      Fld.TIM_IRQ_CAP_FRAC.FRAC Fld.TIM_IRQ_CAP_S_HI.VALID s.time.l 0
    (s.put Fld.TIM_IRQ_FRAME.FRAME_LO s.seq.frame).put Fld.TIM_IRQ_STAT.FULL 1

/-- IRQ_N_ASSERT (R358). -/
def execIrqNAssert (s : State) : Host.Outcome State Fault Refusal := .next s.irqCapture

/-- TIN_EDGE: an edge on pin TINk `ago` 2^-32 ns before now (R359, R360). -/
def execTinEdge (k : Nat) (falling : Bool) (ago : Nat) (s : State) : Host.Outcome State Fault Refusal :=
  match s.unitAt cTIME_IN k with
  | none => .next s
  | some u =>
    let sel := u.p 0 0 2
    if !(sel == 2 || (sel == 0 && !falling) || (sel == 1 && falling)) then .next s else
    let t := addTu s.time.l (-(ago : Int))
    let pin := tabGet s.time.tin ⟨[], none⟩ k
    let soon := match pin.last with
      | some p => decide (tu t - p < 40 * 2 ^ 32)
      | none => false
    if soon || pin.fifo.length ≥ 16 then
      .next ((s.put Fld.TIM_TINk_STAT.OVF 1 k).sat Fld.TIM_TINk_STAT.LOST_CNT 1 k)
    else
      let pin : TinPin := { fifo := pin.fifo ++ [(t, falling)], last := some (tu t) }
      let s := ({ s with time.tin := tabSet s.time.tin k pin } : State).countEvt u.id
      let s := s.putTime Fld.TIM_TINk_S_LO.S_LO Fld.TIM_TINk_S_HI.S_HI Fld.TIM_TINk_NS.NS Fld.TIM_TINk_FRAC.FRAC
        Fld.TIM_TINk_S_HI.VALID t k
      let s := (s.put Fld.TIM_TINk_FRAC.POL (b2n falling) k).put Fld.TIM_TINk_FRAME.FRAME_LO s.seq.frame k
      .next (s.put Fld.TIM_TINk_STAT.LEVEL pin.fifo.length k)

/-- TIME_IN units deliver one capture per tick (R360). -/
def State.tinDeliver (s : State) : State :=
  s.forEach (s.units cTIME_IN) fun u s =>
    let pin := tabGet s.time.tin ⟨[], none⟩ u.inst
    match pin.fifo with
    | [] => s
    | (t, _) :: rest =>
      let s := { s with time.tin := tabSet s.time.tin u.inst { pin with fifo := rest }
                        flow.time := tabSet s.flow.time (256 * u.id) t }
      ((s.put Fld.TIM_TINk_STAT.LEVEL rest.length u.inst).assertEvt u.id 1).ran u.id

/-- TIME_OUT units take the times delivered to them in this tick (R361). -/
def State.toutDeliver (s : State) : State :=
  s.forEach (s.units cTIME_OUT) fun u s =>
    match s.driver u.id 0 with
    | none => s
    | some (d, p) =>
      match tabGet? s.flow.time (256 * d + p) with
      | some t => s.toutPlan u (tu t) (tu s.time.l + us2)
      | none => s

/-- The inactive level of a TOUT pin: low without a unit (R361). -/
def State.toutIdle (s : State) (k : Nat) : Nat :=
  match s.unitAt cTIME_OUT k with
  | some u => u.p 0 1 1
  | none => 0

/-- TOUT_PULSE: the scheduled time of the unit has arrived; the pulse is produced in ARMED, RUN and SAFE (R361). -/
def execToutPulse (k : Nat) (s : State) : Host.Outcome State Fault Refusal :=
  match s.unitAt cTIME_OUT k with
  | none => .next s
  | some u =>
    let pin := tabGet s.time.tout ⟨none, false⟩ k
    match pin.next with
    | none => .next s
    | some t =>
      if tu s.time.l < tu t then .next s else
      let nxt := if toutPeriodic u then some (addTu t (toutPeriod u)) else none
      let on := s.acquires
      let s := { s with time.tout := tabSet s.time.tout k { next := nxt, high := on } }
      .next (if on then ((s.put Fld.TIM_TOUTk_STAT.LEVEL (1 - s.toutIdle k) k).wrap Fld.TIM_TOUTk_STAT.PULSE_CNT 1 k).countEvt u.id
        else s)

/-- TOUT_PULSE_END: WIDTH_NS expires (R361). -/
def execToutPulseEnd (k : Nat) (s : State) : Host.Outcome State Fault Refusal :=
  let pin := tabGet s.time.tout ⟨none, false⟩ k
  .next (({ s with time.tout := tabSet s.time.tout k { pin with high := false } } : State).put Fld.TIM_TOUTk_STAT.LEVEL
    (s.toutIdle k) k)

/-- The time pins leave ARMED, RUN and SAFE, or their units change: every pin without a pulse is inactive. -/
def State.toutRest (s : State) : State :=
  s.forEach (List.range 8) fun k s =>
    let pin := tabGet s.time.tout ⟨none, false⟩ k
    let pin := if s.acquires then pin else { pin with high := false }
    let s := { s with time.tout := tabSet s.time.tout k pin }
    if pin.high then s else s.put Fld.TIM_TOUTk_STAT.LEVEL (s.toutIdle k) k

/-! ## Register writes of the TIM block -/

/-- A write of TIM_INC_x_LO is staged; TIM_INC_x_HI applies both, clamped (R329, R344). -/
def State.wrInc (s : State) (d : Nat) (hi : Bool) (v : Nat) : State :=
  if !s.is (ab d Fld.TIM_SERVO_CTRL.HOST_A Fld.TIM_SERVO_CTRL.HOST_B) then s else
  if !hi then s.put (ab d Fld.TIM_INC_A_LO.FRAC Fld.TIM_INC_B_LO.FRAC) v else
  let want : Nat := v % 256 * 2 ^ 32 + s.get (ab d Fld.TIM_INC_A_LO.FRAC Fld.TIM_INC_B_LO.FRAC)
  let inc := incClamp want
  (s.setInc d inc).when (inc != want) (·.evt Fld.TIM_EVT.INC_CLAMP 101)

/-- A write of TIM_ADJ_x (R366). -/
def State.wrAdj (s : State) (d v : Nat) : State :=
  if !s.is (ab d Fld.TIM_SERVO_CTRL.HOST_A Fld.TIM_SERVO_CTRL.HOST_B) then s else
  let x := s.dom d
  s.setDom d { x with t := addTu x.t (signed 32 v * 2 ^ 32) }

/-- A write of TIM_HOST_Q: each class other than 0x30 and 0x60 is discarded (R366). -/
def State.wrHostQ (s : State) (v : Nat) : State :=
  let one := fun (s : State) (f : Field) (x : Nat) => if x = 0x30 || x = 0x60 then s.put f x else s
  let s := one (one s Fld.TIM_HOST_Q.CLASS_A (field v 0 8)) Fld.TIM_HOST_Q.CLASS_B (field v 8 8)
  (((s.rootLock 0).rootLock 1).rootClass 0).rootClass 1

/-- A write of TIM_PORTp_ASYM, clamped (R366). -/
def State.wrAsym (s : State) (p v : Nat) : State :=
  s.put (if p = 0 then Fld.TIM_PORTE_ASYM.ASYM else Fld.TIM_PORTW_ASYM.ASYM)
    (unsigned 16 (clampInt (-10000) 10000 (signed 16 v)))

/-- A write of TIM_IRQ_CTRL: REARM clears FULL (R358). -/
def State.wrIrqCtrl (s : State) (v : Nat) : State := s.when (bit v 0) (·.put Fld.TIM_IRQ_STAT.FULL 0)

end Sys2Proof.Machine
end

