-- ==== Sys2Proof/Machine/EdgeTiming.lean ====
section
/-! DEFINITION. Edge timing and frequency measurement (R369 to R387), and the meanings of its commands. -/

namespace Sys2Proof.Machine

/-- An input before its unit starts. -/
def TdcIn.rest : TdcIn :=
  { cal := [(0, 1), (0, 1)], turn := 0, last := none, n := 0, start := none, a := none, edges := [], ivl := none, ivlT := 0
    res := (0, 1), lost := false, fifo := [], value := 0x7FFFFF }

/-- Input k. -/
def State.tdcIn (s : State) (k : Nat) : TdcIn := tabGet s.tdc.ins TdcIn.rest k

/-- Stores input k and shows what its registers hold of it. -/
def State.setTdc (s : State) (k : Nat) (x : TdcIn) : State :=
  (({ s with tdc.ins := tabSet s.tdc.ins k x } : State).put Fld.TDC_CHk_STAT.LEVEL x.fifo.length k).put
    Fld.TDC_CHk_STAT.START_PEND (b2n x.start.isSome) k

/-- A unit starts: both interpolators calibrate, with readings that the spec leaves open (R374, log entry 7). -/
def State.tdcStart (s : State) (k : Nat) : State :=
  let (a, s) := s.draw
  let (b, s) := s.draw
  let (c, s) := s.draw
  let (d, s) := s.draw
  (s.setTdc k { TdcIn.rest with cal := [(a, b), (c, d)] }).put Fld.TDC_CHk_STAT.ACTIVE 1 k

/-- The scale of the PPS base: seconds of PPS_IN per second of the time clock, as numerator and denominator (R369). -/
def State.tdcScale (s : State) : Int × Int :=
  if s.get Fld.TDC_STAT.BASE = 2 then
    let per := 1000000000 * 256 + signed 32 (s.get Fld.TDC_PPS_DEV.DEV)
    (1000000000 * 256, per)
  else (1, 1)

/-- A coarse difference in bins of the base, rounded down. -/
def State.baseBins (s : State) (d : Int) : Nat := (d * s.tdcScale.1 / s.tdcScale.2).toNat

/-- An entry enters the FIFO of input k; a full FIFO discards it (R384). -/
def State.tdcPush (s : State) (k : Nat) (e : TdcEntry) : State :=
  let x := s.tdcIn k
  let e := { e with lost := x.lost }
  if x.fifo.length < 256 then
    let s := s.setTdc k { x with fifo := x.fifo ++ [e], lost := false }
    match s.unitAt cTDC k with
    | some u => s.countEvt u.id
    | none => s
  else
    let s := s.setTdc k { x with lost := true }
    ((s.sat Fld.TDC_CHk_CNT.OVF_CNT 1 k).put Fld.TDC_CHk_STAT.OVF 1 k).put Fld.TDC_EVT.FIFO_OVF 1

/-- t_bins of R374; the quotient is free where the two calibration readings are equal (log entry 7). -/
def State.tdcTime (s : State) (k c raw : Nat) : Int × State :=
  let x := s.tdcIn k
  let (r1, r2) := x.cal.getD x.turn (0, 1)
  let skew := s.getI Fld.TDC_CHk_SKEW.SKEW k
  let dr : Int := (r2 : Int) - r1
  let (v, s) := if dr = 0 then s.draw else (0, s)
  let q : Int := if dr = 0 then 257 + (v % 256 : Nat)
    else 256 + roundDiv (256 * ((raw : Int) - r1) * (if dr < 0 then -1 else 1)) dr.natAbs
  ((256 * c : Nat) - q - skew, s)

/-- A measured edge of an input starts an interval on every input that names it as START_IN (R380). -/
def State.tdcStarts (s : State) (k : Nat) (t : Int) : State :=
  s.forEach (s.units cTDC) fun u s =>
    if u.p 0 0 2 = 1 && u.p 0 8 4 = k then s.setTdc u.inst { s.tdcIn u.inst with start := some t } else s

/-- The interval in progress ends at the tick of a time step (R373). -/
def State.stepEnds (s : State) : Bool :=
  (match s.time.step with | some x => x.f == s.seq.frame + 1 | none => false) ||
    (match s.time.stepDone with | some x => x.f == s.seq.frame + 1 | none => false)

/-- A measured edge stops the pending interval of its own input (R380). -/
def State.tdcStop (s : State) (k : Nat) (t : Int) (falling : Bool) : State :=
  let x := s.tdcIn k
  match x.start with
  | none => s
  | some st =>
    if t < st then s else
    let r := s.baseBins (t - st)
    let s := s.setTdc k { x with start := none, ivl := some r, ivlT := t }
    s.tdcPush k { result := r, m := s.seq.frame, pol := falling, base := s.is Fld.TDC_STAT.FALLBACK, lost := false,
                  step := s.stepEnds, count := 0 }

/-- TDC_EDGE: a selected edge on input k, with the coarse count of the second clock edge after it, the interpolator's
reading, and the two readings of the calibration that follows (R374, R376, R380, R381). -/
def execTdcEdge (k : Nat) (falling : Bool) (c raw raw1 raw2 : Nat) (s : State) : Host.Outcome State Fault Refusal :=
  match s.unitAt cTDC k with
  | none => .next s
  | some u =>
    let sel := u.p 0 2 2
    if !s.acquires || !(sel == 2 || (sel == 0 && !falling) || (sel == 1 && falling)) then .next s else
    let s := s.setTdc k { s.tdcIn k with n := (s.tdcIn k).n + 1 }
    let (t, s) := s.tdcTime k c raw
    let x := s.tdcIn k
    let soon := match x.last with
      | some p => decide (t - p < 384)
      | none => false
    if soon then
      let s := s.setTdc k { x with lost := true }
      .next (((s.sat Fld.TDC_CHk_CNT.SHORT_CNT 1 k).put Fld.TDC_CHk_STAT.SHORT 1 k).put Fld.TDC_EVT.SHORT 1)
    else
      let x := { x with
        cal := x.cal.set x.turn (raw1, raw2), turn := 1 - x.turn, last := some t
        edges := x.edges ++ [{ t := t, n := x.n, falling := falling, base := s.is Fld.TDC_STAT.FALLBACK }] }
      let s := (s.setTdc k x).wrap Fld.TDC_CHk_EDGES.EDGES 1 k
      let s := if u.p 0 0 2 = 1 then s.tdcStop k t falling else s
      .next (s.tdcStarts k t)

/-- TDC_START_TIMEOUT: an interval start has had no stop within 1 s (R380). -/
def execTdcStartTimeout (k : Nat) (s : State) : Host.Outcome State Fault Refusal :=
  let x := s.tdcIn k
  .next (if x.start.isSome then (s.setTdc k { x with start := none }).put Fld.TDC_CHk_STAT.TIMEOUT 1 k else s)

/-- TDC_FREQ_TIMEOUT: no measured edge for 1 s (R381). -/
def execTdcFreqTimeout (k : Nat) (s : State) : Host.Outcome State Fault Refusal :=
  .next (s.setTdc k { s.tdcIn k with value := 0x7FFFFF })

/-- The slot code of a result (R378). -/
def tdcCode (v : Nat) : Nat := if v > 0x7FFFFD then 0x7FFFFE else v

/-- S of R379. -/
def tdcS (ff : Nat) : Nat := if ff = 0 then 2 else if ff ≤ 2 then 1 else 0

/-- Bins from FT(m) on L of an edge of the interval that just ended (R373), for an interval of `span` bins. -/
def State.tdcOnL (s : State) (t : Int) (span : Int) : Nat :=
  if span ≤ 0 then 0 else ((t - s.tdc.cap) * 128000000000 / (ffHz s.ff * span)).toNat

/-- The sample of one input for the interval that just ended: VALUE, whether it is a new result, and the state (R379 to
R381). -/
def State.tdcSample (s : State) (u : PatUnit) (span : Int) (step : Bool) : Nat × Bool × State :=
  let k := u.inst
  let x := s.tdcIn k
  let sc := s.getI Fld.TDC_CHk_CFG.SCALE k
  let m := s.seq.frame - 1
  let clear := fun (s : State) => s.setTdc k { s.tdcIn k with edges := [], ivl := none }
  let mark := fun (s : State) (t : Int) => s.setTdc k { s.tdcIn k with res := (t - s.tdc.cap, span) }
  let entry := fun (r : Nat) (e : TdcEdge) (n : Nat) =>
    ({ result := r, m := m, pol := e.falling, base := e.base, lost := false, step := step, count := n } : TdcEntry)
  match u.p 0 0 2 with
  | 0 =>
    let s := s.forEach x.edges fun e s => s.tdcPush k (entry (s.tdcOnL e.t span) e 0)
    match x.edges with
    | [] => (0x7FFFFF, false, clear s)
    | e :: _ => (tdcCode (s.tdcOnL e.t span / 2 ^ tdcS s.ff), true, clear (mark s e.t))
  | 1 =>
    match x.ivl with
    | none => (0x7FFFFF, false, clear s)
    | some r => (tdcCode (r / 2 ^ sc.toNat), true, clear (mark s x.ivlT))
  | _ =>
    match x.edges.getLast?, (match x.a with | some a => some a | none => x.edges.head?) with
    | some b, some a =>
      if b.t ≤ a.t then (x.value, false, clear (s.setTdc k { x with a := some a })) else
      let dt := b.t - a.t
      let dn : Int := ((b.n - a.n : Nat) : Int)
      let (num, den) := s.tdcScale
      let up : Int := 2 ^ sc.toNat
      let down : Nat := 2 ^ (-sc).toNat
      let v := (roundDiv (dn * 128000000000 * den * up) ((dt * num).toNat * down)).toNat
      let s := s.setTdc k { x with a := some b, value := tdcCode v }
      let s := s.tdcPush k (entry (s.baseBins dt) b (min dn.toNat 0xFFFFFF))
      (tdcCode v, true, clear (mark s b.t))
    | _, _ => (x.value, false, clear s)

/-- A change of base: pending starts and reference edges are discarded and counted (R372). -/
def State.tdcRebase (s : State) (base : Nat) (fallback : Bool) : State :=
  let s := s.forEach (s.units cTDC) fun u s =>
    let x := s.tdcIn u.inst
    let n := b2n x.start.isSome + b2n x.a.isSome
    (s.setTdc u.inst { x with start := none, a := none, edges := if u.p 0 0 2 = 2 then [] else x.edges }).sat
      Fld.TDC_BASE_CNT.DISC_CNT n
  (s.put Fld.TDC_STAT.BASE base).put Fld.TDC_STAT.FALLBACK (b2n fallback)

/-- The selected source is valid (R370, R371). -/
def State.tdcSrcOk (s : State) (src : Nat) : Bool :=
  match src with
  | 0 => true
  | 1 => s.is Fld.TDC_STAT.REFIN_VALID && s.is Fld.TDC_STAT.PLL_LOCK
  | _ => s.is Fld.TDC_STAT.PPS_VALID

/-- The hub returns to its source at a frame tick (R372). -/
def State.tdcReturn (s : State) : State :=
  if s.is Fld.TDC_STAT.FALLBACK && s.tdcSrcOk (s.get Fld.TDC_CFG.SRC) && (s.is Fld.TDC_CFG.AUTO_RETURN || s.tdc.ret) then
    let s := ({ s with tdc.ret := false } : State).tdcRebase (s.get Fld.TDC_CFG.SRC) false
    (s.put Fld.TDC_EVT.BASE_RETURN 1).stage 0x0807 (leBytes 1 1 ++ leBytes 1 (s.get Fld.TDC_STAT.BASE))
  else s

/-- The edge-timing unit's work in the Acquire phase: `c` is the coarse time of this frame tick in bins, `step` that the
interval ends at the tick of a time step (R373, R377, R378). -/
def State.tdcTick (s : State) (c : Int) (step : Bool) : State :=
  let span := if step then s.tdc.span else c - s.tdc.cap
  let s := s.forEach (if s.acquires then s.units cTDC else []) fun u s =>
    let (v, new, s) := s.tdcSample u span step
    let w := v * 256 + 4 * s.tun
    let s := s.put Fld.TDC_CHk_LAST.WORD w u.inst
    let s := { s with flow.slot := tabSet s.flow.slot (640 + u.inst) w, flow.out := tabSet s.flow.out (256 * u.id) w }
    (s.when new (·.assertEvt u.id 1)).ran u.id
  let s := if s.acquires then s else
    s.forEach (s.units cTDC) fun u s => s.setTdc u.inst { s.tdcIn u.inst with edges := [], ivl := none }
  ({ s with tdc.cap := c, tdc.span := span } : State).tdcReturn

/-- A read of TDC_CHk_FIFO_W0 removes the oldest entry: its four words (R383, R384). -/
def State.tdcPop (s : State) (k : Nat) : List Nat × State :=
  let x := s.tdcIn k
  match x.fifo with
  | [] => ([0, 0, 0, 0], s)
  | e :: rest =>
    let w3 := 2 ^ 31 + b2n e.pol * 2 ^ 30 + b2n e.base * 2 ^ 29 + b2n e.lost * 2 ^ 28 + b2n e.step * 2 ^ 27 + e.count % 2 ^ 24
    ([e.result % 2 ^ 32, e.result / 2 ^ 32 % 2 ^ 32, e.m % 2 ^ 32, w3], s.setTdc k { x with fifo := rest })

/-! ## REFIN and PPS_IN (R370 to R372) -/

/-- REFIN_WINDOW: a 1 ms window ends; `rate` is its measured rate in mHz against the time clock. -/
def execRefinWindow (present : Bool) (rate : Nat) (pll : Bool) (s : State) : Host.Outcome State Fault Refusal :=
  if s.hubState < stHeld then .next s else
  let sel := s.get Fld.TDC_CFG.REFIN_RATE
  let r : Int := rate
  let big := if sel = 1 then false else if sel = 2 then true
    else decide ((r - 100000000000).natAbs < (r - 10000000000).natAbs)
  let nom : Int := if big then 100000000000 else 10000000000
  let good := present && decide ((r - nom).natAbs * 10000 ≤ nom.natAbs)
  let n := if good then min 10 (s.tdc.windows + 1) else 0
  let s := { s with tdc.windows := n }
  let s := (s.put Fld.TDC_STAT.REFIN_PRESENT (b2n present)).put Fld.TDC_STAT.REFIN_VALID (b2n (n ≥ 10))
  let s := (s.put Fld.TDC_STAT.REFIN_100M (b2n (big && n ≥ 10))).put Fld.TDC_STAT.PLL_LOCK (b2n (pll && present))
  .next (s.putI Fld.TDC_REF_PPM.PPM (roundDiv ((r - nom) * 256000000) nom.natAbs))

/-- REFIN_PRESENCE_LOSS: no edge for 1 µs (R370). -/
def execRefinPresenceLoss (s : State) : Host.Outcome State Fault Refusal :=
  let s := ({ s with tdc.windows := 0 } : State).put Fld.TDC_STAT.REFIN_PRESENT 0
  .next ((s.put Fld.TDC_STAT.REFIN_VALID 0).put Fld.TDC_STAT.PLL_LOCK 0)

/-- TDC_REF_LOSS: the selected source stopped being valid, and the coarse clock falls back (R372). -/
def execTdcRefLoss (s : State) : Host.Outcome State Fault Refusal :=
  if s.get Fld.TDC_STAT.BASE = 0 then .next s else
  let s := (({ s with tdc.ret := false } : State).tdcRebase 0 true).put Fld.TDC_EVT.REF_LOSS 1
  .next ((s.sat Fld.TDC_BASE_CNT.LOSS_CNT).stage 0x0807 (leBytes 1 0 ++ leBytes 1 (s.get Fld.TDC_STAT.BASE)))

/-- PPS_IN_EDGE: a rising edge `ago` 2^-16 ns before now: validity (R371), the period on the time clock, and the work of
a PPS root (R333, R335). -/
def execPpsInEdge (ago : Int) (s : State) : Host.Outcome State Fault Refusal :=
  if s.hubState < stHeld then .next s else
  let onL := s.l16 - ago
  let clk := ((s.silt.opNs * 65536 : Nat) : Int) - ago
  let sec : Int := 1000000000 * 65536
  let s := match s.tdc.ppsL with
    | some p =>
      let n := if (onL - p - sec).natAbs ≤ 1000 * 65536 then s.tdc.ppsRun + 1 else 0
      let s := { s with tdc.ppsRun := min n 3 }
      (s.put Fld.TDC_STAT.PPS_VALID (b2n (n ≥ 3))).putI Fld.TDC_PPS_DEV.DEV (roundDiv (clk - s.tdc.ppsClk - sec) 256)
    | none => s
  let s := { s with tdc.ppsL := some onL, tdc.ppsClk := clk }
  .next ((s.ppsRoot 0 ago).ppsRoot 1 ago)

/-- PPS_LOSS: no edge within 1 s + 1 µs (R371). -/
def execPpsLoss (s : State) : Host.Outcome State Fault Refusal :=
  .next (({ s with tdc.ppsRun := 0, tdc.ppsL := none } : State).put Fld.TDC_STAT.PPS_VALID 0)

/-! ## Register writes of the TDC block -/

/-- A write of TDC_CFG: RWL fields outside RUN, 0b11 discarded; SRC selects the base (R369, R372). -/
def State.wrTdcCfg (s : State) (v : Nat) : State :=
  let s := s.put Fld.TDC_CFG.AUTO_RETURN (field v 7 1)
  if s.hubState == stRun then s.put Fld.GLB_ACC_STAT.RWL_DROP 1 else
  let s := if field v 3 2 = 3 then s else s.put Fld.TDC_CFG.REFIN_RATE (field v 3 2)
  let src := field v 0 2
  if src = 3 then s else
  let old := s.get Fld.TDC_CFG.SRC
  let s := ({ s with tdc.ret := true } : State).put Fld.TDC_CFG.SRC src
  if src = old then s
  else if s.tdcSrcOk src then s.tdcRebase src false
  else s.tdcRebase 0 true

/-- A write of TDC_CHk_CFG: SCALE, RWL, within −8 to +15 (R386). -/
def State.wrTdcChCfg (s : State) (k v : Nat) : State :=
  if s.hubState == stRun then s.put Fld.GLB_ACC_STAT.RWL_DROP 1 else
  s.put Fld.TDC_CHk_CFG.SCALE (unsigned 5 (max (-8) (signed 5 (field v 16 5)))) k

/-- A write of TDC_CHk_CTRL (R386). -/
def State.wrTdcCtrl (s : State) (k v : Nat) : State :=
  let s := s.when (bit v 1) fun s => s.setTdc k { s.tdcIn k with fifo := [] }
  s.when (bit v 0) (·.wr Reg.TDC_CHk_CNT 0 k)

end Sys2Proof.Machine
end

