-- ==== Sys2Proof/Machine/Capture.lean ====
section
/-! DEFINITION. Triggers and capture (R388 to R413), and the meanings of these families' commands. -/

namespace Sys2Proof.Machine

/-! ## Instants on L -/

/-- The instant num / den alignment units (R270) before FT(n) of the present tick, on L, in 2^-16 ns, rounded to nearest
with ties away from zero (R392). One unit is 62500 / 3 of 2^-16 ns. -/
def State.beforeFt (s : State) (num : Int) (den : Nat) : Int :=
  roundDiv (tu s.time.tickL * (3 * den : Nat) - num * (62500 * 65536)) (3 * den * 65536)

/-- Alignment units from FT(m) to FT of the present tick. -/
def State.ticksBack (s : State) (m : Nat) : Int := ((s.seq.frame : Int) - m) * (s.nPer * 256 : Nat)

/-- Alignment units from t_rep(m) to FT of the present tick, for filter mode `mode` and decimation 2^d (R273). -/
def State.repBack (s : State) (mode d m : Nat) : Int :=
  s.ticksBack m + s.tAl + (delayQ mode * 2 ^ d * s.nPer * 64 : Nat)

/-! ## Trigger units (R388 to R394) -/

/-- A TRIGGER unit that has just started: its condition counts as true in the previous tick (R390). -/
def Trig.rest : Trig :=
  { cond := true, ins := [], primed := false, holdTo := none, force := none, line := [], fired := none, send := none }

/-- TRIGGER instance t. -/
def State.trig (s : State) (t : Nat) : Trig := tabGet s.cap.trigs Trig.rest t

/-- Stores TRIGGER instance t and shows its status (R412). -/
def State.setTrig (s : State) (t : Nat) (x : Trig) : State :=
  let s := { s with cap.trigs := tabSet s.cap.trigs t x }
  (s.put Fld.CAP_TRGt_STAT.COND (b2n x.cond) t).put Fld.CAP_TRGt_STAT.PRIMED (b2n x.primed) t

/-- BROADCAST of a TRIGGER unit (R135). -/
def trigBroadcast (u : PatUnit) : Bool := u.p 0 2 1 == 1

/-- An event input is asserted in this Decide phase (R388); a capture that completed in the last Emit phase counts. -/
def State.trigIn (s : State) (unit port : Nat) : Bool :=
  s.eventIn unit port || (match s.driver unit port with
    | some (u, p) => s.flow.late.contains (256 * u + p)
    | none => false)

/-- n_t, t_x, SRC, origin and line of a firing by its source input (R391, R392). -/
def State.trigEvent (s : State) (u : PatUnit) (port : Nat) : TrigEvent × State :=
  let n := s.seq.frame
  let plain : TrigEvent := ⟨n, s.beforeFt s.tAl 1, 0, s.hubId, false⟩
  match (s.driver u.id port).bind fun d => s.unitId d.1 with
  | none => (plain, s)
  | some d =>
    if d.cls = cTRIGGER then ((s.trig d.inst).fired.getD plain, s)
    else if d.cls = cTDC then
      let (off, span) := (s.tdcIn d.inst).res
      let num := (span - off) * (s.nPer * 256 : Nat)
      ({ plain with tx := if span ≤ 0 then s.beforeFt 0 1 else s.beforeFt num span.toNat, src := 3 }, s)
    else if d.cls = cTHRESHOLD then
      let c := d.inst / 2
      let k := tabGet s.cap.thr ⟨none, none, 0, none, 0⟩ d.inst
      let back := s.repBack (s.fMode c) (s.dLog2 c) k.setAt
      match k.setPrev with
      | none => ({ plain with tx := s.beforeFt back 1, src := 2 }, s)
      | some vp =>
        let level := 1000 * signed 32 (if d.p 0 0 1 = 0 then d.params.getD 1 0 else d.params.getD 2 0)
        let len : Int := ((2 ^ s.dLog2 c * s.nPer * 256 : Nat) : Int)
        let dv := k.setCur - vp
        let (r, s) := if dv = 0 then s.draw else (0, s)
        let den : Nat := if dv = 0 then 65536 else dv.natAbs
        let f := clampInt 0 den (if dv = 0 then ((r % 65537 : Nat) : Int) else (level - vp) * dv.sign)
        ({ plain with tx := s.beforeFt (back * den + (den - f) * len) den, src := 1 }, s)
    else (plain, s)

/-- A unit fires in this tick with an event (R390, R394). -/
def State.trigFire (s : State) (u : PatUnit) (e : TrigEvent) : State :=
  let t := u.inst
  let n := s.seq.frame
  let x := s.trig t
  let s := s.setTrig t { x with fired := some e, holdTo := some (n + u.p 1 0 16) }
  let s := (s.assertEvt u.id 0).classEvt u.id
  let s := (s.put Fld.CAP_TRGt_STAT.FIRED 1 t).put Fld.CAP_TRGt_STAT.SRC e.src t
  let s := (s.wrap Fld.CAP_TRGt_CNT.FIRED_CNT 1 t).put Fld.CAP_TRGt_LAST_LO.NT_LO e.nt t
  (s.put Fld.CAP_TRGt_LAST_HI.NT_HI (e.nt / 2 ^ 32) t).put Fld.CAP_TRGt_LAST_HI.ORIGIN e.origin t

/-- The earlier event; for equal t_x the one from the lower hub (R394). -/
def earlier (a b : TrigEvent) : TrigEvent := if b.tx < a.tx || (b.tx == a.tx && b.origin < a.origin) then b else a

/-- The tick n lies in the unit's holdoff (R390). -/
def Trig.inHold (x : Trig) (n : Nat) : Bool := match x.holdTo with | some h => decide (n ≤ h) | none => false

/-- The condition of a unit, its asserted inputs, its priming, and its source input (R389, R391). -/
def State.trigCond (s : State) (u : PatUnit) : Bool × List Nat × Bool × Nat :=
  let x := s.trig u.inst
  let conn := (List.range 4).filter fun p => (s.driver u.id p).isSome
  let on := conn.filter fun p => s.trigIn u.id p
  let primed := x.primed || on.contains 0
  match u.p 0 0 2 with
  | 2 => (on.contains 1 && primed, on, primed, 1)
  | k =>
    let c := if k = 1 then on.length == conn.length else on != []
    (c, on, false, ((on.filter fun p => !x.ins.contains p) ++ on).headD 0)

/-- One evaluation of a TRIGGER unit in the Decide phase (R388 to R394, R407). -/
def State.trigEval (s : State) (u : PatUnit) : State :=
  let n := s.seq.frame
  let t := u.inst
  let x := s.trig t
  let s := s.ran u.id
  let (c, on, primed, src) := s.trigCond u
  let forced := x.force == some n
  let rise := c && !x.cond
  let (ev, s) := if forced then ((⟨n, s.beforeFt s.tAl 1, 4, s.hubId, false⟩ : TrigEvent), s) else s.trigEvent u src
  let x := { x with cond := c, ins := on, primed := primed, fired := none, send := none
                    force := if forced then none else x.force }
  if trigBroadcast u then
    let own := rise || forced
    let ev := { ev with origin := s.hubId, bcast := true }
    let line := x.line ++ (if own then [ev] else [])
    let due := line.filter fun e => e.nt + s.kR == n
    let s := s.setTrig t
      { x with
        line := line.filter (fun e => decide (n < e.nt + s.kR)), send := if own then some ev else none
        primed := primed && !rise }
    match due with
    | [] => s
    | e :: es => if x.inHold n then s.sat Fld.CAP_TRGt_LOSS.HOLD_CNT 1 t else s.trigFire u (es.foldl earlier e)
  else
    let fire := (rise && !x.inHold n) || forced
    let s := s.setTrig t { x with primed := primed && !fire }
    if fire then s.trigFire u ev else s

/-- TRIGGER units whose trigger inputs come from units already evaluated, round by round (R391: a firing inherits). -/
def State.trigOrder (s : State) : (fuel : Nat) → (todo done : List PatUnit) → List PatUnit
  | 0, todo, done => done ++ todo
  | k + 1, todo, done =>
    let waits := fun (u : PatUnit) => (List.range 4).any fun p =>
      match s.driver u.id p with
      | some (d, _) => todo.any fun v => v.id == d
      | none => false
    let ready := todo.filter (!waits ·)
    if ready.isEmpty then done ++ todo else s.trigOrder k (todo.filter waits) (done ++ ready)

/-- TRIGGER evaluation runs in RUN and SAFE (R388). -/
def State.trigRuns (s : State) : Bool := s.inStates [stRun, stSafe]

/-- The trigger work of a Decide phase (R388). In other states nothing fires and received firings are discarded. -/
def State.trigDecide (s : State) : State :=
  let s := if s.trigRuns then s.forEach (s.trigOrder 33 (s.units cTRIGGER) []) fun u s => s.trigEval u
    else s.forEach (s.units cTRIGGER) fun u s =>
      s.setTrig u.inst { s.trig u.inst with line := [], fired := none, send := none, force := none }
  let s := s.forEach (s.units cTRIGGER) fun u s =>
    let x := s.trig u.inst
    s.put Fld.CAP_TRGt_STAT.HOLDOFF (b2n (x.inHold s.seq.frame && x.fired.isNone && s.trigRuns)) u.inst
  { s with flow.late := [] }

/-- Line events to broadcast in the Emit phase (R393): line and event. -/
def State.trigSends (s : State) : List (Nat × TrigEvent) :=
  (s.units cTRIGGER).filterMap fun u => (s.trig u.inst).send.map fun e => (u.inst, e)

/-- A TRIGGER frame of line t arrived: kept until its resolution, or counted after its deadline (R394). -/
def State.lineEvent (s : State) (t : Nat) (e : TrigEvent) (late : Bool) : State :=
  match s.unitAt cTRIGGER t with
  | none => s
  | some u =>
    if !trigBroadcast u || !s.trigRuns then s
    else if late then s.sat Fld.CAP_TRGt_LOSS.LATE_CNT 1 t
    else s.setTrig t { s.trig t with line := (s.trig t).line ++ [e] }

/-- TRIGGER_HOLDOFF_END: the holdoff of unit t has ended (R390). -/
def execTriggerHoldoffEnd (t : Nat) (s : State) : Host.Outcome State Fault Refusal :=
  let x := s.trig t
  let over_ : Bool := match x.holdTo with
    | some h => decide (h < s.seq.frame) || (decide (h = s.seq.frame) && decide (2 ≤ s.seq.phase))
    | none => false
  .next (if over_ then (s.setTrig t { x with holdTo := none }).put Fld.CAP_TRGt_STAT.HOLDOFF 0 t else s)

/-- A TRIGGER unit starts at a commit (R146, R390). -/
def State.trigStart (s : State) (u : PatUnit) : State :=
  let t := u.inst
  let s := ((((s.wr Reg.CAP_TRGt_STAT 0 t).wr Reg.CAP_TRGt_CNT 0 t).wr Reg.CAP_TRGt_LAST_LO 0 t).wr Reg.CAP_TRGt_LAST_HI
    0xFF0000 t).wr Reg.CAP_TRGt_LOSS 0 t
  (s.setTrig t Trig.rest).put Fld.CAP_TRGt_STAT.ACTIVE 1 t

/-- A TRIGGER unit ends at a commit. -/
def State.trigEnd (s : State) (t : Nat) : State :=
  (({ s with cap.trigs := tabErase s.cap.trigs t } : State).wr Reg.CAP_TRGt_STAT 0 t)

/-! ## Capture engines: geometry (R396 to R398) -/

/-- Engine states (R400). -/
def ceIDLE : Nat := 0
def ceWAIT : Nat := 1
def ceFILL : Nat := 2
def ceREADY : Nat := 3
def cePOST : Nat := 4
def ceCOMPLETE : Nat := 5
def ceABORTED : Nat := 6

/-- Parameters of a CAPTURE unit (R135). -/
def capN (u : PatUnit) : Nat := u.p 0 0 11
def capAvg (u : PatUnit) : Nat := u.p 0 12 4
def capD (u : PatUnit) : Nat := 2 ^ u.p 0 24 4
def capPhase (u : PatUnit) : Nat := u.p 1 0 10
def capSegs (u : PatUnit) : Nat := u.p 1 16 8
def capRefs (u : PatUnit) : List Nat := (List.range (capN u)).map fun k => u.params.getD (7 + k) 0
/-- P_rec in ticks. -/
def capRec (u : PatUnit) : Nat := capD u * 2 ^ capAvg u
/-- C_s in records. -/
def capCs (u : PatUnit) : Nat := u.params.getD 3 0 * 1024 / capN u / capSegs u

/-- Parts of a slot reference (R133). -/
def refSlot (r : Nat) : Nat := field r 0 10
def refHub (r : Nat) : Nat := field r 16 8
def refStream (r : Nat) : Nat := field r 24 6

/-- A SLOT_REF of the unit is remote. -/
def capRemote (u : PatUnit) : Bool := (capRefs u).any fun r => refHub r != 0xFF

/-- K_C (R397). -/
def State.capK (s : State) (u : PatUnit) : Nat := if capRemote u then s.kR else 0

/-- The record boundary at or before tick m (R396). -/
def capBoundary (u : PatUnit) (m : Nat) : Nat := m - (m + capRec u - capPhase u) % capRec u

/-- An engine without history. -/
def Engine.rest : Engine :=
  { armAt := none, abortAt := none, armTick := 0, nextSeg := none, seg := 0, segFirst := 0, written := 0, pre := 0, post := 1, delay := []
    rows := [], trec := none, poisonAt := none, ignored := 0, descs := [] }

/-- Engine e. -/
def State.engine (s : State) (e : Nat) : Engine := tabGet s.cap.engines Engine.rest e

/-- Stores engine e and shows its position (R412). -/
def State.setEngine (s : State) (u : PatUnit) (x : Engine) : State :=
  let e := u.inst
  let s := { s with cap.engines := tabSet s.cap.engines e x }
  let cs := capCs u
  (s.put Fld.CAP_Ee_SEG.CUR x.seg e).put Fld.CAP_Ee_WPTR.POS (x.seg * cs + if cs = 0 then 0 else x.written % cs) e

/-- State code of engine e. -/
def State.ceState (s : State) (e : Nat) : Nat := s.get Fld.CAP_Ee_STAT.STATE e

/-- Engine e is in FILL, READY or POST. -/
def State.ceBusy (s : State) (e : Nat) : Bool := [ceFILL, ceREADY, cePOST].contains (s.ceState e)

/-! ## Descriptors (R413) -/

/-- The words of a descriptor, all 0 before one is filled. -/
def descWords (x : Engine) (seg : Nat) : List Nat := tabGet x.descs (List.replicate 16 0) seg

/-- Changes word w of a segment's descriptor. -/
def descMod (x : Engine) (seg w : Nat) (f : Nat → Nat) : Engine :=
  let d := descWords x seg
  { x with descs := tabSet x.descs seg (d.set w (f (d.getD w 0))) }

/-- Sets bit b of descriptor word 11. -/
def descFlag (x : Engine) (b : Nat) : Engine := descMod x x.seg 11 fun w => if bit w b then w else w + 2 ^ b

/-! ## Averaging (R399) -/

/-- The order in which R18 selects a reason. -/
def reasonOrder : List Nat := [rHUB_LOST, rLOST, rQUARANTINE, rOVERRUN, rPOISON, rABSENT, rWIREBREAK, rSETTLING]

/-- The OR of the given tag bits over samples. -/
def orBits (mask : Nat) (ws : List Nat) : Nat := ws.foldl (fun a w => a ||| (w &&& mask)) 0

/-- The slot of a reference is range-scaled: a local or pod chain without a LINEARISER (R399). -/
def State.rangeScaled (s : State) (r : Nat) : Bool :=
  let k := refSlot r
  let lin : Bool := if refHub r = 0xFF then (s.units cLINEARISER).any fun v => slotOf v.inst == k
    else match s.banks.act with
      | none => false
      | some p => p.streamSlots.any fun t => t.hub == refHub r && t.stream == refStream r && t.lin.contains k
  (k < 96 || (128 ≤ k && k < 640)) && !lin

/-- One word of an averaged record from the samples of the interval, oldest first (R399). -/
def State.avgWord (s : State) (r k : Nat) (ws : List Nat) : Nat :=
  let last := ws.getLastD absentWord
  let slot := refSlot r
  if k = 0 || (640 ≤ slot && slot < 656) then last else
  let invs := ws.filter wInv
  let sc := s.rangeScaled r
  let ro := if sc then ws.foldl (fun a w => min a (wRange w)) 3 else wRange last
  match reasonOrder.find? fun q => invs.any fun w => wReason w == q with
  | some q => invWord q (orBits 4 ws / 4) ro
  | none =>
    if invs != [] then invs.headD 0 else
    let sum := ws.foldl (fun a w => a + wVal w * (if sc then ((10 ^ (3 - wRange w) : Nat) : Int) else 1)) 0
    let den := (if sc then 10 ^ (3 - ro) else 1) * 2 ^ (k - k / 2)
    let v := roundDiv sum den
    let clip := if v = satSigned 24 v then 0 else 64
    valWord (satSigned 24 v) ((orBits 0x7C ws ||| clip) + ro)

/-! ## Writing records (R397, R398, R403, R405) -/

/-- Stores the words of a record in capture memory; a poisoned block that is overwritten is good again (R410). -/
def State.capStore (s : State) (addr : Nat) (ws : List Nat) : State :=
  let hi := (addr + 4 * ws.length - 1) / 32
  { s with
    cap.mem := Memory.writeN s.cap.mem addr (ofWords ws)
    cap.poisoned := s.cap.poisoned.filter fun b => b < addr / 32 || hi < b }

/-- The segment in progress is done: output 0, counts, notice, and the next segment or COMPLETE (R405). -/
def State.segDone (s : State) (u : PatUnit) : State :=
  let e := u.inst
  let x := s.engine e
  let s := (s.assertEvt u.id 0).classEvt u.id
  let s := { s with flow.late := s.flow.late ++ [256 * u.id] }
  let s := (s.evt Fld.CAP_Ee_STAT.SEG_DONE 102 e).wrap Fld.CAP_Ee_SEG.DONE 1 e
  if u.p 0 16 1 = 1 && x.seg + 1 < capSegs u then
    s.setEngine u { x with rows := [], delay := [], nextSeg := some (capBoundary u s.seq.frame + capRec u) }
  else (s.setEngine u { x with rows := [], delay := [] }).put Fld.CAP_Ee_STAT.STATE ceCOMPLETE e

/-- The next segment of engine u begins at its record boundary, in FILL, with PRE and POST as they stand (R405, R408). -/
def State.capNextSeg (s : State) (u : PatUnit) : State :=
  let e := u.inst
  let x := s.engine e
  match x.nextSeg with
  | some b =>
    if s.seq.frame < b || s.ceState e != cePOST then s else
    (s.setEngine u { x with
      nextSeg := none, seg := x.seg + 1, segFirst := b, written := 0, trec := none, poisonAt := none, ignored := 0
      pre := s.get Fld.CAP_Ee_PRE.PRE e, post := s.get Fld.CAP_Ee_POST.POST e }).put Fld.CAP_Ee_STAT.STATE ceFILL e
  | none => s

/-- Post-trigger records written so far, the trigger record included. -/
def capPostDone (u : PatUnit) (x : Engine) : Nat :=
  match x.trec with
  | some t => x.written - (t - x.segFirst) / capRec u
  | none => 0

/-- A step of L lies in the kept part of the segment (R413). -/
def State.capStepped (s : State) (u : PatUnit) (x : Engine) : Bool :=
  match s.time.lastStep, x.trec with
  | some f, some t => decide (t ≤ f + (descWords x x.seg).getD 9 0 * capRec u)
  | _, _ => false

/-- Writes the record labelled `label` (R397, R398). -/
def State.capWrite (s : State) (u : PatUnit) (label : Nat) (ws : List Nat) : State :=
  let e := u.inst
  let x := s.engine e
  let cs := capCs u
  let pos := x.seg * cs + (if cs = 0 then 0 else x.written % cs)
  let s := (s.capStore (u.params.getD 2 0 * 4096 + pos * 4 * capN u) ws).sawWords u.id ws
  let bad := ws.any fun w => wInv w && wReason w == rPOISON
  let x := { x with written := x.written + 1, poisonAt := if bad then some label else x.poisonAt }
  let x := if x.trec.isNone then x else
    let x := descMod x x.seg 10 fun _ => min x.post (capPostDone u x)
    let x := descMod (descMod x x.seg 12 fun _ => label % 2 ^ 32) x.seg 13 fun _ => label / 2 ^ 32 % 2 ^ 16
    let x := if bad then descFlag x 4 else x
    if s.capStepped u x then descFlag x 3 else x
  let s := s.setEngine u x
  let st := s.ceState e
  if st = ceFILL && x.pre ≤ x.written then s.put Fld.CAP_Ee_STAT.STATE ceREADY e
  else if st = cePOST && x.post ≤ capPostDone u x then s.segDone u
  else s

/-- The local word of a slot reference in this tick; remote ones are filled in later. -/
def State.capLocal (s : State) (r : Nat) : Nat :=
  if refHub r = 0xFF then tabGet s.flow.slot absentWord (refSlot r) else 0

/-- The words of label m = n − K_C, once the remote ones have been delivered in tick n (R53, R54). -/
def State.capRow (s : State) (u : PatUnit) (loc : List Nat) : List Nat :=
  ((capRefs u).zip loc).map fun (r, w) => if refHub r = 0xFF then w else s.remoteWord (refHub r) (refStream r) (refSlot r)

/-- The Emit work of one engine (R397). -/
def State.capEmit (s : State) (u : PatUnit) : State :=
  let e := u.inst
  if !s.ceBusy e || (s.engine e).nextSeg.isSome then s else
  let n := s.seq.frame
  let k := s.capK u
  let x := s.engine e
  let own := fun (m : Nat) => m % capD u == capPhase u && x.segFirst ≤ m
  let x := if own n then { x with delay := x.delay ++ [(n, (capRefs u).map s.capLocal)] } else x
  let s := s.setEngine u x
  match x.delay with
  | (m, loc) :: rest =>
    if m + k != n then s else
    let rows := x.rows ++ [s.capRow u loc]
    let s := s.ran u.id
    if rows.length < 2 ^ capAvg u then s.setEngine u { x with delay := rest, rows := rows }
    else
      let s := s.setEngine u { x with delay := rest, rows := [] }
      let ws := (capRefs u).zipIdx.map fun (r, i) => s.avgWord r (capAvg u) (rows.map fun row => row.getD i absentWord)
      s.capWrite u (capBoundary u m) ws
  | [] => s

/-! ## Arming and aborting (R401, R402, R407) -/

/-- An abort: the engine enters ABORTED, and the descriptor of the segment in progress says so. -/
def State.capAbort (s : State) (u : PatUnit) : State :=
  let e := u.inst
  let x := { s.engine e with rows := [], delay := [], abortAt := none }
  let s := s.setEngine u (if x.nextSeg.isSome then { x with nextSeg := none } else descFlag x 2)
  (s.put Fld.CAP_Ee_STAT.STATE ceABORTED e).put Fld.CAP_Ee_CTRL.ABORT 0 e

/-- CAPTURE_ARM: engine e arms at its first record boundary at or after its arm time (R401). -/
def execCaptureArm (e : Nat) (s : State) : Host.Outcome State Fault Refusal :=
  match s.unitAt cCAPTURE e with
  | none => .next s
  | some u =>
    let x := s.engine e
    let n := s.seq.frame
    let due := match x.armAt with
      | some f => decide (f ≤ n)
      | none => false
    if !due || !s.trigRuns || capBoundary u n != n then .next s else
    let s := s.setEngine u
      { Engine.rest with
        armTick := n, segFirst := n, pre := s.get Fld.CAP_Ee_PRE.PRE e, post := s.get Fld.CAP_Ee_POST.POST e }
    let s := (s.put Fld.CAP_Ee_SEG.DONE 0 e).put Fld.CAP_Ee_CTRL.ARM 0 e
    .next (s.put Fld.CAP_Ee_STAT.STATE ceFILL e)

/-- CAPTURE_ABORT_EFFECT: a commanded abort of engine e takes effect (R407). -/
def execCaptureAbortEffect (e : Nat) (s : State) : Host.Outcome State Fault Refusal :=
  match s.unitAt cCAPTURE e with
  | none => .next s
  | some u =>
    let due := match (s.engine e).abortAt with
      | some f => decide (f ≤ s.seq.frame)
      | none => false
    if !due then .next s
    else if s.ceBusy e then .next (s.capAbort u)
    else .next ((s.setEngine u { s.engine e with abortAt := none }).put Fld.CAP_Ee_CTRL.ABORT 0 e)

/-- Engines of the active Pattern in a mask. -/
def State.capMask (s : State) (mask : Nat) : List PatUnit := (s.units cCAPTURE).filter fun u => bit mask u.inst

/-- The effect of CAP_ARM (R407). -/
def State.capArm (s : State) (f mask : Nat) : Answer × State :=
  let n := s.seq.frame
  let at_ := if f < n + 1 then n + 1 else f
  let busy := (s.capMask mask).filter fun u => s.ceBusy u.inst
  let s := s.forEach (s.capMask mask) fun u s =>
    if s.ceBusy u.inst then s.put Fld.CAP_Ee_STAT.ARM_DROP 1 u.inst
    else s.setEngine u { s.engine u.inst with armAt := some at_ }
  let detail := busy.foldl (fun a u => a + 2 ^ u.inst) 0
  ({ status := if f != 0 && f < n + 1 then 8 else 0, detail := detail }, s)

/-- The effect of CAP_ABORT (R407). -/
def State.capAbortCmd (s : State) (mask : Nat) : Answer × State :=
  let n := s.seq.frame
  ({ status := 0 }, s.forEach (s.capMask mask) fun u s =>
    if s.ceBusy u.inst then s.setEngine u { s.engine u.inst with abortAt := some (n + 1) } else s)

/-- The effect of CAP_FORCE (R407). -/
def State.capForce (s : State) (unit : Nat) : Answer × State :=
  match s.unitAt cTRIGGER unit with
  | none => ({ status := 3, detail := if 31 < unit then 3 else 0 }, s)
  | some _ => ({ status := 0 }, s.setTrig unit { s.trig unit with force := some (s.seq.frame + 1) })

/-- CAP_CTRL_ARM: a write of 1 to CAP_Ee_CTRL.ARM: as CAP_ARM with F = 0; dropped where it cannot arm (R412). -/
def execCapCtrlArm (e : Nat) (s : State) : Host.Outcome State Fault Refusal :=
  if !s.mapOpen then .next s else
  match s.unitAt cCAPTURE e with
  | some u =>
    if s.ceBusy e || !s.trigRuns then .next (s.put Fld.CAP_Ee_STAT.ARM_DROP 1 e)
    else .next ((s.setEngine u { s.engine e with armAt := some (s.seq.frame + 1) }).put Fld.CAP_Ee_CTRL.ARM 1 e)
  | none => .next (s.put Fld.CAP_Ee_STAT.ARM_DROP 1 e)

/-- CAP_CTRL_ABORT: a write of 1 to CAP_Ee_CTRL.ABORT: as CAP_ABORT for this engine (R412). -/
def execCapCtrlAbort (e : Nat) (s : State) : Host.Outcome State Fault Refusal :=
  if !s.mapOpen then .next s else
  match s.unitAt cCAPTURE e with
  | some u =>
    if s.ceBusy e then
      .next ((s.setEngine u { s.engine e with abortAt := some (s.seq.frame + 1) }).put Fld.CAP_Ee_CTRL.ABORT 1 e)
    else .next s
  | none => .next s

/-- A write of CAP_Ee_CTRL. -/
def State.wrCapCtrl (s : State) (e v : Nat) : State :=
  let run := fun (o : Host.Outcome State Fault Refusal) => match o with
    | .next t => t
    | _ => s
  let s := if bit v 0 then run (execCapCtrlArm e s) else s
  if bit v 1 then (match execCapCtrlAbort e s with | .next t => t | _ => s) else s

/-- The hub enters RUN: every engine that is not at work arms, every trigger starts anew (R390, R401, R402). -/
def State.capRun (s : State) : State :=
  let s := s.forEach (s.units cTRIGGER) fun u s =>
    s.setTrig u.inst { s.trig u.inst with cond := true, ins := [], fired := none, line := [] }
  s.forEach (s.units cCAPTURE) fun u s =>
    if s.ceBusy u.inst then s else s.setEngine u { s.engine u.inst with armAt := some s.seq.frame }

/-- The hub leaves RUN and SAFE (R402). -/
def State.capLeave (s : State) : State :=
  s.forEach (s.units cCAPTURE) fun u s =>
    let e := u.inst
    let s := (s.setEngine u { s.engine e with armAt := none }).put Fld.CAP_Ee_CTRL.ARM 0 e
    if s.ceState e = cePOST then s.capAbort u
    else if s.ceBusy e then
      (s.setEngine u { s.engine e with rows := [], delay := [] }).put Fld.CAP_Ee_STAT.STATE ceWAIT e
    else s

/-! ## Taking a trigger (R403, R404, R406) -/

/-- TRIGGER instances on the path to a unit: itself and those upstream through trigger inputs (R404). -/
def State.trigPath (s : State) : (fuel : Nat) → (u : PatUnit) → List Nat
  | 0, u => [u.inst]
  | k + 1, u => u.inst :: (List.range 4).flatMap fun p =>
    match (s.driver u.id p).bind fun d => s.unitId d.1 with
    | some v => if v.cls = cTRIGGER then s.trigPath k v else []
    | none => []

/-- Alignment units from the represented instant of a record's first slot to FT of the present tick; none where the slot
is no chain's (R273, R406). -/
def State.firstBack (s : State) (u : PatUnit) (label : Nat) : Option Int :=
  let r := u.params.getD 7 0
  let k := refSlot r
  if refHub r = 0xFF then
    let c := if k < 100 then k else k - 28
    if k < 96 || (128 ≤ k && k < 640) then some (s.repBack (s.fMode c) (s.dLog2 c) label) else none
  else
    match s.banks.act with
    | none => none
    | some p =>
      match p.streamSlots.find? fun t => t.hub == refHub r && t.stream == refStream r with
      | none => none
      | some t => (t.modes.find? fun m => m.1 == k).map fun m => s.repBack m.2.1 m.2.2 label

/-- TPOS for a trigger instant and a trigger record (R406); free where the first slot has no represented instant. -/
def State.tpos (s : State) (u : PatUnit) (tx : Int) (label : Nat) : Nat × State :=
  match s.firstBack u label with
  | none => s.draw
  | some b =>
    let num := ((tx * 65536 - tu s.time.tickL) * 3 + b * (62500 * 65536)) * 256
    (unsigned 32 (roundDiv num (capRec u * s.nPer * 256 * 62500 * 65536)), s)

/-- Fills the descriptor of the segment in progress and enters POST (R403, R413). -/
def State.capTake (s : State) (u : PatUnit) (trec inst : Nat) (ev : TrigEvent) (bitmap : Nat) : State :=
  let e := u.inst
  let x := s.engine e
  let cs := capCs u
  let i := (trec - x.segFirst) / capRec u
  let preAct := min x.pre (i - (x.written - cs))
  let (tp, s) := s.tpos u ev.tx trec
  let sec := ev.tx.toNat / (1000000000 * 65536)
  let words : List Nat :=
    [ev.nt % 2 ^ 32,
     ev.src * 2 ^ 29 + inst * 2 ^ 24 + b2n ev.bcast * 2 ^ 23 + ev.origin % 128 * 2 ^ 16 + ev.nt / 2 ^ 32 % 2 ^ 16,
     bitmap, tp % 2 ^ 32, sec % 2 ^ 32, ev.tx.toNat % 65536 * 2 ^ 16 + sec / 2 ^ 32 % 2 ^ 16,
     ev.tx.toNat / 65536 % 1000000000, if cs = 0 then 0 else i % cs, if cs = 0 then 0 else (i - preAct) % cs, preAct, 0,
     1 + (if preAct < x.pre then 2 else 0)]
  let last := x.segFirst + (x.written - 1) * capRec u
  let words := if x.written = 0 then padWords 16 words else
    ((padWords 16 words).set 12 (last % 2 ^ 32)).set 13 (last / 2 ^ 32 % 2 ^ 16)
  let x := { x with trec := some trec, descs := tabSet x.descs x.seg words }
  let x := descMod x x.seg 10 fun _ => min x.post (capPostDone u x)
  let poison := match x.poisonAt with | some l => decide (trec ≤ l + preAct * capRec u) | none => false
  let x := if poison then descFlag x 4 else x
  let x := if s.capStepped u x then descFlag x 3 else x
  let s := (s.setEngine u x).put Fld.CAP_Ee_STAT.STATE cePOST e
  if x.post ≤ capPostDone u x then s.segDone u else s
where
  /-- `ws` filled with zero words to n. -/
  padWords (n : Nat) (ws : List Nat) : List Nat := (ws ++ List.replicate n 0).take n

/-- A firing that is not taken: counted, in POST also in the descriptor (R404). -/
def State.capIgnore (s : State) (u : PatUnit) : State :=
  let e := u.inst
  let s := s.sat Fld.CAP_Ee_CNT.IGNORED 1 e
  if s.ceState e = cePOST then
    let x := s.engine e
    let x := { x with ignored := satAdd 16 x.ignored 1 }
    s.setEngine u (descMod x x.seg 11 fun w => w % 2 ^ 16 + x.ignored * 2 ^ 16)
  else s

/-- The Decide work of one engine: it takes a trigger, counts it as early, or ignores it (R403 to R405). A trigger whose
record lies before the segment in progress, but not before the arm tick, counts as ignored. -/
def State.capDecide (s : State) (u : PatUnit) : State :=
  let e := u.inst
  match (s.driver u.id 0).bind fun d => s.unitId d.1 with
  | none => s
  | some d =>
    if d.cls != cTRIGGER then s else
    match (s.trig d.inst).fired with
    | none => s
    | some ev =>
      let x := s.engine e
      let st := s.ceState e
      if st = ceFILL || st = ceREADY then
        if ev.nt < x.armTick then s.sat Fld.CAP_Ee_CNT.EARLY 1 e else
        let trec := capBoundary u ev.nt
        if trec < x.segFirst then s.capIgnore u else
        let inRec := fun (v : PatUnit) => match (s.trig v.inst).fired with
          | some f => decide (trec ≤ f.nt) && decide (f.nt < trec + capRec u)
          | none => false
        let fired := ((s.units cTRIGGER).filter inRec).map (·.inst)
        let bitmap := fired.foldl (fun a t => a ||| 2 ^ t) 0
        let path := s.trigPath 32 d
        let inst := (fired.filter path.contains).foldl min d.inst
        s.capTake u trec inst ((s.trig inst).fired.getD ev) bitmap
      else if st = cePOST || st = ceCOMPLETE || st = ceABORTED then s.capIgnore u
      else s

/-! ## PRE and POST, units, memory (R408 to R410) -/

/-- Clamps PRE against POST (R408). -/
def State.clampPre (s : State) (u : PatUnit) : State :=
  let e := u.inst
  let top := capCs u - 1
  let pre := s.get Fld.CAP_Ee_PRE.PRE e
  let post := s.get Fld.CAP_Ee_POST.POST e
  s.when (top < pre + post) fun s => (s.put Fld.CAP_Ee_PRE.PRE (top - post) e).put Fld.CAP_Ee_STAT.PRCLAMP 1 e

/-- A write of CAP_Ee_PRE or CAP_Ee_POST (R408). -/
def State.wrPrePost (s : State) (e : Nat) (post : Bool) (v : Nat) : State :=
  match s.unitAt cCAPTURE e with
  | none => if post then s.put Fld.CAP_Ee_POST.POST v e else s.put Fld.CAP_Ee_PRE.PRE v e
  | some u =>
    let top := capCs u - 1
    let v := v % 2 ^ 32
    if !post then (s.put Fld.CAP_Ee_PRE.PRE v e).clampPre u
    else if top < v then
      ((s.put Fld.CAP_Ee_POST.POST top e).put Fld.CAP_Ee_PRE.PRE 0 e).put Fld.CAP_Ee_STAT.PTCLAMP 1 e
    else (s.put Fld.CAP_Ee_POST.POST (max 1 v) e).clampPre u

/-- CAP_PRE_POST_WRITE: a write of CAP_Ee_PRE or CAP_Ee_POST (R408). -/
def execCapPrePostWrite (e : Nat) (post : Bool) (v : Nat) (s : State) : Host.Outcome State Fault Refusal :=
  if !s.mapOpen then .next s else
  .next (s.wrPrePost e post v)

/-- A write of CAP_Ee_DSEL: at or above SEGMENTS it is discarded (R412). -/
def State.wrDsel (s : State) (e v : Nat) : State :=
  s.when (v % 256 < s.get Fld.CAP_Ee_CFG.SEGMENTS e) (·.put Fld.CAP_Ee_DSEL.SEG v e)

/-- A CAPTURE unit starts at a commit that takes effect at the present tick (R401, R408, R412). -/
def State.capStart (s : State) (u : PatUnit) : State :=
  let e := u.inst
  let run := s.trigRuns
  let s := ((((s.wr Reg.CAP_Ee_STAT ceWAIT e).wr Reg.CAP_Ee_CTRL 0 e).wr Reg.CAP_Ee_SEG 0 e).wr Reg.CAP_Ee_CNT 0 e).wr
    Reg.CAP_Ee_DSEL 0 e
  let s := (s.put Fld.CAP_Ee_CFG.D_LOG2 (u.p 0 24 4) e).put Fld.CAP_Ee_CFG.SEGMENTS (capSegs u) e
  let s := (s.put Fld.CAP_Ee_CFG.AVG_K (capAvg u) e).put Fld.CAP_Ee_CFG.REMOTE (b2n (capRemote u)) e
  let s := (s.put Fld.CAP_Ee_CFG.N_CH (capN u) e).put Fld.CAP_Ee_GEOM.CS (capCs u) e
  let s := (s.put Fld.CAP_Ee_PRE.PRE (u.params.getD 4 0) e).put Fld.CAP_Ee_POST.POST (u.params.getD 5 0) e
  s.setEngine u { Engine.rest with armAt := if run then some s.seq.frame else none }

/-- A CAPTURE unit ends at a commit (R117): its engine is IDLE, its records stay readable. -/
def State.capEnd (s : State) (e : Nat) : State :=
  let s := { s with cap.engines := tabErase s.cap.engines e }
  (((s.wr Reg.CAP_Ee_STAT 0 e).wr Reg.CAP_Ee_CFG 0 e).wr Reg.CAP_Ee_GEOM 0 e).wr Reg.CAP_Ee_CTRL 0 e

/-- CAPTURE_ECC_ERROR: a block shows an ECC error on read or scrub (R410). -/
def execCaptureEccError (block : Nat) (corrected : Bool) (s : State) : Host.Outcome State Fault Refusal :=
  if corrected then .next (s.sat Fld.CAP_ECC_CNT.CORR) else
  let s := { s with cap.poisoned := if s.cap.poisoned.contains block then s.cap.poisoned else block :: s.cap.poisoned }
  let s := ((s.sat Fld.CAP_ECC_CNT.UNCORR).put Fld.CAP_ECC_ADDR.BLOCK block).put Fld.CAP_STAT.ECC_UE 1
  .next (s.stage 0x0302 (leBytes 1 0 ++ leBytes 4 block))

/-- Bytes of capture memory as a DMA read returns them: a poisoned block reads 0x0000_0380 in each word (R410). -/
def State.capRead (s : State) (addr n : Nat) : List Byte :=
  (List.range n).map fun k =>
    let a := addr + k
    if s.cap.poisoned.contains (a / 32) then (match a % 4 with | 0 => 0x80 | 1 => 0x03 | _ => 0)
    else Memory.read s.cap.mem a

end Sys2Proof.Machine
end

