-- ==== Sys2Proof/Machine/Loops.lean ====
section
/-! DEFINITION. The loop engine (R414 to R438), and the meanings of its commands. -/

namespace Sys2Proof.Machine

/-! ## Arithmetic (R422 to R424) -/

/-- z * 2^-k, rounded to the nearest integer with ties away from zero. -/
def rnd (z k : Int) : Int := if k ≤ 0 then z * 2 ^ (-k).toNat else roundDiv z (2 ^ k.toNat)

/-- The largest mantissa of the block-floating format. -/
def mantMax : Int := 2 ^ 23 - 1

/-- The common exponent of norm(v_1 … v_j) for values v_i = z_i * 2^-base (R423). -/
def normExp (base : Nat) (zs : List Int) : Int :=
  let fits := fun (i : Nat) => zs.all fun z => decide ((rnd z ((i : Int) - 32 + base)).natAbs ≤ mantMax.toNat)
  match (List.range 64).find? fits with
  | some i => (i : Int) - 32
  | none => 31

/-- A mantissa of norm at exponent x. -/
def normMant (base : Nat) (x z : Int) : Int := clampInt (-mantMax) mantMax (rnd z (x + base))

/-- The scale in which gain values are exact: 2^-96. -/
def gainScale : Nat := 96

/-- The value of a gain word, times 2^96 (R422). -/
def gainVal (w : Nat) : Int := signed 24 (w / 256) * 2 ^ (96 + signed 6 (w % 64)).toNat

/-- The gain word of mantissa m and exponent x. -/
def gainWord (m x : Int) : Nat := unsigned 24 m * 256 + unsigned 6 x

/-- The schedule value s for an error, as norm holds it: mantissa and exponent (R424). -/
def schedule (lut : Option (Nat → Nat)) (e : Int) : Int × Int :=
  let s := match lut with
    | none => 2 ^ gainScale
    | some l =>
      let i := min (e.natAbs / 2 ^ 15) 255
      let a := gainVal (l i)
      if i = 255 then a else a + (gainVal (l (i + 1)) - a) * (e.natAbs % 2 ^ 15 : Nat) / 2 ^ 15
  let x := normExp gainScale [s]
  (normMant gainScale x s, x)

/-- What stages E to A give before the integrator: the terms P, dI, D and F in 2^-16 codes, and s (R423). -/
structure Terms where
  p : Int
  di : Int
  d : Int
  f : Int
  sm : Int
  sx : Int
deriving DecidableEq, Repr

/-- Stages E to A of R423 for the gain words KP, KI, KD, KFF. -/
def loopTerms (lut : Option (Nat → Nat)) (gains : List Nat) (e dy v : Int) : Terms :=
  let xe := normExp 0 [e, dy, v]
  let em := normMant 0 xe e
  let dym := normMant 0 xe dy
  let vm := normMant 0 xe v
  let (sm, sx) := schedule lut e
  let s := sm * 2 ^ (96 + sx).toNat
  let prod := fun (i : Nat) => s * gainVal (gains.getD i 0)
  let xg := normExp 192 [prod 0, prod 1, prod 2]
  let g := fun (i : Nat) => normMant 192 xg (prod i)
  let kf := gainVal (gains.getD 3 0)
  let xf := normExp gainScale [kf]
  let k := -(xg + xe + 16)
  { p := rnd (g 0 * em) k, di := rnd (g 1 * em) k, d := rnd (-(g 2) * dym) k
    f := rnd (normMant gainScale xf kf * vm) (-(xf + xe + 16)), sm := sm, sx := sx }

/-! ## Slots -/

/-- An input of which nothing has been received. -/
def LoopFb.rest : LoopFb := { word := none, run := 0, clean := 0, lost := false, frozen := false }

/-- A slot that has just started (R425, R435). -/
def LoopSlot.rest : LoopSlot :=
  { int := 0, yPrev := 0, c1 := 0, c2 := 0, seen := 0, restart := true, uLast := 0, casc := none, started := 0, ff := 0
    fb1 := LoopFb.rest, fb2 := LoopFb.rest, lstate := 1, gains := [0, 0, 0, 0], staged := [], ready := [], cmd := none
    fifo := [], intSet := none, ret := false, sent := none }

/-- Slot k. -/
def State.slot (s : State) (k : Nat) : LoopSlot := tabGet s.loop.slots LoopSlot.rest k

/-- Stores slot k and shows its FIFO level, its integrator and its staged gains (R438). -/
def State.setSlot (s : State) (k : Nat) (x : LoopSlot) : State :=
  let s := { s with loop.slots := tabSet s.loop.slots k x }
  let s := (s.put Fld.LOOP_Sn_FIFO.LEVEL x.fifo.length k).put Fld.LOOP_Sn_INT_LO.INT_LO (unsigned 32 x.int) k
  s.put Fld.LOOP_Sn_STAT.GAIN_PEND (b2n (x.staged != [] || x.ready != [])) k

/-- M of a LOOP unit (R415). -/
def loopM (u : PatUnit) : Nat := u.p 0 0 8 + 1
def loopPhase (u : PatUnit) : Nat := u.p 0 8 8
def loopPolicy (u : PatUnit) : Nat := u.p 0 16 2
def loopLut (u : PatUnit) : Bool := u.p 0 18 1 == 1
def loopFf (u : PatUnit) : Nat := u.p 0 19 2
/-- FREEZE_K, with 0 for 4096 (R427). -/
def loopFreeze (u : PatUnit) : Nat := if u.p 1 0 12 = 0 then 4096 else u.p 1 0 12
def loopMin (u : PatUnit) : Int := signed 32 (u.params.getD 6 0)
def loopMax (u : PatUnit) : Int := signed 32 (u.params.getD 7 0)
def loopRamp (u : PatUnit) : Nat := u.params.getD 8 0

/-- Input 0 of the unit is a command loop-back (R419). -/
def State.cmdLoopBack (s : State) (u : PatUnit) : Bool :=
  match s.banks.act with
  | none => false
  | some p => p.loopBack.any fun n => n.drvUnit == u.id

/-- The outer slot of a cascade (R420). -/
def State.outerSlot (s : State) (u : PatUnit) : Option PatUnit :=
  match (s.driver u.id 0).bind fun d => s.unitId d.1 with
  | some v => if v.cls = cLOOP then some v else none
  | none => none

/-- OUTPUT units that a slot drives directly (R418, R428). -/
def State.loopOutputs (s : State) (u : PatUnit) : List PatUnit :=
  (s.units cOUTPUT).filter fun o => (List.range 8).any fun k => s.driver o.id k == some (u.id, 0)

/-- The ramp target (R428). -/
def State.rampTarget (s : State) (u : PatUnit) : Int :=
  match s.loopOutputs u with
  | o :: _ => signed 32 (o.params.getD 1 0)
  | [] => 0

/-- RECOVER_N and AUTO_RETURN (R437). -/
def State.recoverN (s : State) : Nat := s.policy 0x0601 64
def State.autoReturn (s : State) : Bool := s.policy 0x0602 1 == 1

/-! ## Feedback (R427, R431) -/

/-- What an input shows after one more word. -/
def feedFb (freezeK : Nat) (x : LoopFb) (w : Nat) : LoopFb :=
  let run := if x.word == some w then x.run + 1 else 1
  let lost := wInv w || bit w 3
  let frozen := decide (freezeK ≤ run)
  { word := some w, run := run, clean := if lost || frozen then 0 else x.clean + 1, lost := lost, frozen := frozen }

/-- The input cannot serve. -/
def LoopFb.bad (x : LoopFb) : Bool := x.lost || x.frozen

/-- LOOP_FEEDBACK record and event of a slot (R432): 0 loss, 1 freeze, 2 source change, 3 return. -/
def State.loopEvent (s : State) (u : PatUnit) (cause input lstate word : Nat) : State :=
  let k := u.inst
  let s := s.stage 0x0901 (leBytes 1 k ++ leBytes 1 cause ++ leBytes 1 input ++ leBytes 1 lstate ++ leBytes 4 word)
  let s := s.uPut Fld.UNIT_STAT.CLASS_EVT 1 u.id
  match cause with
  | 0 => ((s.evt Fld.LOOP_Sn_EVT.LOSS 105 k).sat Fld.LOOP_Sn_CNT.LOSS_CNT 1 k).countEvt u.id
  | 1 => ((s.evt Fld.LOOP_Sn_EVT.FREEZE 105 k).sat Fld.LOOP_Sn_CNT.FREEZE_CNT 1 k).countEvt u.id
  | 3 => s.evt Fld.LOOP_Sn_EVT.RETURN 105 k
  | _ => s

/-- The onsets that a new word brings on an input (R432). -/
def State.onsets (s : State) (u : PatUnit) (input lstate : Nat) (old new : LoopFb) : State :=
  let w := new.word.getD 0
  let s := if new.lost && !old.lost then s.loopEvent u 0 input lstate w else s
  if new.frozen && !old.frozen then s.loopEvent u 1 input lstate w else s

/-! ## Commands of a slot (R419 to R421) -/

/-- The command of a computation: in RUN a loop-back takes the oldest FIFO entry first. -/
def State.loopCommand (s : State) (u : PatUnit) : Int × State :=
  let k := u.inst
  let x := s.slot k
  match s.outerSlot u with
  | some o =>
    match (s.slot o.inst).casc with
    | some (n, v) => (if x.started ≤ n then v else 0, s)
    | none => (0, s)
  | none =>
    let s := if s.hubState != stRun then s else
      match x.fifo with
      | [] => s.put Fld.LOOP_Sn_STAT.CMD_HELD 1 k
      | c :: rest =>
        let s := (s.setSlot k { x with fifo := rest }).put Fld.LOOP_Sn_CMD.CMD (c / 256) k
        let s := s.put Fld.LOOP_Sn_STAT.CMD_HELD (b2n rest.isEmpty) k
        s.when rest.isEmpty (·.put Fld.LOOP_Sn_EVT.CMD_UNDERRUN 1 k)
    (s.getI Fld.LOOP_Sn_CMD.CMD k, s)

/-! ## One computation (R423 to R431) -/

/-- What a computation produces: whether the integrator was frozen, the output, and whether it was clamped low or
high. -/
structure LoopOut where
  u : Int
  lo : Bool
  hi : Bool
  tun : Nat
deriving DecidableEq, Repr

/-- An output that a policy gives without a computation. -/
def heldOut (u : Int) : LoopOut := { u := u, lo := false, hi := false, tun := 0 }

/-- The gain table of a slot, where it has one. -/
def State.lutOf (s : State) (u : PatUnit) : Option (Nat → Nat) :=
  if loopLut u then some fun j => (s.rd Reg.LOOP_Sn_LUTj u.inst j).toNat else none

/-- Clamps an integrator to the output limits (R423). -/
def clampInteg (u : PatUnit) (i : Int) : Int := clampInt (loopMin u * 65536) (loopMax u * 65536) i

/-- The output of a sum in 2^-16 codes, clamped. -/
def outOf (u : PatUnit) (t : Int) (tun : Nat) : LoopOut :=
  let r := rnd t 16
  { u := clampInt (loopMin u) (loopMax u) r, lo := decide (r < loopMin u), hi := decide (loopMax u < r), tun := tun }

/-- R423 on feedback word `w` with command c and feed-forward signal v: `switch` sets y_prev to y; `frozen` stops the
integrator; `preset` is the output a return must give (R431). `held0` holds the integrator at 0 (R415). -/
def State.compute (s : State) (u : PatUnit) (c v : Int) (w : Nat) (switch frozen held0 : Bool) (preset : Option Int) :
    LoopOut × State :=
  let k := u.inst
  let x := s.slot k
  let y := wVal w
  let e := c - y
  let dy := if switch || x.restart || preset.isSome then 0 else y - x.yPrev
  let lut := s.lutOf u
  let new := [0, 1, 2, 3].map fun j => (tabGet? x.ready j).getD (x.gains.getD j 0)
  let t := loopTerms lut new e dy v
  let bump := if x.ready != [] && s.is Fld.LOOP_Sn_CTRL.BUMPLESS k then
      let o := loopTerms lut x.gains e dy v
      (o.p + o.d + o.f) - (t.p + t.d + t.f)
    else 0
  let i0 := if held0 then 0 else match preset with
    | some up => clampInteg u (up * 65536 - t.p - t.d - t.f)
    | none => if bump = 0 then x.int else clampInteg u (x.int + bump)
  let di := if frozen || held0 || preset.isSome then 0 else t.di
  let sum := t.p + i0 + di + t.d + t.f
  let di := if (sum > loopMax u * 65536 && di > 0) || (sum < loopMin u * 65536 && di < 0) then 0 else di
  let i := if held0 then 0 else clampInteg u (i0 + di)
  let s := s.setSlot k { x with int := i, yPrev := y, restart := false, gains := new, ready := [] }
  let s := (s.put Fld.LOOP_Sn_ERR.ERR (unsigned 32 e) k).put Fld.LOOP_Sn_SCHED.S (gainWord t.sm t.sx) k
  (outOf u (t.p + i + t.d + t.f) (w / 4 % 2), s.put Fld.LOOP_Sn_STAT.INT_FROZEN (b2n frozen) k)

/-- One ramp step toward the target, never past it (R428). -/
def rampStep (cur target step : Int) : Int := if cur < target then min target (cur + step) else max target (cur - step)

/-- The feed-forward signal v (R425). -/
def State.loopV (s : State) (u : PatUnit) (c : Int) : Int × State :=
  let k := u.inst
  let x := s.slot k
  match loopFf u with
  | 1 =>
    let w := s.sampleIn u.id 3
    if wInv w then (x.ff, (s.put Fld.LOOP_Sn_STAT.FF_STALE 1 k).uPut Fld.UNIT_STAT.INV_IN 1 u.id)
    else (wVal w, (s.setSlot k { x with ff := wVal w }).put Fld.LOOP_Sn_STAT.FF_STALE 0 k)
  | 2 => if x.seen < 2 then (0, s) else (c - 2 * x.c1 + x.c2, s)
  | _ => (0, s)

/-- Puts a slot in a state of R435. -/
def State.setLstate (s : State) (u : PatUnit) (st : Nat) : State :=
  (s.setSlot u.inst { s.slot u.inst with lstate := st }).put Fld.LOOP_Sn_STAT.LSTATE st u.inst

/-- The policy's output without feedback: the held output or the next ramp step (R428). -/
def State.heldU (s : State) (u : PatUnit) (st : Nat) : Int :=
  let x := s.slot u.inst
  if st = 3 then rampStep x.uLast (s.rampTarget u) ((loopRamp u * loopM u : Nat) : Int) else x.uLast

/-- A return to an input, bumpless from the policy's output (R431); freeze counting restarts. -/
def State.loopReturn (s : State) (u : PatUnit) (input st : Nat) (c v up : Int) (w : Nat) : LoopOut × State :=
  let s := s.setLstate u st
  let x := s.slot u.inst
  let again := fun (f : LoopFb) => { f with run := 1, clean := 0 }
  let s := s.setSlot u.inst { x with fb1 := again x.fb1, fb2 := again x.fb2, ret := false }
  let s := s.loopEvent u 3 input st w
  s.compute u c v w true false false (some up)

/-- The policy state of a slot whose input 1 has gone bad (R428, R429). -/
def State.policyState (s : State) (u : PatUnit) : Nat :=
  match loopPolicy u with
  | 0 => 2
  | 1 => 3
  | _ => if (s.slot u.inst).fb2.bad then 5 else 4

/-- One computation in RUN, once the inputs have been received. -/
def State.loopRunStep (s : State) (u : PatUnit) (c v : Int) : LoopOut × State :=
  let k := u.inst
  let x := s.slot k
  let w1 := x.fb1.word.getD 0
  let w2 := x.fb2.word.getD 0
  let hold := fun (st : Nat) (s : State) =>
    (heldOut (s.heldU u st), (s.setLstate u st).put Fld.LOOP_Sn_STAT.INT_FROZEN 1 k)
  if x.lstate = 1 then
    if !x.fb1.bad then s.compute u c v w1 false false false none else
    let st := s.policyState u
    if st = 4 then
      let s := (s.setLstate u 4).loopEvent u 2 2 4 w2
      s.compute u c v w2 true true false none
    else hold st s
  else
    let clean1 := !x.fb1.bad
    if clean1 && (x.ret || (s.autoReturn && s.recoverN ≤ x.fb1.clean)) then
      let (up, s) : Int × State :=
        if x.lstate = 4 && !x.fb2.bad then
          let (o, s') := s.compute u c v w2 false false false none
          (o.u, { s' with loop.slots := s.loop.slots })
        else (s.heldU u x.lstate, s)
      s.loopReturn u 1 1 c v up w1
    else if x.lstate = 4 then
      if x.fb2.bad then hold 5 s else s.compute u c v w2 false false false none
    else if x.lstate = 5 then
      if s.recoverN ≤ x.fb2.clean then s.loopReturn u 2 4 c v x.uLast w2 else hold 5 s
    else hold x.lstate s

/-- The words of a slot's inputs in this computation: own-hub samples, or remote ones through a SUBSCRIBE (R416). -/
def State.loopReceive (s : State) (u : PatUnit) : State :=
  let k := u.inst
  let x := s.slot k
  let alt := (s.driver u.id 2).isSome
  let w1 := s.sampleIn u.id 1
  let w2 := if alt then s.sampleIn u.id 2 else absentWord
  let f1 := feedFb (loopFreeze u) x.fb1 w1
  let f2 := feedFb (loopFreeze u) x.fb2 w2
  let run := s.hubState == stRun
  let s := s.setSlot k { x with fb1 := f1, fb2 := f2 }
  let s := s.sawWords u.id ([w1] ++ if alt then [w2] else [])
  let s := (s.put Fld.LOOP_Sn_STAT.FB_LOST (b2n f1.lost) k).put Fld.LOOP_Sn_STAT.FB_FROZEN (b2n f1.frozen) k
  let s := if run then s.onsets u 1 x.lstate x.fb1 f1 else s
  if run && alt && (x.lstate = 4 || x.lstate = 5) then s.onsets u 2 x.lstate x.fb2 f2 else s

/-- The slot sends a setpoint word (R418). -/
def State.loopSend (s : State) (u : PatUnit) (o : LoopOut) : State :=
  let k := u.inst
  let clip := o.lo || o.hi
  let w := unsigned 24 o.u * 256 + b2n clip * 64 + o.tun * 4
  let s := s.setSlot k { s.slot k with uLast := o.u, sent := some (s.seq.frame, w) }
  let s := s.put Fld.LOOP_Sn_OUT.WORD w k
  s.when clip fun s => (s.put Fld.LOOP_Sn_EVT.SAT 1 k).sat Fld.LOOP_Sn_CNT2.SAT_CNT 1 k

/-- One computation of a slot (R415, R423 to R431). In ARMED and SAFE it runs on input 1 with the integrator at 0 and
sends nothing; without usable feedback it completes nothing there. -/
def State.loopCompute (s : State) (u : PatUnit) : State :=
  let k := u.inst
  let n := s.seq.frame
  let s := (s.ran u.id).loopReceive u
  let (c, s) := s.loopCommand u
  let (v, s) := s.loopV u c
  let run := s.hubState == stRun
  let x := s.slot k
  let x := match x.intSet with
    | some (f, i) => if f ≤ n && run then { x with int := clampInteg u i, intSet := none } else x
    | none => x
  let s := s.setSlot k x
  let next := fun (s : State) =>
    let x := s.slot k
    s.setSlot k { x with c2 := if x.seen = 0 then c else x.c1, c1 := c, seen := min 3 (x.seen + 1) }
  let done := fun (o : LoopOut) (s : State) =>
    let s := (s.put Fld.LOOP_Sn_STAT.SAT_LO (b2n o.lo) k).put Fld.LOOP_Sn_STAT.SAT_HI (b2n o.hi) k
    next (s.setSlot k { s.slot k with casc := some (n, o.u) })
  let fb := fun (s : State) =>
    let x := s.slot k
    let f := if x.lstate = 4 then x.fb2 else x.fb1
    (s.put Fld.LOOP_Sn_FB.WORD (f.word.getD 0) k).put Fld.LOOP_Sn_FRZ.RUN (min 0xFFFF f.run) k
      |>.put Fld.LOOP_Sn_STAT.CLEAN (if x.lstate = 1 then 0 else min 0xFFFF x.fb1.clean) k
  if run then
    let (o, s) := s.loopRunStep u c v
    let s := fb ((done o s).loopSend u o)
    s.when ((s.slot k).lstate != 1) (·.assertEvt u.id 1)
  else
    if x.fb1.bad then next (fb s) else
    let (o, s) := s.compute u c v (x.fb1.word.getD 0) false false true none
    fb (done o s)

/-! ## The Decide work of the engine (R417, R433) -/

/-- Loop-engine cycles of one computation (R137). -/
def State.loopCost (s : State) (u : PatUnit) : Nat :=
  28 + 4 * b2n (loopLut u) + 4 * b2n (loopFf u != 0) + 4 * b2n (s.driver u.id 2).isSome

/-- The effect of a lockstep mismatch on slot k (R433): `agrees` when the retry agrees; true when the result is used. -/
def State.lockstep (s : State) (u : PatUnit) (agrees : Bool) : Bool × State :=
  let k := u.inst
  let n := s.seq.frame
  let near := match s.loop.absorbed with
    | some f => decide (n < f + 1024)
    | none => false
  let ok := agrees && !near
  let s := ((s.put Fld.LOOP_ENG_STAT.MISMATCH 1).put Fld.LOOP_ENG_STAT.SLOT k).put Fld.LOOP_ENG_LS_FRAME.FRAME_LO n
  let s := (s.put Fld.LOOP_Sn_EVT.LOCKSTEP 1 k).sat Fld.LOOP_Sn_CNT2.LS_CNT 1 k
  let s := s.stage 0x0303 (leBytes 1 k ++ leBytes 1 (b2n !ok))
  if ok then (true, ({ s with loop.absorbed := some n } : State).sat Fld.LOOP_ENG_LS.RETRY_OK)
  else (false, (((s.put Fld.LOOP_ENG_STAT.FAIL 1).sat Fld.LOOP_ENG_LS.FAIL_CNT).selfDiag sdLOCKSTEP))

/-- A due slot: computed, with the comparator's verdict where the cores disagreed (R433). A slot whose result is not used
keeps the state it had before the computation. -/
def State.loopDue (s : State) (mismatch : List (Nat × Bool)) (u : PatUnit) : State :=
  match mismatch.find? fun m => m.1 == u.inst with
  | none => s.loopCompute u
  | some (_, agrees) =>
    let (used, s) := s.lockstep u agrees
    if used then s.loopCompute u else s.setSlot u.inst { s.slot u.inst with sent := none }

/-- Slots in cascade order: a slot follows the outer slot that drives it; equal ranks in instance order (R417). -/
def State.loopOrder (s : State) : (fuel : Nat) → (todo done : List PatUnit) → List PatUnit
  | 0, todo, done => done ++ todo
  | k + 1, todo, done =>
    let waits := fun (u : PatUnit) => match s.outerSlot u with
      | some o => todo.any fun v => v.id == o.id
      | none => false
    let ready := todo.filter (!waits ·)
    if ready.isEmpty then done ++ todo else s.loopOrder k (todo.filter waits) (done ++ ready)

/-- LOOP units by rising instance. -/
def State.loopUnits (s : State) : List PatUnit := (List.range 64).filterMap fun k => s.unitAt cLOOP k

/-- The engine's work of a Decide phase (R415, R417, R433). -/
def State.loopDecide (s : State) (mismatch : List (Nat × Bool)) : State :=
  if !s.acquires then s else
  let n := s.seq.frame
  let due := (s.loopOrder 65 s.loopUnits []).filter fun u => n % loopM u == loopPhase u
  let s := s.forEach due fun u s => s.loopDue mismatch u
  let load := due.foldl (fun a u => a + s.loopCost u * (1 + b2n (mismatch.any fun m => m.1 == u.inst))) 0
  (s.put Fld.LOOP_ENG_LOAD.LAST (min 0xFFFF load)).put Fld.LOOP_ENG_LOAD.WORST
    (max (s.get Fld.LOOP_ENG_LOAD.WORST) (min 0xFFFF load))

/-- A frame tick: staged commands take effect, staged gains await the next computation (R419, R426). -/
def State.loopTick (s : State) : State :=
  s.forEach (s.units cLOOP) fun u s =>
    let k := u.inst
    let x := s.slot k
    let s := match x.cmd with
      | some v => s.put Fld.LOOP_Sn_CMD.CMD (v / 256) k
      | none => s
    s.setSlot k
      { x with cmd := none, ready := x.staged.foldl (fun t e => tabSet t e.1 e.2) x.ready, staged := [], sent := none }

/-- The hub enters RUN (R425, R428, R435). -/
def State.loopRun (s : State) : State :=
  s.forEach (s.units cLOOP) fun u s =>
    let k := u.inst
    let x := s.slot k
    let fresh := fun (f : LoopFb) => { f with lost := false, frozen := false, clean := 0 }
    (s.setSlot k
      { x with int := 0, restart := true, uLast := 0, lstate := 1, ret := false, fb1 := fresh x.fb1, fb2 := fresh x.fb2
      }).put Fld.LOOP_Sn_STAT.LSTATE 1 k

/-- The hub leaves RUN (R415, R435). -/
def State.loopLeave (s : State) : State :=
  s.forEach (s.units cLOOP) fun u s =>
    (s.setSlot u.inst { s.slot u.inst with int := 0, sent := none, intSet := none }).put Fld.LOOP_Sn_STAT.LSTATE 0 u.inst

/-- Shows how a slot is wired (R438): a looped-back command, an alternate feedback, a cascade. -/
def State.loopWires (s : State) (u : PatUnit) : State :=
  let k := u.inst
  ((s.put Fld.LOOP_Sn_CFG.CMD_LB (b2n (s.cmdLoopBack u)) k).put Fld.LOOP_Sn_CFG.ALT (b2n (s.driver u.id 2).isSome) k).put
    Fld.LOOP_Sn_CFG.CASCADE (b2n (s.outerSlot u).isSome) k

/-- A LOOP unit starts at a commit (R435, R438). -/
def State.loopStart (s : State) (u : PatUnit) : State :=
  let k := u.inst
  let run := s.hubState == stRun
  let g := [0, 1, 2, 3].map fun j => u.params.getD (2 + j) 0
  let s := ((s.wr Reg.LOOP_Sn_CFG (BitVec.ofNat 32 (u.params.getD 0 0)) k).put Fld.LOOP_Sn_CFG.ACTIVE 1 k).loopWires u
  let w := fun (j : Nat) => BitVec.ofNat 32 (u.params.getD j 0)
  let s := (((s.wr Reg.LOOP_Sn_KP (w 2) k).wr Reg.LOOP_Sn_KI (w 3) k).wr Reg.LOOP_Sn_KD (w 4) k).wr Reg.LOOP_Sn_KFF (w 5) k
  let s := ((s.wr Reg.LOOP_Sn_LIM_LO (w 6) k).wr Reg.LOOP_Sn_LIM_HI (w 7) k).put Fld.LOOP_Sn_RAMP.RAMP_RATE (loopRamp u) k
  let s := (s.wr Reg.LOOP_Sn_FRZ 0 k).put Fld.LOOP_Sn_FRZ.FREEZE_K (u.p 1 0 12) k
  let s := [Reg.LOOP_Sn_STAT, Reg.LOOP_Sn_EVT, Reg.LOOP_Sn_CMD, Reg.LOOP_Sn_ERR, Reg.LOOP_Sn_SCHED, Reg.LOOP_Sn_OUT,
    Reg.LOOP_Sn_FB, Reg.LOOP_Sn_CNT, Reg.LOOP_Sn_CNT2].foldl (fun s r => s.wr r 0 k) s
  let s := (s.wr Reg.LOOP_Sn_CTRL 4 k).forEach (List.range 256) fun j s =>
    s.wr Reg.LOOP_Sn_LUTj (if loopLut u then w (12 + j) else 0) k j
  (s.setSlot k { LoopSlot.rest with gains := g, started := s.seq.frame }).put Fld.LOOP_Sn_STAT.LSTATE (b2n run) k

/-- A LOOP unit ends at a commit. -/
def State.loopEnd (s : State) (k : Nat) : State :=
  let s := { s with loop.slots := tabErase s.loop.slots k }
  let s := [Reg.LOOP_Sn_CFG, Reg.LOOP_Sn_STAT, Reg.LOOP_Sn_FIFO, Reg.LOOP_Sn_KP, Reg.LOOP_Sn_KI, Reg.LOOP_Sn_KD,
    Reg.LOOP_Sn_KFF, Reg.LOOP_Sn_LIM_LO, Reg.LOOP_Sn_LIM_HI, Reg.LOOP_Sn_RAMP, Reg.LOOP_Sn_FRZ].foldl (fun s r => s.wr r 0 k) s
  s.forEach (List.range 256) fun j s => s.wr Reg.LOOP_Sn_LUTj 0 k j

/-! ## Commands and register writes (R419, R426, R436, R438) -/

/-- DETAIL for a slot without a unit: 3 where the part has no such slot (R414). -/
def State.noSlot (s : State) (k : Nat) : Nat := if 63 < k || (s.small && decide (31 < k)) then 3 else 0

/-- The effect of LOOP_INT_SET (R436). -/
def State.loopIntSet (s : State) (slot : Nat) (value : Int) : Answer × State :=
  match s.unitAt cLOOP slot with
  | none => ({ status := 3, detail := s.noSlot slot }, s)
  | some _ => ({ status := 0 }, s.setSlot slot { s.slot slot with intSet := some (s.seq.frame + 1, value) })

/-- The effect of LOOP_RETURN (R436). -/
def State.loopRet (s : State) (slot : Nat) : Answer × State :=
  match s.unitAt cLOOP slot with
  | none => ({ status := 3, detail := s.noSlot slot }, s)
  | some _ =>
    let x := s.slot slot
    if x.lstate = 1 then ({ status := 2 }, s)
    else if x.fb1.bad then ({ status := 8 }, s)
    else ({ status := 0 }, s.setSlot slot { x with ret := true })

/-- LOOP_CMD_WRITE: a write of LOOP_Sn_CMD is staged to the next frame tick (R419). -/
def execLoopCmdWrite (slot v : Nat) (s : State) : Host.Outcome State Fault Refusal :=
  if !s.mapOpen then .next s else
  .next (s.setSlot slot { s.slot slot with cmd := some v })

/-- LOOP_CMD_FIFO_PUSH: a write of LOOP_Sn_CMD_FIFO (R419). -/
def execLoopCmdFifoPush (slot v : Nat) (s : State) : Host.Outcome State Fault Refusal :=
  if !s.mapOpen then .next s else
  let x := s.slot slot
  if x.fifo.length < 256 then
    .next ((s.setSlot slot { x with fifo := x.fifo ++ [v % 2 ^ 32] }).put Fld.LOOP_Sn_STAT.CMD_HELD 0 slot)
  else .next (s.put Fld.LOOP_Sn_EVT.CMD_OVF 1 slot)

/-- LOOP_FIFO_FLUSH: a write of 1 to LOOP_Sn_CTRL.FIFO_FLUSH (R438). -/
def execLoopFifoFlush (slot : Nat) (s : State) : Host.Outcome State Fault Refusal :=
  if !s.mapOpen then .next s else
  .next ((s.setSlot slot { s.slot slot with fifo := [] }).put Fld.LOOP_Sn_STAT.CMD_HELD 1 slot)

/-- LOOP_CNT_CLR: a write of 1 to LOOP_Sn_CTRL.CNT_CLR (R438). -/
def execLoopCntClr (slot : Nat) (s : State) : Host.Outcome State Fault Refusal :=
  if !s.mapOpen then .next s else
  .next ((s.wr Reg.LOOP_Sn_CNT 0 slot).wr Reg.LOOP_Sn_CNT2 0 slot)

/-- LOOP_GAIN_WRITE: a write of LOOP_Sn_KP, KI, KD or KFF (gain 0 to 3) is staged; its register shows it (R426). -/
def execLoopGainWrite (slot gain v : Nat) (s : State) : Host.Outcome State Fault Refusal :=
  if !s.mapOpen then .next s else
  let r := match gain with
    | 0 => Reg.LOOP_Sn_KP | 1 => Reg.LOOP_Sn_KI | 2 => Reg.LOOP_Sn_KD | _ => Reg.LOOP_Sn_KFF
  let s := s.writeByCode r v slot
  let x := s.slot slot
  .next (s.setSlot slot { x with staged := tabSet x.staged gain (s.rd r slot).toNat })

end Sys2Proof.Machine
end

