-- ==== Sys2Proof/Machine/Sluice.lean ====
section
/-! DEFINITION. Output stages and claims (R439 to R462), and the meanings of their commands. -/

namespace Sys2Proof.Machine

/-- A Sluice without history. -/
def Sluice.rest : Sluice :=
  { cands := [], last := none, lastWin := none, hold := 0, next := 0, word := 0, forceNext := none, silent := [], gone := []
    best := none }

/-- The Sluice of instance o. -/
def State.slu (s : State) (o : Nat) : Sluice := tabGet s.sluices Sluice.rest o

/-- Stores a Sluice and shows its hold count (R462). -/
def State.setSlu (s : State) (o : Nat) (x : Sluice) : State :=
  ({ s with sluices := tabSet s.sluices o x } : State).put Fld.SLU_Oo_STAT.HOLD_CNT (min 0xFF x.hold) o

/-- The DAC code of a setpoint value (R440). -/
def dacCode (v : Int) : Int := clampInt (-524288) 524287 (roundDiv v 16)

/-- Parameters of an OUTPUT unit (R135). -/
def outHold (u : PatUnit) : Nat := if u.p 0 0 6 = 0 then 64 else u.p 0 0 6
def outKs (u : PatUnit) : Nat := u.p 0 8 7
def outPark (u : PatUnit) : Nat := unsigned 24 (signed 32 (u.params.getD 1 0)) * 256
def outRank (u : PatUnit) (k : Nat) : Nat := u.p (2 + k / 4) (8 * (k % 4)) 8
def outRem (u : PatUnit) : List (Nat × Nat) := (List.range (u.p 4 0 3)).map fun i => (u.p (6 + i) 0 7, u.p (6 + i) 8 8)

/-! ## Claims (R444 to R447) -/

/-- The hub's own sources are withdrawn in the present tick (R446, R447). -/
def State.withdrawn (s : State) : Bool :=
  s.is Fld.SLU_WD.HEALTH || (s.is Fld.SLU_WD.SD && decide (s.sup.withdrawFrom ≤ s.seq.frame))

/-- Shows whether the hub's sources claim. -/
def State.showClaiming (s : State) : State :=
  s.put Fld.SLU_WD.CLAIMING (b2n (s.hubState == stRun && !s.is Fld.SLU_WD.HEALTH && !s.is Fld.SLU_WD.SD))

/-- The deductions of R445 in table order, with whether each condition holds. -/
def State.healthRows (s : State) : List (Nat × Bool) :=
  [(96, !s.is Fld.GLB_STATE.TIME_LOCK), (64, s.is Fld.TIM_STAT.TUN), (64, s.is Fld.GLB_DEGRADED.OVERRUN),
   (32, s.is Fld.GLB_DEGRADED.KR_MARGIN), (16, s.is Fld.GLB_DEGRADED.TIME_DOMAIN), (16, s.is Fld.GLB_DEGRADED.SEGMENT),
   (16, s.is Fld.GLB_DEGRADED.STREAM_CAP), (8, s.is Fld.GLB_DEGRADED.LANE), (8, s.is Fld.GLB_DEGRADED.POD_LINK),
   (4, s.is Fld.GLB_DEGRADED.MEND)]

/-- The health evaluation of a House phase (R445, R446). -/
def State.healthHouse (s : State) : State :=
  let rows := s.healthRows
  let h := 255 - rows.foldl (fun a r => a + if r.2 then r.1 else 0) 0
  let cond := (rows.map (b2n ·.2)).zipIdx.foldl (fun a (b, i) => a + b * 2 ^ i) 0
  let s := ({ s with sup.hNext := h } : State).put Fld.SLU_HEALTH.COND cond
  let min_ := s.policy 0x0701 64
  let record := fun (k : Nat) (s : State) => s.stage 0x0902 (leBytes 1 k ++ leBytes 1 h)
  if !s.sup.hwNext then
    if h < min_ then
      (record 0 ({ s with sup.hwNext := true } : State)).put Fld.SLU_WD.RET_CNT 0 |>.evt Fld.SLU_EVT.HEALTH_WD 105
    else s
  else if h < min_ then s.put Fld.SLU_WD.RET_CNT 0
  else
    let n := s.get Fld.SLU_WD.RET_CNT + 1
    if s.policy 0x0702 1024 ≤ n then
      (record 1 ({ s with sup.hwNext := false } : State)).put Fld.SLU_WD.RET_CNT 0 |>.evt Fld.SLU_EVT.HEALTH_RET 105
    else s.put Fld.SLU_WD.RET_CNT n

/-- What comes into force with an Emit phase: health and health withdrawal. -/
def State.healthEmit (s : State) : State :=
  ((s.put Fld.SLU_HEALTH.H s.sup.hNext).put Fld.SLU_WD.HEALTH (b2n s.sup.hwNext)).showClaiming

/-! ## Candidates (R448) -/

/-- Adds a candidate; what no later tick needs is dropped. -/
def State.addCand (s : State) (o : Nat) (c : Cand) : State :=
  let x := s.slu o
  let keep := x.cands.filter fun d =>
    decide (s.seq.frame ≤ d.label + d.stand) && !(d.src == c.src && d.label == c.label)
  s.setSlu o { x with cands := keep ++ [c] }

/-- The setpoints that the loop engine computed in this tick reach the OUTPUT units they drive (R418). -/
def State.takeSetpoints (s : State) : State :=
  s.forEach (s.units cOUTPUT) fun u s => s.forEach (List.range 8) fun k s =>
    match (s.driver u.id k).bind fun d => s.unitId d.1 with
    | some v =>
      if v.cls != cLOOP then s else
      match (s.slot v.inst).sent with
      | some (n, w) =>
        if n = s.seq.frame then
          s.addCand u.inst { src := k, label := n + outKs u, stand := loopM v - 1, word := w, claim := 0 }
        else s
      | none => s
    | none => s

/-- A remote setpoint that a CLAIM frame brought for OUTPUT unit `id` from hub `hub` (R448, R58). -/
def State.claimOffer (s : State) (id hub label stand claim word : Nat) (late : Bool) : State :=
  match s.unitId id with
  | none => s
  | some u =>
    if u.cls != cOUTPUT then s else
    match (outRem u).zipIdx.find? fun e => e.1.1 == hub with
    | none => s
    | some ((_, rank), i) =>
      if late then s.sat Fld.SLU_Oo_CNT2.LATE_CNT 1 u.inst
      else if claim / 256 != rank && claim != 0 then
        (s.sat Fld.SLU_Oo_CNT2.RANK_BAD 1 u.inst).put Fld.SLU_Oo_EVT.RANK_BAD 1 u.inst
      else s.addCand u.inst { src := 8 + i, label := label, stand := stand, word := word, claim := claim }

/-- The claim of a candidate in the present tick (R444). -/
def State.claimOf (s : State) (u : PatUnit) (c : Cand) : Nat :=
  if c.src < 8 then outRank u c.src * 256 + s.get Fld.SLU_HEALTH.H else c.claim

/-- The candidates that stand for the present tick: per source the one with the latest label (R448). -/
def State.standing (s : State) (u : PatUnit) : List Cand :=
  let n := s.seq.frame
  let l := (s.slu u.inst).cands.filter fun c =>
    decide (c.label ≤ n) && decide (n ≤ c.label + c.stand) && (8 ≤ c.src || !s.withdrawn)
  let latest := l.filter fun c => !(l.any fun d => d.src == c.src && decide (c.label < d.label))
  latest.filter fun c => !wInv c.word && s.claimOf u c != 0

/-- The candidate with the highest claim (R449). -/
def State.bestCand (s : State) (u : PatUnit) : Option Cand :=
  (s.standing u).foldl (fun a c => match a with
    | none => some c
    | some b => if s.claimOf u b < s.claimOf u c then some c else some b) none

/-- Hub ID of a candidate's source for WIN_HUB: 0xFF for a local one. -/
def candHub (u : PatUnit) (src : Nat) : Nat := if src < 8 then 0xFF else ((outRem u).getD (src - 8) (0xFF, 0)).1

/-! ## Partners (R455) -/

/-- Forms GLB_DEGRADED.PARTNER. -/
def State.partnerDegraded (s : State) : State :=
  let on := s.hubState == stRun && (s.units cOUTPUT).any fun u => (s.slu u.inst).gone != []
  s.degrade Fld.GLB_DEGRADED.PARTNER Fld.GLB_DEGRADED_STICKY.PARTNER on

/-- Counts the silence of the remote sources of a unit; a candidate ends it (R455). -/
def State.partnerCount (s : State) (u : PatUnit) : State :=
  let rem := outRem u
  if rem.isEmpty then s else
  let x := s.slu u.inst
  let here := (s.standing u).map (·.src)
  let silent := ((List.range 7).map fun i =>
    if i < rem.length && !here.contains (8 + i) then x.silent.getD i 0 + 1 else 0) ++ [x.silent.getD 7 0]
  let gone := x.gone.filter fun i => !here.contains (8 + i)
  let s := s.setSlu u.inst { x with silent := silent, gone := gone }
  s.when (gone != x.gone) (·.partnerDegraded)

/-- PARTNER_TIMEOUT: remote source `index` of Sluice o has sent no candidate for PARTNER_TICKS ticks (R455). Index 7 names
a home that the pod reports absent (R457). -/
def execPartnerTimeout (o index : Nat) (s : State) : Host.Outcome State Fault Refusal :=
  let x := s.slu o
  if s.hubState != stRun || x.gone.contains index || x.silent.getD index 0 < s.policy 0x0704 64 then .next s
  else .next ((s.setSlu o { x with gone := index :: x.gone }).evt Fld.SLU_EVT.PARTNER 105).partnerDegraded

/-! ## Arbitration (R449 to R451) -/

/-- The forced state changes at its tick (R451); a release ends a fault (R458). -/
def State.sluForce (s : State) (o : Nat) : State :=
  let x := s.slu o
  match x.forceNext with
  | some (n, on) =>
    if s.seq.frame < n then s else
    let fault := s.get Fld.SLU_Oo_STAT.STATE o == 6
    let s := s.setSlu o { x with forceNext := none, hold := if on then x.hold else if fault then 0 else x.hold }
    let s := s.put Fld.SLU_Oo_STAT.FORCED (b2n on) o
    s.when (!on && fault) (·.put Fld.SLU_Oo_STAT.STATE 3 o)
  | none => s

/-- Puts a Sluice's word and state for this tick; the forced state shows and applies PARK instead. -/
def State.sluNext (s : State) (u : PatUnit) (word state : Nat) : State :=
  let o := u.inst
  if s.is Fld.SLU_Oo_STAT.FORCED o then
    (s.setSlu o { s.slu o with next := outPark u }).put Fld.SLU_Oo_STAT.STATE 5 o
  else (s.setSlu o { s.slu o with next := word }).put Fld.SLU_Oo_STAT.STATE state o

/-- One tick of a local Sluice in RUN (R449, R450). -/
def State.arbitrate (s : State) (u : PatUnit) : State :=
  let o := u.inst
  if s.get Fld.SLU_Oo_STAT.STATE o = 6 then s else
  let x := s.slu o
  let hf := outHold u
  match s.bestCand u with
  | some c =>
    let moved := match x.lastWin with
      | some w => w != c.src
      | none => false
    let s := s.setSlu o { x with last := some c.word, lastWin := some c.src, hold := 0 }
    let s := (s.put Fld.SLU_Oo_STAT.WIN_SRC c.src o).put Fld.SLU_Oo_STAT.WIN_HUB (candHub u c.src) o
    let s := s.put Fld.SLU_Oo_WIN.CLAIM (s.claimOf u c) o
    let s := s.when moved fun s =>
      ((s.sat Fld.SLU_Oo_CNT.HO_CNT 1 o).put Fld.SLU_Oo_EVT.HANDOVER 1 o).classEvt u.id
    let s := s.when (hf < x.hold) (·.stage 0x0904
      (leBytes 1 o ++ leBytes 1 (candHub u c.src) ++ leBytes 1 c.src))
    s.sluNext u c.word 2
  | none =>
    let j := x.hold + 1
    let s := (s.setSlu o { x with hold := j }).put Fld.SLU_Oo_WIN.CLAIM 0 o
    if j ≤ hf then (s.put Fld.SLU_Oo_EVT.HOLD 1 o).sluNext u (x.last.getD (outPark u)) 3
    else
      let s := s.sluNext u (outPark u) 4
      s.when (j == hf + 1) fun s =>
        ((s.put Fld.SLU_Oo_EVT.PARK 1 o).sat Fld.SLU_Oo_CNT.PARK_CNT 1 o).stage 0x0903
          (leBytes 1 o ++ leBytes 1 (s.get Fld.SLU_Oo_STAT.STATE o))

/-- The home's choice for a pod output in RUN (R456). -/
def State.podChoose (s : State) (u : PatUnit) : State :=
  let o := u.inst
  let b := (s.bestCand u).map fun c => (c.word, s.claimOf u c)
  s.setSlu o { s.slu o with best := b }

/-- The Sluice work of a Decide phase (R443, R449): outside RUN every local Sluice parks. -/
def State.sluDecide (s : State) : State :=
  let s := if s.hubState == stRun then s.takeSetpoints else s
  s.forEach (s.units cOUTPUT) fun u s =>
    let o := u.inst
    let s := (s.ran u.id).sluForce o
    if s.hubState != stRun then
      let s := s.setSlu o { s.slu o with best := none }
      if o < 16 && s.get Fld.SLU_Oo_STAT.STATE o != 6 then s.sluNext u (outPark u) 1 else s
    else
      let s := s.partnerCount u
      if o < 16 then s.arbitrate u else s.podChoose u

/-- Every local Sluice loads its word at the start of the Emit phase (R441), and its pin's voltage is measured (R458):
`pins` lists instances with the measured voltage in µV. -/
def State.sluEmit (s : State) (pins : List (Nat × Int)) : State :=
  let s := s.forEach ((s.units cOUTPUT).filter (·.inst < 16)) fun u s =>
    let o := u.inst
    let x := s.slu o
    (s.setSlu o { x with word := x.next }).put Fld.SLU_Oo_APPLIED.WORD x.next o
  s.forEach pins fun p s => s.when (p.1 < 16) (·.put Fld.SLU_Oo_MEAS.MV (unsigned 32 p.2) p.1)

/-- The hub has left RUN for a state without an Emit phase: local Sluices apply PARK (R443). -/
def State.sluPark (s : State) : State :=
  s.forEach (s.units cOUTPUT) fun u s =>
    let o := u.inst
    if 16 ≤ o || s.get Fld.SLU_Oo_STAT.STATE o = 6 then s else
    let s := s.sluNext u (outPark u) 1
    (s.setSlu o { s.slu o with word := outPark u }).put Fld.SLU_Oo_APPLIED.WORD (outPark u) o

/-- The hub enters RUN: no drive tick has occurred yet (R450). -/
def State.sluRun (s : State) : State :=
  s.forEach (s.units cOUTPUT) fun u s =>
    s.setSlu u.inst { s.slu u.inst with cands := [], last := none, lastWin := none, hold := 0, silent := [] }

/-- The slot words O k labelled with this tick: the code applied from the Emit phase of the tick before (R442). -/
def State.sluSlots (s : State) : State :=
  s.forEach ((s.units cOUTPUT).filter (·.inst < 16)) fun u s =>
    let w := valWord (dacCode (wVal (s.slu u.inst).word) * 16) (s.tun * 4)
    { s with flow.slot := tabSet s.flow.slot (688 + u.inst) w }

/-- An OUTPUT unit starts at a commit: it holds what its instance applied last (R452). -/
def State.sluStart (s : State) (u : PatUnit) : State :=
  let o := u.inst
  let x := s.slu o
  let s := s.setSlu o { Sluice.rest with last := some x.word, word := x.word, next := x.word, forceNext := x.forceNext }
  let s := ((s.put Fld.SLU_Oo_CFG.ACTIVE 1 o).put Fld.SLU_Oo_CFG.N_REM (u.p 4 0 3) o).put Fld.SLU_Oo_CFG.K_S (outKs u) o
  let s := (s.put Fld.SLU_Oo_CFG.HOLD_FRAMES (u.p 0 0 6) o).wr Reg.SLU_Oo_PARK (BitVec.ofNat 32 (outPark u)) o
  let s := ((s.wr Reg.SLU_Oo_EVT 0 o).wr Reg.SLU_Oo_CNT 0 o).wr Reg.SLU_Oo_CNT2 0 o
  let s := ((s.put Fld.SLU_Oo_STAT.WIN_HUB 0xFF o).put Fld.SLU_Oo_STAT.WIN_SRC 0xF o).wr Reg.SLU_Oo_WIN 0 o
  if o < 16 then s.put Fld.SLU_Oo_STAT.STATE (if s.hubState == stRun then 3 else 1) o else s.put Fld.SLU_Oo_STAT.STATE 1 o

/-- An OUTPUT unit ends at a commit: a local instance applies code 0 (R452). -/
def State.sluEnd (s : State) (o : Nat) : State :=
  let forced := s.is Fld.SLU_Oo_STAT.FORCED o
  let s := s.setSlu o { Sluice.rest with forceNext := (s.slu o).forceNext }
  let s := [Reg.SLU_Oo_CFG, Reg.SLU_Oo_PARK, Reg.SLU_Oo_WIN, Reg.SLU_Oo_APPLIED, Reg.SLU_Oo_MEAS].foldl (fun s r => s.wr r 0 o) s
  (s.wr Reg.SLU_Oo_STAT 0xFFF00000 o).put Fld.SLU_Oo_STAT.FORCED (b2n forced) o

/-! ## Faults, commands and register writes (R458, R460, R462) -/

/-- OUTPUT_FAULT: the pin of local Sluice o has been off by more than the limit in 16 consecutive ticks (R458). -/
def execOutputFault (o : Nat) (s : State) : Host.Outcome State Fault Refusal :=
  match s.unitAt cOUTPUT o with
  | none => .next s
  | some u =>
    if 16 ≤ o || s.get Fld.SLU_Oo_STAT.STATE o = 6 then .next s else
    let code := dacCode (wVal (s.slu o).word)
    let s := ((s.put Fld.SLU_Oo_STAT.STATE 6 o).put Fld.SLU_Oo_EVT.FAULT 1 o).uPut Fld.UNIT_STAT.CLASS_EVT 1 u.id
    .next (s.stage 0x0905
      (leBytes 4 o ++ leBytes 4 (unsigned 32 code) ++ leBytes 4 (s.get Fld.SLU_Oo_MEAS.MV o)))

/-- The effect of SLU_RECLAIM (R447, R460). -/
def State.sluReclaim (s : State) : Answer × State :=
  if !s.is Fld.SLU_WD.SD then ({ status := 2 }, s)
  else if s.get Fld.SUP_SD_STAT.ACTIVE != 0 then ({ status := 8 }, s)
  else
    let s := s.put Fld.SLU_WD.SD 0
    let s := s.degrade Fld.GLB_DEGRADED.SELFDIAG Fld.GLB_DEGRADED_STICKY.SELFDIAG false
    ({ status := 0 }, s.stage 0x0902 (leBytes 1 3 ++ leBytes 1 (s.get Fld.SLU_HEALTH.H)))

/-- The effect of SLU_FORCE_PARK (R451, R460). -/
def State.sluForceCmd (s : State) (inst on : Nat) : Answer × State :=
  if 1 < on || 79 < inst then ({ status := 3, detail := 3 }, s) else
  match s.unitAt cOUTPUT inst with
  | none => ({ status := 3 }, s)
  | some _ => ({ status := 0 }, s.setSlu inst { s.slu inst with forceNext := some (s.seq.frame + 1, on == 1) })

/-- SLU_CNT_CLR: a write of 1 to SLU_Oo_CTRL.CNT_CLR (R462). -/
def execSluCntClr (o : Nat) (s : State) : Host.Outcome State Fault Refusal :=
  if !s.mapOpen then .next s else
  .next ((s.wr Reg.SLU_Oo_CNT 0 o).wr Reg.SLU_Oo_CNT2 0 o)

/-! ## Remote drive (R454) -/

/-- The CLAIM frames due in this Emit phase: target hub, OUTPUT_ID, label, STAND, claim and word. -/
def State.claimSends (s : State) : List (Nat × Nat × Nat × Nat × Nat × Nat) :=
  match s.banks.act with
  | none => []
  | some p =>
    if s.withdrawn || s.hubState != stRun then [] else
    p.remoteDrive.filterMap fun r =>
      match s.unitId r.loopId with
      | none => none
      | some v =>
        match (s.slot v.inst).sent with
        | some (n, w) =>
          if n = s.seq.frame then
            some (r.hub, r.outputId, n + r.kS, loopM v - 1, r.rank * 256 + s.get Fld.SLU_HEALTH.H, w)
          else none
        | none => none

end Sys2Proof.Machine
end

