-- ==== Sys2Proof/Machine/Ring.lean ====
section
/-! DEFINITION. The Baroth ring (R495 to R535): link layer, forwarding, confluence, discovery, HELLO and silent hubs, and
the meanings of these families' commands. -/

namespace Sys2Proof.Machine

/-! ## Small things -/

/-- A ring port at rest. -/
def RingPort.rest : RingPort := { next := 0, retry := [], rxNext := 0, rxGot := [], rxHigh := 0, wait := [] }

/-- Ring port p: 0 East, 1 West. -/
def State.rport (s : State) (p : Nat) : RingPort := s.ring.ports.getD p RingPort.rest

/-- Bytes that the retry buffer of a port holds: each frame with its SOF (R512). -/
def RingPort.level (x : RingPort) : Nat := x.retry.foldl (fun a e => a + 8 + e.2.length) 0

/-- Stores port p and shows its level and sequence numbers (R535). -/
def State.setRport (s : State) (p : Nat) (x : RingPort) : State :=
  let s := { s with ring.ports := s.ring.ports.set p x }
  let s := (s.put Fld.RING_Pp_STAT.LEVEL x.level p).put Fld.RING_Pp_LSEQ.NEXT x.next p
  s.put Fld.RING_Pp_LSEQ.MARK ((x.retry.head?.map (·.1)).getD x.next) p

/-- The hub's serial number. -/
def State.serial (s : State) : Nat := (s.rd Reg.GLB_SERIAL_LO).toNat + 2 ^ 32 * (s.rd Reg.GLB_SERIAL_HI).toNat

/-- The CRC-32 of a frame: bytes 0 to LEN − 5 with HOPS taken as 0 (R498). -/
def frameCrc (f : List Byte) : Nat := crc32 ((f.take (f.length - 4)).set 2 0)

/-- A frame from its bytes without CRC. -/
def withCrc (body : List Byte) : List Byte := body ++ leBytes 4 (crc32 (body.set 2 0))

/-- The common header (R500). -/
def frameHead (type flags emit : Nat) : List Byte := leBytes 1 type ++ leBytes 1 flags ++ leBytes 1 0 ++ leBytes 1 emit

/-- Byte k of a frame. -/
def fb (f : List Byte) (k : Nat) : Nat := (f.getD k 0).toNat

/-- LEN lies within the range of R501 for a type. -/
def lenOk (type len : Nat) : Bool :=
  len % 4 == 0 && (match type with
    | 1 => 40 ≤ len && len ≤ 4096
    | 2 => len == 28
    | 3 => len == 64
    | 4 => len == 24
    | 5 => 32 ≤ len && len ≤ 272
    | 6 => 20 ≤ len && len ≤ 2052
    | 7 => len == 132
    | _ => 24 ≤ len && len ≤ 4096)

/-- The SOF payload (R496). -/
def sofBlock (type len lseq : Nat) (retx noseq : Bool) : List Byte :=
  let b := leBytes 1 0xB0 ++ leBytes 1 type ++ leBytes 2 len ++ leBytes 2 lseq ++ leBytes 1 (b2n retx + 2 * b2n noseq)
  b ++ leBytes 1 (crc8 b)

/-- The LINK payload (R497): KIND 0 ACK, 1 NAK, 2 SKIP. -/
def linkBlock (kind lseq count : Nat) : List Byte :=
  let b := leBytes 1 0xB1 ++ leBytes 1 kind ++ leBytes 2 lseq ++ leBytes 1 count ++ leBytes 2 0
  b ++ leBytes 1 (crc8 b)

/-- Sends a LINK block on port p. -/
def State.sendLink (s : State) (p kind lseq count : Nat) : State :=
  { s with tx := s.tx ++ [.link p (linkBlock kind lseq count)] }

/-- LSEQ difference a − b modulo 2^16. -/
def lseqDiff (a b : Nat) : Nat := (a % 65536 + 65536 - b % 65536) % 65536

/-! ## Sending (R507 to R510, R512, R515) -/

/-- Releases the oldest frames until `room` more bytes fit: how many are released, and what stays. -/
def overtake (room : Nat) : (l : List (Nat × List Byte)) → Nat × List (Nat × List Byte)
  | [] => (0, [])
  | e :: rest =>
    if ((e :: rest).foldl (fun a x => a + 8 + x.2.length) 0) + room ≤ 262144 then (0, e :: rest)
    else ((overtake room rest).1 + 1, (overtake room rest).2)

/-- A port sends a frame (R509, R512): numbered, kept in the retry buffer, overtaking the oldest frames where the buffer
is full (R515). -/
def State.portSend (s : State) (p : Nat) (f : List Byte) : State :=
  if !s.portUp p then s else
  let x := s.rport p
  let (k, kept) := overtake (8 + f.length) x.retry
  let s := s.setRport p { x with next := (x.next + 1) % 65536, retry := kept ++ [(x.next, f)] }
  let s := (s.wrap Fld.RING_Pp_TX.FRAMES 1 p)
  let s := { s with tx := s.tx ++ [.frame p (sofBlock (fb f 0) f.length x.next false false ++ f)] }
  if k = 0 then s else
  let s := s.sat Fld.RING_Pp_OVR.OVR_CNT k p
  let onset := !s.is Fld.RING_Pp_STAT.RETRY_OVR p
  let s := (s.put Fld.RING_Pp_STAT.RETRY_OVR 1 p).evt Fld.RING_EVT.RETRY_OVR 104
  let s := s.when onset (·.stage 0x0A02 (leBytes 1 p ++ leBytes 2 (s.get Fld.RING_Pp_OVR.OVR_CNT p)))
  s.sendLink p 2 ((kept.head?.map (·.1)).getD x.next) 0

/-- An originated frame leaves on every port that is up (R508). -/
def State.sendAll (s : State) (f : List Byte) : State := (s.portSend 0 f).portSend 1 f

/-- The hub may originate frames other than DISC, HELLO and TIME (R507, R528). -/
def State.mayEmit (s : State) : Bool := s.hubId != 0xFF && !s.is Fld.RING_STAT.QUAR_ID

/-- A port goes down (R516) or comes up (R509): link state starts anew, discovery is open again (R524). -/
def State.ringPort (s : State) (p : Nat) (up : Bool) : State :=
  let x := s.rport p
  let s := if up then s else
    let s := s.sat Fld.RING_Pp_OVR.FLUSH_CNT x.retry.length p
    s.put Fld.RING_Pp_STAT.FLUSHED 1 p
  let s := (s.setRport p RingPort.rest).put Fld.RING_Pp_STAT.UP (b2n up) p
  let s := s.put (if p = 0 then Fld.RING_STAT.EAST_UP else Fld.RING_STAT.WEST_UP) (b2n up)
  let s := s.put Fld.RING_STAT.DISC_DONE 0
  let s := if up && s.ring.upSince.isNone then { s with ring.upSince := some s.silt.opNs } else s
  { s with ring.probes := s.ring.probes.set p none }

/-! ## Link layer, receiving side (R513, R499) -/

/-- Counts LSEQs as received from rxNext on while they are held. -/
def advance : (fuel : Nat) → RingPort → RingPort
  | 0, x => x
  | k + 1, x =>
    if x.rxGot.contains x.rxNext then
      advance k { x with rxGot := x.rxGot.filter (· != x.rxNext), rxNext := (x.rxNext + 1) % 65536 }
    else x

/-- Records an LSEQ as received, and acknowledges when that moves the mark (R513). -/
def State.rxMark (s : State) (p lseq : Nat) : State :=
  let x := s.rport p
  let y := advance (x.rxGot.length + 1) { x with rxGot := x.rxGot ++ [lseq] }
  let s := s.setRport p y
  s.when (y.rxNext != x.rxNext) (·.sendLink p 0 y.rxNext 0)

/-- NAKs for `count` missing frames from `lseq` on, at most 16 in each (R513). -/
def State.sendNaks (s : State) (p : Nat) : (fuel lseq count : Nat) → State
  | 0, _, _ => s
  | k + 1, lseq, count =>
    if count = 0 then s else
    let c := min 16 count
    let s := (s.sendLink p 1 lseq c).sat Fld.RING_Pp_RET.NAK_TX 1 p
    s.sendNaks p k ((lseq + c) % 65536) (count - c)

/-- What the link layer finds of a received frame: 0 a link duplicate, 1 intact, 2 stomped, 3 a CRC error, 4 not intact
otherwise (R498, R499, R513). -/
def State.rxLink (s : State) (p lseq type : Nat) (f : List Byte) : Nat × State :=
  let x := s.rport p
  let ahead := lseqDiff lseq x.rxNext
  if ahead ≥ 32768 || x.rxGot.contains lseq then
    (0, (s.sat Fld.RING_Pp_CAP.LINKDUP 1 p).sendLink p 0 x.rxNext 0)
  else
    let gap := lseqDiff lseq x.rxHigh
    let s := if gap < 32768 then
        (s.sendNaks p (gap / 16 + 1) x.rxHigh gap).setRport p { s.rport p with rxHigh := (lseq + 1) % 65536 }
      else s
    let stored := leAt f (f.length - 4) 4
    if !lenOk type f.length then (4, s) else
    let want := frameCrc f
    if stored = want then
      if fb f 0 = type then (1, (s.rxMark p lseq).wrap Fld.RING_Pp_RX.FRAMES 1 p) else (4, s)
    else if stored = want.xor 0xFFFFFFFF then (2, (s.rxMark p lseq).sat Fld.RING_Pp_ERR.STOMP 1 p)
    else (3, ((s.sat Fld.RING_Pp_ERR.CRC_ERR 1 p).sendLink p 1 lseq 1).sat Fld.RING_Pp_RET.NAK_TX 1 p)

/-! ## Forwarding (R511) -/

/-- A frame of hub h has arrived (R530): it is no longer silent from the next tick. -/
def State.heardHub (s : State) (h : Nat) : State :=
  if 127 < h then s else
  ({ s with
    ring.heardMs := tabSet s.ring.heardMs h s.opMs
    ring.heardAt := tabSet s.ring.heardAt h s.seq.frame } : State).put Fld.RING_Hh.AGE_MS 0 h

/-- The frame returns to this hub (R511 row 1, R528). -/
def State.returns (s : State) (type : Nat) (f : List Byte) : Bool :=
  if type = 6 || type = 7 then leAt f 8 8 == s.serial else
  let e := fb f 3
  (e == s.hubId && s.hubId != 0xFF && !s.is Fld.RING_STAT.QUAR_ID) || (match s.ring.prevId with
    | some (i, t) => e == i && decide (s.silt.opNs < t)
    | none => false)

/-- HOPS limit: N of the discovered ring, or 128 before discovery (R511 row 2). A DISC probe of a chain passes each hub
twice, so the limit of 128 holds for DISC frames. -/
def State.hopLimit (s : State) (type : Nat) : Nat :=
  if type != 6 && s.is Fld.RING_STAT.DISC_DONE then s.get Fld.RING_STAT.DISC_N else 128

/-- Forwards a frame on the other port with HOPS + 1 (R500, R511); a damaged one ends with the complemented CRC (R499). -/
def State.forward (s : State) (p : Nat) (f : List Byte) (stomp : Bool) : State :=
  let g := f.set 2 (BitVec.ofNat 8 (fb f 2 + 1))
  let g := if stomp then g.take (g.length - 4) ++ leBytes 4 ((frameCrc g).xor 0xFFFFFFFF) else g
  s.portSend (1 - p) g

/-- The first steps for a received frame: the link layer, removal, and whether this hub goes on with it. `true` when the
frame is intact and neither removed nor discarded. `fwd` tells whether this hub would forward it. -/
def State.receive (s : State) (p lseq type : Nat) (fwd : Bool) (f : List Byte) : Bool × State :=
  if s.hubState < stHeld then (false, s) else
  let (k, s) := s.rxLink p lseq type f
  let noId := fb f 3 == 0xFF && type != 6 && type != 7
  let ttl := s.hopLimit type - 1 ≤ fb f 2
  if k = 0 || k = 4 then (false, s)
  else if k ≠ 1 then (false, if fwd && !noId && !ttl && !s.returns type f then s.forward p f true else s)
  else if noId then (false, s)
  else if s.returns type f then
    (type == 6, (s.heardHub (fb f 3)).wrap Fld.RING_Pp_RET.RETURN 1 p)
  else
    let s := s.heardHub (fb f 3)
    if ttl then (false, (s.sat Fld.RING_MISC.TTL_CNT).evt Fld.RING_EVT.TTL 104)
    else (true, if fwd then s.forward p f false else s)

/-- A keyed frame has been kept before (R521); otherwise its key is kept. -/
def State.keyed (s : State) (k : SeenKey) : Bool × State :=
  if s.ring.seen.any fun e => e.type == k.type && e.key == k.key then (true, s.wrap Fld.RING_MISC.DUP_CNT)
  else (false, { s with ring.seen := k :: s.ring.seen })

/-- Keys of TRIGGER and CLAIM frames whose tick has passed are dropped (R521). -/
def State.dropKeys (s : State) : State :=
  { s with ring.seen := s.ring.seen.filter fun e =>
      if e.type = 5 then decide (s.opMs ≤ e.until_) else if e.type = 7 then true else decide (s.seq.frame ≤ e.until_) }

/-- The deadline FT(n) + t_D has passed (R54, R58, R394). -/
def State.pastDecide (s : State) (n : Nat) : Bool := n < s.seq.frame || (n == s.seq.frame && 2 ≤ s.seq.phase)

/-- Hub h is quarantined at this receiver (R648). -/
def State.peerQuar (s : State) (h : Nat) : Bool := h < 128 && bit (s.get Fld.SUP_PEER_Qj.QUAR (h / 32)) (h % 32)

/-! ## STREAM frames (R502, R517 to R520, R648, R649) -/

/-- A confluence entry at its start. -/
def Conf.rest : Conf := { high := none, got := [], store := [], aside := [], absentBefore := 0 }

/-- Entry k. -/
def State.conf (s : State) (k : Nat) : Conf := tabGet s.ring.confs Conf.rest k

/-- Stores entry k and shows H. -/
def State.setConf (s : State) (k : Nat) (x : Conf) : State :=
  ({ s with ring.confs := tabSet s.ring.confs k x } : State).put Fld.RING_CFk_HIGH.H (x.high.getD 0) k

/-- Signed difference of sequence numbers modulo 2^32 (R517). -/
def seqDiff (a b : Nat) : Int := signed 32 (a + 2 ^ 32 - b % 2 ^ 32)

/-- The stream table entry of an identity (R85). -/
def State.streamEntry (s : State) (hub stream : Nat) : Option StreamEntry :=
  match s.banks.act with
  | none => none
  | some p => p.cluster.streams.find? fun e => e.hub == hub && e.stream == stream

/-- Subscription parameters (R135). -/
def subHub (u : PatUnit) : Nat := u.p 0 0 7
def subStream (u : PatUnit) : Nat := u.p 0 8 6
def subOut (u : PatUnit) : Nat := u.p 1 0 8

/-- One intact copy of a subscribed stream (R518, R519, R649). -/
def State.confTake (s : State) (u : PatUnit) (p : Nat) (f : List Byte) : State :=
  let k := u.inst
  match s.streamEntry (subHub u) (subStream u) with
  | none => s
  | some e =>
    let label := leAt f 12 6
    let seq := leAt f 8 4
    let x := s.conf k
    let late := fun (s : State) => s.sat Fld.RING_CFk_LOSS.LATE_CNT 1 k
    if leAt f 6 2 != e.slots || f.length != 36 + 4 * e.slots || leAt f 18 2 != e.phase + 1024 * e.dLog2
        || seq != label / 2 ^ e.dLog2 % 2 ^ 32 then late s
    else if s.pastDecide (label + s.kR) then late s
    else
      let d := match x.high with
        | some h => seqDiff seq h
        | none => 1
      if x.got.contains seq then s.wrap Fld.RING_CFk_DUP.DUP_CNT 1 k
      else if d < -63 then late s
      else
        let held : Held := { label := label, emit := fb f 3, words := toWords e.slots (f.drop 32) }
        if bit (fb f 1) 1 && s.peerQuar (fb f 3) then s.setConf k { x with aside := x.aside ++ [held] }
        else
          let high := if 0 < d then seq else x.high.getD seq
          let got := (seq :: x.got).filter fun q => decide (seqDiff high q ≤ 63)
          let s := s.setConf k { x with high := some high, got := got, store := x.store ++ [held] }
          s.when (p == 1) (·.wrap Fld.RING_CFk_DUP.FIRST_W 1 k)

/-- A frame of a dual-homed pod's stream from the other home has passed this one in time (R561). -/
def State.dualMark (s : State) (f : List Byte) : State :=
  let label := leAt f 12 6
  match s.banks.act with
  | none => s
  | some p =>
    if (p.cluster.duals.any fun d => d.stream == fb f 5 && d.primary == s.hubId && d.secondary == fb f 3)
        && !s.pastDecide (label + s.kR) then
      { s with ring.dualSeen := ((fb f 5, label) :: s.ring.dualSeen).filter fun e => decide (s.seq.frame ≤ e.2 + s.kR + 1) }
    else s

/-- STREAM_FRAME_RECEIVE: `full` says that more than 32 KiB of STREAM frames wait for the egress port (R510, R511, R518). -/
def execStreamFrameReceive (port lseq : Nat) (full : Bool) (bytes : List Byte) (s : State) :
    Host.Outcome State Fault Refusal :=
  let other := 1 - port
  let (ok, s) := s.receive port lseq 1 (!full) bytes
  if !ok then .next s else
  let s := if full && s.portUp other then
      let s := { s with ring.capTick := some s.seq.frame }
      (s.sat Fld.RING_Pp_CAP.CAP_DROP 1 other).degrade Fld.GLB_DEGRADED.STREAM_CAP Fld.GLB_DEGRADED_STICKY.STREAM_CAP true
    else s
  let s := s.dualMark bytes
  .next (s.forEach ((s.units cSUBSCRIBE).filter fun u => subHub u == fb bytes 4 && subStream u == fb bytes 5) fun u s =>
    s.confTake u port bytes)

/-- The reason of a subscribed frame that has not arrived (R520). -/
def State.lostReason (s : State) (hub : Nat) : Nat :=
  let recent := s.ring.hellos.filter fun h => h.hub == hub && decide (s.opMs ≤ h.ms + s.policy 0x0401 25)
  if s.is Fld.RING_Hh.SILENT hub then rHUB_LOST
  else if recent != [] && recent.all fun h => bit (fb h.bytes 0x47) 2 then rQUARANTINE
  else rLOST

/-- A delivered word of a copy from a quarantined hub: samples already invalid keep their reason by R18 (R648). -/
def quarWord (w : Nat) : Nat :=
  if wInv w && (wReason w == rHUB_LOST || wReason w == rLOST) then w else invWord rQUARANTINE (w / 4 % 2) (wRange w)

/-- Delivery of one subscription at the deadline of its label (R53, R54, R118, R520). -/
def State.confDeliver (s : State) (u : PatUnit) : State :=
  let k := u.inst
  let hub := subHub u
  let stream := subStream u
  match s.streamEntry hub stream, s.banks.act with
  | some e, some pat =>
    if s.seq.frame < s.kR then s else
    let label := s.seq.frame - s.kR
    if !dueTick e.dLog2 e.phase label then s else
    let x := s.conf k
    let slots := ((pat.streamSlots.find? fun t => t.hub == hub && t.stream == stream).map (·.slots)).getD []
    let found := (x.store.find? fun h => h.label == label) <|> (x.aside.find? fun h => h.label == label)
    let words := match found with
      | some h => if label < x.absentBefore then h.words.map fun _ => invWord rABSENT s.tun 0
                  else if s.peerQuar h.emit then h.words.map quarWord else h.words
      | none => slots.map fun _ => invWord (s.lostReason hub) s.tun 0
    let s := s.setConf k
      { x with store := x.store.filter (fun h => decide (label < h.label)), aside := x.aside.filter (fun h => decide (label < h.label)) }
    let s := s.when found.isNone (·.sat Fld.RING_CFk_LOSS.LOST_CNT 1 k)
    let quar := match found with
      | some h => s.peerQuar h.emit
      | none => false
    let s := s.when quar (·.sat Fld.SUP_QCNT.PEER_CNT)
    let s := (s.ran u.id).sawWords u.id words
    let s := s.forEach (slots.zip words) fun e s =>
      { s with flow.remote := tabSet s.flow.remote (65536 * hub + 1024 * stream + e.1) e.2 }
    s.forEach (List.range (subOut u)) fun i s =>
      { s with flow.out := tabSet s.flow.out (256 * u.id + i) (s.remoteWord hub stream (u.p (2 + i) 0 10)) }
  | _, _ => s

/-- Delivery of all due remote samples at the start of a Decide phase (R54). -/
def State.ringDecide (s : State) : State :=
  let s := { s with flow.remote := [] }
  if !s.acquires then s else s.forEach (s.units cSUBSCRIBE) fun u s => s.confDeliver u

/-- Parameters of a STREAM unit (R135). -/
def strSlots (u : PatUnit) : List Nat := (List.range (u.p 0 0 10)).map fun k => u.p (1 + k) 0 10
def strD (u : PatUnit) : Nat := u.p 0 10 4
def strPhase (u : PatUnit) : Nat := u.p 0 14 10

/-- The hub ID of a stream's identity: the primary home's for the stream of a dual-homed pod (R44). -/
def State.streamHub (s : State) (stream : Nat) : Nat × Bool :=
  match s.banks.act with
  | none => (s.hubId, false)
  | some p =>
    match p.cluster.duals.find? fun d => d.stream == stream && (d.primary == s.hubId || d.secondary == s.hubId) with
    | some d => (d.primary, true)
    | none => (s.hubId, false)

/-- A home sends its copy of a dual-homed pod's stream while its link is bound; the primary home also where the other
home's copy of K_R ticks before has not passed it (R561). -/
def State.dualSends (s : State) (stream n : Nat) : Bool :=
  match s.banks.act with
  | none => true
  | some p =>
    match p.cluster.duals.find? fun d => d.stream == stream && (d.primary == s.hubId || d.secondary == s.hubId) with
    | none => true
    | some d => bit (s.get Fld.FLD_STAT.BOUND) d.port
        || (d.primary == s.hubId && !s.ring.dualSeen.contains (stream, n - s.kR))

/-- The STREAM frame of a stream for this tick (R502, R152); `spoiled` lists slots whose work an overrun abandoned (R179). -/
def State.streamFrame (s : State) (u : PatUnit) (n : Nat) (word : Nat → Nat) : List Byte :=
  let (hub, dual) := s.streamHub u.inst
  let quar := s.is Fld.GLB_STATE.QUARANTINE
  let slots := strSlots u
  let words := slots.map fun k => if quar then quarWord (word k) else word k
  let t := s.time.tickL
  withCrc (frameHead 1 (b2n (s.time.tstep.contains u.inst) + 2 * b2n dual) s.hubId ++ leBytes 1 hub ++ leBytes 1 u.inst
    ++ leBytes 2 slots.length ++ leBytes 4 (n / 2 ^ strD u) ++ leBytes 6 n ++ leBytes 2 (strPhase u + 1024 * strD u)
    ++ leBytes 6 t.s ++ leBytes 4 t.ns ++ leBytes 2 0 ++ ofWords words)

/-- Sends the frame of one stream on both ports; `held` ports have no room yet (R508, R510). -/
def State.streamSend (s : State) (u : PatUnit) (f : List Byte) (n : Nat) (held : List (Nat × Nat)) : State :=
  let s := s.forEach [0, 1] fun p s =>
    if !s.portUp p then s
    else if held.contains (p, u.inst) then s.setRport p { s.rport p with wait := (s.rport p).wait ++ [(u.inst, f)] }
    else s.portSend p f
  let s := (s.put Fld.RING_STRs_SEQ.SEQ (n / 2 ^ strD u) u.inst).wrap Fld.RING_STRs_CNT.SENT 1 u.inst
  ({ s with time.tstep := s.time.tstep.filter (· != u.inst) } : State).ran u.id

/-- The streams of an Emit phase (R40, R150, R528, R647): a quarantined hub sends no stream of a dual-homed pod. -/
def State.streamEmit (s : State) (held : List (Nat × Nat)) : State :=
  let n := s.seq.frame
  if !s.acquires || !s.seq.counter || !s.mayEmit then s else
  s.forEach ((List.range 64).filterMap (s.unitAt cSTREAM)) fun u s =>
    if !dueTick (strD u) (strPhase u) n || (s.is Fld.GLB_STATE.QUARANTINE && (s.streamHub u.inst).2)
        || !s.dualSends u.inst n then s
    else s.streamSend u (s.streamFrame u n (tabGet s.flow.slot absentWord)) n held

/-- STREAM_FRAME_DEADLINE: own frames that still wait on a port at FT(n) + t_E are discarded there (R510). -/
def execStreamFrameDeadline (port : Nat) (s : State) : Host.Outcome State Fault Refusal :=
  let x := s.rport port
  if x.wait.isEmpty then .next s else
  let s := (s.setRport port { x with wait := [] }).sat Fld.RING_Pp_CAP.CAP_DROP x.wait.length port
  let s := s.forEach x.wait fun e s => s.sat Fld.RING_STRs_CNT.CAP_DROP 1 e.1
  let s := { s with ring.capTick := some s.seq.frame }
  .next (s.degrade Fld.GLB_DEGRADED.STREAM_CAP Fld.GLB_DEGRADED_STICKY.STREAM_CAP true)

/-! ## TRIGGER, CLAIM and unknown frames (R503, R504, R511, R521) -/

/-- The TRIGGER frame of a line event (R503). -/
def State.triggerFrame (s : State) (t : Nat) (e : TrigEvent) : List Byte :=
  let sec := e.tx.toNat / (1000000000 * 65536)
  withCrc (frameHead 2 0 s.hubId ++ leBytes 1 t ++ leBytes 1 e.src ++ leBytes 6 e.nt ++ leBytes 6 sec
    ++ leBytes 2 (e.tx.toNat % 65536) ++ leBytes 4 (e.tx.toNat / 65536 % 1000000000))

/-- Broadcasts the line events of this tick (R393). -/
def State.trigEmit (s : State) : State :=
  if !s.mayEmit then s else
  s.forEach s.trigSends fun e s => (s.sendAll (s.triggerFrame e.1 e.2)).wrap Fld.CAP_TRGt_CNT.SENT 1 e.1

/-- TRIGGER_FRAME_RECEIVE (R394, R511, R521, R648). -/
def execTriggerFrameReceive (port lseq : Nat) (bytes : List Byte) (s : State) : Host.Outcome State Fault Refusal :=
  let (ok, s) := s.receive port lseq 2 true bytes
  if !ok then .next s else
  let emit := fb bytes 3
  let line := fb bytes 4 % 32
  let nt := leAt bytes 6 6
  let sec := leAt bytes 12 6
  let frac := leAt bytes 18 2
  let ns := leAt bytes 20 4
  let (dup, s) := s.keyed ⟨2, [emit, line, nt, sec, ns, frac], nt + s.kR⟩
  if dup || s.peerQuar emit then .next s else
  let tx : Int := (((sec * 1000000000 + ns) * 65536 + frac : Nat) : Int)
  .next (s.lineEvent line ⟨nt, tx, fb bytes 5 % 8, emit, true⟩ (s.pastDecide (nt + s.kR)))

/-- Sends the CLAIM frames of this tick (R454, R504). -/
def State.claimEmit (s : State) : State :=
  if !s.mayEmit then s else
  s.forEach s.claimSends fun (hub, out, label, stand, claim, word) s =>
    (s.sendAll (withCrc (frameHead 4 0 s.hubId ++ leBytes 1 hub ++ leBytes 1 stand ++ leBytes 2 out ++ leBytes 6 label
      ++ leBytes 2 claim ++ leBytes 4 word))).wrap Fld.SLU_CLAIM_TX.SENT

/-- CLAIM_FRAME_RECEIVE (R448, R511, R521, R648). -/
def execClaimFrameReceive (port lseq : Nat) (bytes : List Byte) (s : State) : Host.Outcome State Fault Refusal :=
  let (ok, s) := s.receive port lseq 4 true bytes
  if !ok || fb bytes 4 != s.hubId then .next s else
  let emit := fb bytes 3
  let out := leAt bytes 6 2
  let label := leAt bytes 8 6
  let stand := fb bytes 5
  let (dup, s) := s.keyed ⟨4, [emit, out, label], label + stand⟩
  if dup || s.peerQuar emit then .next s else
  .next (s.claimOffer out emit label stand (leAt bytes 14 2) (leAt bytes 16 4) (s.pastDecide label))

/-- UNKNOWN_FRAME_RECEIVE: a frame of reserved TYPE is forwarded only, and counted (R511). -/
def execUnknownFrameReceive (port lseq : Nat) (bytes : List Byte) (s : State) : Host.Outcome State Fault Refusal :=
  let t := fb bytes 0
  if 1 ≤ t && t ≤ 7 then .next s else
  let (ok, s) := s.receive port lseq t true bytes
  .next (if ok then (s.sat Fld.RING_MISC.UNKNOWN_CNT).evt Fld.RING_EVT.UNKNOWN 104 else s)

/-! ## LINK blocks and retransmission (R513 to R515) -/

/-- LINK_ACK: every frame below `lseq` is released (R514). -/
def execLinkAck (port lseq : Nat) (s : State) : Host.Outcome State Fault Refusal :=
  let x := s.rport port
  .next (s.setRport port { x with retry := x.retry.filter fun e => lseqDiff lseq e.1 = 0 || lseqDiff lseq e.1 ≥ 32768 })

/-- Retransmits one held frame with RETX = 1. -/
def State.resend (s : State) (p : Nat) (e : Nat × List Byte) : State :=
  let s := (s.wrap Fld.RING_Pp_TX.FRAMES 1 p).sat Fld.RING_Pp_RETX.RETX_CNT 1 p
  { s with tx := s.tx ++ [.frame p (sofBlock (fb e.2 0) e.2.length e.1 true false ++ e.2)] }

/-- LINK_NAK: the named frames are sent again; one that has been overtaken is answered with a SKIP (R514, R515). -/
def execLinkNak (port lseq count : Nat) (s : State) : Host.Outcome State Fault Refusal :=
  if !s.portUp port then .next s else
  let s := s.sat Fld.RING_Pp_RETX.NAK_RX 1 port
  let x := s.rport port
  let names := (List.range (min 16 count)).map fun i => (lseq + i) % 65536
  let s := s.forEach (x.retry.filter fun e => names.contains e.1) fun e s => s.resend port e
  let mark := (x.retry.head?.map (·.1)).getD x.next
  let gone := names.any fun l => lseqDiff mark l != 0 && lseqDiff mark l < 32768
  .next (s.when gone (·.sendLink port 2 mark 0))

/-- LINK_SKIP: every LSEQ below `lseq` counts as skipped (R515). -/
def execLinkSkip (port lseq : Nat) (s : State) : Host.Outcome State Fault Refusal :=
  let x := s.rport port
  let d := lseqDiff lseq x.rxNext
  if d = 0 || d ≥ 32768 then .next s else
  let got := x.rxGot.filter fun l => lseqDiff l lseq < 32768
  let high := if lseqDiff lseq x.rxHigh < 32768 then lseq else x.rxHigh
  let y := advance (got.length + 1) { x with rxNext := lseq % 65536, rxGot := got, rxHigh := high }
  .next ((s.setRport port y).sendLink port 0 y.rxNext 0)

/-- RETRANSMIT_TIMEOUT: the rewind mark has not advanced for T_RTO (R514). -/
def execRetransmitTimeout (port : Nat) (s : State) : Host.Outcome State Fault Refusal :=
  match (s.rport port).retry with
  | e :: _ => .next (if s.portUp port then s.resend port e else s)
  | [] => .next s

/-! ## Discovery and IDs (R522 to R527) -/

/-- ELINK or WLINK of port p. -/
def State.linkByte (s : State) (p : Nat) : Nat :=
  let set := s.get Fld.LANE_Pp_STAT.ACTIVE p
  let n := (List.range 4).foldl (fun a i => a + b2n (bit set i)) 0
  n + 8 * s.get Fld.LANE_Pp_STAT.RATE p + 32 * b2n (s.is Fld.LANE_Pp_STAT.LEAF p)

/-- This hub's discovery record (R522). -/
def State.discRecord (s : State) : List Byte :=
  leBytes 8 s.serial ++ leBytes 1 s.hubId ++ leBytes 1 (s.get Fld.RING_STAT.IDSRC) ++ leBytes 2 (s.get Fld.GLB_ID.PART)
    ++ leBytes 1 (s.linkByte 0) ++ leBytes 1 (s.linkByte 1) ++ leBytes 1 s.hubState ++ leBytes 1 0

/-- A port is up for discovery: a leaf port is not (R525). -/
def State.discUp (s : State) (p : Nat) : Bool := s.portUp p && !s.is Fld.LANE_Pp_STAT.LEAF p

/-- Sends a probe with a new PSEQ on one port. -/
def State.probe (s : State) (p : Nat) (change : Bool) : State :=
  let q := (s.ring.pseq + 1) % 65536
  let f := withCrc (frameHead 6 (p + 4 * b2n change) s.hubId ++ leBytes 1 0 ++ leBytes 1 0 ++ leBytes 2 q ++ leBytes 8 s.serial)
  let s := { s with ring.pseq := q, ring.probes := s.ring.probes.set p (some ⟨q, change, none⟩) }
  s.portSend p f

/-- Puts an ID in use (R526, R527): 1 provisional, 2 assigned, 0 none. -/
def State.setId (s : State) (id src : Nat) : State :=
  let old := s.hubId
  let s := if old != id && old != 0xFF then { s with ring.prevId := some (old, s.silt.opNs + 1000000) } else s
  ((s.put Fld.GLB_STATE.HUB_ID id).put Fld.RING_STAT.HUB_ID id).put Fld.RING_STAT.IDSRC src

/-- Serial, hub ID, IDSRC of a discovery record. -/
def recSerial (r : List Byte) : Nat := leAt r 0 8
def recId (r : List Byte) : Nat := fb r 8
def recSrc (r : List Byte) : Nat := fb r 9

/-- The provisional ID of a serial in a completed result (R527): unassigned hubs, by rising serial, take the lowest
free IDs. -/
def provisional (recs : List (List Byte)) (own : Nat) : Nat :=
  let taken := (recs.filter fun r => recSrc r == 2).map recId
  let free := (List.range 128).filter fun i => !taken.contains i
  let below := (recs.filter fun r => recSrc r != 2 && decide (recSerial r < own)).length
  free.getD below 0xFF

/-- A result matches the CLUSTER section (R525). -/
def State.orderOk (s : State) (topo : Nat) (serials : List Nat) : Bool :=
  match s.banks.act with
  | none => false
  | some p =>
    let table := p.cluster.hubs.map (·.serial)
    let n := table.length
    let twice := table ++ table
    let run := fun (l : List Nat) => (List.range n).any fun i => (twice.drop i).take l.length == l
    serials.all table.contains && (match p.cluster.topology with
      | 0 => topo == 0
      | 1 => if topo = 1 then serials.length == n && run serials
             else topo == 2 && (serials.length == n || serials.length + 1 == n) && run serials
      | _ => topo == 2 && serials == table)

/-- The result of the last probes, if they have returned and agree: TOPO and records in ring order (R524). -/
def State.discResult (s : State) : Option (Nat × List (List Byte)) :=
  let side := fun (p : Nat) =>
    if !s.discUp p then some (true, ([] : List (List Byte)))
    else match s.ring.probes.getD p none with
      | some x => x.back
      | none => none
  match side 0, side 1 with
  | some (te, e), some (tw, w) =>
    let own := s.discRecord
    if !s.discUp 0 && !s.discUp 1 then some (0, [own])
    else if !te && !tw then
      if w.map recSerial == (e.map recSerial).reverse then some (1, own :: e) else none
    else if te && tw then some (2, w.reverse ++ [own] ++ e)
    else none
  | _, _ => none

/-- Judges whether discovery is complete, and takes its result (R524 to R527, R530). -/
def State.discJudge (s : State) : State :=
  match s.discResult with
  | none => s
  | some (topo, recs) =>
    let serials := recs.map recSerial
    let same := match s.ring.result with
      | some (t, old) => t == topo && old.map recSerial == serials
      | none => false
    let ok := s.orderOk topo serials
    let s := { s with ring.result := some (topo, recs) }
    let s := (s.put Fld.RING_STAT.DISC_DONE 1).put Fld.RING_STAT.TOPO topo
    let s := (s.put Fld.RING_STAT.DISC_N recs.length).put Fld.RING_STAT.ORDER_OK (b2n ok)
    let s := s.when (s.banks.act.isSome && !ok) (·.evt Fld.RING_EVT.ORDER_MISMATCH 104)
    let s := s.when (!same) fun s =>
      (s.evt Fld.RING_EVT.TOPO_CHANGE 104).stage 0x0A03 (leBytes 1 topo ++ leBytes 1 recs.length ++ leBytes 1 (b2n ok))
    let s := if s.banks.act.isSome then s else s.setId (provisional recs s.serial) 1
    let ids := recs.map recId
    s.forEach (List.range 128) fun h s => s.put Fld.RING_Hh.PRESENT (b2n (ids.contains h)) h

/-- DISC_PROBE_SEND: probes leave on every port that is up: on the interval, or with CHANGE after a change of this hub's
ports; a probe owed for another hub's change goes without it (R522). -/
def execDiscProbeSend (change : Bool) (s : State) : Host.Outcome State Fault Refusal :=
  if s.hubState < stHeld then .next s else
  let s := { s with ring.owed := false }
  let s := s.forEach [0, 1] fun p s => if s.discUp p then s.probe p change else s
  .next (if change then (s.put Fld.RING_STAT.DISC_DONE 0).discJudge else s.discJudge)

/-- The effect of RING_DISCOVER (R533). -/
def State.ringDiscover (s : State) : Answer × State :=
  ({ status := 0 }, s.forEach [0, 1] fun p s => if s.discUp p then s.probe p false else s)

/-- DISC_PROBE_TIMEOUT: the last probe on a port has not returned within 10 ms, and is sent again (R524). -/
def execDiscProbeTimeout (port : Nat) (s : State) : Host.Outcome State Fault Refusal :=
  match s.ring.probes.getD port none with
  | some x => .next (if x.back.isNone && s.discUp port then s.probe port x.change else s)
  | none => .next s

/-- A probe of another hub (R523). -/
def State.discPass (s : State) (p : Nat) (f : List Byte) : State :=
  let flags := fb f 1
  let dir := flags % 2
  let turned := bit flags 1
  let count := fb f 4
  let right := if turned then p == dir else p != dir
  let serial := leAt f 8 8
  let chg := bit flags 2
  let hops := BitVec.ofNat 8 (fb f 2 + 1)
  if !right then (s.put Fld.RING_STAT.MISWIRE 1).evt Fld.RING_EVT.MISWIRE 104 else
  let key := (serial, leAt f 6 2)
  let first := chg && !(s.ring.changes.contains key)
  let s := if first then
      ({ s with ring.owed := true, ring.changes := (key :: s.ring.changes).take 128 } : State).put Fld.RING_STAT.DISC_DONE 0
    else s
  if turned then s.portSend (1 - p) (f.set 2 hops)
  else if 127 ≤ count then s.evt Fld.RING_EVT.OVERSIZE 104
  else
    let out := if s.discUp dir then dir else 1 - dir
    let flags := if s.discUp dir then flags else flags + 2
    let body := ((f.take (f.length - 4)).set 2 hops).set 1 (BitVec.ofNat 8 flags)
    s.portSend out (withCrc ((body.set 4 (BitVec.ofNat 8 (count + 1))) ++ s.discRecord))

/-- A returning probe of this hub (R524). -/
def State.discBack (s : State) (p : Nat) (f : List Byte) : State :=
  let flags := fb f 1
  let dir := flags % 2
  let turned := bit flags 1
  match s.ring.probes.getD dir none with
  | none => s
  | some x =>
    if x.pseq != leAt f 6 2 || (turned && p != dir) || (!turned && p == dir) then s else
    let recs := (List.range (fb f 4)).map fun i => slice f (16 + 16 * i) 16
    ({ s with ring.probes := s.ring.probes.set dir (some { x with back := some (turned, recs) }) } : State).discJudge

/-- DISC_FRAME_RECEIVE (R511, R523, R524). -/
def execDiscFrameReceive (port lseq : Nat) (bytes : List Byte) (s : State) : Host.Outcome State Fault Refusal :=
  let (ok, s) := s.receive port lseq 6 false bytes
  if !ok then .next s
  else if leAt bytes 8 8 = s.serial then .next (s.discBack port bytes)
  else .next (s.discPass port bytes)

/-! ## HELLO (R529) -/

/-- L − T_D in 2^-8 ns, saturating. -/
def State.offset (s : State) (d : Nat) : Nat := unsigned 32 (satSigned 32 ((tu s.time.l - tu (s.dom d).t) / 2 ^ 24))

/-- RING_AGE_MS. -/
def State.ringAge (s : State) : Nat := match s.ring.upSince with
  | some t => min 0xFFFFFFFF ((s.silt.opNs - t) / 1000000)
  | none => 0

/-- The HELLO of this hub. -/
def State.helloFrame (s : State) : List Byte :=
  let reg := fun (r : RegDef) => leBytes 4 (s.rd r).toNat
  let hflags := b2n (s.banks.act.isSome && s.is Fld.RING_STAT.DISC_DONE && !s.is Fld.RING_STAT.ORDER_OK)
    + 2 * b2n (s.is Fld.TIM_EVT.CNT_CONFLICT) + 4 * b2n (s.is Fld.RING_STAT.QUAR_ID) + 8 * b2n (s.is Fld.RING_STAT.MISWIRE)
    + 16 * b2n (s.is Fld.RING_STAT.DISC_DONE)
  let tsel := (match s.time.follow with | some d => d | none => 2) + 4 * b2n (s.is Fld.TIM_STAT.HOLDOVER)
    + 8 * b2n (s.is Fld.TIM_STAT.SLEWING) + 16 * s.tun
  let digest := match (if s.banks.switched then s.banks.outgoing else s.banks.act) with | some p => p.digest | none => []
  let cluster := match s.banks.act with | some p => p.cluster.clusterId | none => 0
  let cdigest := match s.sup.inForce with | some d => d.digest | none => []
  withCrc (frameHead 7 0 s.hubId ++ leBytes 1 (s.get Fld.RING_STAT.IDSRC) ++ leBytes 1 (s.get Fld.GLB_ID.REV)
    ++ leBytes 2 (s.get Fld.GLB_ID.PART) ++ leBytes 8 s.serial ++ leBytes 4 cluster ++ reg Reg.GLB_FW_VER ++ reg Reg.GLB_STATE
    ++ reg Reg.GLB_DEGRADED ++ padTo 32 digest ++ leBytes 6 (if s.seq.counter then s.seq.frame else 0)
    ++ leBytes 1 (s.get Fld.SLU_HEALTH.H) ++ leBytes 1 hflags ++ leBytes 1 tsel ++ leBytes 1 (s.cls 0) ++ leBytes 1 (s.cls 1)
    ++ leBytes 1 (s.get Fld.SUP_QUAR.QCAUSE) ++ leBytes 4 (s.offset 0) ++ leBytes 4 (s.offset 1)
    ++ leBytes 2 (s.get Fld.TIM_ERR.ERR_A) ++ leBytes 2 (s.get Fld.TIM_ERR.ERR_B) ++ leBytes 4 s.ringAge
    ++ leBytes 1 (s.get Fld.RING_STAT.DISC_N) ++ leBytes 1 (s.get Fld.RING_STAT.TOPO) ++ leBytes 2 s.ring.hseq
    ++ padTo 32 cdigest)

/-- HELLO_SEND: at a 10 ms boundary of L, from HELD onward, on every port that is up (R529). -/
def execHelloSend (s : State) : Host.Outcome State Fault Refusal :=
  if s.hubState < stHeld then .next s else
  let s := { s with ring.hseq := (s.ring.hseq + 1) % 65536 }
  .next (s.sendAll s.helloFrame)

/-! ## Silent hubs (R530) -/

/-- Shows the silence of a source in the confluence registers. -/
def State.showSilence (s : State) (h : Nat) (on : Bool) : State :=
  s.forEach ((s.units cSUBSCRIBE).filter fun u => subHub u == h) fun u s => s.put Fld.RING_CFk_ID.SRC_LOST (b2n on) u.inst

/-- No frame of hub h for SILENT_MS, or a completed discovery does not contain it (R530). An arrival in the same tick
prevails. -/
def State.hubSilent (s : State) (hub : Nat) : State :=
  if 127 < hub || hub == s.hubId || s.is Fld.RING_Hh.SILENT hub || tabGet? s.ring.heardAt hub == some s.seq.frame then s
  else
    let cause := b2n (s.is Fld.RING_STAT.DISC_DONE && !s.is Fld.RING_Hh.PRESENT hub)
    let s := (s.put Fld.RING_Hh.SILENT 1 hub).evt Fld.RING_EVT.HUB_LOST 104
    (s.stage 0x0A04 (leBytes 1 hub ++ leBytes 1 cause)).showSilence hub true

/-- A frame tick: silence ends for hubs heard since, ages grow, a capacity discard of an earlier tick is over (R510,
R530). -/
def State.ringTick (s : State) : State :=
  let s := s.forEach s.ring.heardAt fun e s =>
    let h := e.1
    let s := s.put Fld.RING_Hh.AGE_MS (min 0xFFFF (s.opMs - tabGet s.ring.heardMs 0 h)) h
    if s.is Fld.RING_Hh.SILENT h && e.2 + 1 == s.seq.frame then
      ((s.put Fld.RING_Hh.SILENT 0 h).evt Fld.RING_EVT.HUB_BACK 104).stage 0x0A05 (leBytes 1 h) |>.showSilence h false
    else s
  let s := match s.ring.capTick with
    | some t => if t < s.seq.frame then
        ({ s with ring.capTick := none } : State).degrade Fld.GLB_DEGRADED.STREAM_CAP Fld.GLB_DEGRADED_STICKY.STREAM_CAP false
      else s
    | none => s
  let s := s.forEach s.sup.peerNext fun e s =>
    let j := e.1 / 32
    let w := s.get Fld.SUP_PEER_Qj.QUAR j
    let b := 2 ^ (e.1 % 32)
    let has := bit w (e.1 % 32)
    let s := s.when (e.2 && !has) (·.put Fld.SUP_EVT.PEER_Q 1)
    s.put Fld.SUP_PEER_Qj.QUAR (if e.2 && !has then w + b else if !e.2 && has then w - b else w) j
  ({ s with sup.peerNext := [] } : State).dropKeys

/-! ## Units and register writes -/

/-- A SUBSCRIBE unit starts at a commit (R517, R535). -/
def State.subStart (s : State) (u : PatUnit) : State :=
  let k := u.inst
  let s := s.setConf k Conf.rest
  let s := ((s.wr Reg.RING_CFk_LOSS 0 k).wr Reg.RING_CFk_DUP 0 k).put Fld.RING_CFk_ID.ACTIVE 1 k
  let s := (s.put Fld.RING_CFk_ID.STREAM (subStream u) k).put Fld.RING_CFk_ID.HUB (subHub u) k
  s.put Fld.RING_CFk_ID.SRC_LOST (s.get Fld.RING_Hh.SILENT (subHub u)) k

/-- A SUBSCRIBE unit ends at a commit. -/
def State.subEnd (s : State) (k : Nat) : State :=
  let s := { s with ring.confs := tabErase s.ring.confs k }
  (((s.wr Reg.RING_CFk_ID 0 k).wr Reg.RING_CFk_HIGH 0 k).wr Reg.RING_CFk_LOSS 0 k).wr Reg.RING_CFk_DUP 0 k

/-- RING_CNT_CLR: a write of 1 to RING_CTRL.CNT_CLR clears every saturating count of the block (R535). -/
def execRingCntClr (s : State) : Host.Outcome State Fault Refusal :=
  if !s.mapOpen then .next s else
  let s := ((s.put Fld.RING_MGMT.TIMEOUT_CNT 0).put Fld.RING_MISC.TTL_CNT 0).put Fld.RING_MISC.UNKNOWN_CNT 0
  let s := s.forEach [0, 1] fun p s =>
    let s := [Reg.RING_Pp_ERR, Reg.RING_Pp_RETX, Reg.RING_Pp_OVR, Reg.RING_Pp_CAP].foldl (fun s r => s.wr r 0 p) s
    s.put Fld.RING_Pp_RET.NAK_TX 0 p
  let s := s.forEach (List.range 64) fun k s => s.put Fld.RING_STRs_CNT.CAP_DROP 0 k
  .next (s.forEach (s.units cSUBSCRIBE) fun u s => s.wr Reg.RING_CFk_LOSS 0 u.inst)

end Sys2Proof.Machine
end

