-- ==== Sys2Proof/Machine/Lanes.lean ====
section
/-! DEFINITION. Serial lanes (R463 to R494): bring-up, alignment markers, drops and retraining, adaptation, test modes,
the PZ220 leaf, and the meanings of these families' commands. -/

namespace Sys2Proof.Machine

/-! ## Lane states (R494) and the lane record -/

def lnOFF : Nat := 0
def lnNO_PEER : Nat := 1
def lnDETECT : Nat := 2
def lnTRAIN_BASE : Nat := 3
def lnRATE_CHANGE : Nat := 4
def lnTRAIN_TARGET : Nat := 5
def lnCHECK : Nat := 6
def lnACTIVE : Nat := 7
def lnSPARE : Nat := 8
def lnRETRAIN : Nat := 9
def lnFAILED : Nat := 10
def lnTEST : Nat := 11
def lnBLIND : Nat := 12

/-- A lane at the start of bring-up. -/
def Lane.rest : Lane :=
  { train := 0, peerReady := false, peerRates := 0, peerTarget := none, target := none, status := [0, 0, 0]
    checked := none, checking := false, want := false, listed := false, peerListed := false, reject := false
    peerDrop := false, admin := 0, windows := 0, prbsWindows := 0, skew := 0 }

/-- Lane n. -/
def State.lane (s : State) (n : Nat) : Lane := tabGet s.lanes.lanes Lane.rest n

/-- Stores lane n. -/
def State.setLane (s : State) (n : Nat) (x : Lane) : State := { s with lanes.lanes := tabSet s.lanes.lanes n x }

/-- The state code of lane n. -/
def State.lnState (s : State) (n : Nat) : Nat := s.get Fld.LANE_Ln_STAT.STATE n

/-- The power state of a lane state (R483). -/
def pstate (st : Nat) : Nat := if st = lnSPARE then 1 else if st = lnOFF || st = lnNO_PEER || st = lnFAILED then 2 else 0

/-- Lanes of port p: 0 East, 1 West (R463). -/
def portLanes (p : Nat) : List Nat := (List.range 4).map (4 * p + ·)

/-- Puts lane n into a state, with its power state and the port's SPARE bit. -/
def State.laneTo (s : State) (n st : Nat) : State :=
  let s := (s.put Fld.LANE_Ln_STAT.STATE st n).put Fld.LANE_Ln_STAT.PSTATE (pstate st) n
  let p := n / 4
  let mask := (portLanes p).foldl (fun a i => a + if s.lnState i = lnSPARE then 2 ^ (i % 4) else 0) 0
  s.put Fld.LANE_Pp_STAT.SPARE mask p

/-- Lanes of port p in a state. -/
def State.lanesIn (s : State) (p st : Nat) : List Nat := (portLanes p).filter fun n => s.lnState n == st

/-- The rate code of port p while it is up, else 0. -/
def State.portRate (s : State) (p : Nat) : Nat := if s.portUp p then s.get Fld.LANE_Pp_STAT.RATE p else 0

/-- Port p carries a PZ220 leaf by the active Pattern (R484). -/
def State.leafPort (s : State) (p : Nat) : Bool :=
  match s.banks.act with
  | none => false
  | some q => (if p = 0 then q.cluster.leafE else q.cluster.leafW) == s.hubId && s.hubId != 0xFF

/-- Lanes that the port joins (R475). -/
def State.laneMax (s : State) (p : Nat) : Nat :=
  match s.banks.act with
  | none => 4
  | some _ => match (s.segment p).1 with
    | 0 => 4
    | k => k

/-- Lane n starts at DETECT at a rate (R471, R472, R479). -/
def State.detect (s : State) (n rate : Nat) : State :=
  let s := s.setLane n { Lane.rest with admin := (s.lane n).admin }
  let s := ((s.put Fld.LANE_Ln_STAT.BLOCK_LOCK 0 n).put Fld.LANE_Ln_STAT.PEER_VALID 0 n).put Fld.LANE_Ln_STAT.RATE rate n
  (s.put Fld.LANE_Ln_STAT.MODE8B 0 n).laneTo n lnDETECT

/-- Lane n goes to OFF. -/
def State.laneOff (s : State) (n : Nat) : State :=
  let s := s.setLane n { Lane.rest with admin := (s.lane n).admin }
  let s := (s.put Fld.LANE_Ln_STAT.BLOCK_LOCK 0 n).put Fld.LANE_Ln_STAT.MODE8B 0 n
  s.laneTo n lnOFF

/-- Lane 0 of a leaf port in BLIND (R484, R485): 6.25 Gbit/s, 8b/10b, the preset of R492. -/
def State.laneBlind (s : State) (n : Nat) : State :=
  let k := s.policy 0x0308 2
  let s := s.setLane n { Lane.rest with admin := (s.lane n).admin }
  let s := ((s.put Fld.LANE_Ln_STAT.BLOCK_LOCK 0 n).put Fld.LANE_Ln_STAT.PEER_VALID 0 n).put Fld.LANE_Ln_STAT.RATE 1 n
  let s := ((s.put Fld.LANE_Ln_EQ.FFE_PRE 0 n).put Fld.LANE_Ln_EQ.FFE_MAIN (63 - 2 * k) n).put Fld.LANE_Ln_EQ.FFE_POST (2 * k) n
  (s.put Fld.LANE_Ln_STAT.MODE8B 1 n).laneTo n lnBLIND

/-- Lane n is fused off: the PZH4804 has two lanes a port (R463). -/
def State.fusedLane (s : State) (n : Nat) : Bool := s.small && decide (2 ≤ n % 4)

/-- Bring-up of lane n from the beginning: R471 at a rate, or on a leaf port R484. A fused lane has none (R2). -/
def State.laneRestart (s : State) (n rate : Nat) : State :=
  if s.fusedLane n then s else
  if s.leafPort (n / 4) then (if n % 4 = 0 then s.laneBlind n else s.laneOff n) else s.detect n rate

/-- GLB_DEGRADED.LANE and SEGMENT against the declared segments (R477, R479). -/
def State.laneDegraded (s : State) : State :=
  let declared := [0, 1].filter fun p => (s.segment p).1 != 0 && !s.leafPort p
  let members := fun (p : Nat) => (s.lanesIn p lnACTIVE).length
  let lane := declared.any fun p => decide (members p < (s.segment p).1)
  let seg := declared.any fun p => !s.portUp p
  let s := if s.is Fld.GLB_DEGRADED.LANE == lane then s
    else s.degrade Fld.GLB_DEGRADED.LANE Fld.GLB_DEGRADED_STICKY.LANE lane
  if s.is Fld.GLB_DEGRADED.SEGMENT == seg then s
  else s.degrade Fld.GLB_DEGRADED.SEGMENT Fld.GLB_DEGRADED_STICKY.SEGMENT seg

/-- Port p is down: every lane that is neither off by command nor under test restarts at DETECT at 3.125 Gbit/s (R479). -/
def State.portRestart (s : State) (p : Nat) : State :=
  let s := s.forEach (portLanes p) fun n s =>
    let s := s.put Fld.LANE_Ln_STAT.MEMBER 0 n
    if s.lnState n = lnTEST || (s.lane n).admin = 2 then s else s.laneRestart n 0
  (s.put Fld.LANE_Pp_STAT.RATE 0 p).put Fld.LANE_Pp_STAT.SKEW 0 p

/-- The ACTIVE set of port p takes the value `set` (R469, R471 step 6, R479, R480). -/
def State.setActive (s : State) (p : Nat) (set : List Nat) : State :=
  let mask := set.foldl (fun a n => a + 2 ^ (n % 4)) 0
  let old := s.get Fld.LANE_Pp_STAT.ACTIVE p
  if mask = old then s else
  let ts := set.foldl min 7
  let s := (s.put Fld.LANE_Pp_STAT.ACTIVE mask p).wrap Fld.LANE_Pp_CNT.SET_CNT 1 p
  let s := s.forEach (portLanes p) fun n s => s.put Fld.LANE_Ln_STAT.MEMBER (b2n (set.contains n)) n
  let s := s.put Fld.LANE_Pp_STAT.UP (b2n (mask != 0)) p
  let s :=
    if mask = 0 then ((s.sat Fld.LANE_Pp_CNT.DOWN_CNT 1 p).ringPort p false).portRestart p
    else
      let moved := old = 0 || s.get Fld.LANE_Pp_STAT.TS_LANE p != ts % 4
      let s := s.put Fld.LANE_Pp_STAT.TS_LANE (ts % 4) p
      let s := s.when (old == 0) fun s =>
        (s.put Fld.LANE_Pp_STAT.RATE (s.get Fld.LANE_Ln_STAT.RATE ts) p).ringPort p true
      s.when moved (·.pdRestart p)
  s.laneDegraded

/-- A lane drops (R477): cause 0 lock loss, 1 error limit, 2 neighbour DROP, 3 command. A spare takes its place (R478). -/
def State.laneDrop (s : State) (n cause : Nat) : State :=
  let x := s.lane n
  let s := s.setLane n { x with want := false, listed := false, reject := cause != 2, peerDrop := cause == 2 }
  let s := ((s.sat Fld.LANE_Ln_WIN.DROP_CNT 1 n).put Fld.LANE_Ln_EVT.DROP 1 n).stage 0x0A01 (leBytes 1 n ++ leBytes 1 cause)
  match (s.lanesIn (n / 4) lnSPARE).find? fun k => (s.lane k).admin = 0 && !(s.lane k).want && k != n with
  | some k => s.setLane k { s.lane k with want := true }
  | none => s

/-- A lane starts to retrain at the port's rate (R478). -/
def State.laneRetrain (s : State) (n : Nat) : State :=
  let x := s.lane n
  let s := s.setLane n { Lane.rest with admin := x.admin, reject := x.reject }
  (s.sat Fld.LANE_Ln_RETR.RETRAIN_CNT 1 n).laneTo n lnRETRAIN

/-- A lane that has left its port retrains, or is off by command (R477, R478, R491). -/
def State.laneLeft (s : State) (n : Nat) : State := if (s.lane n).admin = 2 then s.laneOff n else s.laneRetrain n

/-! ## Bring-up (R471 to R475) -/

/-- LANE_BLOCK_LOCK: 64 valid sync headers in DETECT, or at the target rate after a rate change (R471). -/
def execLaneBlockLock (lane : Nat) (s : State) : Host.Outcome State Fault Refusal :=
  let st := s.lnState lane
  if st = lnDETECT then .next ((s.put Fld.LANE_Ln_STAT.BLOCK_LOCK 1 lane).laneTo lane lnTRAIN_BASE)
  else if st = lnRATE_CHANGE && (s.lane lane).target == some (s.get Fld.LANE_Ln_STAT.RATE lane) then
    .next ((s.put Fld.LANE_Ln_STAT.BLOCK_LOCK 1 lane).laneTo lane lnTRAIN_TARGET)
  else .next s

/-- LANE_NO_PEER: no block lock 100 ms after DETECT began (R472). -/
def execLaneNoPeer (lane : Nat) (s : State) : Host.Outcome State Fault Refusal :=
  .next (if s.lnState lane = lnDETECT then s.laneTo lane lnNO_PEER else s)

/-- LANE_RETRY_TIMER: RETRY_S after NO_PEER or FAILED the lane starts again, at the port's rate while the port is up
(R472, R478). -/
def execLaneRetryTimer (lane : Nat) (s : State) : Host.Outcome State Fault Refusal :=
  let st := s.lnState lane
  .next (if st = lnNO_PEER || st = lnFAILED then s.detect lane (s.portRate (lane / 4)) else s)

/-- Highest rate code that both ends support within a cap (R471 step 2); this end supports every code. -/
def bestRate (peer cap : Nat) : Option Nat := [3, 2, 1, 0].find? fun r => decide (r ≤ cap) && bit peer r

/-- The target of lane n (R471 step 2): the port's rate while it is up, else the best common rate within the segment's
cap, and the lower of the two ends' targets. -/
def State.laneTarget (s : State) (n : Nat) (x : Lane) : Option Nat :=
  let p := n / 4
  let own := if s.portUp p then some (s.portRate p)
    else bestRate x.peerRates (if s.banks.act.isSome && (s.segment p).1 != 0 then (s.segment p).2 else 3)
  match own, x.peerTarget with
  | some a, some b => some (min a b)
  | a, _ => a

/-- One FFE request on a tap: new value and status (R470, R481). -/
def ffeStep (lo hi v req : Nat) : Nat × Nat :=
  if req = 1 then (if v < hi then (v + 1, 1) else (v, 2))
  else if req = 2 then (if lo < v then (v - 1, 1) else (v, 2))
  else (v, 0)

/-- The neighbour's requests in byte 3 of its TRAIN block steer the transmit FFE (R470, R481). -/
def State.ffeRequest (s : State) (n req : Nat) : State :=
  let set := fun (s : State) (a b c : Nat) (st : List Nat) =>
    (((s.put Fld.LANE_Ln_EQ.FFE_PRE a n).put Fld.LANE_Ln_EQ.FFE_MAIN b n).put Fld.LANE_Ln_EQ.FFE_POST c n).setLane n
      { s.lane n with status := st }
  if bit req 6 then set s 0 63 0 [1, 1, 1] else
  let a := ffeStep 0 15 (s.get Fld.LANE_Ln_EQ.FFE_PRE n) (field req 0 2)
  let b := ffeStep 20 63 (s.get Fld.LANE_Ln_EQ.FFE_MAIN n) (field req 2 2)
  let c := ffeStep 0 31 (s.get Fld.LANE_Ln_EQ.FFE_POST n) (field req 4 2)
  set s a.1 b.1 c.1 [a.2, b.2, c.2]

/-- Block errors of a lane (R476): counted, and in the window while the lane is ACTIVE or SPARE. -/
def State.blkErr (s : State) (n k : Nat) : State :=
  let s := s.sat Fld.LANE_Ln_ERR.BLK_ERR k n
  s.when (s.lnState n == lnACTIVE || s.lnState n == lnSPARE) (·.sat Fld.LANE_Ln_WIN.WIN_ERR k n)

/-- The payload of a control block is 8 bytes with its CRC-8 in byte 7 and its type in byte 0 (R467, R470). -/
def markOk (type : Nat) (b : List Byte) : Bool := b.length == 8 && fb b 0 == type && crc8 (b.take 7) == fb b 7

/-- Stores what a block says of the neighbour's port and lane (R474). -/
def State.peerFields (s : State) (n b1 : Nat) : State :=
  let p := n / 4
  let s := (s.put Fld.LANE_Ln_STAT.PEER_LANE (field b1 0 2) n).put Fld.LANE_Ln_STAT.PEER_PORT (field b1 2 1) n
  let same : Bool := field b1 2 1 == p
  let s := (s.put Fld.LANE_Ln_STAT.PEER_VALID 1 n).put Fld.LANE_Pp_STAT.MISMATCH (b2n same) p
  s.when same (·.put Fld.LANE_Ln_EVT.PEER_MISMATCH 1 n)

/-- TRAIN_BLOCK (R470, R471, R474, R481). -/
def execTrainBlock (lane : Nat) (block : List Byte) (s : State) : Host.Outcome State Fault Refusal :=
  let st := s.lnState lane
  if !([lnTRAIN_BASE, lnRATE_CHANGE, lnTRAIN_TARGET, lnRETRAIN].contains st) then .next s
  else if !markOk 0xA4 block then .next ((s.blkErr lane 1).setLane lane { s.lane lane with train := 0 })
  else
    let b1 := fb block 1
    let b2 := fb block 2
    let s := s.peerFields lane b1
    let x := s.lane lane
    let x := { x with
      train := x.train + 1, peerReady := bit b1 3, peerRates := field b2 0 4
      peerTarget := if bit b2 6 then some (field b2 4 2) else none }
    let x := if st = lnTRAIN_BASE then { x with target := s.laneTarget lane x } else x
    let s := s.setLane lane x
    let agreed := 8 ≤ x.train && x.target.isSome && x.target == x.peerTarget
    if st = lnTRAIN_BASE then
      if !agreed || !x.peerReady then .next s
      else if x.target == some (s.get Fld.LANE_Ln_STAT.RATE lane) then .next (s.laneTo lane lnTRAIN_TARGET)
      else .next (s.laneTo lane lnRATE_CHANGE)
    else if st = lnRATE_CHANGE then .next s
    else .next (s.ffeRequest lane (fb block 3))

/-- RATE_CHANGE: 1024 blocks after READY both ways the lane runs at the target and relocks (R471 step 3). -/
def execRateChange (lane : Nat) (s : State) : Host.Outcome State Fault Refusal :=
  match (s.lane lane).target with
  | some r =>
    if s.lnState lane != lnRATE_CHANGE then .next s
    else .next ((s.put Fld.LANE_Ln_STAT.RATE r lane).put Fld.LANE_Ln_STAT.BLOCK_LOCK 0 lane)
  | none => .next s

/-- EQ_TRAIN_DONE: equalisers are trained, and the check starts (R471 steps 4 and 5, R478). -/
def execEqTrainDone (lane : Nat) (s : State) : Host.Outcome State Fault Refusal :=
  let st := s.lnState lane
  if st = lnTRAIN_TARGET then .next ((s.setLane lane { s.lane lane with checked := none }).laneTo lane lnCHECK)
  else if st = lnRETRAIN then .next (s.setLane lane { s.lane lane with checking := true })
  else .next s

/-- A lane that has passed its check joins where there is room, else it becomes a spare, or goes off where spares are
not kept and the lane was no member (R475, R478, R491). -/
def State.lanePass (s : State) (n : Nat) (keepSpare : Bool) : State :=
  let p := n / 4
  let x := { s.lane n with checked := none, checking := false, reject := false, peerDrop := false }
  let members := ((portLanes p).filter fun k => (s.lane k).want).length
  let s := s.setLane n x
  if x.admin = 0 && members < s.laneMax p then s.setLane n { x with want := true }
  else if keepSpare || x.admin = 1 then s.laneTo n lnSPARE
  else s.laneOff n

/-- A lane's check has failed (R472, R478). -/
def State.laneFail (s : State) (n : Nat) : State :=
  let s := s.setLane n { Lane.rest with admin := (s.lane n).admin, reject := (s.lane n).reject }
  ((s.put Fld.LANE_Ln_EVT.CHECK_FAIL 1 n).put Fld.LANE_Ln_STAT.BLOCK_LOCK 0 n).laneTo n lnFAILED

/-- Judges the checks of port p once every lane in CHECK has its outcome (R471 step 6, R472, R475). -/
def State.portJudge (s : State) (p : Nat) : State :=
  let ls := (s.lanesIn p lnCHECK).filter fun n => !(s.lane n).want
  let keep : Bool := s.policy 0x0307 1 == 1
  if ls.any fun n => (s.lane n).checked.isNone then s
  else if ls.any fun n => (s.lane n).checked == some true || s.portUp p then
    s.forEach ls fun n s => if (s.lane n).checked == some true then s.lanePass n keep else s.laneFail n
  else
    s.forEach ls fun n s =>
      let r := s.get Fld.LANE_Ln_STAT.RATE n
      if r = 0 then s.laneFail n
      else
        let s := (s.put Fld.LANE_Ln_EVT.CHECK_FAIL 1 n).setLane n { s.lane n with target := some (r - 1), checked := none }
        s.laneTo n lnRATE_CHANGE

/-- A check has ended with a verdict. -/
def State.checkEnd (s : State) (n : Nat) (pass : Bool) : State :=
  if s.lnState n = lnRETRAIN then (if pass then s.lanePass n true else s.laneFail n)
  else (s.setLane n { s.lane n with checked := some pass }).portJudge (n / 4)

/-- LANE_CHECK_END: a lane's check ends with its count of bit errors (R471, R472, R478). -/
def execLaneCheckEnd (lane errors : Nat) (s : State) : Host.Outcome State Fault Refusal :=
  let st := s.lnState lane
  let x := s.lane lane
  if x.want || !(st = lnCHECK && x.checked.isNone || st = lnRETRAIN && x.checking) then .next s
  else
    let s := s.put Fld.LANE_Ln_RETR.CHECK_ERR (min 0xFFFF errors) lane
    .next (s.checkEnd lane (decide (errors ≤ s.policy 0x0304 4)))

/-! ## Alignment markers (R466 to R469, R477, R478, R480) -/

/-- Lanes of port p that want to join, as both ends list them. -/
def State.joining (s : State) (p : Nat) : List Nat :=
  (portLanes p).filter fun n =>
    let x := s.lane n
    s.lnState n != lnACTIVE && x.want && x.listed && x.peerListed && !x.peerDrop && x.skew ≤ 150

/-- Lanes join the ACTIVE set. -/
def State.laneJoin (s : State) (ns : List Nat) : State :=
  s.forEach ns fun n s => (s.put Fld.LANE_Ln_EVT.JOIN 1 n).laneTo n lnACTIVE

/-- AM: a received alignment marker (R467, R468, R476, R477). -/
def execAm (lane skew : Nat) (block : List Byte) (s : State) : Host.Outcome State Fault Refusal :=
  let st := s.lnState lane
  let p := lane / 4
  if !(st = lnACTIVE || st = lnSPARE || st = lnRETRAIN || (st = lnCHECK && (s.lane lane).want)) then .next s
  else if !markOk 0xA3 block then .next (s.blkErr lane 1)
  else
    let count := leAt block 3 2
    let s := match tabGet? s.lanes.amNext lane with
      | some c => if c = count then s else s.blkErr lane 1
      | none => s
    let s := { s with lanes.amNext := tabSet s.lanes.amNext lane ((count + 1) % 65536) }
    let s := s.peerFields lane (fb block 1)
    let s := s.setLane lane { s.lane lane with skew := skew }
    let widest := (portLanes p).foldl (fun a n => max a (s.lane n).skew) 0
    let s := s.put Fld.LANE_Pp_STAT.SKEW (min 0xFF widest) p
    let act := field (fb block 2) 0 4
    let drop := field (fb block 2) 4 4
    let s := s.forEach (portLanes p) fun n s =>
      if !s.is Fld.LANE_Ln_STAT.PEER_VALID n then s else
      let k := s.get Fld.LANE_Ln_STAT.PEER_LANE n
      let x := s.lane n
      if !bit drop k then s.setLane n { x with peerListed := bit act k }
      else if s.lnState n = lnACTIVE then
        if x.want then s.laneDrop n 2 else s.setLane n { x with peerListed := false }
      else if x.want then s.setLane n { x with peerListed := false, want := false, listed := false, peerDrop := true }
      else s.setLane n { x with peerListed := false }
    let new := s.joining p
    if new = [] then .next s else .next ((s.laneJoin new).setActive p (s.lanesIn p lnACTIVE ++ new))

/-- The AM payload of this end on lane n (R467). -/
def State.amBlock (s : State) (n : Nat) : List Byte :=
  let p := n / 4
  let mask := fun (f : Nat → Bool) => (portLanes p).foldl (fun a k => a + if f k then 2 ^ (k % 4) else 0) 0
  let b := leBytes 1 0xA3 ++ leBytes 1 (n % 4 + 4 * p)
    ++ leBytes 1 (mask (fun k => (s.lane k).want) + 16 * mask fun k => (s.lane k).reject)
    ++ leBytes 2 (s.lanes.amCount.getD p 0) ++ leBytes 1 (s.get Fld.LANE_Ln_STAT.RATE n) ++ leBytes 1 0
  b ++ leBytes 1 (crc8 b)

/-- Lanes of port p that send block groups (R466). -/
def State.grouped (s : State) (p : Nat) : List Nat :=
  (portLanes p).filter fun n =>
    let st := s.lnState n
    st == lnACTIVE || st == lnSPARE || st == lnRETRAIN || (st == lnCHECK && (s.lane n).want)

/-- AM_SEND: port p sends its alignment marker; own changes of the ACTIVE set, drops, spares and rejoining lanes form one
new set there (R466, R477, R478, R480). -/
def execAmSend (port : Nat) (s : State) : Host.Outcome State Fault Refusal :=
  if s.grouped port = [] then .next s else
  let s := { s with lanes.amCount := s.lanes.amCount.set port ((s.lanes.amCount.getD port 0 + 1) % 65536) }
  let s := s.forEach (portLanes port) fun n s => s.setLane n { s.lane n with listed := (s.lane n).want }
  let s := { s with tx := s.tx ++ (s.grouped port).map fun n => PortTx.link port (s.amBlock n) }
  let gone := (s.lanesIn port lnACTIVE).filter fun n => !(s.lane n).want
  let stay := (s.lanesIn port lnACTIVE).filter fun n => (s.lane n).want
  let spares := if gone = [] then [] else (s.lanesIn port lnSPARE).filter fun n => (s.lane n).want
  let new := s.joining port
  let new := new ++ spares.filter fun n => !new.contains n
  let s := (s.forEach gone fun n s => s.laneLeft n).laneJoin new
  .next ((s.setActive port (stay ++ new)).laneDegraded)

/-! ## Monitoring (R476 to R480) -/

/-- A lane outside ACTIVE loses its lock or exceeds its limit: a spare drops and retrains, a check fails (R476, R480). -/
def State.laneTrouble (s : State) (n cause : Nat) : State :=
  let st := s.lnState n
  if st = lnSPARE then (s.laneDrop n cause).laneRetrain n
  else if st = lnRETRAIN || (st = lnCHECK && (s.lane n).want) then s.laneFail n
  else if st = lnCHECK && (s.lane n).checked.isNone then s.checkEnd n false
  else s

/-- LANE_ERROR_LIMIT (R476). -/
def execLaneErrorLimit (lane : Nat) (s : State) : Host.Outcome State Fault Refusal :=
  let st := s.lnState lane
  if !([lnCHECK, lnACTIVE, lnSPARE, lnRETRAIN].contains st) then .next s else
  let s := s.put Fld.LANE_Ln_EVT.ERR_LIMIT 1 lane
  if st = lnACTIVE then .next (if (s.lane lane).want then s.laneDrop lane 1 else s)
  else .next (s.laneTrouble lane 1)

/-- LANE_LOCK_LOSS (R476): with no accepted lane left the port is down at once (R479). -/
def execLaneLockLoss (lane : Nat) (s : State) : Host.Outcome State Fault Refusal :=
  let st := s.lnState lane
  let p := lane / 4
  if st = lnTRAIN_BASE || st = lnTRAIN_TARGET then .next (s.detect lane (s.portRate p))
  else if !([lnCHECK, lnACTIVE, lnSPARE, lnRETRAIN].contains st) then .next s
  else
    let s := (s.put Fld.LANE_Ln_EVT.LOCK_LOSS 1 lane).put Fld.LANE_Ln_STAT.BLOCK_LOCK 0 lane
    if st != lnACTIVE then .next (s.laneTrouble lane 0)
    else
      let s := if (s.lane lane).want then s.laneDrop lane 0 else s
      if (s.lanesIn p lnACTIVE).all fun n => (s.lane n).reject then .next (s.setActive p []) else .next s

/-! ## Adaptation and tests (R481, R482, R488 to R490) -/

/-- DFE tap registers and bounds (R481). -/
def dfeTaps : List (Field × Int) :=
  [(Fld.LANE_Ln_DFE.TAP1, 31), (Fld.LANE_Ln_DFE.TAP2, 20), (Fld.LANE_Ln_DFE.TAP3, 12), (Fld.LANE_Ln_DFE.TAP4, 8),
   (Fld.LANE_Ln_DFE.TAP5, 6)]

/-- ADAPT_WINDOW: 65,536 received bits: density, diversity, sync-header and block errors, checker errors, and the values
that adaptation arrives at. The thresholds of one window hold for the next (R476, R481, R482, R490). -/
def execAdaptWindow (lane td div shErr blkErr bitErr : Nat) (ctle : Int) (taps : List Int) (s : State) :
    Host.Outcome State Fault Refusal :=
  let st := s.lnState lane
  if pstate st = 2 then .next s else
  let frozen := s.is Fld.LANE_Ln_STAT.FROZEN lane
  let move := fun (s : State) (f : Field) (lo hi v : Int) =>
    let s := s.put f (unsigned f.width (clampInt lo hi v)) lane
    s.when (decide (v < lo) || decide (hi < v)) (·.put Fld.LANE_Ln_EVT.TAP_BOUND 1 lane)
  let s := if frozen || st = lnSPARE then s else
    (move s Fld.LANE_Ln_EQ.CTLE 0 15 ctle).forEach (dfeTaps.zip taps) fun e s => move s e.1.1 (-e.1.2) e.1.2 e.2
  let low : Bool := decide (td < s.policy 0x0305 77) || decide (div < s.policy 0x0306 48)
  let s := (s.put Fld.LANE_Ln_ADAPT.TD (min 255 td) lane).put Fld.LANE_Ln_ADAPT.DIV div lane
  let s := (s.put Fld.LANE_Ln_STAT.FROZEN (b2n low) lane).when (low && !frozen) (·.put Fld.LANE_Ln_EVT.FREEZE 1 lane)
  let s := if st = lnACTIVE || st = lnSPARE then
      let s := (s.sat Fld.LANE_Ln_ERR.SH_ERR shErr lane).sat Fld.LANE_Ln_ERR.BLK_ERR blkErr lane
      let w := (s.lane lane).windows + 1
      let s := s.setLane lane { s.lane lane with windows := w % 16896 }
      if w = 16896 then s.put Fld.LANE_Ln_WIN.WIN_ERR 0 lane else s.sat Fld.LANE_Ln_WIN.WIN_ERR (shErr + blkErr) lane
    else s
  if st != lnTEST || s.get Fld.LANE_Ln_TEST.CHK lane = 0 then .next s else
  let w := (s.lane lane).prbsWindows + 1
  let s := (s.sat Fld.LANE_Ln_PRBS_ERR.ERR bitErr lane).setLane lane { s.lane lane with prbsWindows := w % 16 }
  .next (s.when (w == 16) (·.sat Fld.LANE_Ln_PRBS_BITS.BITS 1 lane))

/-- PRBS_RESYNC (R490). -/
def execPrbsResync (lane : Nat) (s : State) : Host.Outcome State Fault Refusal :=
  .next (if s.lnState lane = lnTEST then s.put Fld.LANE_Ln_EVT.PRBS_RESYNC 1 lane else s)

/-- LANE_CNT_CLR (R493). -/
def execLaneCntClr (lane : Nat) (s : State) : Host.Outcome State Fault Refusal :=
  if !s.mapOpen then .next s else
  .next (((s.wr Reg.LANE_Ln_ERR 0 lane).put Fld.LANE_Ln_WIN.DROP_CNT 0 lane).put Fld.LANE_Ln_RETR.RETRAIN_CNT 0 lane)

/-- LANE_PRBS_CLR (R490). -/
def execLanePrbsClr (lane : Nat) (s : State) : Host.Outcome State Fault Refusal :=
  if !s.mapOpen then .next s else
  .next ((s.wr Reg.LANE_Ln_PRBS_ERR 0 lane).wr Reg.LANE_Ln_PRBS_BITS 0 lane)

/-! ## Commands (R491) -/

/-- An ACTIVE lane leaves its port at once. -/
def State.laneOut (s : State) (n : Nat) : State :=
  let p := n / 4
  let s := s.laneDrop n 3
  s.setActive p ((s.lanesIn p lnACTIVE).filter (· != n))

/-- LANE_TEST ends: the lane runs bring-up (R488). -/
def State.testEnd (s : State) (n : Nat) : State :=
  ((s.wr Reg.LANE_Ln_TEST 0 n).setLane n { s.lane n with admin := 0 }).laneRestart n (s.portRate (n / 4))

/-- The effect of LANE_ADMIN (R491). -/
def State.laneAdmin (s : State) (n mode : Nat) : Answer × State :=
  let p := n / 4
  let st := s.lnState n
  if 7 < n || s.fusedLane n || 2 < mode then ({ status := 3, detail := 3 }, s)
  else if st = lnBLIND then ({ status := 3 }, s)
  else if s.hubState == stRun && mode != 0 && s.lanesIn p lnACTIVE == [n] then ({ status := 5 }, s)
  else
    let x := s.lane n
    let s := s.setLane n { x with admin := mode }
    let s :=
      if mode = 0 then
        if st = lnTEST then s.testEnd n
        else if st = lnOFF || st = lnNO_PEER || st = lnFAILED then s.laneRestart n (s.portRate p)
        else if st = lnSPARE && ((portLanes p).filter fun k => (s.lane k).want).length < s.laneMax p then
          s.setLane n { s.lane n with want := true }
        else s
      else if mode = 1 then s
      else if st = lnACTIVE then (if x.want then s.laneDrop n 3 else s)
      else (s.wr Reg.LANE_Ln_TEST 0 n).laneOff n
    ({ status := 0 }, s)

/-- The effect of LANE_RETRAIN (R491). -/
def State.laneRetrainCmd (s : State) (n : Nat) : Answer × State :=
  if 7 < n || s.fusedLane n then ({ status := 3, detail := 3 }, s)
  else if s.lnState n = lnACTIVE then ({ status := 0 }, if (s.lane n).want then s.laneDrop n 3 else s)
  else if s.lnState n = lnSPARE then ({ status := 0 }, s.laneRetrain n)
  else ({ status := 2 }, s)

/-- The effect of LANE_TEST (R488, R489, R491). -/
def State.laneTest (s : State) (n gen chk loop : Nat) : Answer × State :=
  let st := s.lnState n
  if 7 < n || s.fusedLane n || 5 < gen || 5 < chk || 3 < loop then ({ status := 3, detail := 3 }, s)
  else if !(s.hubState == stMaint || st = lnTEST || (st = lnOFF && (s.lane n).admin = 2)) then ({ status := 2 }, s)
  else if gen = 0 && chk = 0 && loop = 0 then ({ status := 0 }, if st = lnTEST then s.testEnd n else s)
  else
    let s := if st = lnACTIVE then s.laneOut n else s
    let s := s.setLane n { Lane.rest with admin := (s.lane n).admin }
    let s := ((s.put Fld.LANE_Ln_TEST.GEN gen n).put Fld.LANE_Ln_TEST.CHK chk n).put Fld.LANE_Ln_TEST.LOOP loop n
    ({ status := 0 }, s.laneTo n lnTEST)

/-! ## PZ220 leaf (R485 to R487) -/

/-- The leaf of port p. -/
def State.leaf (s : State) (p : Nat) : Leaf := s.lanes.leaves.getD p { ovl := 0, samples := [], live := false }

/-- LEAF_SYNC_CHANGE (R485). -/
def execLeafSyncChange (port : Nat) (sync : Bool) (s : State) : Host.Outcome State Fault Refusal :=
  if s.lnState (4 * port) != lnBLIND then .next s
  else .next ((s.put Fld.LANE_LFp_STAT.SYNC (b2n sync) port).put Fld.LANE_Ln_STAT.BLOCK_LOCK (b2n sync) (4 * port))

/-- LEAF_FRAME: `bytes` run from SEQ to CRC; `violation` tells of a code violation in the frame (R486). -/
def execLeafFrame (port : Nat) (violation : Bool) (bytes : List Byte) (s : State) : Host.Outcome State Fault Refusal :=
  if s.lnState (4 * port) != lnBLIND then .next s
  else if violation || bytes.length != 79 || crc16 (bytes.take 77) != leAt bytes 77 2 then
    .next (s.sat Fld.LANE_LFp_CNT.CRC_CNT 1 port)
  else
    let samples := (List.range 24).map fun c => leAt bytes (5 + 3 * c) 3
    let s := { s with lanes.leaves := s.lanes.leaves.set port { ovl := leAt bytes 2 3, samples := samples, live := true } }
    .next (((s.wrap Fld.LANE_LFp_CNT.FRAME_CNT 1 port).put Fld.LANE_LFp_STAT.SEQ (leAt bytes 0 2) port).put
      Fld.LANE_LFp_STAT.TIMEOUT 0 port)

/-- LEAF_TIMEOUT (R487). -/
def execLeafTimeout (port : Nat) (s : State) : Host.Outcome State Fault Refusal :=
  if s.lnState (4 * port) != lnBLIND then .next s else
  .next (({ s with lanes.leaves := s.lanes.leaves.set port { s.leaf port with live := false } } : State).put
    Fld.LANE_LFp_STAT.TIMEOUT 1 port)

/-- The leaf slots in the Acquire phase, every sample with TUN = 1 (R26, R36, R487). -/
def State.leafSlots (s : State) : State :=
  s.forEach [0, 1] fun p s =>
    if !s.leafPort p then s else
    let x := s.leaf p
    let ok := x.live && s.is Fld.LANE_LFp_STAT.SYNC p
    s.forEach (List.range 24) fun c s =>
      let w := if ok then x.samples.getD c 0 * 256 + 0x40 * b2n (bit x.ovl c) + 4 else invWord rABSENT 1 0
      { s with flow.slot := tabSet s.flow.slot (704 + 24 * p + c) w }

/-! ## States and commits -/

/-- Lanes go to OFF in L2 (R483). -/
def State.lanesOff (s : State) : State :=
  let s := s.forEach [0, 1] fun p s => s.setActive p []
  s.forEach (List.range 8) fun n s => (s.setLane n Lane.rest).laneOff n

/-- Lanes that are not off by command start bring-up (R483). -/
def State.lanesStart (s : State) : State :=
  s.forEach (List.range 8) fun n s => if s.lnState n = lnOFF && (s.lane n).admin != 2 then s.laneRestart n 0 else s

/-- Policy values in force (R492). -/
def State.lanePol (s : State) : State :=
  ((s.put Fld.LANE_POL.ERR_LIMIT (s.policy 0x0301 8)).put Fld.LANE_POL.TD_MIN (s.policy 0x0305 77)).put
    Fld.LANE_POL.DIV_MIN (s.policy 0x0306 48)

/-- The lanes after a commit (R475, R484): a leaf port is blind, a port whose LANES or RATE has changed restarts.
`before` gives each port's segment and whether it was a leaf port. -/
def State.laneCommit (s : State) (before : List ((Nat × Nat) × Bool)) : State :=
  let s := s.forEach [0, 1] fun p s =>
    let now := (s.segment p, s.leafPort p)
    let s := s.put Fld.LANE_Pp_STAT.LEAF (b2n now.2) p
    if before.getD p ((0, 0), false) = now then s
    else if s.portUp p then s.setActive p [] else s.portRestart p
  s.lanePol.laneDegraded

end Sys2Proof.Machine
end

