-- ==== Sys2Proof/Machine/FieldPort.lean ====
section
/-! DEFINITION. Imzer field ports and pods (R536 to R565): discovery, binding, the downlink and uplink messages, cable
delay, pod power, and the meanings of these families' commands. -/

namespace Sys2Proof.Machine

/-! ## Port state -/

def fpOFF : Nat := 0
def fpWAIT : Nat := 1
def fpDISCOVER : Nat := 2
def fpCONFIG : Nat := 3
def fpBOUND : Nat := 4
def fpFOREIGN : Nat := 5
def fpFAULT : Nat := 6
def fpLOST : Nat := 7

/-- A port at rest. -/
def FieldPort.rest : FieldPort :=
  { vals := [], accepted := 0, discards := 0, ping := none, rtt := none, cmd := none, todo := [], cseq := 0, good := false
    fb := none, cfgOk := false, adopted := none, firstType := none, off := false, foreignOff := false, cycling := false
    ocRun := 0, ocAt := 0, latched := false, tick := none, sawTick := false, slice := 0, ranges := [], gsettle := [] }

/-- Field port p. -/
def State.fport (s : State) (p : Nat) : FieldPort := tabGet s.fieldPorts.ports FieldPort.rest p

/-- Stores port p. -/
def State.setFport (s : State) (p : Nat) (x : FieldPort) : State :=
  { s with fieldPorts.ports := tabSet s.fieldPorts.ports p x }

/-- LSTATE of port p (R550). -/
def State.lstate (s : State) (p : Nat) : Nat := s.get Fld.FLD_Pp_STAT.LSTATE p

/-- A bit of a mask register field set or cleared. -/
def maskBit (m i : Nat) (on : Bool) : Nat := if bit m i == on then m else if on then m + 2 ^ i else m - 2 ^ i

/-- The FILTER chains of port p that the active Pattern has. -/
def State.portChains (s : State) (p : Nat) : List Nat :=
  ((s.units cFILTER).map (·.inst)).filter fun c => 100 ≤ c && podPort c == p

/-- Puts port p into a state: FLD_STAT.BOUND follows, and outside BOUND its chains do not run (R554). -/
def State.toLstate (s : State) (p st : Nat) : State :=
  let s := s.put Fld.FLD_Pp_STAT.LSTATE st p
  let s := s.put Fld.FLD_STAT.BOUND (maskBit (s.get Fld.FLD_STAT.BOUND) p (st == fpBOUND))
  if st = fpBOUND then s else s.forEach (s.portChains p) fun c s => s.put Fld.FLT_CHc_CFG.ACTIVE 0 c

/-- Sets a flag of FLD_Pp_EVT (R565, source 103). -/
def State.fevt (s : State) (f : Field) (p : Nat) : State := s.evt f 103 p

/-! ## Units of a port (R135, R549) -/

/-- Units of a class in a list. -/
def ofClass (us : List PatUnit) (cls : Nat) : List PatUnit := us.filter fun u => u.cls == cls

/-- The POD_BINDING unit of port p. -/
def bindingOf (us : List PatUnit) (p : Nat) : Option PatUnit := (ofClass us cPOD_BINDING).find? fun u => u.inst == p

/-- Channels of port p in a FORMAT, ascending. -/
def channelsOf (us : List PatUnit) (p fmt : Nat) : List Nat :=
  (List.range 32).filter fun c =>
    (ofClass us cPOD_CHANNEL).any fun u => u.inst == 32 * p + c && u.p 0 0 1 == fmt

/-- OUTPUT units of port p, ascending. -/
def outputsOf (us : List PatUnit) (p : Nat) : List PatUnit :=
  (List.range 4).filterMap fun o => (ofClass us cOUTPUT).find? fun u => u.inst == 16 + 4 * p + o

/-- What of the units of port p a pod is configured with (R555). -/
def layoutOf (us : List PatUnit) (p : Nat) : List (Nat × Nat × List Nat) :=
  (us.filter fun u => (u.cls == cPOD_CHANNEL && u.inst / 32 == p) || (u.cls == cOUTPUT && 16 ≤ u.inst && (u.inst - 16) / 4 == p)
    || (u.cls == cPOD_BINDING && u.inst == p)).map fun u => (u.id, u.inst, u.params)

/-- The units of the active Pattern. -/
def State.patUnits (s : State) : List PatUnit :=
  match s.banks.act with
  | none => []
  | some p => p.units

def bindMode (u : PatUnit) : Nat := u.p 0 0 2
def bindDual (u : PatUnit) : Bool := u.p 0 2 1 == 1
def bindPower (u : PatUnit) : Bool := u.p 0 3 1 == 1
def bindLimit (u : PatUnit) : Nat := u.p 1 0 6
def bindSerial (u : PatUnit) : Nat := u.params.getD 2 0 + 2 ^ 32 * u.params.getD 3 0
def bindType (u : PatUnit) : Nat := u.p 4 0 16

/-- b_K and L_K (R542). -/
def sliceBits (k : Nat) : Nat := [0, 3, 5, 7, 10, 12, 14, 17, 19].getD k 0
def sliceBytes (k : Nat) : Nat := [0, 2, 3, 4, 5, 6, 7, 9, 10].getD k 0

/-- U of R545: load of a port in characters per tick. -/
def uplinkLoad (us : List PatUnit) (p n : Nat) : Nat :=
  let k := (channelsOf us p 0).length
  (if k = 0 then 0 else n / 4 * (5 + sliceBytes k)) + 14 + 4 * (channelsOf us p 1).length + 6 * (outputsOf us p).length

/-- A of R545. -/
def uplinkRoom (n : Nat) : Nat := 3125 * n / 768 - 4

/-! ## Descriptor (R549, R551) -/

/-- Byte b of the descriptor copy of port p. -/
def State.descByte (s : State) (p b : Nat) : Nat := s.podDesc p (b / 4) / 2 ^ (8 * (b % 4)) % 256

/-- Serial and type of the pod last read. -/
def State.podSerial (s : State) (p : Nat) : Nat := s.podDesc p 2 + 2 ^ 32 * s.podDesc p 3
def State.podType (s : State) (p : Nat) : Nat := s.podDesc p 1 / 65536

/-- PFLAGS.OWN_POWER of the pod last read. -/
def State.ownPower (s : State) (p : Nat) : Bool := bit (s.descByte p 0x1B) 1

/-- The first check of R551 that the pod of port p fails against a unit list, 0 when it is accepted. -/
def State.podCheck (s : State) (us : List PatUnit) (n p : Nat) : Nat :=
  match bindingOf us p with
  | none => 0
  | some u =>
    let x := s.fport p
    let bytes := ofWords ((List.range 64).map (s.podDesc p))
    let serial := s.podSerial p
    let type := s.podType p
    let wantSerial := (x.adopted.map (·.1)).getD (bindSerial u)
    let wantType := (x.adopted.map (·.2)).getD (bindType u)
    let caps := fun c => s.descByte p (0x40 + 4 * c)
    let bad := fun fmt => (channelsOf us p fmt).any fun c => s.descByte p 0x18 ≤ c || !bit (caps c) fmt
    if s.podDesc p 0 != 0x445A4D49 || s.descByte p 4 != 1 || crc32 (bytes.take 252) != s.podDesc p 63 then 1
    else if bindMode u = 0 && serial != wantSerial then 2
    else if (wantType != 0 && type != wantType)
        || (bindMode u = 1 && serial != wantSerial && (match x.firstType with | some t => type != t | none => false)) then 3
    else if bad 0 || bad 1 then 4
    else if (outputsOf us p).any fun v =>
        let o := (v.inst - 16) % 4
        s.descByte p 0x19 ≤ o || !bit (s.descByte p (0xC0 + 8 * o)) 0 then 5
    else if s.descByte p 0x1A < (channelsOf us p 0).length then 6
    else if uplinkRoom n < uplinkLoad us p n then 7
    else if bindDual u && !bit (s.descByte p 0x1B) 0 then 8
    else if bindPower u && !s.ownPower p && 24 * bindLimit u < s.podDesc p 7 % 65536 then 9
    else 0

/-! ## Power (R558) -/

/-- The condition under which FLDp_PWREN is high. -/
def State.wantPower (s : State) (p : Nat) : Bool :=
  match s.unitAt cPOD_BINDING p with
  | none => false
  | some u =>
    let x := s.fport p
    bindPower u && s.inStates [stArmed, stRun, stSafe, stMaint] && s.lstate p != fpFAULT && !x.off && !x.foreignOff && !x.cycling

/-- Drives FLDp_PWREN. -/
def State.setPower (s : State) (p : Nat) (on : Bool) : State :=
  let s := s.put Fld.FLD_Pp_STAT.PWREN (b2n on) p
  s.put Fld.FLD_STAT.POWERED (maskBit (s.get Fld.FLD_STAT.POWERED) p on)

/-- FLDp_PWREN goes low where its condition no longer holds; it rises by POD_POWER_ON. -/
def State.dropPower (s : State) (p : Nat) : State := if s.wantPower p then s else s.setPower p false

/-- POD_POWER_ON (R558). -/
def execPodPowerOn (port : Nat) (s : State) : Host.Outcome State Fault Refusal :=
  .next (if s.wantPower port then s.setPower port true else s)

/-! ## Downlink messages (R538 to R540, R548) -/

/-- A downlink message: start character, body and CRC-16. -/
def State.podSend (s : State) (p start : Nat) (body : List Byte) : State :=
  { s with tx := s.tx ++ [.pod p (leBytes 1 start ++ body ++ leBytes 2 (crc16 body))] }

/-- The CMD message of a command. -/
def State.sendFieldCmd (s : State) (p : Nat) (c : FieldCmd) : State :=
  s.podSend p 0x5C (leBytes 1 c.cseq ++ leBytes 1 c.opc ++ leBytes 1 c.args.length ++ c.args)

/-- The arguments of CONFIG with its effective tick (R548). -/
def configArgs (us : List PatUnit) (p f : Nat) : List Byte :=
  let map := (List.range 32).map fun c =>
    BitVec.ofNat 8 (if (channelsOf us p 0).contains c then 1 else if (channelsOf us p 1).contains c then 2 else 0)
  let outs := (outputsOf us p).foldl (fun a v => a + 2 ^ ((v.inst - 16) % 4)) 0
  leBytes 6 f ++ map ++ leBytes 1 outs ++ leBytes 1 0

/-- The OUTPUT_CFG commands of port p (R548, R552): the ranks are those of each unit's sources. -/
def outputCmds (us : List PatUnit) (p : Nat) : List (Nat × List Byte) :=
  (outputsOf us p).map fun v =>
    let ranks := ((List.range 8).map (outRank v)).filter (· != 0) ++ (outRem v).map (·.2)
    (3, leBytes 1 ((v.inst - 16) % 4) ++ leBytes 1 (outHold v) ++ leBytes 3 (outPark v / 256) ++ leBytes 1 ranks.length
      ++ ranks.flatMap (leBytes 1))

/-- Sends the next command that waits; a CONFIG without arguments takes F_b = n + 8 (R552). -/
def State.nextFieldCmd (s : State) (p : Nat) : State :=
  let x := s.fport p
  match x.cmd, x.todo with
  | none, (opc, args) :: rest =>
    let f := if args = [] then s.seq.frame + 8 else leAt args 0 6
    let x := if opc = 2 then { x with fb := some f, cfgOk := false } else x
    let args := if opc = 2 && args = [] then configArgs s.patUnits p f else args
    let c : FieldCmd := { cseq := (x.cseq + 1) % 256, opc := opc, args := args, tries := 1 }
    (s.setFport p { x with cmd := some c, todo := rest, cseq := c.cseq }).sendFieldCmd p c
  | _, _ => s

/-- Queues commands in place of those that wait. -/
def State.queueCmds (s : State) (p : Nat) (l : List (Nat × List Byte)) : State :=
  (s.setFport p { s.fport p with todo := l }).nextFieldCmd p

/-! ## Binding (R550 to R555) -/

/-- The port enters DISCOVER (R551): descriptor and t_down are read anew. -/
def State.discover (s : State) (p : Nat) : State :=
  let x := s.fport p
  let s := s.setFport p
    { x with vals := [], accepted := 0, discards := 0, ping := none, rtt := none, cmd := none, good := false, fb := none
             cfgOk := false, tick := none, sawTick := false, slice := 0 }
  let s := (s.put Fld.FLD_Pp_STAT.TDOWN_VALID 0 p).toLstate p fpDISCOVER
  s.queueCmds p ((List.range 4).map fun k => (1, leBytes 1 (64 * k) ++ leBytes 1 64))

/-- With the pod accepted and t_down valid, the hub sends OUTPUT_CFG and CONFIG (R552). -/
def State.fieldAdvance (s : State) (p : Nat) : State :=
  let x := s.fport p
  if s.lstate p = fpDISCOVER && x.good && 4 ≤ x.accepted then
    (s.toLstate p fpCONFIG).queueCmds p (outputCmds s.patUnits p ++ [(2, [])])
  else s

/-- The pod fails R551 (R553). -/
def State.foreign (s : State) (p code : Nat) : State :=
  let s := (s.put Fld.FLD_Pp_TYPE.REJ code p).toLstate p fpFOREIGN
  let s := (s.fevt Fld.FLD_Pp_EVT.FOREIGN p).stage 0x0B02
    (leBytes 1 p ++ leBytes 1 code ++ leBytes 8 (s.podSerial p) ++ leBytes 2 (s.podType p))
  let s := s.setFport p { s.fport p with cmd := none, good := false, foreignOff := s.policy 0x0508 0 == 1 }
  (s.queueCmds p [(4, [])]).dropPower p

/-- The descriptor is read: the pod is checked, and accepted or made FOREIGN (R551, R553). -/
def State.judgePod (s : State) (p : Nat) : State :=
  let serial := s.podSerial p
  let s := ((s.put Fld.FLD_Pp_SERIAL_LO.SERIAL (serial % 2 ^ 32) p).put Fld.FLD_Pp_SERIAL_HI.SERIAL (serial / 2 ^ 32) p)
  let s := (s.put Fld.FLD_Pp_TYPE.POD_TYPE (s.podType p) p).put Fld.FLD_Pp_TYPE.N_OUT (s.descByte p 0x19) p
  let code := s.podCheck s.patUnits s.nPer p
  if code != 0 then s.foreign p code
  else ((s.put Fld.FLD_Pp_TYPE.REJ 0 p).setFport p { s.fport p with good := true }).fieldAdvance p

/-- Chain c starts at this tick with a synchronising reset of a cause, and forms its sample if the tick is its own. -/
def State.startChain (s : State) (c cause : Nat) : State :=
  let s := s.alignEval c true
  if !s.is Fld.FLT_CHc_CFG.ACTIVE c then s else
  let s := s.syncReset c cause
  match s.filterUnit c with
  | some u => if s.ownTick c s.seq.frame then let (w, s) := s.ownSample c; s.setOutput u w else s
  | none => s

/-- The layout of port p comes into force: what it shows, and its chains reset with cause 6 (R280, R552). -/
def State.applyLayout (s : State) (p : Nat) : State :=
  let us := s.patUnits
  let s := s.put Fld.FLD_Pp_TYPE.K (channelsOf us p 0).length p
  let s := (s.put Fld.FLD_Pp_BUDGET.A (uplinkRoom s.nPer) p).put Fld.FLD_Pp_BUDGET.U (uplinkLoad us p s.nPer) p
  let s := s.setFport p { s.fport p with tick := none, sawTick := false, slice := 0, ranges := [], gsettle := [] }
  s.forEach (s.portChains p) fun c s =>
    let fed := if s.is Fld.FLT_CHc_CFG.FORMAT c then s.seq.frame else s.seq.frame * s.nPer
    (s.setChain c { Chain.rest with fed := fed }).startChain c 6

/-- t_down of the filter in 2^-8 ns (R547). -/
def FieldPort.mean (x : FieldPort) : Nat := (roundDiv (x.vals.foldl (· + ·) 0) (2 * max 1 x.vals.length)).toNat

/-- Whether a DUAL binding is not BOUND in RUN (R561). -/
def State.podLinkDegraded (s : State) : State :=
  let bad : Bool := s.hubState == stRun && (s.units cPOD_BINDING).any fun u => bindDual u && s.lstate u.inst != fpBOUND
  if s.is Fld.GLB_DEGRADED.POD_LINK == bad then s
  else s.degrade Fld.GLB_DEGRADED.POD_LINK Fld.GLB_DEGRADED_STICKY.POD_LINK bad

/-- POD_BIND: at FT(F_b), with the CONFIG answered (R552). -/
def execPodBind (port : Nat) (s : State) : Host.Outcome State Fault Refusal :=
  let x := s.fport port
  match x.fb, s.unitAt cPOD_BINDING port with
  | some f, some u =>
    if s.lstate port != fpCONFIG || !x.cfgOk || s.seq.frame < f then .next s else
    let s := (s.put Fld.FLD_Pp_TDOWN.TDOWN x.mean port).setFport port { x with firstType := x.firstType <|> some (s.podType port) }
    let s := (s.podBlocks port).toLstate port fpBOUND
    let s := ((s.fevt Fld.FLD_Pp_EVT.BOUND port).assertEvt u.id 0).classEvt u.id
    let s := s.stage 0x0B01 (leBytes 1 port ++ leBytes 8 (s.podSerial port) ++ leBytes 2 (s.podType port) ++ leBytes 1 0
      ++ leBytes 4 x.mean)
    .next (s.applyLayout port).podLinkDegraded
  | _, _ => .next s

/-- POD_CONFIG_RESEND: the CONFIG was not answered with OK by FT(F_b − 1) (R552). -/
def execPodConfigResend (port : Nat) (s : State) : Host.Outcome State Fault Refusal :=
  let x := s.fport port
  match x.fb with
  | some f =>
    if s.lstate port != fpCONFIG || x.cfgOk || s.seq.frame + 1 < f then .next s
    else .next ((s.setFport port { x with cmd := none }).queueCmds port (x.todo ++ [(2, [])]))
  | none => .next s

/-! ## Link state (R550, R556, R557) -/

/-- UPLINK_SYNC_GAIN (R541, R550, R557). -/
def execUplinkSyncGain (port : Nat) (s : State) : Host.Outcome State Fault Refusal :=
  if !s.is Fld.FLD_Pp_STAT.DN_ON port || s.is Fld.FLD_Pp_STAT.UP_SYNC port then .next s else
  let s := ((s.put Fld.FLD_Pp_STAT.UP_SYNC 1 port).fevt Fld.FLD_Pp_EVT.ATTACH port).wrap Fld.FLD_Pp_CNT2.ATTACH_CNT 1 port
  if s.lstate port = fpWAIT || s.lstate port = fpLOST then .next (s.discover port) else .next s

/-- The link of port p is lost (R556); `cause` is the byte of its POD_DETACH record. -/
def State.linkLost (s : State) (p cause : Nat) : State :=
  let s := s.setFport p { s.fport p with cmd := none, todo := [], good := false, fb := none, cfgOk := false, tick := none }
  let s := s.toLstate p fpLOST
  let s := match s.unitAt cPOD_BINDING p with
    | some u => s.assertNext u.id 0
    | none => s
  ((s.fevt Fld.FLD_Pp_EVT.DETACH p).stage 0x0B03 (leBytes 1 p ++ leBytes 1 cause)).podLinkDegraded

/-- UPLINK_SYNC_LOSS: a BOUND port is lost (R556); a port that was not yet bound waits for the uplink as well (R557). -/
def execUplinkSyncLoss (port : Nat) (s : State) : Host.Outcome State Fault Refusal :=
  if !s.is Fld.FLD_Pp_STAT.UP_SYNC port then .next s else
  let s := s.put Fld.FLD_Pp_STAT.UP_SYNC 0 port
  let st := s.lstate port
  if st = fpBOUND then .next (s.linkLost port 0)
  else if st = fpDISCOVER || st = fpCONFIG || st = fpFOREIGN then
    .next ((s.setFport port { s.fport port with cmd := none, todo := [], good := false }).toLstate port fpLOST)
  else .next s

/-- POD_TICK_MISS: no intact TICK block for 2 consecutive ticks (R556). -/
def execPodTickMiss (port : Nat) (s : State) : Host.Outcome State Fault Refusal :=
  .next (if s.lstate port = fpBOUND then s.linkLost port 1 else s)

/-- POD_NOLOAD: FLDp_ISNS below 0.5 mA for 100 ms (R556). -/
def execPodNoload (port : Nat) (s : State) : Host.Outcome State Fault Refusal :=
  match s.unitAt cPOD_BINDING port with
  | some u =>
    if s.lstate port = fpBOUND && bindPower u && !s.ownPower port then
      .next ((s.fevt Fld.FLD_Pp_EVT.NOLOAD port).linkLost port 2)
    else .next s
  | none => .next s

/-- POD_CMD_TIMEOUT: a command has no response; it is sent again, and after 3 tries the link is lost (R548, R556). -/
def execPodCmdTimeout (port : Nat) (s : State) : Host.Outcome State Fault Refusal :=
  let x := s.fport port
  match x.cmd with
  | none => .next s
  | some c =>
    if c.tries < 3 then
      let c := { c with tries := c.tries + 1 }
      .next ((s.setFport port { x with cmd := some c }).sendFieldCmd port c)
    else
      let s := (s.setFport port { x with cmd := none }).fevt Fld.FLD_Pp_EVT.CMD_FAIL port
      let st := s.lstate port
      if st = fpBOUND || st = fpDISCOVER || st = fpCONFIG then
        .next (({ s with free := s.free + 1 } : State).linkLost port (Config.freeValue s.free % 256))
      else .next (s.nextFieldCmd port)

/-- POD_RESPONSE: CSEQ, STATUS, LEN, data and CRC-16 (R548). -/
def execPodResponse (port : Nat) (bytes : List Byte) (s : State) : Host.Outcome State Fault Refusal :=
  let x := s.fport port
  let len := fb bytes 2
  match x.cmd with
  | none => .next s
  | some c =>
    if bytes.length != 5 + len || crc16 (bytes.take (3 + len)) != leAt bytes (3 + len) 2 || fb bytes 0 != c.cseq then .next s
    else
      let ok : Bool := fb bytes 1 == 0
      let s := s.setFport port { x with cmd := none, cfgOk := if c.opc = 2 then ok else x.cfgOk }
      if c.opc = 1 then
        let k0 := fb c.args 0 / 4
        let words := if ok && len == 64 then toWords 16 ((bytes.drop 3).take 64) else List.replicate 16 0
        let s := s.forEach words.zipIdx fun (w, i) s => s.wr Reg.FLD_Pp_DESCk (BitVec.ofNat 32 w) port (k0 + i)
        if k0 = 48 then .next (s.judgePod port) else .next (s.nextFieldCmd port)
      else .next (s.nextFieldCmd port)

/-! ## Cable delay (R546, R547) -/

/-- ECHO: the K28.3 that answers a PING, with rtt in 2^-8 ns. -/
def execEcho (port rtt : Nat) (s : State) : Host.Outcome State Fault Refusal :=
  let x := s.fport port
  .next (if x.ping.isSome && s.is Fld.FLD_Pp_STAT.UP_SYNC port then s.setFport port { x with rtt := some rtt } else s)

/-- A PING has its result, 2 t_down in 2^-8 ns, or none (R547, R340). -/
def State.pingResult (s : State) (p : Nat) (v : Option Int) : State :=
  let x := { s.fport p with ping := none, rtt := none }
  let near : Bool := match v with
    | some v => decide (x.accepted < 4) || decide ((v - 2 * (x.mean : Int)).natAbs ≤ 1024)
    | none => false
  match v, near with
  | some v, true =>
    let x := { x with vals := (v :: x.vals).take 16, accepted := x.accepted + 1, discards := 0 }
    ((s.setFport p x).put Fld.FLD_Pp_STAT.TDOWN_VALID (b2n (decide (4 ≤ x.accepted))) p).fieldAdvance p
  | _, _ =>
    if x.discards + 1 < 8 then s.setFport p { x with discards := x.discards + 1 } else
    let new := match v with
      | some v => (v / 2).toNat
      | none => x.mean
    let s := (s.setFport p { x with vals := [], accepted := 0, discards := 0 }).put Fld.FLD_Pp_STAT.TDOWN_VALID 0 p
    (s.fevt Fld.FLD_Pp_EVT.TDOWN_JUMP p).stage 0x0B05 (leBytes 1 p ++ leBytes 3 0 ++ leBytes 4 x.mean ++ leBytes 4 new)

/-- t_down in use follows the filter in the House phase of each tick n with n mod 1024 = 0 (R547). -/
def State.fieldHouse (s : State) : State :=
  if s.seq.frame % 1024 != 0 then s else
  s.forEach (s.units cPOD_BINDING) fun u s =>
    let p := u.inst
    s.when (s.lstate p == fpBOUND && s.is Fld.FLD_Pp_STAT.TDOWN_VALID p) (·.put Fld.FLD_Pp_TDOWN.TDOWN (s.fport p).mean p)

/-! ## Uplink (R541 to R545) -/

/-- The chain of FORMAT 0 position q of port p. -/
def State.chainAt (s : State) (p q : Nat) : Nat := 100 + 32 * p + (channelsOf s.patUnits p 0).getD q 0

/-- Slices of the pod's tick that never came (R543). -/
def State.missSlices (s : State) (p n : Nat) : State := s.sat Fld.FLD_Pp_CNT.SLICE_MISS n p

/-- Slices in a tick: none without FORMAT 0 channels. -/
def State.slicesPerTick (s : State) (p : Nat) : Nat := if channelsOf s.patUnits p 0 = [] then 0 else s.nPer / 4

/-- The modulator word of a position in a period (R230, R543). -/
def podWord (k v q : Nat) (ovl : Bool) (range : Nat) (gs : Bool) : Nat :=
  let lvl := if 5 ^ k ≤ v then 4 else (v / 5 ^ q % 5 + 6) % 8
  lvl + 8 * b2n ovl + 16 * range + 64 * b2n gs

/-- Stores the four words of position q of a slice. -/
def State.slicePos (s : State) (p q k0 whole ovl : Nat) (rev : Option Nat) : State :=
  let x := s.fport p
  let k := (channelsOf s.patUnits p 0).length
  let b := sliceBits k
  let mine := match rev with
    | some r => if r % 8 = q then some (field r 3 2, field r 5 2) else none
    | none => none
  let old := x.ranges.getD q 0
  let until_ := x.gsettle.getD q 0
  let rangeOf := fun t => match mine with
    | some (t0, r) => if t0 ≤ t then r else old
    | none => old
  let gsOf := fun t => decide (k0 + t < until_) || (match mine with | some (t0, _) => decide (t0 ≤ t) | none => false)
  let c := s.chainAt p q
  let add := fun (m : Tab Nat) (t : Nat) =>
    tabSet m (k0 + t) (podWord k (whole / 2 ^ (b * t) % 2 ^ b) q (bit ovl q) (rangeOf t) (gsOf t))
  let s := s.setChain c { s.chain c with podIn := (List.range 4).foldl add (s.chain c).podIn }
  match mine with
  | some (t0, r) =>
    s.setFport p { x with ranges := (padList 8 x.ranges).set q r, gsettle := (padList 8 x.gsettle).set q (k0 + t0 + 6) }
  | none => s
where
  padList (n : Nat) (l : List Nat) : List Nat := (l ++ List.replicate n 0).take n

/-- SLICE: `first` of its tick, with a range `event`; `bytes` run from IDX to CRC (R541 to R543). -/
def execSlice (port : Nat) (first event : Bool) (bytes : List Byte) (s : State) : Host.Outcome State Fault Refusal :=
  if s.lstate port != fpBOUND then .next s else
  let x := s.fport port
  let k := (channelsOf s.patUnits port 0).length
  let l := sliceBytes k
  let len := 3 + l + b2n event
  match x.tick with
  | none => .next s
  | some m =>
    let (s, x, m) := if first && !x.sawTick then
        (s.missSlices port (s.slicesPerTick port - x.slice), { x with tick := some (m + 1), slice := 0 }, m + 1)
      else (s, x, m)
    let x := { x with sawTick := if first then false else x.sawTick }
    if bytes.length != len || crc8 (bytes.take (len - 1)) != fb bytes (len - 1) then
      .next ((s.setFport port { x with slice := x.slice + 1 }).missSlices port 1)
    else
      let gap := (fb bytes 0 + 256 - x.slice % 256) % 256
      let i := x.slice + gap
      let s := (s.missSlices port gap).setFport port { x with slice := i + 1 }
      if s.nPer / 4 ≤ i then .next s else
      let rev := if event then some (fb bytes (2 + l)) else none
      let whole := leAt bytes 1 l
      let ovl := fb bytes (1 + l)
      .next (s.forEach (List.range k) fun q s => s.slicePos port q (m * s.nPer + 4 * i) whole ovl rev)

/-- What a TICK block reports of one pod output (R457, R459, R544). -/
def State.podOutput (s : State) (u : PatUnit) (b : List Byte) : State :=
  let o := u.inst
  let s := (s.put Fld.SLU_Oo_APPLIED.WORD (leAt b 0 3 * 256) o).put Fld.SLU_Oo_STAT.WIN_HUB (fb b 3) o
  let s := s.put Fld.SLU_Oo_STAT.STATE (fb b 5) o
  let p := (o - 16) / 4
  match s.banks.act with
  | none => s
  | some pat =>
    match pat.cluster.duals.find? fun d => d.port == p && (d.primary == s.hubId || d.secondary == s.hubId) with
    | none => s
    | some d =>
      if s.hubState != stRun then s else
      let other := if d.primary == s.hubId then d.secondary else d.primary
      let there := bit (fb b 4) (if other < s.hubId then 0 else 1)
      let x := s.slu o
      let old := (x.silent ++ List.replicate 8 0).take 8
      let n := if there then 0 else old.getD 7 0 + 1
      let gone := if there then x.gone.filter (· != 7) else x.gone
      let s := s.setSlu o { x with silent := old.set 7 n, gone := gone }
      s.when (gone != x.gone) (·.partnerDegraded)

/-- POD_TICK_BLOCK: `bytes` run from TSEQ to CRC (R544, R547). A pod that is not bound sends no samples and no outputs. -/
def execPodTickBlock (port : Nat) (bytes : List Byte) (s : State) : Host.Outcome State Fault Refusal :=
  if !s.is Fld.FLD_Pp_STAT.UP_SYNC port || s.lstate port = fpOFF then .next s else
  let us := s.patUnits
  let live : Bool := s.lstate port == fpBOUND
  let pstat := leAt bytes 2 2
  let k1 := if bit pstat 0 && live then channelsOf us port 1 else []
  let outs := if bit pstat 0 && live then outputsOf us port else []
  let len := 12 + 4 * k1.length + 6 * outs.length
  let x := s.fport port
  if (bytes.length != len && (live || bytes.length < 12)) || crc16 (bytes.take (bytes.length - 2)) != leAt bytes (bytes.length - 2) 2 then
    let s := s.sat Fld.FLD_Pp_CNT.TICK_MISS 1 port
    match x.tick with
    | some t => .next ((s.missSlices port (s.slicesPerTick port - x.slice)).setFport port
        { x with tick := some (t + 1), slice := 0, sawTick := true })
    | none => .next s
  else
    let m := s.seq.frame - (s.seq.frame + 65536 - leAt bytes 0 2) % 65536
    let s := s.put Fld.FLD_Pp_STAT.PSTAT pstat port
    let s := match x.tick with
      | some t =>
        if m ≤ t || !live then s else
        (s.sat Fld.FLD_Pp_CNT.TICK_MISS (m - t - 1) port).missSlices port
          (s.slicesPerTick port - x.slice + (m - t - 1) * s.slicesPerTick port)
      | none => s
    let ranges := (List.range 8).map fun q => field (leAt bytes 4 2) (2 * q) 2
    let k := (channelsOf us port 0).length
    let s := s.when (live && x.tick.isSome && x.ranges.take k != ranges.take k) (·.sat Fld.FLD_Pp_CNT2.RANGE_ERR 1 port)
    let arr := signed 16 (leAt bytes 6 2)
    let echo := leAt bytes 8 2
    let s := s.setFport port { x with tick := if live then some m else none, sawTick := true, slice := 0, ranges := ranges }
    let s := s.forEach k1.zipIdx fun (ch, i) s =>
      let c := 100 + 32 * port + ch
      s.setChain c { s.chain c with podIn := tabSet (s.chain c).podIn m (leAt bytes (10 + 4 * i) 4) }
    let s := s.forEach outs.zipIdx fun (u, i) s => s.podOutput u (slice bytes (10 + 4 * k1.length + 6 * i) 6)
    match x.ping with
    | none => .next s
    | some f =>
      if m ≤ f then .next s
      else if f + 1 = m && bit pstat 4 then
        let s := (s.put Fld.FLD_Pp_ECHO.ARR (unsigned 16 arr) port).put Fld.FLD_Pp_ECHO.ECHO echo port
        match x.rtt with
        | some r =>
          let v : Int := (r : Int) + 4 * arr - 4 * (echo : Int)
          let before := (s.fport port).accepted
          let s := s.pingResult port (some v)
          let cable := (((r : Int) - 4 * arr - 4 * (echo : Int)) / 2).toNat
          .next (s.when ((s.fport port).accepted != before && (s.fport port).accepted != 0) (·.put Fld.FLD_Pp_CABLE.CABLE cable port))
        | none => .next (s.pingResult port none)
      else .next (s.pingResult port none)

/-! ## Ticks (R537, R539, R540) -/

/-- The TICK messages of a frame tick. -/
def State.fieldTick (s : State) : State :=
  let n := s.seq.frame
  let every := s.policy 0x0501 64
  let s := s.forEach (s.units cPOD_BINDING) fun u s =>
    let p := u.inst
    if !s.is Fld.FLD_Pp_STAT.DN_ON p then s else
    let x := s.fport p
    let ping : Bool := decide (x.accepted < 4) || n % every == 0
    let s := s.podSend p 0xBC (leBytes 6 n ++ leBytes 1 (b2n ping + 2 * b2n s.fieldPorts.step) ++ leBytes 1 0)
    s.when (ping && x.ping.isNone) (·.setFport p { x with ping := some n, rtt := none })
  { s with fieldPorts.step := false }

/-- The setpoints of a tick, or PARK_NOW outside RUN, in ascending output order (R456, R540). -/
def State.fieldEmit (s : State) : State :=
  let run : Bool := s.hubState == stRun
  s.forEach (s.units cPOD_BINDING) fun u s =>
    let p := u.inst
    if !s.is Fld.FLD_Pp_STAT.DN_ON p then s else
    s.forEach (outputsOf s.patUnits p) fun v s =>
      let o := (v.inst - 16) % 4
      let park : Bool := !run || s.is Fld.SLU_Oo_STAT.FORCED v.inst
      let send := fun (claim word : Nat) => s.podSend p 0xFB (leBytes 1 (o + 4 * b2n park) ++ leBytes 1 s.hubId
        ++ leBytes 2 s.seq.frame ++ leBytes 2 claim ++ leBytes 4 word)
      if park then send 0 0
      else match (s.slu v.inst).best with
        | some (w, c) => send c w
        | none => s

/-! ## Overcurrent (R559) -/

/-- POD_OVERCURRENT: the current has stayed above its limit for OC_MS. -/
def execPodOvercurrent (port : Nat) (s : State) : Host.Outcome State Fault Refusal :=
  if !s.is Fld.FLD_Pp_STAT.PWREN port then .next s else
  let x := s.fport port
  let run := if s.silt.opNs < x.ocAt + 10000000000 then x.ocRun + 1 else 1
  let latched : Bool := decide (s.policy 0x0505 3 ≤ run)
  let s := s.setFport port { x with ocRun := run, ocAt := s.silt.opNs, latched := latched, cmd := none, todo := [] }
  let s := ((s.setPower port false).toLstate port fpFAULT).sat Fld.FLD_Pp_CNT2.OC_CNT 1 port
  let s := (s.fevt Fld.FLD_Pp_EVT.OC port).stage 0x0B04
    (leBytes 1 port ++ leBytes 1 (b2n latched) ++ leBytes 2 (s.get Fld.FLD_Pp_ISNS.MEAN port))
  .next s.podLinkDegraded

/-- POD_OC_RETRY: OC_RETRY_S after a turn-off the port is turned on again. -/
def execPodOcRetry (port : Nat) (s : State) : Host.Outcome State Fault Refusal :=
  if s.lstate port != fpFAULT || (s.fport port).latched then .next s else
  let s := if s.is Fld.FLD_Pp_STAT.UP_SYNC port then s.discover port else s.toLstate port fpWAIT
  .next (if s.wantPower port then s.setPower port true else s)

/-! ## Commands and register writes (R553, R563, R565) -/

/-- The port starts: its downlink runs and it waits for the uplink. -/
def State.fieldStart (s : State) (p : Nat) : State :=
  let s := (s.put Fld.FLD_Pp_STAT.DN_ON 1 p).toLstate p fpWAIT
  if s.is Fld.FLD_Pp_STAT.UP_SYNC p then s.discover p else s

/-- The port is quiet. -/
def State.fieldStop (s : State) (p : Nat) : State :=
  let x := s.fport p
  let s := s.setFport p { FieldPort.rest with
    adopted := x.adopted, firstType := x.firstType, off := x.off, cseq := x.cseq, ocRun := x.ocRun, ocAt := x.ocAt }
  let s := ((s.put Fld.FLD_Pp_STAT.DN_ON 0 p).put Fld.FLD_Pp_STAT.UP_SYNC 0 p).put Fld.FLD_Pp_STAT.TDOWN_VALID 0 p
  ((s.toLstate p fpOFF).dropPower p).podLinkDegraded

/-- The effect of FLD_PORT (R563). -/
def State.fieldPortCmd (s : State) (p action : Nat) : Answer × State :=
  if 15 < p || (s.small && decide (7 < p)) || 2 < action then ({ status := 3, detail := 3 }, s)
  else if (s.unitAt cPOD_BINDING p).isNone then ({ status := 3 }, s)
  else if action = 0 then ({ status := 0 }, (s.setFport p { s.fport p with off := true }).fieldStop p)
  else if action = 1 then
    let x := s.fport p
    ({ status := 0 }, ((s.setFport p
      { x with off := false, foreignOff := false, cycling := false, ocRun := 0, latched := false, cmd := none, todo := [] }).fieldStart
      p).podLinkDegraded)
  else ({ status := 0 }, (s.setFport p { s.fport p with cycling := true }).dropPower p)

/-- FLD_POWER_CYCLE_END: 500 ms after a power cycle began (R563). -/
def execFldPowerCycleEnd (port : Nat) (s : State) : Host.Outcome State Fault Refusal :=
  if !(s.fport port).cycling then .next s else
  let s := s.setFport port { s.fport port with cycling := false }
  .next (if s.wantPower port then s.setPower port true else s)

/-- The effect of FLD_ADOPT (R553, R563). -/
def State.fieldAdopt (s : State) (p : Nat) : Answer × State :=
  let code := s.get Fld.FLD_Pp_TYPE.REJ p
  if 15 < p || (s.small && decide (7 < p)) then ({ status := 3, detail := 3 }, s)
  else if s.lstate p != fpFOREIGN || !(code == 2 || code == 3) then ({ status := 2 }, s)
  else
    let s := s.setFport p { s.fport p with adopted := some (s.podSerial p, s.podType p), foreignOff := false, cmd := none, todo := [] }
    ({ status := 0 }, (s.toLstate p fpDISCOVER).judgePod p)

/-- FLD_CNT_CLR (R565). -/
def execFldCntClr (port : Nat) (s : State) : Host.Outcome State Fault Refusal :=
  if !s.mapOpen then .next s else
  .next (((s.wr Reg.FLD_Pp_CNT 0 port).put Fld.FLD_Pp_CNT2.OC_CNT 0 port).put Fld.FLD_Pp_CNT2.RANGE_ERR 0 port)

/-- The supply currents measured in a tick: port, mean and highest sample in 0.1 mA (R559). -/
def State.fieldCurrents (s : State) (l : List (Nat × Nat × Nat)) : State :=
  s.forEach l fun (p, mean, peak) s =>
    (s.put Fld.FLD_Pp_ISNS.MEAN (min 0xFFFF mean) p).put Fld.FLD_Pp_ISNS.PEAK (max (s.get Fld.FLD_Pp_ISNS.PEAK p) (min 0xFFFF peak)) p

/-! ## Hub states and commits (R537, R550, R555) -/

/-- The hub state has changed: ports run in ARMED, RUN, SAFE and MAINT. -/
def State.fieldStates (s : State) : State :=
  let live := s.inStates [stArmed, stRun, stSafe, stMaint]
  let s := s.forEach (s.units cPOD_BINDING) fun u s =>
    let p := u.inst
    if live then (if s.lstate p = fpOFF && !(s.fport p).off then s.fieldStart p else s)
    else if s.lstate p = fpOFF then s.dropPower p else s.fieldStop p
  s.podLinkDegraded

/-- A commit is scheduled for F: BOUND pods whose layout changes receive the new one, if they pass the check (R555). -/
def State.fieldSchedule (s : State) (us : List PatUnit) (n f : Nat) : State :=
  s.forEach (s.units cPOD_BINDING) fun u s =>
    let p := u.inst
    if s.lstate p != fpBOUND || (bindingOf us p).isNone || layoutOf us p == layoutOf s.patUnits p || s.podCheck us n p != 0 then s
    else s.queueCmds p (outputCmds us p ++ [(2, configArgs us p f)])

/-- A scheduled commit is cancelled: the running configuration is sent again with the same F (R555). -/
def State.fieldCancel (s : State) : State :=
  s.forEach (s.units cPOD_BINDING) fun u s =>
    let p := u.inst
    match (s.fport p).fb with
    | some f =>
      if s.lstate p = fpBOUND && s.seq.frame < f then
        s.queueCmds p (outputCmds s.patUnits p ++ [(2, configArgs s.patUnits p f)])
      else s
    | none => s

/-- The ports at a commit, with the units that were active before (R555). -/
def State.fieldCommit (s : State) (old : List PatUnit) : State :=
  let us := s.patUnits
  let s := s.forEach (List.range 16) fun p s =>
    match bindingOf old p, bindingOf us p with
    | none, none => s
    | some _, none => (s.fieldStop p).setFport p FieldPort.rest
    | none, some _ => s.setFport p FieldPort.rest
    | some a, some b =>
      let s := if a = b then s else s.setFport p { s.fport p with adopted := none, firstType := none }
      if layoutOf old p == layoutOf us p then s.dropPower p
      else
        let s := s.dropPower p
        let st := s.lstate p
        let x := s.fport p
        if st = fpBOUND then
          let code := s.podCheck us s.nPer p
          if code != 0 then s.foreign p code
          else if x.cfgOk && x.fb == some s.seq.frame then s.applyLayout p
          else (s.toLstate p fpCONFIG).queueCmds p (outputCmds us p ++ [(2, [])])
        else if st = fpDISCOVER || st = fpCONFIG then s.discover p
        else if st = fpFOREIGN then (s.toLstate p fpDISCOVER).judgePod p
        else s
  s.fieldStates

end Sys2Proof.Machine
end

