-- ==== Sys2Proof/Machine/Banks.lean ====
section
/-! DEFINITION. The standby bank's window (R98 to R101) and the meanings of the commands that write it. -/

namespace Sys2Proof.Machine

/-- The code of a bank state (R99). -/
def BankState.code : BankState → Nat
  | .empty => 0
  | .writing => 1
  | .checking => 2
  | .checked => 3
  | .rejected => 4
  | .scheduled => 5
  | .previous => 6

/-- Puts the standby bank into a state. -/
def State.bankTo (s : State) (b : BankState) : State :=
  ({ s with banks.stbyState := b } : State).put Fld.PAT_STAT.STBY_STATE b.code

/-- Size of the standby window: 16 MiB (R98). -/
def stbySize : Nat := 2 ^ 24

/-- A write to the standby window; `true` when it is discarded (R100, R101). -/
def State.stbyWrite (s : State) (a : Nat) (bs : List Byte) : Bool × State :=
  match s.banks.stbyState with
  | .checking => (true, s.put Fld.PAT_STAT.WR_DROP 1)
  | .scheduled => (true, s.put Fld.PAT_STAT.WR_DROP 1)
  | st =>
    let s := if st = .writing then s else
      ({ s with banks.stby := [], banks.wlen := 0, banks.stbyPat := none } : State).bankTo .writing
    let len := max s.banks.wlen (a + bs.length)
    let s := { s with banks.stby := Memory.writeN s.banks.stby a bs, banks.wlen := len }
    (false, s.put Fld.PAT_WLEN.WLEN len)

/-- PAT_WDATA_WRITE: a word at PAT_WADDR, which then moves on (R98, R124). -/
def execPatWdataWrite (v : Nat) (s : State) : Host.Outcome State Fault Refusal :=
  if !s.mapOpen then .next s else
  let a := s.get Fld.PAT_WADDR.ADDR
  let (_, s) := s.stbyWrite (4 * a) (leBytes 4 v)
  .next (s.put Fld.PAT_WADDR.ADDR (a + 1))

/-- The standby window's offset in BAR2 of this part (R98). -/
def State.stbyBase (s : State) : Nat := if s.small then 0x70000000 else 0xF0000000

/-- STANDBY_WINDOW_WRITE: a BAR2 write at an offset of the window (R100). -/
def execStandbyWindowWrite (off : Nat) (bytes : List Byte) (s : State) : Host.Outcome State Fault Refusal :=
  if !s.mapOpen then .next s else
  .next (if off + bytes.length ≤ stbySize then (s.stbyWrite off bytes).2 else s)

/-- CAPTURE_MEMORY_WRITE: a BAR2 write to capture memory or to the rest of the reserved region is discarded and counted
(R98, R409); `addr` is the BAR2 offset. A write to the standby window is not one. -/
def execCaptureMemoryWrite (addr : Nat) (s : State) : Host.Outcome State Fault Refusal :=
  .next (if s.stbyBase ≤ addr && addr < s.stbyBase + stbySize then s else s.sat Fld.CAP_STAT.WDROP)

end Sys2Proof.Machine
end

