-- ==== Sys2Proof/Machine/Deflate.lean ====
section
/-! DEFINITION. DEFLATE, zlib and gzip streams as the Wring engine and the loader read and write them (R93, R598, R599,
R601, RFC 1950 to 1952). -/

namespace Sys2Proof.Machine

/-! ## Reading bits -/

/-- A position in a bit stream: bytes not yet begun, the byte in progress, and its bits left. -/
structure BitIn where
  rest : List Byte
  cur : Nat
  left : Nat
deriving DecidableEq, Repr

/-- The next bit, least significant first; none at the end. -/
def BitIn.bit (r : BitIn) : Option (Nat × BitIn) :=
  if r.left = 0 then
    match r.rest with
    | [] => none
    | b :: bs => some (b.toNat % 2, ⟨bs, b.toNat / 2, 7⟩)
  else some (r.cur % 2, ⟨r.rest, r.cur / 2, r.left - 1⟩)

/-- `n` bits, least significant first. -/
def BitIn.bits : (n : Nat) → BitIn → Option (Nat × BitIn)
  | 0, r => some (0, r)
  | n + 1, r =>
    match r.bit with
    | none => none
    | some (b, r) =>
      match BitIn.bits n r with
      | none => none
      | some (v, r) => some (b + 2 * v, r)

/-! ## Huffman codes -/

/-- A canonical code: number of codes per length 1 to 15, and the symbols in code order. -/
structure Huff where
  counts : List Nat
  syms : List Nat
deriving DecidableEq, Repr

/-- The canonical code of a list of lengths. -/
def Huff.ofLengths (ls : List Nat) : Huff :=
  { counts := (List.range 15).map fun k => (ls.filter (· == k + 1)).length
    syms := (List.range 15).flatMap fun k => (ls.zipIdx.filter fun e => e.1 == k + 1).map (·.2) }

/-- Code space left over, in units of 2^-15: none when over-subscribed. -/
def Huff.spare (h : Huff) : Option Nat :=
  let used := h.counts.zipIdx.foldl (fun a (n, k) => a + n * 2 ^ (14 - k)) 0
  if 2 ^ 15 < used then none else some (2 ^ 15 - used)

/-- Over-subscribed codes are invalid, and incomplete ones too unless they have at most one code of length 1. -/
def Huff.valid (h : Huff) : Bool :=
  match h.spare with
  | none => false
  | some 0 => true
  | some _ => decide (h.syms.length ≤ 1) && decide (h.counts.headD 0 = h.syms.length)

/-- What a reading step gives: a value, the input has run out, or the data are invalid. -/
inductive Got (α : Type) where
  | ok (v : α) (r : BitIn)
  | more
  | bad
deriving DecidableEq, Repr

/-- Reads one symbol: lengths left, code so far, first code and index of the present length. -/
def Huff.walk (syms : List Nat) : (counts : List Nat) → (code first index : Nat) → BitIn → Got Nat
  | [], _, _, _, _ => .bad
  | n :: counts, code, first, index, r =>
    match r.bit with
    | none => .more
    | some (b, r) =>
      let code := code + b
      if code < first + n then
        match syms[index + (code - first)]? with
        | some s => .ok s r
        | none => .bad
      else Huff.walk syms counts (2 * code) (2 * (first + n)) (index + n) r

/-- Reads one symbol of a code. -/
def Huff.read (h : Huff) (r : BitIn) : Got Nat := Huff.walk h.syms h.counts 0 0 0 r

/-! ## Inflate -/

/-- Base and extra bits of the length codes 257 to 285. -/
def lenTable : List (Nat × Nat) :=
  [(3, 0), (4, 0), (5, 0), (6, 0), (7, 0), (8, 0), (9, 0), (10, 0), (11, 1), (13, 1), (15, 1), (17, 1), (19, 2), (23, 2),
   (27, 2), (31, 2), (35, 3), (43, 3), (51, 3), (59, 3), (67, 4), (83, 4), (99, 4), (115, 4), (131, 5), (163, 5),
   (195, 5), (227, 5), (258, 0)]

/-- Base and extra bits of the distance codes 0 to 29. -/
def distTable : List (Nat × Nat) :=
  [(1, 0), (2, 0), (3, 0), (4, 0), (5, 1), (7, 1), (9, 2), (13, 2), (17, 3), (25, 3), (33, 4), (49, 4), (65, 5), (97, 5),
   (129, 6), (193, 6), (257, 7), (385, 7), (513, 8), (769, 8), (1025, 9), (1537, 9), (2049, 10), (3073, 10), (4097, 11),
   (6145, 11), (8193, 12), (12289, 12), (16385, 13), (24577, 13)]

/-- Copies `n` bytes from distance `d` back; `out` is reversed. -/
def copyBack (d : Nat) : (n : Nat) → List Byte → List Byte
  | 0, out => out
  | n + 1, out => copyBack d n (out.getD (d - 1) 0 :: out)

/-- Base and extra bits give a length or distance. -/
def withExtra (t : List (Nat × Nat)) (k : Nat) (r : BitIn) : Got Nat :=
  match t[k]? with
  | none => .bad
  | some (base, extra) =>
    match r.bits extra with
    | none => .more
    | some (v, r) => .ok (base + v) r

/-- What blocks give: the output, reversed; or the number of output bytes before the input ran out or failed. -/
inductive Made where
  | ok (out : List Byte) (r : BitIn)
  | more (n : Nat)
  | bad (n : Nat)
deriving DecidableEq, Repr

/-- The symbols of a compressed block up to its end code. -/
def codedBlock (lit dist : Huff) : (fuel : Nat) → List Byte → BitIn → Made
  | 0, out, _ => .more out.length
  | k + 1, out, r =>
    match lit.read r with
    | .more => .more out.length
    | .bad => .bad out.length
    | .ok s r =>
      if s < 256 then codedBlock lit dist k (BitVec.ofNat 8 s :: out) r
      else if s = 256 then .ok out r
      else
        match withExtra lenTable (s - 257) r with
        | .more => .more out.length
        | .bad => .bad out.length
        | .ok len r =>
          match dist.read r with
          | .more => .more out.length
          | .bad => .bad out.length
          | .ok c r =>
            match withExtra distTable c r with
            | .more => .more out.length
            | .bad => .bad out.length
            | .ok d r => if out.length < d then .bad out.length else codedBlock lit dist k (copyBack d len out) r

/-- The fixed codes. -/
def fixedLit : Huff := Huff.ofLengths
  (List.replicate 144 8 ++ List.replicate 112 9 ++ List.replicate 24 7 ++ List.replicate 8 8)
def fixedDist : Huff := Huff.ofLengths (List.replicate 30 5)

/-- Order of the code length code lengths. -/
def clOrder : List Nat := [16, 17, 18, 0, 8, 7, 9, 6, 10, 5, 11, 4, 12, 3, 13, 2, 14, 1, 15]

/-- Reads `n` lengths of 3 bits. -/
def readCl : (n : Nat) → BitIn → Got (List Nat)
  | 0, r => .ok [] r
  | n + 1, r =>
    match r.bits 3 with
    | none => .more
    | some (v, r) =>
      match readCl n r with
      | .ok l r => .ok (v :: l) r
      | g => g

/-- Reads code lengths until `total` stand in `ls` (reversed). -/
def readLengths (cl : Huff) (total : Nat) : (fuel : Nat) → List Nat → BitIn → Got (List Nat)
  | 0, _, _ => .bad
  | k + 1, ls, r =>
    if total ≤ ls.length then (if ls.length = total then .ok ls.reverse r else .bad) else
    match cl.read r with
    | .more => .more
    | .bad => .bad
    | .ok s r =>
      let rep := fun (v base extra : Nat) =>
        match r.bits extra with
        | none => Got.more
        | some (n, r) => readLengths cl total k (List.replicate (base + n) v ++ ls) r
      if s < 16 then readLengths cl total k (s :: ls) r
      else if s = 16 then (match ls with | [] => .bad | v :: _ => rep v 3 2)
      else if s = 17 then rep 0 3 3
      else rep 0 11 7

/-- The codes of a dynamic block. -/
def dynamicCodes (r : BitIn) : Got (Huff × Huff) :=
  match r.bits 14 with
  | none => .more
  | some (v, r) =>
    let nlen := v % 32 + 257
    let ndist := v / 32 % 32 + 1
    let ncl := v / 1024 + 4
    match readCl ncl r with
    | .more => .more
    | .bad => .bad
    | .ok l r =>
      let ls := (List.range 19).map fun s => ((clOrder.zip l).find? fun e => e.1 == s).elim 0 (·.2)
      let cl := Huff.ofLengths ls
      if 286 < nlen || 30 < ndist || cl.spare != some 0 then .bad else
      match readLengths cl (nlen + ndist) (nlen + ndist + 1) [] r with
      | .more => .more
      | .bad => .bad
      | .ok ls r =>
        let lit := Huff.ofLengths (ls.take nlen)
        let dist := Huff.ofLengths (ls.drop nlen)
        if ls.getD 256 0 = 0 || !lit.valid || !dist.valid then .bad else .ok (lit, dist) r

/-- Blocks up to the final one; `out` is reversed. -/
def blocks : (fuel : Nat) → List Byte → BitIn → Made
  | 0, out, _ => .more out.length
  | k + 1, out, r =>
    match r.bits 3 with
    | none => .more out.length
    | some (h, r) =>
      let body : Made :=
        match h / 2 with
        | 0 =>
          let len := leNat (r.rest.take 2)
          if r.rest.length < 4 then .more out.length
          else if len + leNat (slice r.rest 2 2) != 65535 then .bad out.length
          else if r.rest.length < 4 + len then .more (out.length + (r.rest.length - 4))
          else .ok ((slice r.rest 4 len).reverse ++ out) ⟨r.rest.drop (4 + len), 0, 0⟩
        | 1 => codedBlock fixedLit fixedDist (8 * r.rest.length + 9) out r
        | 2 =>
          match dynamicCodes r with
          | .ok (lit, dist) r => codedBlock lit dist (8 * r.rest.length + 9) out r
          | .more => .more out.length
          | .bad => .bad out.length
        | _ => .bad out.length
      match body with
      | .ok out r => if h % 2 = 1 then .ok out r else blocks k out r
      | g => g

/-- A stream's data and the bytes after its last one; or its input has run out, or it fails with a result of R609: both with
the number of output bytes produced. -/
inductive Unpacked where
  | ok (data rest : List Byte)
  | more (n : Nat)
  | bad (result n : Nat)
deriving DecidableEq, Repr

/-- Results of R609 for a failed decompression. -/
def wrHEADER : Nat := 5
def wrDATA : Nat := 6
def wrCHECK : Nat := 7

/-- Inflates a raw stream (RFC 1951). -/
def inflate (bs : List Byte) : Unpacked :=
  match blocks (8 * bs.length + 1) [] ⟨bs, 0, 0⟩ with
  | .ok out r => .ok out.reverse r.rest
  | .more n => .more n
  | .bad n => .bad wrDATA n

/-! ## Wrappers (R598) -/

/-- Adler-32 (RFC 1950). -/
def adler32 (bs : List Byte) : Nat :=
  let (a, b) := bs.foldl (fun (a, b) x => let a := (a + x.toNat) % 65521; (a, (b + a) % 65521)) (1, 0)
  b * 65536 + a

/-- Removes a zlib wrapper. -/
def unzlib (bs : List Byte) : Unpacked :=
  match bs with
  | cmf :: flg :: body =>
    let c := cmf.toNat
    let f := flg.toNat
    if c % 16 != 8 || 7 < c / 16 || (256 * c + f) % 31 != 0 || bit f 5 then .bad wrHEADER 0 else
    match inflate body with
    | .ok d rest =>
      if rest.length < 4 then .more d.length
      else if beNat (rest.take 4) = adler32 d then .ok d (rest.drop 4) else .bad wrCHECK d.length
    | u => u
  | _ => .more 0

/-- A zero-terminated field: the bytes after it. -/
def afterZero : List Byte → Option (List Byte)
  | [] => none
  | b :: bs => if b = 0 then some bs else afterZero bs

/-- The first-difference subfield of an extra field: its N_SLOTS; a subfield that is not supported (R611, R612). -/
inductive FdField where
  | absent
  | slots (n : Nat)
  | unsupported
deriving DecidableEq, Repr

/-- Finds the subfield among the subfields of an extra field. -/
def fdField : (fuel : Nat) → List Byte → FdField
  | 0, _ => .absent
  | k + 1, bs =>
    if bs.length < 4 then .absent else
    let len := leAt bs 2 2
    if leAt bs 0 2 != 0x4450 then fdField k (bs.drop (4 + len))
    else if len != 8 || leAt bs 4 1 != 1 || leAt bs 5 1 != 1 then .unsupported
    else .slots (leAt bs 6 2)

/-- The header of a gzip member: its first-difference subfield and the bytes after it. -/
inductive GzHead where
  | ok (fd : FdField) (rest : List Byte)
  | more
  | bad
deriving DecidableEq, Repr

/-- Reads the header of a gzip member (RFC 1952). -/
def gzHead (bs : List Byte) : GzHead :=
  if bs.length < 10 then .more else
  let flg := leAt bs 3 1
  if leAt bs 0 2 != 0x8B1F || leAt bs 2 1 != 8 || 31 < flg then .bad else
  let r := bs.drop 10
  let xlen := leAt r 0 2
  if bit flg 2 && r.length < 2 + xlen then .more else
  let fd := if bit flg 2 then fdField (xlen + 1) (slice r 2 xlen) else .absent
  let r := if bit flg 2 then r.drop (2 + xlen) else r
  let name := if bit flg 3 then afterZero r else some r
  match name with
  | none => .more
  | some r =>
    match (if bit flg 4 then afterZero r else some r) with
    | none => .more
    | some r =>
      if !bit flg 1 then .ok fd r
      else if r.length < 2 then .more
      else if leAt r 0 2 = crc32 (bs.take (bs.length - r.length)) % 65536 then .ok fd (r.drop 2) else .bad

/-- Undoes the first difference of one word (R612). -/
def fdWord (up : Bool) (p w : Nat) : Nat × Nat :=
  if bit w 7 then (p, w) else
  let v := w / 256 % 2 ^ 24
  if up then let x := (v + p) % 2 ^ 24; (x, x * 256 + w % 256) else (v, (v + 2 ^ 24 - p) % 2 ^ 24 * 256 + w % 256)

/-- The transform of R610 (`up` = false) or its inverse over 64-bit words: `k` sample words of a RECORD are left to come,
the next of them at position `j`. -/
def firstDiff (up : Bool) (slots : Nat) : List Nat → (k j : Nat) → List Nat → List Nat
  | [], _, _, _ => []
  | w :: ws, k, j, p =>
    if k = 0 then
      let record : Bool := w / 2 ^ 16 % 256 == 1 && w / 2 ^ 24 % 256 == 0xFF && w % 256 == 0x80
      w :: firstDiff up slots ws (if record then slots else 0) 0 p
    else
      let lo := fdWord up (p.getD j 0) (w % 2 ^ 32)
      if k = 1 then (lo.2 + w / 2 ^ 32 * 2 ^ 32) :: firstDiff up slots ws 0 0 (p.set j lo.1)
      else
        let hi := fdWord up (p.getD (j + 1) 0) (w / 2 ^ 32)
        (lo.2 + hi.2 * 2 ^ 32) :: firstDiff up slots ws (k - 2) (j + 2) ((p.set j lo.1).set (j + 1) hi.1)

/-- 64-bit little-endian words of a byte list, and the bytes that do not fill one. -/
def words64 (bs : List Byte) : List Nat := (List.range (bs.length / 8)).map fun k => leAt bs (8 * k) 8

/-- A RECORD of N_SLOTS positions that begins at the word list has all its words (R612). -/
def wholeRecords (slots : Nat) : (fuel : Nat) → List Nat → Nat
  | 0, _ => 0
  | f + 1, ws =>
    match ws with
    | [] => 0
    | w :: rest =>
      let n := if w / 2 ^ 16 % 256 == 1 && w / 2 ^ 24 % 256 == 0xFF && w % 256 == 0x80 then (slots + 1) / 2 else 0
      if rest.length < n then 0 else 1 + n + wholeRecords slots f (rest.drop n)

/-- Undoes the first difference on a member's data (R612): a RECORD that is not whole is delivered as it stands. -/
def undoFd (slots : Nat) (data : List Byte) : List Byte :=
  let ws := words64 data
  let n := wholeRecords slots (ws.length + 1) ws
  (firstDiff true slots (ws.take n) 0 0 (List.replicate slots 0)).flatMap (leBytes 8) ++ data.drop (8 * n)

/-- Removes a gzip wrapper, and the pre-transform where its subfield says so. The data before that are what CRC-32 and
ISIZE cover. -/
def gunzip (bs : List Byte) : Unpacked :=
  match gzHead bs with
  | .more => .more 0
  | .bad => .bad wrHEADER 0
  | .ok .unsupported _ => .bad wrHEADER 0
  | .ok fd body =>
    match inflate body with
    | .ok d rest =>
      if rest.length < 8 then .more d.length
      else if leAt rest 0 4 != crc32 d || leAt rest 4 4 != d.length % 2 ^ 32 then .bad wrCHECK d.length
      else .ok (match fd with | .slots n => undoFd n d | _ => d) (rest.drop 8)
    | u => u

/-- Unpacks a stream with the wrapper of a job: 0 raw, 1 zlib, 2 gzip. -/
def unwrap (wrap : Nat) (bs : List Byte) : Unpacked :=
  match wrap with
  | 0 => inflate bs
  | 1 => unzlib bs
  | _ => gunzip bs

/-! ## Compression (R599, R601) -/

/-- Stored blocks of at most 65,535 bytes, the last with BFINAL; without input one fixed block with the end code. -/
def storedBlocks : (fuel : Nat) → List Byte → List Byte
  | 0, _ => []
  | k + 1, bs =>
    let n := min 65535 bs.length
    leBytes 1 (b2n (bs.length ≤ 65535)) ++ leBytes 2 n ++ leBytes 2 (65535 - n) ++ bs.take n
      ++ (if bs.length ≤ 65535 then [] else storedBlocks k (bs.drop 65535))

/-- The raw stream of a compression job. The spec leaves open which matches are found: the stream is free (log entry 12),
but for what R599 and R601 say of it: it unpacks to its input, and it is no longer than stored blocks are. -/
def deflate (level : Nat) (bs : List Byte) : List Byte :=
  if bs = [] then [0x03, 0x00] else
  let stored := storedBlocks (bs.length / 65535 + 1) bs
  let free := Config.deflateStream level bs
  if inflate free = .ok bs [] && free.length ≤ stored.length then free else stored

/-- FLEVEL and XFL of a level (R598). -/
def flevel (level : Nat) : Nat := if level = 1 then 0 else if level ≤ 5 then 1 else if level = 6 then 2 else 3
def xfl (level : Nat) : Nat := if level = 1 then 4 else if level = 9 then 2 else 0

/-- The output of a compression job: stream and wrapper; `fd` is the first-difference subfield, if any. -/
def wrapStream (wrap level : Nat) (fd : List Byte) (data : List Byte) : List Byte :=
  let body := deflate level data
  match wrap with
  | 0 => body
  | 1 =>
    let f := flevel level * 64
    leBytes 1 0x78 ++ leBytes 1 (f + (31 - (0x7800 + f) % 31) % 31) ++ body ++ beBytes 4 (adler32 data)
  | _ =>
    leBytes 2 0x8B1F ++ leBytes 1 8 ++ leBytes 1 (if fd = [] then 0 else 4) ++ leBytes 4 0 ++ leBytes 1 (xfl level) ++ leBytes 1 255
      ++ (if fd = [] then [] else leBytes 2 fd.length ++ fd) ++ body ++ leBytes 4 (crc32 data) ++ leBytes 4 data.length

end Sys2Proof.Machine
end

