-- ==== Sys2Proof/Machine/Queues.lean ====
section
/-! DEFINITION. Queues (R566 to R579) and DMA rings (R583 to R589), and the meanings of these families' commands. -/

namespace Sys2Proof.Machine

/-! ## Queue storage (R566 to R568) -/

/-- A queue without contents. -/
def Queue.rest : Queue := { words := [], w := 0, r := 0, pops := [], stale := none, delay := [] }

/-- Queue q. -/
def State.queue (s : State) (q : Nat) : Queue := tabGet s.host.queues Queue.rest q

/-- log2 of the size of queue q. -/
def State.qLog (s : State) (q : Nat) : Nat := s.get Fld.QUE_Qq_CFG.SIZE_LOG2 q

/-- Stores queue q and shows its pointers, its level and its timer. -/
def State.setQueue (s : State) (q : Nat) (x : Queue) : State :=
  let s := { s with host.queues := tabSet s.host.queues q x }
  let s := (s.put Fld.QUE_Qq_WPTR.PTR x.w q).put Fld.QUE_Qq_RPTR.PTR x.r q
  (s.put Fld.QUE_Qq_LEVEL.LEVEL x.words.length q).put Fld.QUE_Qq_STAT.TIMER (b2n x.stale.isSome) q

/-- Parameters of a QUEUE unit (R135). -/
def queLog (u : PatUnit) : Nat := u.p 0 0 5
def queConsumer (u : PatUnit) : Nat := u.p 0 8 1
def queD (u : PatUnit) : Nat := u.p 0 9 4
def quePhase (u : PatUnit) : Nat := u.p 0 13 10
def queSlots (u : PatUnit) : Nat := u.p 1 0 11
def queRefs (u : PatUnit) : List Nat := (List.range (queSlots u)).map fun k => u.params.getD (5 + k) 0

/-- L has changed: the watermark is evaluated (R577). -/
def State.qCross (s : State) (q : Nat) : State :=
  let l := (s.queue q).words.length
  let wml := s.is Fld.QUE_Qq_WMSTAT.WML q
  let new : Bool := if wml then decide (s.get Fld.QUE_Qq_WM_LO.WM q < l) else decide (s.get Fld.QUE_Qq_WM_HI.WM q ≤ l)
  if new == wml then s else
  let s := (s.put Fld.QUE_Qq_WMSTAT.WML (b2n new) q).sat Fld.QUE_Qq_WMSTAT.XCNT 1 q
  if s.is Fld.QUE_Qq_WMSTAT.WMX q then s else
  let s := (s.put Fld.QUE_Qq_WMSTAT.WMX 1 q).raise q
  match s.unitAt cQUEUE q with
  | some u => s.assertNext u.id 0
  | none => s

/-- The EMPTY marker (R575), a GAP marker, the POISON marker and poisoned data (R569, R572). -/
def emptyMarker : Nat := 0xFF050080
def gapMarker (n : Nat) : Nat := n * 2 ^ 32 + 0xFF020080
def poisonMarker : Nat := 0xFF060080
def poisonData : Nat := 0x0000038000000380

/-- A word as a reader gets it: with a failed parity it is POISON (R572). -/
def QWord.seen (x : QWord) (bad : Bool) : QWord :=
  if bad then (if x.marker then ⟨poisonMarker, true⟩ else ⟨poisonData, false⟩) else x

/-- Parity errors are counted and shown (R572). -/
def State.qPoison (s : State) (q n : Nat) : State :=
  if n = 0 then s else
  ((s.sat Fld.QUE_Qq_CNT.POISON_CNT n q).put Fld.QUE_Qq_STAT.POISON 1 q).put Fld.QUE_STAT.PARITY 1

/-- Removes the oldest word of queue q (R568, R579). -/
def State.qTake (s : State) (q : Nat) : Option QWord × State :=
  let x := s.queue q
  match x.words with
  | [] => (none, s)
  | y :: rest =>
    let r := (x.r + 1) % 2 ^ (s.qLog q + 1)
    (some y, (s.setQueue q { x with words := rest, r := r, stale := if rest = [] then none else some s.silt.opNs }).qCross q)

/-! ## Rings: what carries queue words (R583, R587, R588) -/

/-- A ring at rest. -/
def Ring.rest : Ring := { posted := [], job := none, wseq := 0 }

/-- Ring r. -/
def State.dring (s : State) (r : Nat) : Ring := tabGet s.host.rings Ring.rest r

/-- Stores ring r. -/
def State.setDring (s : State) (r : Nat) (x : Ring) : State := { s with host.rings := tabSet s.host.rings r x }

/-- The rings are paused (R588). -/
def State.dmaPaused (s : State) : Bool :=
  !s.is Fld.DMA_PCIE_STAT.BME || s.host.d3hot || !s.is Fld.DMA_PCIE_STAT.LINK_UP

/-- Ring r transfers. -/
def State.ringRuns (s : State) (r : Nat) : Bool := s.get Fld.DMA_Rr_STAT.STATE r == 1 && !s.dmaPaused

/-- KIND and SRC of a ring. -/
def State.ringKind (s : State) (r : Nat) : Nat := s.get Fld.DMA_Rr_CFG.KIND r
def State.ringSrc (s : State) (r : Nat) : Nat := s.get Fld.DMA_Rr_CFG.SRC r

/-- The to-host ring that carries queue q. -/
def State.boundRing (s : State) (q : Nat) : Option Nat :=
  (List.range 16).find? fun r => s.is Fld.DMA_Rr_CFG.ENABLE r && s.ringKind r == 0 && s.ringSrc r == q

/-- Capture memory of this part ends here (R409). -/
def State.capBytes (s : State) : Nat := s.get Fld.CAP_MEM.SIZE * 4096

/-- A descriptor is valid for its ring (R585, R586). -/
def State.descOk (s : State) (r : Nat) (d : Descriptor) : Bool :=
  let kind := s.ringKind r
  d.addr % 8 == 0 && d.len % 8 == 0 && decide (8 ≤ d.len) && decide (d.len ≤ 16777216) && decide (d.ctl < 4)
    && (if r < 16 && kind = 1 then d.param % 8 == 0 && decide (d.param + d.len ≤ s.capBytes)
        else if 16 ≤ r && kind = 0 then decide (d.param + d.len ≤ stbySize)
        else d.param == 0)

/-- Ring r takes its next posted descriptor; Wring rings are served by the engine (R606, R605). -/
def State.ringNext (s : State) (r : Nat) : State :=
  let x := s.dring r
  match x.job, x.posted with
  | none, d :: rest =>
    if s.ringRuns r && s.ringKind r != 2 then s.setDring r { x with posted := rest, job := some ⟨d, [], 0⟩ } else s
  | _, _ => s

/-- Moves words of the bound queue into the buffer in progress (R587). -/
def State.ringFill (s : State) (r q : Nat) : (fuel : Nat) → State
  | 0 => s
  | k + 1 =>
    let x := s.dring r
    match x.job with
    | none => s
    | some j =>
      if !s.descOk r j.desc || j.desc.len / 8 ≤ j.words.length then s else
      match s.qTake q with
      | (some w, s) => State.ringFill (s.setDring r { x with job := some { j with words := j.words ++ [w] } }) r q k
      | (none, s) => s

/-- Lets ring r work: it takes a descriptor and queue words as they are there. -/
def State.ringPump (s : State) (r : Nat) : State :=
  let s := s.ringNext r
  if r < 16 && s.ringRuns r && s.ringKind r = 0 then s.ringFill r (s.ringSrc r) ((s.queue (s.ringSrc r)).words.length) else s

/-- The completion of the descriptor at HEAD (R584, R586, R589): write-back, counts, notice. -/
def State.ringWriteBack (s : State) (r : Nat) (d : Descriptor) (done status : Nat) (poison gap : Bool) : State :=
  let x := s.dring r
  let head := s.get Fld.DMA_Rr_HEAD.INDEX r
  let base := (s.rd Reg.DMA_Rr_BASE_LO r).toNat + 2 ^ 32 * (s.rd Reg.DMA_Rr_BASE_HI r).toNat
  let addr := base + 32 * (head % 2 ^ s.get Fld.DMA_Rr_CFG.SIZE_LOG2 r) + 0x18
  let wseq := (x.wseq + 1) % 65536
  let flags := 1 + 2 * b2n poison + 4 * b2n gap + 8 * b2n (decide (done < d.len))
  let s := s.setDring r { x with job := none, wseq := wseq }
  let s := { s with host.sent := s.host.sent ++ [HostWrite.writeBack addr done status flags wseq] }
  let s := (s.put Fld.DMA_Rr_HEAD.INDEX (head + 1) r).put Fld.DMA_Rr_STAT.LAST_STATUS status r
  let s := (s.put Fld.DMA_Rr_STAT.DONE 1 r).wrap Fld.DMA_Rr_CNT.DONE_CNT 1 r
  let s := (s.wrap Fld.DMA_Rr_BYTES.BYTES done r).when (status != 0) (·.sat Fld.DMA_Rr_CNT.ERR_CNT 1 r)
  s.when (bit d.ctl 0) (·.raise (64 + r))

/-- The data writes of a buffer (R589). -/
def State.hostData (s : State) (addr : Nat) (bytes : List Byte) : State :=
  if bytes = [] then s else { s with host.sent := s.host.sent ++ [HostWrite.data addr bytes] }

/-- Completes the queue words in the buffer; `bad` lists the words whose parity failed when they were read (R572, R587). -/
def State.ringDrain (s : State) (r status : Nat) (bad : List Nat) : State :=
  match (s.dring r).job with
  | none => s
  | some j =>
    let ws := j.words.zipIdx.map fun (w, i) => w.seen (bad.contains i)
    let nbad := (bad.filter fun i => decide (i < j.words.length)).length
    let gap := ws.any fun w => w.marker && w.data / 2 ^ 16 % 256 == 2
    let s := (s.qPoison (s.ringSrc r) nbad).hostData j.desc.addr (ws.flatMap fun w => leBytes 8 w.data)
    s.ringWriteBack r j.desc (8 * ws.length) status (nbad != 0) gap

/-- A DMA_ERROR record (R588). -/
def State.dmaError (s : State) (r kind status lost : Nat) : State :=
  s.stage 0x0C01 (leBytes 1 r ++ leBytes 1 kind ++ leBytes 1 status ++ leBytes 1 0 ++ leBytes 4 lost)

/-! ## Items (R569 to R571) -/

/-- The bank of an access path (R185). -/
def State.bank (s : State) (p : Path) : PathBank :=
  match p with
  | .pcie => s.bankP
  | .spi => s.bankS
  | .mgmt => s.bankM

/-- Stores the bank of an access path. -/
def State.setBank (s : State) (p : Path) (b : PathBank) : State :=
  match p with
  | .pcie => { s with bankP := b }
  | .spi => { s with bankS := b }
  | .mgmt => { s with bankM := b }

/-- What a pop through a path latches: POP_HI of that path, and POP_STAT (R575, R719). -/
def State.latchPop (s : State) (p : Path) (q hi marker poison : Nat) : State :=
  let s := s.setBank p { s.bank p with popHi := tabSet (s.bank p).popHi q hi }
  ((s.wr Reg.QUE_Qq_POP_STAT 0 q).put Fld.QUE_Qq_POP_STAT.MARKER marker q).put Fld.QUE_Qq_POP_STAT.POISON poison q

/-- The oldest waiting pop takes the oldest word (R575). -/
def State.popServe (s : State) (q : Nat) : State :=
  let x := s.queue q
  match x.pops, x.words with
  | p :: ps, y :: _ =>
    let s := (s.setQueue q { x with pops := ps }).qTake q |>.2
    let s := s.latchPop p.path q (y.data / 2 ^ 32) (b2n y.marker) 0
    { s with host.popData := s.host.popData ++ [(p.path, y.data % 2 ^ 32, if p.wide then y.data / 2 ^ 32 else 0)] }
  | _, _ => s

/-- Writes one word into queue q; a pop that waits takes it (R575, R579). -/
def State.qPut (s : State) (q : Nat) (y : QWord) : State :=
  let x := s.queue q
  let stale := if x.words = [] then some s.silt.opNs else x.stale
  let w := (x.w + 1) % 2 ^ (s.qLog q + 1)
  ((s.setQueue q { x with words := x.words ++ [y], w := w, stale := stale }).qCross q).popServe q

/-- Writes an item, or drops it whole and counts it in a GAP marker (R571). -/
def State.qItem (s : State) (u : PatUnit) (item : List QWord) : State :=
  let q := u.inst
  let x := s.queue q
  let s := if x.words.length + item.length < 2 ^ s.qLog q then s.forEach item fun y s => s.qPut q y
    else
      let s := ((s.sat Fld.QUE_Qq_CNT.DROP 1 q).put Fld.QUE_Qq_STAT.GAP 1 q).classEvt u.id
      match x.words.getLast? with
      | some y =>
        if y.marker && y.data / 2 ^ 16 % 256 == 2 then
          let n := min 0xFFFFFFFF (y.data / 2 ^ 32 + 1)
          s.setQueue q { x with words := x.words.dropLast ++ [⟨gapMarker n, true⟩] }
        else s.qPut q ⟨gapMarker 1, true⟩
      | none => s.qPut q ⟨gapMarker 1, true⟩
  match s.boundRing q with
  | some r => s.ringPump r
  | none => s

/-- A RECORD or EVENT marker of a tick. -/
def tickMarker (kind n : Nat) : QWord := ⟨n % 2 ^ 32 * 2 ^ 32 + 0xFF000080 + kind * 2 ^ 16 + n / 2 ^ 32 % 256 * 2 ^ 8, true⟩

/-- The words of a RECORD (R569). -/
def recordItem (n : Nat) (ws : List Nat) : List QWord :=
  tickMarker 1 n :: (List.range ((ws.length + 1) / 2)).map fun i => ⟨ws.getD (2 * i) 0 + ws.getD (2 * i + 1) 0 * 2 ^ 32, false⟩

/-- The Emit work of one queue (R570). -/
def State.queueEmitOne (s : State) (u : PatUnit) : State :=
  let q := u.inst
  let n := s.seq.frame
  let s := s.when (s.eventIn u.id 0) (·.qItem u [tickMarker 3 n])
  let s := match s.driver u.id 1 with
    | some (v, p) =>
      match tabGet? s.flow.time (256 * v + p) with
      | some t => s.qItem u [⟨t.s % 2 ^ 32 * 2 ^ 32 + 0xFF040080, true⟩, ⟨t.ns + t.s / 2 ^ 32 % 2 ^ 16 * 2 ^ 32, false⟩]
      | none => s
    | none => s
  let refs := queRefs u
  if refs = [] then s else
  let k := if refs.any fun r => refHub r != 0xFF then s.kR else 0
  let x := s.queue q
  let delay := if dueTick (queD u) (quePhase u) n then x.delay ++ [(n, refs.map s.capLocal)] else x.delay
  let due := delay.filter fun e => e.1 + k == n
  let s := s.setQueue q { x with delay := delay.filter fun e => decide (n < e.1 + k) }
  s.forEach due fun (m, loc) s =>
    let ws := (refs.zip loc).map fun (r, w) => if refHub r = 0xFF then w else s.remoteWord (refHub r) (refStream r) (refSlot r)
    (((s.ran u.id).sawWords u.id ws).qItem u (recordItem m ws))

/-- The queues of an Emit phase, in instance order; they are written in ARMED, RUN and SAFE (R570). -/
def State.queueEmit (s : State) : State :=
  if !s.acquires then s else s.forEach ((List.range 64).filterMap (s.unitAt cQUEUE)) fun u s => s.queueEmitOne u

/-! ## Pops (R575) -/

/-- A pop that returns EMPTY. -/
def State.popEmpty (s : State) (q : Nat) (path : Path) (refused : Bool) : State :=
  let s := (s.latchPop path q 0 0 0).put Fld.QUE_Qq_POP_STAT.EMPTY 1 q
  let s := (s.put Fld.QUE_Qq_POP_STAT.REFUSED (b2n refused) q).sat Fld.QUE_Qq_CNT2.EMPTY_CNT 1 q
  { s with host.popData := s.host.popData ++ [(path, emptyMarker, 0)] }

/-- A pop of queue q; `bad` tells that the word's parity fails when it is read (R572, R575). -/
def State.queuePop (s : State) (path : Path) (q : Nat) (wide bad : Bool) : State :=
  if path = .mgmt || !s.mapOpen then { s with host.popData := s.host.popData ++ [(path, 0, 0)] }
  else if !s.is Fld.QUE_Qq_CFG.ACTIVE q || s.is Fld.QUE_Qq_CFG.CONSUMER q || s.is Fld.QUE_Qq_CFG.BOUND q then
    s.popEmpty q path true
  else
    match s.qTake q with
    | (some y, s) =>
      let z := y.seen bad
      let s := (s.qPoison q (b2n bad)).latchPop path q (z.data / 2 ^ 32) (b2n z.marker) (b2n bad)
      { s with host.popData := s.host.popData ++ [(path, z.data % 2 ^ 32, if wide then z.data / 2 ^ 32 else 0)] }
    | (none, s) =>
      if path = .spi || s.get Fld.QUE_STAT.WAIT_NS = 0 then s.popEmpty q path false
      else s.setQueue q { s.queue q with pops := (s.queue q).pops ++ [⟨path, wide⟩] }

/-- QUEUE_POP. -/
def execQueuePop (path : Path) (q : Nat) (wide bad : Bool) (s : State) : Host.Outcome State Fault Refusal :=
  .next (if q < 64 then s.queuePop path q wide bad else s)

/-- POP_WAIT_EXPIRE: the oldest waiting pop of queue q returns EMPTY (R575). -/
def execPopWaitExpire (q : Nat) (s : State) : Host.Outcome State Fault Refusal :=
  let x := s.queue q
  match x.pops with
  | p :: ps => .next ((s.setQueue q { x with pops := ps }).popEmpty q p.path false)
  | [] => .next s

/-! ## Flush, timers and register writes (R576 to R579, R596) -/

/-- Empties queue q (R576). -/
def State.queueFlush (s : State) (q : Nat) : State :=
  let x := s.queue q
  if x.words = [] then s else (s.setQueue q { x with words := [], r := x.w, stale := none }).qCross q

/-- The effect of QUE_FLUSH (R594). -/
def State.queueFlushCmd (s : State) (q : Nat) : Answer × State :=
  if 63 < q then ({ status := 3, detail := 3 }, s)
  else if (s.unitAt cQUEUE q).isNone then ({ status := 3 }, s)
  else ({ status := 0 }, s.queueFlush q)

/-- QUE_CTRL_FLUSH: a write of 1 to QUE_Qq_CTRL.FLUSH (R576). -/
def execQueCtrlFlush (q : Nat) (s : State) : Host.Outcome State Fault Refusal :=
  if !s.mapOpen then .next s else
  .next (s.queueFlush q)

/-- QUE_CNT_CLR (R596). -/
def execQueCntClr (q : Nat) (s : State) : Host.Outcome State Fault Refusal :=
  if !s.mapOpen then .next s else
  .next ((s.wr Reg.QUE_Qq_CNT 0 q).wr Reg.QUE_Qq_CNT2 0 q)

/-- WMX_CLEAR: a write of 1 to WMX clears WMX and XCNT (R577). -/
def execWmxClear (q : Nat) (s : State) : Host.Outcome State Fault Refusal :=
  if !s.mapOpen then .next s else
  .next ((s.put Fld.QUE_Qq_WMSTAT.WMX 0 q).put Fld.QUE_Qq_WMSTAT.XCNT 0 q)

/-- WATERMARK_WRITE: WM_HI or WM_LO, clamped; WM_LO never above WM_HI (R578). -/
def execWatermarkWrite (q : Nat) (hi : Bool) (v : Nat) (s : State) : Host.Outcome State Fault Refusal :=
  if !s.mapOpen then .next s else
  let s := s.put (if hi then Fld.QUE_Qq_WM_HI.WM else Fld.QUE_Qq_WM_LO.WM) (min (2 ^ s.qLog q) (v % 2 ^ 19)) q
  let top := s.get Fld.QUE_Qq_WM_HI.WM q
  .next (if top < s.get Fld.QUE_Qq_WM_LO.WM q then s.put Fld.QUE_Qq_WM_LO.WM top q else s)

/-- A write of QUE_Qq_STALE, clamped (R596). -/
def State.wrStale (s : State) (q v : Nat) : State := s.put Fld.QUE_Qq_STALE.STALE_US (clampNat 1 1000000 (v % 2 ^ 20)) q

/-- STALE_TIMEOUT: STALE_US have passed since the last restart (R579). -/
def execStaleTimeout (q : Nat) (s : State) : Host.Outcome State Fault Refusal :=
  let x := s.queue q
  if x.stale.isNone then .next s else
  .next (((s.setQueue q { x with stale := none }).evt Fld.QUE_Qq_STAT.STALE q q).sat Fld.QUE_Qq_CNT2.STALE_CNT 1 q)

/-! ## Queue units (R566, R576, R577) -/

/-- The placement of the queues: descending size, then ascending instance (R566). -/
def queueBase (us : List PatUnit) (u : PatUnit) : Nat :=
  us.foldl (fun a v => a + if queLog u < queLog v || (queLog v == queLog u && v.inst < u.inst) then 2 ^ queLog v else 0) 0

/-- Shows the placement of every queue and the words in use. -/
def State.queuePlaces (s : State) : State :=
  let us := s.units cQUEUE
  let s := s.forEach us fun u s => s.put Fld.QUE_Qq_CFG.BASE (queueBase us u) u.inst
  s.put Fld.QUE_SRAM.USED (us.foldl (fun a u => a + 2 ^ queLog u) 0)

/-- A QUEUE unit starts. -/
def State.queueStart (s : State) (u : PatUnit) : State :=
  let q := u.inst
  let s := (s.put Fld.QUE_Qq_CFG.ACTIVE 1 q).put Fld.QUE_Qq_CFG.CONSUMER (queConsumer u) q
  let s := (s.put Fld.QUE_Qq_CFG.SIZE_LOG2 (queLog u) q).put Fld.QUE_Qq_CFG.BOUND 0 q
  let s := (s.put Fld.QUE_Qq_WM_HI.WM (u.p 3 0 19) q).put Fld.QUE_Qq_WM_LO.WM (u.p 4 0 19) q
  let s := s.put Fld.QUE_Qq_STALE.STALE_US (u.p 2 0 20) q
  let s := [Reg.QUE_Qq_WMSTAT, Reg.QUE_Qq_STAT, Reg.QUE_Qq_CNT, Reg.QUE_Qq_CNT2, Reg.QUE_Qq_POP_STAT].foldl (fun s r => s.wr r 0 q) s
  let s := s.forEach [Path.pcie, .spi] fun p s => s.setBank p { s.bank p with popHi := tabErase (s.bank p).popHi q }
  let s := s.put Fld.QUE_Qq_WMSTAT.WML (b2n (u.p 3 0 19 == 0)) q
  s.setQueue q Queue.rest

/-- A QUEUE unit ends: its contents are discarded, and waiting pops return EMPTY (R117, R576). The ring that serves it
completes its descriptor with PARTIAL and then waits (R587). -/
def State.queueEnd (s : State) (q : Nat) : State :=
  let s := s.forEach (s.queue q).pops fun p s => s.popEmpty q p.path true
  let s := match s.boundRing q with
    | some r => if (s.dring r).job.isSome then s.ringDrain r 0 [] else s
    | none => s
  let s := s.setQueue q Queue.rest
  let s := [Reg.QUE_Qq_CFG, Reg.QUE_Qq_WM_HI, Reg.QUE_Qq_WM_LO, Reg.QUE_Qq_WMSTAT, Reg.QUE_Qq_STAT, Reg.QUE_Qq_CNT,
    Reg.QUE_Qq_CNT2, Reg.QUE_Qq_STALE].foldl (fun s r => s.wr r 0 q) s
  { s with host.queues := tabErase s.host.queues q }

end Sys2Proof.Machine
end

