-- ==== Sys2Proof/Machine/Wring.lean ====
section
/-! DEFINITION. The Wring engine (R598 to R618): jobs, input, output and commit, and the meanings of its commands. -/

namespace Sys2Proof.Machine

/-! ## Contexts (R602, R618) -/

/-- Parameters of a WRING_JOB unit (R135). -/
def wrgLevel (u : PatUnit) : Nat := u.p 0 0 4
def wrgWrap (u : PatUnit) : Nat := u.p 0 4 2
def wrgFd (u : PatUnit) : Bool := u.p 0 6 1 == 1
def wrgDir (u : PatUnit) : Nat := u.p 0 7 1
def wrgQueue (u : PatUnit) : Nat := u.p 1 0 6
def wrgRing (u : PatUnit) : Nat := u.p 2 0 5

/-- The job in progress of context j. -/
def State.wjob (s : State) (j : Nat) : Option WringJob := tabGet? s.host.wring j

/-- Input bytes of a job. -/
def WringJob.input (w : WringJob) : Nat := if w.expand then w.bytes.length else 8 * w.words.length

/-- Stores the job of context j and shows it. -/
def State.setWjob (s : State) (j : Nat) (w : WringJob) : State :=
  let s := { s with host.wring := tabSet s.host.wring j w }
  let s := s.put Fld.WRG_STAT.BUSY (maskBit (s.get Fld.WRG_STAT.BUSY) j true)
  if w.orphan then s else
  let s := (s.put Fld.WRG_Cj_STAT.BUSY 1 j).put Fld.WRG_Cj_STAT.CUT_PEND (b2n w.cut) j
  s.put Fld.WRG_Cj_IN.BYTES w.input j

/-- A job starts with the register values then in force (R618). -/
def State.wringBegin (s : State) (u : PatUnit) : State :=
  let j := u.inst
  let q := wrgQueue u
  let slots := match s.unitAt cQUEUE q with
    | some v => queSlots v
    | none => 0
  let s := (s.wr Reg.WRG_Cj_IN 0 j).wr Reg.WRG_Cj_OUT 0 j
  s.setWjob j
    { unit := u.id, expand := wrgDir u == 1, level := wrgLevel u, wrap := wrgWrap u, fd := wrgFd u, slots := slots
      queue := q, ring := wrgRing u, start := s.seq.frame, limit := s.get Fld.WRG_Cj_LIMIT.LIMIT j
      maxbuf := s.get Fld.WRG_Cj_MAXBUF.MAXBUF j, words := [], bytes := [], verdict := none, cut := false, orphan := false }

/-! ## Input of compression jobs (R603, R604) -/

/-- Takes `n` words of queue q. -/
def State.qTakeN (s : State) (q : Nat) : (n : Nat) → List QWord × State
  | 0 => ([], s)
  | n + 1 =>
    match s.qTake q with
    | (none, s) => ([], s)
    | (some y, s) =>
      let (l, s) := State.qTakeN s q n
      (y :: l, s)

/-- Reads whole items while there are any and the job takes input; the item that reaches LIMIT is the last (R604). -/
def State.wringRead (s : State) (j : Nat) : (fuel : Nat) → State
  | 0 => s
  | k + 1 =>
    match s.wjob j with
    | none => s
    | some w =>
      if w.expand || w.cut then s else
      match (s.queue w.queue).words with
      | [] => s
      | _ :: rest =>
        let n := 1 + (rest.takeWhile fun y => !y.marker).length
        let (ws, s) := s.qTakeN w.queue n
        let w := { w with words := w.words ++ ws }
        State.wringRead (s.setWjob j { w with cut := decide (w.limit ≤ w.input) }) j k

/-- Lets context j read what its queue holds, and shows whether it is stalled (R574). -/
def State.wringFeed (s : State) (j : Nat) : State :=
  match s.wjob j with
  | none => s
  | some w =>
    let s := s.wringRead j ((s.queue w.queue).words.length)
    if w.expand || w.orphan then s
    else s.put Fld.WRG_Cj_STAT.WAIT_IN (b2n ((s.queue w.queue).words == [] && !(match s.wjob j with | some w => w.cut | none => true))) j

/-- A compression job takes no further input. -/
def State.wringCut (s : State) (j : Nat) : State :=
  match s.wjob j with
  | some w => if w.expand then s else s.setWjob j { w with cut := true }
  | none => s

/-- The WRING_JOB units in instance order. -/
def State.wringUnits (s : State) : List PatUnit := (List.range 16).filterMap (s.unitAt cWRING)

/-- In the Emit phase, before the queues are written: input 0 asserted after the starting tick ends a job's input with
what is in the queue now (R604). -/
def State.wringEmit (s : State) : State :=
  s.forEach s.wringUnits fun u s =>
    match s.wjob u.inst with
    | some w =>
      if !w.orphan && !w.expand && w.start < s.seq.frame && s.eventIn u.id 0 then (s.wringFeed u.inst).wringCut u.inst else s
    | none => s

/-- The House phase: jobs start, and read what is there (R603). -/
def State.wringHouse (s : State) : State :=
  s.forEach s.wringUnits fun u s =>
    let j := u.inst
    let idle := (s.wjob j).isNone
    let starts : Bool := wrgDir u == 0 && s.acquires &&
      (if (s.driver u.id 0).isSome then s.eventIn u.id 0 else (s.queue (wrgQueue u)).words != [])
    ((if idle && starts then s.wringBegin u else s).ran u.id).wringFeed j

/-- WRING_CLOSE_TIMEOUT: the queue has stayed empty for CLOSE_US while the job holds an item (R604). -/
def execWringCloseTimeout (j : Nat) (s : State) : Host.Outcome State Fault Refusal :=
  match s.wjob j with
  | some w =>
    .next (if w.words != [] && (s.queue w.queue).words == [] && s.get Fld.WRG_Cj_CLOSE_US.CLOSE_US j != 0 then s.wringCut j else s)
  | none => .next s

/-! ## The end of a job (R606 to R609) -/

/-- A job ends with a result (R608, R609); `out` counts its output bytes and `check` is its checksum. -/
def State.wringEnd (s : State) (j result out check : Nat) : State :=
  match s.wjob j with
  | none => s
  | some w =>
    let s := { s with host.wring := tabErase s.host.wring j }
    let s := s.put Fld.WRG_STAT.BUSY (maskBit (s.get Fld.WRG_STAT.BUSY) j false)
    let ok : Bool := result == 1
    let s := if ok then s else s.stage 0x0C02 (leBytes 1 j ++ leBytes 1 result ++ leBytes 2 0 ++ leBytes 4 w.input)
    if w.orphan then s else
    let s := (s.wr Reg.WRG_Cj_STAT 0 j).put Fld.WRG_Cj_STAT.RESULT result j
    let s := (s.wrap Fld.WRG_Cj_CNT.JOB_CNT 1 j).put Fld.WRG_Cj_END_LO.FRAME_LO s.seq.frame j
    let s := s.assertNext w.unit 0
    if ok then
      ((s.put Fld.WRG_Cj_EVT.DONE 1 j).put Fld.WRG_Cj_OUT.BYTES out j).put Fld.WRG_Cj_CHECK.CHECK check j |>.countEvt w.unit
    else
      let s := ((s.put Fld.WRG_Cj_EVT.FAIL 1 j).sat Fld.WRG_Cj_CNT.FAIL_CNT 1 j).classEvt w.unit
      if w.expand then s else s.sat Fld.WRG_Cj_LOST.LOST w.input j

/-- Removes the oldest posted descriptor of ring r. -/
def State.unpost (s : State) (r : Nat) : State :=
  let x := s.dring r
  s.setDring r { x with posted := x.posted.drop 1 }

/-- Writes back posted descriptors that are invalid, up to the first valid one (R586). -/
def State.skipBad (s : State) (r : Nat) : (fuel : Nat) → State
  | 0 => s
  | k + 1 =>
    match (s.dring r).posted with
    | [] => s
    | d :: _ => if s.descOk r d then s else ((s.unpost r).ringWriteBack r d 0 1 false false).skipBad r k

/-- Divides output over descriptors, each filled completely before the next: the pieces, or none where the descriptors
do not suffice (R606). -/
def pieces : List Descriptor → List Byte → Option (List (Descriptor × List Byte))
  | _, [] => some []
  | [], _ => none
  | d :: ds, out =>
    match pieces ds (out.drop d.len) with
    | some l => some ((d, out.take d.len) :: l)
    | none => none

/-- Commits the output of job j, or waits for descriptors, or fails with OUT_EXHAUSTED (R606 to R608). -/
def State.wringCommitOut (s : State) (j : Nat) (w : WringJob) (out : List Byte) (check : Nat) : State :=
  let r := w.ring
  if !s.ringRuns r && out != [] then s.put Fld.WRG_Cj_STAT.WAIT_BUF 1 j else
  let s := s.skipBad r ((s.dring r).posted.length)
  let descs := (s.dring r).posted.takeWhile (s.descOk r)
  match pieces (descs.take w.maxbuf) out with
  | some l =>
    let s := s.forEach l fun (d, bs) s => s.hostData d.addr bs
    let s := s.forEach l fun (d, bs) s => (s.unpost r).ringWriteBack r d bs.length 0 false false
    s.wringEnd j 1 out.length check
  | none =>
    if w.maxbuf ≤ descs.length then
      let s := s.forEach (descs.take w.maxbuf) fun d s => (s.unpost r).ringWriteBack r d 0 5 false false
      s.wringEnd j 2 0 0
    else (s.put Fld.WRG_Cj_STAT.WAIT_BUF 1 j).put Fld.WRG_Cj_STAT.BUFS descs.length j

/-- The bytes a compression job's stream covers (R603, R610). -/
def WringJob.covered (w : WringJob) : List Byte :=
  let ws := w.words.map (·.data)
  (if w.fd then firstDiff false w.slots ws 0 0 (List.replicate w.slots 0) else ws).flatMap (leBytes 8)

/-- The first-difference subfield of a job (R611). -/
def State.fdSubfield (s : State) (w : WringJob) : List Byte :=
  if !w.fd then [] else
  leBytes 2 0x4450 ++ leBytes 2 8 ++ leBytes 1 1 ++ leBytes 1 1 ++ leBytes 2 w.slots ++ leBytes 1 w.queue ++ leBytes 1 s.hubId
    ++ leBytes 2 0

/-- The from-host ring that feeds context j. -/
def State.inputRing (s : State) (j : Nat) : Option Nat :=
  (List.range 32).find? fun r => 16 ≤ r && s.is Fld.DMA_Rr_CFG.ENABLE r && s.ringKind r == 2 && s.ringSrc r == j

/-- Descriptors of an input stream up to the one with LAST = 1 (R605). -/
def uptoLast : List Descriptor → List Descriptor
  | [] => []
  | d :: ds => if bit d.ctl 1 then [d] else d :: uptoLast ds

/-- A decompression job fails: its descriptors not yet written back are REFUSED, the one in progress with the bytes
consumed, which the spec does not state (R605; log entry 1). -/
def State.refuseInput (s : State) (j : Nat) : State :=
  match s.inputRing j with
  | none => s
  | some r =>
    let l := uptoLast (s.dring r).posted
    s.forEach l.zipIdx fun (d, i) s =>
      let done := if i = 0 then Config.freeValue s.free % (d.len + 1) else 0
      let s := if i = 0 then { s with free := s.free + 1 } else s
      (s.unpost r).ringWriteBack r d done 4 false false

/-- Job j fails with a result. -/
def State.wringFail (s : State) (j result : Nat) : State :=
  match s.wjob j with
  | none => s
  | some w => (if w.expand then s.refuseInput j else s).wringEnd j result 0 0

/-- CHECK of a decompression job whose stream is `total` (R618): its own trailer, or CRC-32 of the output where the
wrapper has none. -/
def streamCheck (wrap : Nat) (total out : List Byte) : Nat :=
  match wrap with
  | 0 => crc32 out
  | 1 => beNat (slice total (total.length - 4) 4)
  | _ => leAt total (total.length - 8) 4

/-- WRING_JOB_END: the engine has finished; `memErr` tells of an uncorrectable error in its memory (R607 to R609). -/
def execWringJobEnd (j : Nat) (memErr : Bool) (s : State) : Host.Outcome State Fault Refusal :=
  match s.wjob j with
  | none => .next s
  | some w =>
    if memErr then .next ((s.put Fld.WRG_STAT.MEM_ERR 1).wringFail j 0xB)
    else if w.expand then
      match w.verdict with
      | none => .next s
      | some (1, out) => .next (s.wringCommitOut j w out (streamCheck w.wrap w.bytes out))
      | some (k, _) => .next (s.wringFail j k)
    else if !w.cut then .next s
    else
      let data := w.covered
      let out := wrapStream w.wrap w.level (s.fdSubfield w) data
      .next (s.wringCommitOut j w out (if w.wrap = 1 then adler32 data else crc32 data))

/-! ## Decompression input (R605) -/

/-- WRING_DECOMPRESS_START. -/
def execWringDecompressStart (j : Nat) (s : State) : Host.Outcome State Fault Refusal :=
  match s.unitAt cWRING j, s.inputRing j with
  | some u, some r =>
    .next (if wrgDir u = 1 && (s.wjob j).isNone && s.ringRuns r && (s.dring r).posted != [] then s.wringBegin u else s)
  | _, _ => .next s

/-- The engine consumes the oldest posted descriptor of input ring r with the bytes of its buffer (R605). -/
def State.wringInput (s : State) (r : Nat) (bytes : List Byte) : State :=
  let j := s.ringSrc r
  match s.wjob j, (s.dring r).posted with
  | some w, d :: _ =>
    if w.verdict.isSome || !w.expand then s
    else if !s.descOk r d then (s.unpost r).ringWriteBack r d 0 1 false false
    else
      let total := w.bytes ++ padTo d.len bytes
      let last := bit d.ctl 1
      let accept := fun (s : State) => (s.unpost r).ringWriteBack r d d.len 0 false false
      match unwrap w.wrap total with
      | .bad k _ => s.setWjob j { w with verdict := some (k, []) }
      | .more _ =>
        if last then s.setWjob j { w with bytes := total, verdict := some (8, []) }
        else accept (s.setWjob j { w with bytes := total })
      | .ok out rest =>
        let e := total.length - rest.length
        if !last || (8 - e % 8) % 8 < rest.length || rest.any (· != 0) then s.setWjob j { w with verdict := some (9, []) }
        else
          accept (s.setWjob j { w with bytes := total.take e, verdict := some (1, out), cut := true })
  | _, _ => s

/-! ## Commands and register writes (R616 to R618) -/

/-- The effect of WRG_CUT. -/
def State.wringCutCmd (s : State) (j : Nat) : Answer × State :=
  if 15 < j then ({ status := 3, detail := 3 }, s)
  else if (s.unitAt cWRING j).isNone then ({ status := 3 }, s)
  else match s.wjob j with
    | some w => if w.expand then ({ status := 2 }, s) else ({ status := 0 }, s.wringCut j)
    | none => ({ status := 2 }, s)

/-- The effect of WRG_ABORT. -/
def State.wringAbortCmd (s : State) (j : Nat) : Answer × State :=
  if 15 < j then ({ status := 3, detail := 3 }, s)
  else if (s.unitAt cWRING j).isNone then ({ status := 3 }, s)
  else if (s.wjob j).isSome then ({ status := 0 }, s.wringFail j 3) else ({ status := 2 }, s)

/-- WRG_CTRL_CUT (R618). -/
def execWrgCtrlCut (j : Nat) (s : State) : Host.Outcome State Fault Refusal :=
  if !s.mapOpen then .next s else
  .next (s.wringCut j)

/-- WRG_CTRL_ABORT (R618). -/
def execWrgCtrlAbort (j : Nat) (s : State) : Host.Outcome State Fault Refusal :=
  if !s.mapOpen then .next s else
  .next (s.wringFail j 3)

/-- WRG_CNT_CLR (R618). -/
def execWrgCntClr (j : Nat) (s : State) : Host.Outcome State Fault Refusal :=
  if !s.mapOpen then .next s else
  .next ((s.put Fld.WRG_Cj_CNT.FAIL_CNT 0 j).wr Reg.WRG_Cj_LOST 0 j)

/-- Writes of WRG_Cj_LIMIT, CLOSE_US and MAXBUF, clamped (R618). -/
def State.wrWrgLimit (s : State) (j v : Nat) : State := s.put Fld.WRG_Cj_LIMIT.LIMIT (clampNat 1024 67108864 (v % 2 ^ 27)) j
def State.wrWrgClose (s : State) (j v : Nat) : State := s.put Fld.WRG_Cj_CLOSE_US.CLOSE_US (min 1000000 (v % 2 ^ 20)) j
def State.wrWrgMaxbuf (s : State) (j v : Nat) : State := s.put Fld.WRG_Cj_MAXBUF.MAXBUF (clampNat 1 16 (v % 32)) j

/-! ## Commits (R602, R604, R615) -/

/-- A WRING_JOB unit ends at a commit: a compression job takes no further input and commits later, a decompression job
fails with COMMIT. -/
def State.wringUnitEnd (s : State) (j : Nat) : State :=
  let s := match s.wjob j with
    | some w =>
      if w.expand then s.wringFail j 0xA
      else s.setWjob j { w with cut := true, orphan := true }
    | none => s
  [Reg.WRG_Cj_CFG, Reg.WRG_Cj_STAT, Reg.WRG_Cj_EVT, Reg.WRG_Cj_IN, Reg.WRG_Cj_OUT, Reg.WRG_Cj_CHECK, Reg.WRG_Cj_CNT,
    Reg.WRG_Cj_LOST, Reg.WRG_Cj_END_LO].foldl (fun s r => s.wr r 0 j) s

/-- A WRING_JOB unit starts: its configuration shows. -/
def State.wringUnitStart (s : State) (u : PatUnit) : State :=
  let j := u.inst
  let s := (s.put Fld.WRG_Cj_CFG.ACTIVE 1 j).put Fld.WRG_Cj_CFG.SRC_QUEUE (wrgQueue u) j
  let s := (s.put Fld.WRG_Cj_CFG.DST_RING (wrgRing u) j).put Fld.WRG_Cj_CFG.DIR (wrgDir u) j
  let s := (s.put Fld.WRG_Cj_CFG.FIRST_DIFF (b2n (wrgFd u)) j).put Fld.WRG_Cj_CFG.WRAP (wrgWrap u) j
  s.put Fld.WRG_Cj_CFG.LEVEL (wrgLevel u) j

end Sys2Proof.Machine
end

