-- ==== Sys2Proof/Machine/Dma.lean ====
section
/-! DEFINITION. DMA rings, notices and the PCI Express endpoint (R580 to R592), and the meanings of their commands. -/

namespace Sys2Proof.Machine

/-! ## The endpoint's link (R588, R592) -/

/-- GLB_DEGRADED.HEAD: a head hub without its host link, or another head hub that is silent. -/
def State.headDegraded (s : State) : State :=
  let lost : Bool := match s.banks.act with
    | none => false
    | some p =>
      let other := [p.cluster.head0, p.cluster.head1].filter fun h => h < 128 && h != s.hubId
      (s.isHead && !s.is Fld.DMA_PCIE_STAT.LINK_UP) || other.any fun h => s.is Fld.RING_Hh.SILENT h
  if s.is Fld.GLB_DEGRADED.HEAD == lost then s
  else s.degrade Fld.GLB_DEGRADED.HEAD Fld.GLB_DEGRADED_STICKY.HEAD lost

/-! ## Enabling and disabling (R588, R602) -/

/-- The binding that a value of DMA_Rr_CFG asks for is valid. -/
def State.bindOk (s : State) (r kind src : Nat) : Bool :=
  if r < 16 then
    match kind with
    | 0 => (match s.unitAt cQUEUE src with
        | some u => queConsumer u == 0 && (s.boundRing src).isNone
        | none => false)
    | 1 => true
    | 2 => (match s.unitAt cWRING src with
        | some u => wrgRing u == r
        | none => false)
    | _ => false
  else
    match kind with
    | 0 => true
    | 1 => true
    | 2 => (match s.unitAt cWRING src with
        | some u => wrgDir u == 1 && (s.inputRing src).isNone
        | none => false)
    | _ => false

/-- Stores SIZE_LOG2, KIND and SRC. -/
def State.setRingCfg (s : State) (r v : Nat) : State :=
  let s := (s.put Fld.DMA_Rr_CFG.SIZE_LOG2 (clampNat 3 15 (field v 24 4)) r).put Fld.DMA_Rr_CFG.KIND (field v 16 2) r
  s.put Fld.DMA_Rr_CFG.SRC (field v 0 6) r

/-- Fails the Wring job that a ring carries (R608, R609). -/
def State.failRingJobs (s : State) (r : Nat) : State :=
  s.forEach (List.range 16) fun j s =>
    match s.wjob j with
    | some w => if r < 16 && w.ring == r then s.wringFail j 4 else s
    | none => s

/-- A ring leaves its enabled state: the bound queue is free again. -/
def State.ringOff (s : State) (r : Nat) : State :=
  let s := s.when (r < 16 && s.ringKind r == 0) (·.put Fld.QUE_Qq_CFG.BOUND 0 (s.ringSrc r))
  let s := (s.put Fld.DMA_Rr_CFG.ENABLE 0 r).put Fld.DMA_Rr_STAT.STATE 0 r
  s.setDring r Ring.rest

/-- ENABLE = 0: the descriptor in progress completes with ABORTED and the bytes already transferred (R588). -/
def State.ringDisable (s : State) (r : Nat) : State :=
  if !s.is Fld.DMA_Rr_CFG.ENABLE r then s else
  let s := match (s.dring r).job with
    | some j => if r < 16 && s.ringKind r = 0 then s.ringDrain r 3 [] else s.ringWriteBack r j.desc j.done 3 false false
    | none => s
  (s.ringOff r).failRingJobs r

/-- A write of DMA_Rr_CFG (R584, R588). -/
def State.wrDmaCfg (s : State) (r v : Nat) : State :=
  let on := s.is Fld.DMA_Rr_CFG.ENABLE r
  if !bit v 31 then (if on then s.ringDisable r else s.setRingCfg r v)
  else if on then s
  else if !s.bindOk r (field v 16 2) (field v 0 6) then s.put Fld.DMA_Rr_STAT.CFG_ERR 1 r
  else
    let s := ((s.setRingCfg r v).setDring r Ring.rest).put Fld.DMA_Rr_CFG.ENABLE 1 r
    let s := ((s.put Fld.DMA_Rr_STAT.STATE 1 r).wr Reg.DMA_Rr_TAIL 0 r).wr Reg.DMA_Rr_HEAD 0 r
    s.when (r < 16 && s.ringKind r == 0) (·.put Fld.QUE_Qq_CFG.BOUND 1 (s.ringSrc r))

/-- DMA_RING_ENABLE: a write of `v`, with ENABLE = 1. -/
def execDmaRingEnable (r v : Nat) (s : State) : Host.Outcome State Fault Refusal :=
  if !s.mapOpen then .next s else
  .next (s.wrDmaCfg r (if bit v 31 then v else v + 2 ^ 31))

/-- DMA_RING_DISABLE. -/
def execDmaRingDisable (r : Nat) (s : State) : Host.Outcome State Fault Refusal :=
  if !s.mapOpen then .next s else
  .next (s.ringDisable r)

/-- DMA_TAIL_WRITE: posts the descriptors up to `tail`; `descs` are those that the hub reads beyond the posted ones
(R584, R585). -/
def execDmaTailWrite (r tail : Nat) (descs : List Descriptor) (s : State) : Host.Outcome State Fault Refusal :=
  if !s.mapOpen then .next s else
  let head := s.get Fld.DMA_Rr_HEAD.INDEX r
  let n := (tail % 65536 + 65536 - head) % 65536
  if 2 ^ s.get Fld.DMA_Rr_CFG.SIZE_LOG2 r < n then .next (s.put Fld.DMA_Rr_STAT.TAIL_ERR 1 r)
  else
    let s := s.put Fld.DMA_Rr_TAIL.INDEX tail r
    if !s.is Fld.DMA_Rr_CFG.ENABLE r then .next s else
    let x := s.dring r
    let s := s.setDring r { x with posted := (x.posted ++ descs).take (n - b2n x.job.isSome) }
    .next (s.ringPump r)

/-! ## Transfers (R586, R587) -/

/-- Pushes command entries into a loop-back slot's FIFO while there is room: the words left, and how many went. -/
def State.loopPush (s : State) (slot : Nat) : List Nat → Nat × State
  | [] => (0, s)
  | w :: ws =>
    let x := s.slot slot
    if x.fifo.length < 256 then
      let (n, s) := State.loopPush ((s.setSlot slot { x with fifo := x.fifo ++ [w] }).put Fld.LOOP_Sn_STAT.CMD_HELD 0 slot) slot ws
      (n + 1, s)
    else (0, s)

/-- The descriptor in progress of ring r ends, if its transfer can end; `bytes` are what the hub read from a from-host
buffer, `bad` the queue words whose parity failed. -/
def State.ringComplete (s : State) (r : Nat) (bytes : List Byte) (bad : List Nat) : State :=
  match (s.dring r).job with
  | none => if 16 ≤ r && s.ringKind r = 2 then s.wringInput r bytes else s
  | some j =>
    let d := j.desc
    let kind := s.ringKind r
    if !s.descOk r d then s.ringWriteBack r d 0 1 false false
    else if r < 16 && kind = 0 then (if d.len / 8 ≤ j.words.length then s.ringDrain r 0 bad else s)
    else if r < 16 then
      let poison := s.cap.poisoned.any fun b => decide (d.param / 32 ≤ b) && decide (b ≤ (d.param + d.len - 1) / 32)
      (s.hostData d.addr (s.capRead d.param d.len)).ringWriteBack r d d.len 0 poison false
    else if kind = 0 then
      let (drop, s) := s.stbyWrite d.param (padTo d.len bytes)
      if drop then s.ringWriteBack r d 0 4 false false else s.ringWriteBack r d d.len 0 false false
    else
      let slot := s.ringSrc r
      let open_ : Bool := match s.unitAt cLOOP slot with
        | some u => s.cmdLoopBack u
        | none => false
      if !open_ then s.ringWriteBack r d 0 4 false false
      else
        let words := (toWords (d.len / 4) (padTo d.len bytes)).drop (j.done / 4)
        let (n, s) := s.loopPush slot words
        let done := j.done + 4 * n
        if done = d.len then s.ringWriteBack r d done 0 false false
        else s.setDring r { s.dring r with job := some { j with done := done } }

/-- DMA_DESCRIPTOR_COMPLETE. -/
def execDmaDescriptorComplete (r : Nat) (bytes : List Byte) (bad : List Nat) (s : State) : Host.Outcome State Fault Refusal :=
  .next (if r < 32 && s.ringRuns r then (s.ringComplete r bytes bad).ringPump r else s)

/-- DMA_FLUSH_TIMEOUT: DMA_FLUSH_US without a new word, and a word is in the buffer (R587). -/
def execDmaFlushTimeout (r : Nat) (s : State) : Host.Outcome State Fault Refusal :=
  match (s.dring r).job with
  | some j => .next (if r < 16 && s.ringKind r = 0 && s.ringRuns r && j.words != [] then (s.ringDrain r 0 []).ringPump r else s)
  | none => .next s

/-- DMA_HOST_ERROR: an error completion or a completion timeout stops the ring (R586, R588). -/
def execDmaHostError (r : Nat) (s : State) : Host.Outcome State Fault Refusal :=
  if s.get Fld.DMA_Rr_STAT.STATE r != 1 then .next s else
  let s := s.put Fld.DMA_PCIE_EVT.CPL_ERR 1
  let s := match (s.dring r).job, (s.dring r).posted with
    | some j, _ => if r < 16 && s.ringKind r = 0 then s.ringDrain r 2 [] else s.ringWriteBack r j.desc j.done 2 false false
    | none, d :: _ => if s.ringKind r = 2 then (s.unpost r).ringWriteBack r d 0 2 false false else s
    | none, [] => s
  let s := ((s.put Fld.DMA_Rr_STAT.STATE 2 r).raise (64 + r)).dmaError r 0 2 0
  .next (s.failRingJobs r)

/-- Every ring works on after a pause. -/
def State.ringsPump (s : State) : State :=
  s.forEach (List.range 32) fun r s => if s.is Fld.DMA_Rr_CFG.ENABLE r then s.ringPump r else s

/-- DMA_PAUSE: Bus Master Enable = 0, or D3hot (R588). -/
def execDmaPause (d3 : Bool) (s : State) : Host.Outcome State Fault Refusal :=
  .next (if d3 then { s with host.d3hot := true } else s.put Fld.DMA_PCIE_STAT.BME 0)

/-- DMA_RESUME. -/
def execDmaResume (d3 : Bool) (s : State) : Host.Outcome State Fault Refusal :=
  .next (if d3 then { s with host.d3hot := false } else s.put Fld.DMA_PCIE_STAT.BME 1).ringsPump

/-- What PERST_N and a Function Level Reset do to rings and MSI-X (R588): no write-back; words taken for an abandoned
descriptor are lost and recorded. The record's STATUS byte has no stated value there (log entry 1). -/
def State.dmaReset (s : State) : State :=
  let s := s.forEach (List.range 32) fun r s =>
    let lost := match (s.dring r).job with
      | some j => j.words.length
      | none => 0
    let s := if lost = 0 then s else ({ s with free := s.free + 1 } : State).dmaError r 1 (Config.freeValue s.free % 256) lost
    let s := if s.is Fld.DMA_Rr_CFG.ENABLE r then (s.ringOff r).failRingJobs r else s
    [Reg.DMA_Rr_BASE_LO, Reg.DMA_Rr_BASE_HI, Reg.DMA_Rr_TAIL, Reg.DMA_Rr_HEAD].foldl (fun s r' => s.wr r' 0 r) s
  let s := { s with host.msix := [], host.pba := 0, host.fnMask := false, host.d3hot := false }
  (s.put Fld.DMA_PCIE_STAT.BME 0).put Fld.DMA_PCIE_STAT.MSIX_EN 0

/-- FUNCTION_LEVEL_RESET. -/
def execFunctionLevelReset (s : State) : Host.Outcome State Fault Refusal :=
  .next (s.put Fld.DMA_PCIE_EVT.FLR 1).dmaReset

/-- The link is down: its state shows, and a head hub is degraded (R592). -/
def State.linkGone (s : State) : State :=
  ((s.put Fld.DMA_PCIE_STAT.LINK_UP 0).put Fld.DMA_PCIE_STAT.WIDTH 0 |>.put Fld.DMA_PCIE_STAT.SPEED 0).headDegraded

/-- PCIE_LINK_DOWN. -/
def execPcieLinkDown (s : State) : Host.Outcome State Fault Refusal :=
  .next (if s.is Fld.DMA_PCIE_STAT.LINK_UP then (s.put Fld.DMA_PCIE_EVT.LINK_DOWN 1).linkGone else s)

/-- PCIE_LINK_UP: with the negotiated width and speed. -/
def execPcieLinkUp (width speed : Nat) (s : State) : Host.Outcome State Fault Refusal :=
  let s := ((s.put Fld.DMA_PCIE_STAT.LINK_UP 1).put Fld.DMA_PCIE_STAT.WIDTH width).put Fld.DMA_PCIE_STAT.SPEED speed
  .next s.headDegraded.ringsPump

/-! ## Notices (R581, R582) -/

/-- NOTICE_PENDING_CLEAR: a write of `v` to DMA_NPENDj (R581). -/
def execNoticePendingClear (j v : Nat) (s : State) : Host.Outcome State Fault Refusal :=
  if !s.mapOpen then .next s else
  .next (s.writeByCode Reg.DMA_NPENDj v j)

/-- Sends the messages that the PBA holds for vectors that are not masked (R581). -/
def State.msixSend (s : State) : State :=
  if !s.is Fld.DMA_PCIE_STAT.MSIX_EN then s else
  s.forEach (List.range 64) fun v s =>
    if bit s.host.pba v && !s.msixMasked v then
      { s with host.pba := s.host.pba - 2 ^ v, host.sent := s.host.sent ++ [.msix v] }
    else s

/-- A word of the MSI-X table: entry word k of vector v; the vector control word is 1 after reset (log entry 10). -/
def State.msixWord (s : State) (i : Nat) : Nat := (tabGet s.host.msix 0 i ^^^ (if i % 4 = 3 then 1 else 0)).toNat

/-- Writes a word of the MSI-X table; only bit 0 of a vector control word exists. -/
def State.wrMsix (s : State) (i v : Nat) : State :=
  let w : Word := if i % 4 = 3 then BitVec.ofNat 32 (v % 2) ^^^ 1 else BitVec.ofNat 32 v
  ({ s with host.msix := if w = 0 then tabErase s.host.msix i else tabSet s.host.msix i w } : State).msixSend

/-- MSIX_UNMASK: a vector's mask bit is cleared, or without a vector the function is unmasked by a write of Message
Control with MSI-X `enable` (R581). -/
def execMsixUnmask (vec : Option Nat) (enable : Bool) (s : State) : Host.Outcome State Fault Refusal :=
  match vec with
  | some v => .next (if v < 64 then s.wrMsix (4 * v + 3) 0 else s)
  | none => .next (({ s with host.fnMask := false } : State).put Fld.DMA_PCIE_STAT.MSIX_EN (b2n enable)).msixSend

/-- Stores the NOTICE record of hub h (R582). -/
def State.noticeStore (s : State) (h : Nat) (bytes : List Byte) : State :=
  if 127 < h then s else
  let s := s.forEach [0, 1, 2, 3] fun k s => s.wr Reg.DMA_RNTFh_Wk (BitVec.ofNat 32 (leAt bytes (4 * k) 4)) h k
  let w := s.get Fld.DMA_RNTF_VALIDj.VALID (h / 32)
  (s.put Fld.DMA_RNTF_VALIDj.VALID (maskBit w (h % 32) true) (h / 32)).raise 107

/-- NOTICE_RECORD_RECEIVE: the 16 bytes of a bitmap from a hub; only a head hub stores it. -/
def execNoticeRecordReceive (hub : Nat) (bytes : List Byte) (s : State) : Host.Outcome State Fault Refusal :=
  .next (if s.isHead then s.noticeStore hub bytes else s)

/-! ## Commits (R602) -/

/-- A WRING_JOB unit of the new Pattern binds its output ring; another binding is disabled first. -/
def State.wringBind (s : State) (u : PatUnit) : State :=
  let r := wrgRing u
  let same : Bool := s.ringKind r == 2 && s.ringSrc r == u.inst
  let s := if same then s else s.ringDisable r
  (s.put Fld.DMA_Rr_CFG.KIND 2 r).put Fld.DMA_Rr_CFG.SRC u.inst r

end Sys2Proof.Machine
end

