-- ==== Sys2Proof/Machine/Silt.lean ====
section
/-! DEFINITION. The silt log: writing (R625 to R629), power failure (R630), clearing (R631, R632), reading (R633), the
scan at BOOT (R621, R624), and the meanings of this family's commands. -/

namespace Sys2Proof.Machine

/-! ## Slots -/

/-- Byte address of a slot of an area: 0 lifetime, 1 service (R619). -/
def slotAddr (area slot : Nat) : Nat := (if area = 1 then serviceBase else 0) + 64 * slot

/-- Slots of an area (R619). -/
def areaSize (area : Nat) : Nat := if area = 1 then 61440 else 4096

/-- The 64 bytes of a slot. -/
def State.slotBytes (s : State) (area slot : Nat) : List Byte := Memory.readN s.silt.mram (slotAddr area slot) 64

/-- A slot is occupied: its COMMIT field is not 0 (R620). -/
def occupied (bs : List Byte) : Bool := leAt bs 0 2 != 0

/-- The CRC-16 of a record is correct (R622). -/
def recordCrcOk (bs : List Byte) : Bool := crc16 (slice bs 2 60) == leAt bs 62 2

/-- Writes one record copy at the head of its area: the head moves, and LIFE_FULL, WARN, SUPPR and FULL follow (R625 to
R629, R638). -/
def State.writeCopy (s : State) (e : SiltEvent) (seq : Nat) (life : Bool) : State :=
  if life then
    let h := s.get Fld.SLT_LIFE_HEAD.HEAD
    if 4096 ≤ h then s else
    let s := { s with silt.mram := Memory.writeN s.silt.mram (slotAddr 0 h) (recordBytes e seq true) }
    (s.put Fld.SLT_LIFE_HEAD.HEAD (h + 1)).when (h + 1 == 4096) (·.put Fld.SLT_STAT.LIFE_FULL 1)
  else
    let h := s.get Fld.SLT_SVC_HEAD.HEAD
    if 61440 ≤ h then s else
    let s := { s with silt.mram := Memory.writeN s.silt.mram (slotAddr 1 h) (recordBytes e seq false) }
    let s := s.put Fld.SLT_SVC_HEAD.HEAD (h + 1)
    let s := s.when (h + 1 == s.policy 0x0A01 90 * 61440 / 100) (·.evt Fld.SLT_EVT.WARN 106)
    let s := s.when (e.code == 0x0401) (·.evt Fld.SLT_EVT.SUPPR 106)
    s.when (e.code == 0x0402) fun s =>
      ((s.put Fld.SLT_STAT.FULL 1).evt Fld.SLT_EVT.FULL 106).sat Fld.SLT_DROP.DROP s.silt.fifo.length

/-- The copy in progress ends with its COMMIT; the writer goes on (R625, R626). The service copy that a lifetime copy
leaves due at the last free slot is displaced (R628). -/
def State.copyDone (s : State) : State :=
  match s.silt.job with
  | none => s
  | some j =>
    match j.copies with
    | [] => s.writerNext
    | c :: rest =>
      let s := s.writeCopy j.ev j.seq c
      if rest != [] then { s with silt.job := some { j with copies := rest } }
      else if c && !s.is Fld.SLT_STAT.FULL then (s.sat Fld.SLT_DROP.DROP).startLogFull
      else s.writerNext

/-- SILT_RECORD_WRITTEN. -/
def execSiltRecordWritten (s : State) : Host.Outcome State Fault Refusal := .next s.copyDone

/-- OPTIME_CHECKPOINT (R624). -/
def State.opCheckpoint (s : State) : State := { s with silt.checkpoint := s.opMs }

/-- OPTIME_CHECKPOINT. -/
def execOptimeCheckpoint (s : State) : Host.Outcome State Fault Refusal := .next s.opCheckpoint

/-! ## Power failure (R630) -/

/-- Writes a whole record at once, each copy where it is due (R630, R632). -/
def State.recordNow (s : State) (e : SiltEvent) : State :=
  let s := ({ s with silt.job := none } : State).startRecord e
  let s := s.forEach [0, 1, 2] fun _ s =>
    match s.silt.job with
    | some j =>
      match j.copies with
      | c :: rest =>
        let s := s.writeCopy j.ev j.seq c
        if rest != [] then { s with silt.job := some { j with copies := rest } }
        else
          let s := { s with silt.job := none }
          if c && !s.is Fld.SLT_STAT.FULL then (s.sat Fld.SLT_DROP.DROP).startLogFull else s
      | [] => { s with silt.job := none }
    | none => s
  s.put Fld.SLT_STAT.WRITING 0

/-- The sequence of R630: the copy in progress ends, staged events are counted, and POWER_FAIL and the checkpoint are
written. Before the firmware is authenticated the writer does not run (R625), so no record is written. -/
def State.siltPfail (s : State) : State :=
  if s.is Fld.SLT_STAT.PFAIL then s else
  let cut := match s.silt.job with
    | some j => if j.copies.head? = some true && !s.is Fld.SLT_STAT.FULL then [j.ev] else []
    | none => []
  let s := match s.silt.job with
    | some j =>
      match j.copies with
      | c :: _ => s.writeCopy j.ev j.seq c
      | [] => s
    | none => s
  let counted := cut ++ s.silt.fifo
  let s := ({ s with silt.job := none, silt.fifo := [] } : State).fifoLevel.put Fld.SLT_STAT.WRITING 0
  let s := s.forEach counted fun e s => s.suppress (codeClass e.code) e.optime
  let total := ((List.range 16).map fun c => s.get Fld.SLT_SUPPc.COUNT c).sum
  let s := s.put Fld.SLT_STAT.PFAIL 1
  let s := if s.inStates [stOff, stBoot] then s
    else s.recordNow (s.siltEvent 0x0102 (leBytes 4 counted.length ++ leBytes 4 total))
  s.opCheckpoint

/-- PFAIL_N deasserts with the supply in range: recording resumes (R630). -/
def State.siltResume (s : State) : State :=
  if s.is Fld.SLT_STAT.PFAIL then (s.put Fld.SLT_STAT.PFAIL 0).writerNext else s

/-! ## Clearing (R631, R632) -/

/-- Cancels an arm. -/
def State.siltDisarm (s : State) : State := ({ s with silt.arm := none } : State).put Fld.SLT_STAT.ARMED 0

/-- The effect of SLT_CLEAR_ARM: the token has no stated value (log entry 1). -/
def State.clearArm (s : State) (source : Nat) : Answer × State :=
  if s.silt.clear.isSome then ({ status := 1 }, s) else
  let (v, s) := s.draw
  let token := v % 2 ^ 32
  let s := ({ s with silt.arm := some ⟨token, source, s.opMs⟩ } : State).put Fld.SLT_STAT.ARMED 1
  ({ status := 0, result := leBytes 4 token }, s)

/-- The effect of SLT_CLEAR_CONFIRM: refused at 1001 ms or later after the arm; any confirm ends the arm. -/
def State.clearConfirm (s : State) (source request token : Nat) : Answer × State :=
  if s.silt.clear.isSome then ({ status := 1 }, s) else
  match s.silt.arm with
  | none => ({ status := 2 }, s)
  | some a =>
    let s := s.siltDisarm
    if a.optime + 1000 < s.opMs then ({ status := 2 }, s)
    else if a.token ≠ token || a.source ≠ source then ({ status := 5 }, s)
    else ({ status := 0 }, ({ s with silt.clear := some ⟨source, request⟩ } : State).put Fld.SLT_STAT.CLEARING 1)

/-- An arm ends 1000 ms after it was taken (R631); the House phase shows it. -/
def State.siltHouse (s : State) : State :=
  match s.silt.arm with
  | some a => if a.optime + 1000 < s.opMs then s.siltDisarm else s
  | none => s

/-- Clears COMMIT of the service slots below n, from the highest down (R632). -/
def clearCommits : (n : Nat) → Memory → Memory
  | 0, m => m
  | n + 1, m => clearCommits n (Memory.write (Memory.write m (slotAddr 1 n) 0) (slotAddr 1 n + 1) 0)

/-- The clear ends: COMMIT fields are 0, LOG_CLEAR stands in slot 0, the mark is removed, and the writer goes on with what
was staged (R632). A record in progress is finished first. -/
def State.clearDone (s : State) : State :=
  match s.silt.clear with
  | none => s
  | some c =>
    let s := match s.silt.job with
      | some j => s.forEach j.copies fun l s => s.writeCopy j.ev j.seq l
      | none => s
    let h := s.get Fld.SLT_SVC_HEAD.HEAD
    let data := leBytes 4 h ++ leBytes 4 (s.get Fld.SLT_DROP.DROP) ++ leBytes 2 c.source ++ leBytes 4 c.request
    let s := { s with silt.mram := clearCommits h s.silt.mram }
    let s := (s.put Fld.SLT_SVC_HEAD.HEAD 0).put Fld.SLT_STAT.FULL 0 |>.put Fld.SLT_DROP.DROP 0
    let s := s.recordNow (s.siltEvent 0x0205 data)
    (({ s with silt.clear := none } : State).put Fld.SLT_STAT.CLEARING 0).writerNext

/-- LOG_CLEAR_DONE. -/
def execLogClearDone (s : State) : Host.Outcome State Fault Refusal := .next s.clearDone

/-! ## BOOT (R621, R624) -/

/-- The head of an area: its lowest free slot. -/
def State.scanHead (s : State) (area : Nat) : (fuel slot : Nat) → Nat
  | 0, slot => slot
  | k + 1, slot => if occupied (s.slotBytes area slot) then State.scanHead s area k (slot + 1) else slot

/-- The highest intact record below slot n. -/
def State.highestIntact (s : State) (area : Nat) : (n : Nat) → Option (Nat × List Byte)
  | 0 => none
  | n + 1 =>
    let bs := s.slotBytes area n
    if recordCrcOk bs then some (n, bs) else State.highestIntact s area n

/-- The bound that an area gives for the next SEQ (R621). -/
def State.seqBound (s : State) (area head : Nat) : Option Nat :=
  match s.highestIntact area head with
  | some (k, bs) => some (leAt bs 4 4 + (head - 1 - k))
  | none => if head = 0 then none else some (head - 1)

/-- The next SEQ after a BOOT (R621). -/
def nextSeq (a b : Option Nat) : Nat :=
  match a, b with
  | some x, some y => max x y + 1
  | some x, none => x + 1
  | none, some y => y + 1
  | none, none => 0

/-- The highest OPTIME of an intact record, in slots below n of an area. -/
def State.highestOptime (s : State) (area n : Nat) : Nat :=
  (List.range n).foldl (fun m k => let bs := s.slotBytes area k; if recordCrcOk bs then max m (leAt bs 8 6) else m) 0

/-- The log at BOOT: heads and SEQ from the MRAM; FIFO, job, arm and counters are gone (R620, R621). -/
def State.siltScan (s : State) : State :=
  let h0 := s.scanHead 0 4096 0
  let h1 := s.scanHead 1 61440 0
  let s := { s with silt.fifo := [], silt.job := none, silt.arm := none, silt.supp := [] }
  let s := (s.put Fld.SLT_LIFE_HEAD.HEAD h0).put Fld.SLT_SVC_HEAD.HEAD h1
  let s := (s.put Fld.SLT_STAT.LIFE_FULL (b2n (h0 == 4096))).put Fld.SLT_STAT.FULL (b2n (h1 == 61440))
  let s := s.put Fld.SLT_STAT.CLEARING (b2n s.silt.clear.isSome)
  s.put Fld.SLT_SEQ.NEXT (min 0xFFFFFFFF (nextSeq (s.seqBound 0 h0) (s.seqBound 1 h1)))

/-- OPTIME resumes behind the checkpoint and every intact record, and PCC counts the power cycle (R624). -/
def State.siltPowerUp (s : State) : State :=
  let t := max (s.highestOptime 0 (s.get Fld.SLT_LIFE_HEAD.HEAD)) (s.highestOptime 1 (s.get Fld.SLT_SVC_HEAD.HEAD))
  { s with silt.opNs := (max s.silt.checkpoint t + 1) * 1000000 }

/-! ## Reading (R633) -/

/-- Loads the snapshot of the slot that the cursor names; `corr` words had a corrected error, and the words in `ue` are
read as given, with an uncorrectable error. -/
def State.loadWindow (s : State) (p : Path) (auto area slot corr : Nat) (ue : List (Nat × Nat)) : State :=
  let b := s.bank p
  let size := areaSize area
  let slot := min size slot
  let cur := auto * 2 ^ 31 + area * 2 ^ 16 + slot
  if slot = size then s.setBank p { b with cursor := cur, window := List.replicate 64 0, winStat := 8 } else
  let bs := ue.foldl (fun bs (k, v) => bs.take (8 * k) ++ leBytes 8 v ++ bs.drop (8 * k + 8))
    (s.slotBytes area slot)
  let bad : Bool := ue != []
  let occ := occupied bs || ue.any (fun e => e.1 == 0)
  let s := s.setBank p { b with cursor := cur, window := padTo 64 bs
                                winStat := b2n occ + 2 * b2n (recordCrcOk bs) + 4 * b2n bad }
  let s := (s.sat Fld.SLT_ECC.CORR corr).sat Fld.SLT_ECC.UNCORR ue.length
  s.when bad (·.put Fld.SLT_EVT.UE 1)

/-- A write of SLT_CURSOR. -/
def State.cursorWrite (s : State) (p : Path) (v corr : Nat) (ue : List (Nat × Nat)) : State :=
  s.loadWindow p (field v 31 1) (field v 16 1) (field v 0 16) corr (ue.filter fun e => decide (e.1 < 8))

/-- SLT_CURSOR_WRITE. -/
def execSltCursorWrite (path : Path) (v corr : Nat) (ue : List (Nat × Nat)) (s : State) : Host.Outcome State Fault Refusal :=
  if !s.mapOpen then .next s else
  .next (s.cursorWrite path v corr ue)

/-- A word of the snapshot. -/
def State.winWord (s : State) (p : Path) (k : Nat) : Nat := leAt (s.bank p).window (4 * k) 4

/-- A read of SLT_WIN15: with AUTO = 1 the cursor moves on and the next snapshot is loaded. -/
def State.win15Read (s : State) (p : Path) (corr : Nat) (ue : List (Nat × Nat)) : Nat × State :=
  let c := (s.bank p).cursor
  let v := s.winWord p 15
  if !bit c 31 then (v, s)
  else (v, s.loadWindow p 1 (field c 16 1) (field c 0 16 + 1) corr (ue.filter fun e => decide (e.1 < 8)))

/-- SLT_WIN15_READ. -/
def execSltWin15Read (path : Path) (corr : Nat) (ue : List (Nat × Nat)) (s : State) : Host.Outcome State Fault Refusal :=
  if !s.mapOpen then .next { s with host.readData := [0] } else
  let (v, s) := s.win15Read path corr ue
  .next { s with host.readData := [v] }

/-- A read of SLT_OPT_LO latches SLT_OPT_HI for its path (R719). -/
def State.optRead (s : State) (p : Path) : Nat × State :=
  let t := s.opMs
  (t % 2 ^ 32, s.setBank p { s.bank p with optHi := t / 2 ^ 32 % 2 ^ 16 })

/-- SLT_OPT_READ. -/
def execSltOptRead (path : Path) (s : State) : Host.Outcome State Fault Refusal :=
  if !s.mapOpen then .next { s with host.readData := [0] } else
  let (v, s) := s.optRead path
  .next { s with host.readData := [v] }

/-- SLT_CNT_CLR (R639). -/
def execSltCntClr (s : State) : Host.Outcome State Fault Refusal :=
  if !s.mapOpen then .next s else
  .next ((s.wr Reg.SLT_ECC 0).wr Reg.SLT_FIFO_MAX 0)

end Sys2Proof.Machine
end

