-- ==== Sys2Proof/Machine/Agreement.lean ====
section
/-! DEFINITION. Cluster agreement: the cluster digest (R644, R645), quarantine (R646, R647), the judgement of other hubs
(R528, R648), joining by itself (R651), and the meanings of this family's commands. -/

namespace Sys2Proof.Machine

/-! ## The cluster digest (R644, R645) -/

/-- Shows the pair in force and the pending pair (R656). -/
def State.showDigest (s : State) : State :=
  let d := s.sup.inForce.getD ⟨[], 0⟩
  let s := s.forEach (List.range 8) fun k s => s.wr Reg.SUP_CDIGk (BitVec.ofNat 32 (leAt d.digest (4 * k) 4)) k
  let s := (s.put Fld.SUP_QUAR.CDIG_VALID (b2n s.sup.inForce.isSome)).put Fld.SUP_QUAR.CDIG_PEND (b2n s.sup.pend.isSome)
  let f := match s.sup.pend with
    | some (_, f) => f
    | none => s.sup.since
  let major := match s.sup.pend with
    | some (p, _) => p.major
    | none => 0
  let s := s.put Fld.SUP_CDIG_F_LO.FRAME_LO f
  (s.put Fld.SUP_COMPAT.PEND_MAJOR major).put Fld.SUP_COMPAT.MAJOR d.major

/-- A pair takes effect at frame f; an all-zero digest removes the cluster digest (R644). -/
def State.digestTake (s : State) (p : CDigest) (f : Nat) : State :=
  let zero := p.digest.all (· == 0)
  let s := { s with
    sup.prev := s.sup.inForce
    sup.inForce := if zero then none else some p
    sup.since := f
    sup.pend := none }
  ((s.put Fld.SUP_QUAR.INHERITED (b2n (!zero && !s.sup.adopted))).put Fld.SUP_EVT.ADOPT 1).showDigest

/-- ADOPT_EFFECT: the pending pair becomes the pair in force at FT(F). -/
def execAdoptEffect (s : State) : Host.Outcome State Fault Refusal :=
  match s.sup.pend with
  | some (p, f) => .next (if f ≤ s.seq.frame then s.digestTake p f else s)
  | none => .next s

/-- The effect of ADOPT (R652): without a frame counter it applies at once (R644). -/
def State.adopt (s : State) (digest : List Byte) (compat f : Nat) : Answer × State :=
  if 256 ≤ compat || 2 ^ 48 ≤ f then ({ status := 3, detail := 3 }, s) else
  let n := s.seq.frame
  let late := f != 0 && decide (f < n + 2)
  let at_ := if f = 0 then n + 2 else if late then n + 1 else f
  let p : CDigest := ⟨padTo 32 digest, compat⟩
  let s := { s with sup.adopted := true }
  let s := if s.seq.counter then ({ s with sup.pend := some (p, at_) } : State).showDigest else s.digestTake p n
  ({ status := if late then 8 else 0 }, s)

/-- Fields of a HELLO (R529). -/
def heCdigest (b : List Byte) : List Byte := slice b 0x60 32
def heDigest (b : List Byte) : List Byte := slice b 0x20 32
def heMajor (b : List Byte) : Nat := fb b 0x17
def heQcause (b : List Byte) : Nat := fb b 0x4B
def heFrame (b : List Byte) : Nat := leAt b 0x40 6
def heState (b : List Byte) : Nat := fb b 0x18 % 8
def heAge (b : List Byte) : Nat := leAt b 0x58 4
def heAssigned (b : List Byte) : Bool := fb b 4 == 2

/-- A list of bytes is all zero. -/
def zeroBytes (b : List Byte) : Bool := b.all (· == 0)

/-- The last HELLO of each other hub of the discovered ring. -/
def State.ringHellos (s : State) : List HelloRec :=
  let serials := match s.ring.result with
    | some (_, recs) => recs.map recSerial
    | none => []
  s.ring.hellos.filter fun h => serials.contains h.serial && h.serial != s.serial

/-- What a hub inherits: the digest that all reports agree on, and the compatibility major of those that are not
quarantined, where these agree (R645). -/
def State.inheritable (s : State) : Option CDigest :=
  let reports := s.ringHellos.filter fun h => !zeroBytes (heCdigest h.bytes)
  let majors := (reports.filter fun h => heQcause h.bytes == 0).map fun h => heMajor h.bytes
  match reports, majors with
  | r :: rs, m :: ms =>
    if rs.all (fun h => heCdigest h.bytes == heCdigest r.bytes) && ms.all (· == m) then some ⟨heCdigest r.bytes, m⟩ else none
  | _, _ => none

/-- DIGEST_INHERIT: the reports have agreed over INHERIT_N HELLO intervals; the pair takes effect at the next tick. -/
def execDigestInherit (s : State) : Host.Outcome State Fault Refusal :=
  if s.sup.adopted || s.sup.inForce.isSome || s.sup.pend.isSome then .next s else
  match s.inheritable with
  | some p => .next ({ s with sup.pend := some (p, s.seq.frame + 1) } : State).showDigest
  | none => .next s

/-! ## Quarantine of this hub (R646, R647) -/

/-- A collision lasts while the other hub stays in the ring with the same assigned ID (R528). -/
def State.collides (s : State) : Bool :=
  match s.sup.collision with
  | none => false
  | some other =>
    let present := match s.ring.result with
      | some (_, recs) => !s.is Fld.RING_STAT.DISC_DONE || (recs.map recSerial).contains other
      | none => true
    let same := match s.ring.hellos.find? (fun h => h.serial == other) with
      | some h => h.hub == s.hubId && heAssigned h.bytes
      | none => true
    present && same && s.get Fld.RING_STAT.IDSRC == 2

/-- QCAUSE: the lowest value that applies (R646). -/
def State.qcause (s : State) : Nat :=
  let active := match s.banks.act, s.sup.inForce with
    | some p, some d => p.digest != d.digest
    | _, _ => false
  let compat := match s.sup.inForce with
    | some d => s.get Fld.GLB_FW_VER.COMPAT_MAJOR != d.major
    | none => false
  if s.is Fld.SUP_QUAR.COMMAND then 1
  else if s.sup.collision.isSome then 2
  else if s.sup.counterBad then 3
  else if compat then 4
  else if active then 5
  else if s.policy 0x0B01 0 == 1 && s.sup.inForce.isNone then 6
  else 0

/-- The STATE record (R635). -/
def State.stateRecord (s : State) (prev new : Nat) : State :=
  s.stage 0x0501 (leBytes 1 prev ++ leBytes 1 new ++ leBytes 1 ((s.rd Reg.GLB_STATE).toNat / 64 % 64))

/-- Quarantine is evaluated in each House phase, before commands. At its onset in RUN the hub enters ARMED at the next tick
(R152, R155), and the record of that transition is the record of the onset (R647). -/
def State.quarantineHouse (s : State) : State :=
  if s.hubState < stHeld then s else
  let s := if s.collides then s else ({ s with sup.collision := none } : State).put Fld.RING_STAT.QUAR_ID 0
  let q := s.qcause
  let was := s.is Fld.GLB_STATE.QUARANTINE
  let s := (s.put Fld.SUP_QUAR.QCAUSE q).put Fld.GLB_STATE.QUARANTINE (b2n (q != 0))
  if (q != 0) == was then s else
  let run : Bool := s.hubState == stRun
  if q != 0 then
    let s := (s.put Fld.SUP_EVT.QUAR_ON 1).sat Fld.SUP_QCNT.QUAR_CNT
    if run then { s with seq.due := s.seq.due ++ [{ target := stArmed, frame := s.seq.frame + 1, rank := 2 }] }
    else s.stateRecord s.hubState s.hubState
  else
    let s := s.put Fld.SUP_EVT.QUAR_OFF 1
    let s := s.when (s.policy 0x0003 1 == 0) (·.put Fld.GLB_STATE.RUN_INTENT 0)
    s.stateRecord s.hubState s.hubState

/-- The effect of QUARANTINE (R652). -/
def State.quarantineCmd (s : State) (on : Nat) : Answer × State :=
  if 1 < on then ({ status := 3, detail := 3 }, s) else ({ status := 0 }, s.put Fld.SUP_QUAR.COMMAND on)

/-! ## Other hubs (R528, R648) -/

/-- The digest in force at a frame. -/
def State.digestAt (s : State) (f : Nat) : Option (List Byte) :=
  (if s.sup.since ≤ f then s.sup.inForce else s.sup.prev).map (·.digest)

/-- A HELLO disagrees (R648). -/
def State.disagrees (s : State) (b : List Byte) : Bool :=
  heQcause b != 0 || (match s.sup.inForce with
    | some d =>
      let f := heFrame b
      !(s.digestAt f == some (heDigest b) || s.digestAt (f - 1) == some (heDigest b)) || heMajor b != d.major
    | none => false)

/-- The sender of a HELLO collides with this hub, and this hub joined later (R528). -/
def State.collisionWith (s : State) (b : List Byte) : State :=
  let other := leAt b 8 8
  if !(heAssigned b && s.get Fld.RING_STAT.IDSRC == 2 && fb b 3 == s.hubId && other != s.serial) then s else
  let s := s.evt Fld.RING_EVT.COLLISION 104
  let mine := s.ringAge
  let theirs := heAge b
  let near : Bool := decide (mine ≤ theirs + 10) && decide (theirs ≤ mine + 10)
  let me : Bool := if near then decide (other < s.serial) else decide (mine < theirs)
  if me then ({ s with sup.collision := some other } : State).put Fld.RING_STAT.QUAR_ID 1 else s

/-- A HELLO updates the hub table and the judgement of its sender (R528, R530, R648). -/
def State.helloTake (s : State) (b : List Byte) : State :=
  let serial := leAt b 8 8
  let hub := fb b 3
  let r : HelloRec := { serial := serial, hub := hub, ms := s.opMs, bytes := b }
  let s := { s with ring.hellos := r :: s.ring.hellos.filter fun h => h.serial != serial }
  let s := s.collisionWith b
  if 127 < hub || hub = s.hubId then s else
  let s := (s.put Fld.RING_Hh.STATE (heState b) hub).put Fld.RING_Hh.QUAR (b2n (heQcause b != 0)) hub
  let s := s.put Fld.RING_Hh.ASSIGNED (b2n (heAssigned b)) hub
  { s with sup.peerNext := s.sup.peerNext.filter (fun e => e.1 != hub) ++ [(hub, s.disagrees b)] }

/-- HELLO_RECEIVE (R511, R521): the first copy of each HSEQ of a serial is kept. -/
def execHelloReceive (port lseq : Nat) (bytes : List Byte) (s : State) : Host.Outcome State Fault Refusal :=
  let (ok, s) := s.receive port lseq 7 true bytes
  if !ok then .next s else
  let serial := leAt bytes 8 8
  let key := [serial, leAt bytes 0x5E 2]
  if s.ring.seen.any fun e => e.type == 7 && e.key == key then .next (s.wrap Fld.RING_MISC.DUP_CNT) else
  let seen := s.ring.seen.filter fun e => !(e.type == 7 && e.key.head? == some serial)
  .next (({ s with ring.seen := ⟨7, key, 0⟩ :: seen } : State).helloTake bytes)

/-! ## Joining (R651) -/

/-- A running hub of the discovered ring with this hub's CDIGEST has been heard within the last 20 ms. -/
def State.peerRuns (s : State) : Bool :=
  let own := padTo 32 (match s.sup.inForce with | some d => d.digest | none => [])
  s.ringHellos.any fun h => heState h.bytes == stRun && heCdigest h.bytes == own && decide (s.opMs ≤ h.ms + 20)

/-- SUP_CNT_CLR (R656). -/
def execSupCntClr (s : State) : Host.Outcome State Fault Refusal :=
  if !s.mapOpen then .next s else
  .next ((s.wr Reg.SUP_SD_CNT 0).wr Reg.SUP_QCNT 0)

end Sys2Proof.Machine
end

