-- ==== Sys2Proof/Machine/States.lean ====
section
/-! DEFINITION. Hub states: what a change of state does to every unit (R149 to R152, R155, R160), readiness (R154), the
choice among transitions that fall due (R158), and the join rule (R159, R651). -/

namespace Sys2Proof.Machine

/-- The state registers change (R155, R184). -/
def State.changeState (s : State) (st : Nat) : State :=
  let s := (s.put Fld.GLB_STATE_CHG.PREV s.hubState).sat Fld.GLB_STATE_CHG.COUNT
  ((s.put Fld.GLB_STATE.STATE st).evt Fld.GLB_STATE_CHG.CHANGED 98).formDegraded

/-- The chains of the active Pattern start at this tick (R150). -/
def State.chainsStart (s : State) : State := s.forEach s.alignable fun c s => s.startChain c 1

/-- The hub enters a state at this tick. -/
def State.enterState (s : State) (st : Nat) : State :=
  let old := s.hubState
  if old = st then s else
  let s := s.changeState st
  let s := s.when (old == stRun || st == stRun) (·.stateRecord old st)
  let s := s.when (st == stSafe) fun s =>
    s.stage 0x0301 (leBytes 1 (s.get Fld.GLB_SAFE_CAUSE.CAUSE) ++ leBytes 1 old)
  let s := s.when (old == stMaint || st == stMaint) (·.stage 0x0206 (leBytes 1 (b2n (st == stMaint))))
  let s := s.when (st == stRun) fun s => s.capRun.loopRun.sluRun
  let s := s.when (old == stRun) fun s => ({ s with seq.readyAt := none } : State).loopLeave
  let s := s.when (st == stRun && s.is Fld.SLU_WD.SD || old == stRun) fun s =>
    s.degrade Fld.GLB_DEGRADED.SELFDIAG Fld.GLB_DEGRADED_STICKY.SELFDIAG (st == stRun)
  let s := s.when ((old == stRun || old == stSafe) && st != stRun && st != stSafe) (·.capLeave)
  let s := s.when (st == stHeld || st == stMaint) fun s => (s.calEnd 0xD).sluPark
  let s := s.when (st == stArmed && (old == stHeld || old == stBoot)) (·.chainsStart)
  (s.excUpdate []).toutRest.fieldStates

/-- A transition out of the present state is one of R155. -/
def legalMove (old st : Nat) : Bool :=
  [(2, 3), (3, 2), (3, 4), (4, 3), (3, 5), (4, 5), (5, 3), (2, 6), (3, 6), (5, 6), (6, 2)].contains (old, st)

/-- What still has to hold when a transition falls due: SAFE needs a latched cause; RUN needs RUN_INTENT and READY. -/
def State.moveHolds (s : State) (t : Transition) : Bool :=
  legalMove s.hubState t.target
    && (t.target != stSafe || s.get Fld.GLB_SAFE_CAUSE.CAUSE != 0)
    && (t.target != stRun || (s.is Fld.GLB_STATE.RUN_INTENT && s.is Fld.GLB_STATE.READY))

/-- The first of the transitions due at this tick in the order of R158. -/
def State.dueMove (s : State) : Option Transition :=
  let due := s.seq.due.filter fun t => decide (t.frame ≤ s.seq.frame)
  let at_ := fun (r : Nat) => due.find? fun t => t.rank == r && (t.target == stBoot || s.moveHolds t)
  at_ 0 <|> at_ 1 <|> at_ 2 <|> at_ 3

/-- READY (R154). -/
def State.readyNow (s : State) : Bool :=
  s.is Fld.PAT_STAT.ACT_VALID && s.is Fld.GLB_STATE.TIME_LOCK && s.seq.counter && s.is Fld.RING_STAT.DISC_DONE
    && s.is Fld.RING_STAT.ORDER_OK && !s.is Fld.GLB_STATE.QUARANTINE && s.is Fld.GLB_STATE.CAL_VALID
    && s.get Fld.GLB_SAFE_CAUSE.CAUSE == 0

/-- READY is evaluated; on first becoming READY the hub may set RUN_INTENT by itself (R154, R651). -/
def State.readyHouse (s : State) : State :=
  let r := s.readyNow
  let first := r && !s.seq.everReady
  let s := s.put Fld.GLB_STATE.READY (b2n r)
  let s := { s with
    seq.readyAt := if r then some (s.seq.readyAt.getD s.seq.frame) else none
    seq.everReady := s.seq.everReady || r }
  if first && s.policy 0x0B02 1 == 1 && !s.is Fld.GLB_STATE.RUN_INTENT && s.peerRuns then
    ({ s with seq.startF := 0 } : State).put Fld.GLB_STATE.RUN_INTENT 1
  else s

/-- The hub enters RUN at the next tick by R159: at F where it is READY in the House phase of F − 1, otherwise at the
first tick from n_ready + 2 on that is aligned with F. -/
def State.joinHouse (s : State) : State :=
  let n := s.seq.frame + 1
  let f := s.seq.startF
  let aligned : Bool := f < n && (n - f) % 2 ^ s.policy 0x0002 10 == 0
  let due : Bool := match s.seq.readyAt with
    | some r => n == f || (decide (r + 2 ≤ n) && aligned)
    | none => false
  if s.hubState == stArmed && s.is Fld.GLB_STATE.RUN_INTENT && due then
    { s with seq.due := s.seq.due ++ [{ target := stRun, frame := n, rank := 3 }] }
  else s

end Sys2Proof.Machine
end

