-- ==== Sys2Proof/Machine/Pmu.lean ====
section
/-! DEFINITION. Power domains (R657, R658), reset (R664, R667 to R669), the QSPI port (R674), the firmware update (R677),
the test access port (R704), supply and thermal causes (R183, R641), and the meanings of these commands. -/

namespace Sys2Proof.Machine

/-! ## Power domains (R657, R658) -/

/-- The units of the active Pattern and of one whose commit is scheduled (R658). -/
def State.poweredUnits (s : State) : List PatUnit :=
  s.patUnits ++ (match s.banks.commitF, s.banks.stbyPat with
    | some _, some p => p.units
    | _, _ => [])

/-- The calibration unit uses the mend channel of group g (R189). -/
def State.mendUsed (s : State) (g : Nat) : Bool :=
  match s.cal.swap with
  | some w => groupOf w.ch == g
  | none => false

/-- The loader decompresses the image being checked (R657). -/
def State.unpacking (s : State) : Bool :=
  s.banks.stbyState == .checking && bit (Memory.read s.banks.stby 0xC).toNat 0

/-- A lane of port p is not OFF. -/
def State.portAlive (s : State) (p : Nat) : Bool := (portLanes p).any fun n => s.lnState n != lnOFF

/-- The conditions of R657, in the order of the bits. -/
def State.domains (s : State) : List Bool :=
  let st := s.hubState
  let boot : Bool := decide (stBoot ≤ st)
  let held : Bool := decide (stHeld ≤ st)
  let us := s.poweredUnits
  let has := fun (c : Nat) => us.any fun u => u.cls == c
  let lanes : Bool := held || (st == stBoot && s.get Fld.PMU_STAT.MODE == 3)
  let mends : Bool := (List.range 4).any fun g => s.is Fld.FLT_CHc_CFG.ACTIVE (96 + g)
  let grp := fun (g : Nat) => (us.any fun u => u.cls == cINPUT && groupOf u.inst == g) || s.mendUsed g
  [s.is Fld.PMU_STAT.PG, boot, boot && (has cFILTER || mends), boot && has cLOOP, held, boot && (has cWRING || s.unpacking),
   boot, lanes && s.portAlive 0, lanes && s.portAlive 1, boot && !s.pmu.perst, boot && has cPOD_BINDING, boot,
   boot && (has cTDC || s.get Fld.TDC_CFG.SRC != 0), boot && (grp 0 || held), boot && grp 1, boot && grp 2, boot && grp 3,
   held, boot, boot]

/-- The number that a list of bits spells, bit 0 first. -/
def ofBits : List Bool → Nat
  | [] => 0
  | b :: bs => b2n b + 2 * ofBits bs

/-- The power domains are evaluated and switched; the PLLs that a domain feeds lock with it (R658, R666). -/
def State.pdEval (s : State) : State :=
  let d := s.domains
  let on := fun (k : Nat) => d.getD k false
  let s := s.put Fld.PMU_PD_STAT.ON (ofBits d)
  let s := s.forEach (List.range 4) fun g s => s.put Fld.AFE_GRPg_STAT.POWERED (b2n (on (13 + g))) g
  let s := (s.put Fld.SAR_STAT.POWERED (b2n (on 17))).put Fld.PMU_CLK_STAT.PCIE (b2n (on 9))
  let s := (s.put Fld.PMU_CLK_STAT.SDE (b2n (on 7))).put Fld.PMU_CLK_STAT.SDW (b2n (on 8))
  s.put Fld.PMU_CLK_STAT.TDC (s.get Fld.TDC_STAT.PLL_LOCK)

/-! ## Reset (R664, R668, R669) -/

/-- The registers of the non-volatile store and the measured ones (R669). -/
def keptRegs : List RegDef :=
  [Reg.PAT_SIGN_CFG, Reg.PAT_MIN_SERIAL, Reg.PAT_KEY_STAT, Reg.SLT_DROP, Reg.SLT_PCC, Reg.PMU_BOOT_CNT, Reg.PMU_FW,
   Reg.PMU_FW_VER_A, Reg.PMU_FW_VER_B, Reg.PMU_RAIL_STAT]

/-- What a hub reset leaves: the non-volatile store, the MRAM, the factory data and the pins; all else is at its reset
value (R669). The model's own queue, draws and record of what was sent go on. -/
def State.volatileGone (s : State) : State :=
  let r := State.reset
  let t : State := { r with
    regs := s.pmu.factory
    banks := { r.banks with keys := s.banks.keys }
    silt := { s.silt with fifo := [], job := none, supp := [], arm := none }
    host := { r.host with sent := s.host.sent }
    pmu := { s.pmu with flashBoot := false, fetch := none, fetchFails := 0 }
    tx := s.tx, free := s.free, pending := s.pending }
  t.forEach keptRegs fun x t => t.wr x (s.rd x)

/-- The entry to BOOT: counted, the cause recorded, the straps latched, the log scanned (R621, R661, R668, R680). -/
def State.enterBoot (s : State) (cause boot : Nat) : State :=
  let s := (s.wrap Fld.PMU_BOOT_CNT.COUNT).put Fld.PMU_STAT.RST_CAUSE cause
  let s := s.put Fld.PMU_STAT.MODE boot
  let s := if s.pmu.xtalLost then
      ((s.put Fld.PMU_STAT.XTAL_OK 0).put Fld.PMU_CLK_STAT.TIME 0).put Fld.PMU_CLK_STAT.CORE 0 |>.put Fld.PMU_CLK_STAT.MEM 0
    else s
  let s := s.siltScan
  (s.when (boot % 4 == 3) (·.lanesStart)).pdEval

/-- A hub reset (R668): RESET_N held low is the lower cause. -/
def State.hubReset (s : State) (cause boot : Nat) : State :=
  (s.volatileGone.put Fld.GLB_STATE.STATE stBoot).enterBoot (if s.pmu.resetLow then min 1 cause else cause) boot

/-- The first BOOT of a power cycle: PCC counts it and the operating time resumes (R624). -/
def State.powerBoot (s : State) (boot : Nat) : State :=
  let s := (s.wrap Fld.SLT_PCC.PCC).enterBoot 0 boot
  let s := s.siltPowerUp
  { s with pmu.bootNs := s.silt.opNs }

/-- POWER_GOOD: `boot` is BOOT[1:0]. While RESET_N is low the hub stays in OFF (R155, R661). -/
def execPowerGood (boot : Nat) (s : State) : Host.Outcome State Fault Refusal :=
  if s.hubState != stOff || s.is Fld.PMU_STAT.PG then .next s else
  let s := (s.put Fld.PMU_STAT.PG 1).put Fld.PMU_RAIL_STAT.RAIL 0xFFF
  if s.pmu.resetLow then .next s else .next ((s.put Fld.GLB_STATE.STATE stBoot).powerBoot boot)

/-- RESET_N_ASSERT: RESET_N has been low for 1 µs. -/
def execResetNAssert (boot : Nat) (s : State) : Host.Outcome State Fault Refusal :=
  if s.pmu.resetLow then .next s else
  let s := { s with pmu.resetLow := true }
  .next (if s.hubState == stOff then s else s.hubReset 1 boot)

/-- RESET_N_DEASSERT: a hub that waits in OFF with its power good enters BOOT; the straps are latched (R155, R661). -/
def execResetNDeassert (boot : Nat) (s : State) : Host.Outcome State Fault Refusal :=
  if !s.pmu.resetLow then .next s else
  let s := { s with pmu.resetLow := false }
  if s.hubState == stOff then
    .next (if s.is Fld.PMU_STAT.PG then (s.put Fld.GLB_STATE.STATE stBoot).powerBoot boot else s)
  else
    let s := (s.put Fld.PMU_STAT.MODE boot).lanesOff
    .next (s.when (boot % 4 == 3) (·.lanesStart)).pdEval

/-- WATCHDOG_RESET: 100 ms of the RC oscillator without service (R668). -/
def execWatchdogReset (boot : Nat) (s : State) : Host.Outcome State Fault Refusal :=
  .next (if s.hubState == stOff then s else s.hubReset 2 boot)

/-- XTAL_LOSS: the hub is reset and held there until XTAL_RESTORED (R667). -/
def execXtalLoss (boot : Nat) (s : State) : Host.Outcome State Fault Refusal :=
  .next (if s.hubState == stOff then s else ({ s with pmu.xtalLost := true } : State).hubReset 2 boot)

/-- XTAL_RESTORED. -/
def execXtalRestored (s : State) : Host.Outcome State Fault Refusal :=
  let s := ({ s with pmu.xtalLost := false } : State).put Fld.PMU_STAT.XTAL_OK 1
  .next (((s.put Fld.PMU_CLK_STAT.TIME 1).put Fld.PMU_CLK_STAT.CORE 1).put Fld.PMU_CLK_STAT.MEM 1)

/-- RAIL_LOSS: position `rail` of the list of R680 below 90 % for 10 µs; only the rails of steps 1 to 3 do this (R664).
The hub is in OFF: every driver off without a ramp, every pin high impedance or low. -/
def execRailLoss (rail : Nat) (s : State) : Host.Outcome State Fault Refusal :=
  if 9 < rail || s.hubState == stOff then .next s else
  let t := ({ s with pmu.xtalLost := false } : State).volatileGone
  let t := (t.put Fld.GLB_STATE.STATE stOff).put Fld.PMU_STAT.PG 0
  let t := t.put Fld.PMU_RAIL_STAT.RAIL (maskBit (t.get Fld.PMU_RAIL_STAT.RAIL) rail false)
  .next (t.put Fld.PMU_CLK_STAT.MOD 0).pdEval

/-! ## PFAIL_N, PERST_N and the test access port -/

/-- PFAIL_ASSERT (R183, R630, R663). -/
def execPfailAssert (s : State) : Host.Outcome State Fault Refusal :=
  if s.hubState == stOff || s.is Fld.PMU_STAT.PFAIL then .next s
  else .next ((s.put Fld.PMU_STAT.PFAIL 1).siltPfail.safeCause 5)

/-- PFAIL_DEASSERT: the supply stayed in range (R630, R663). -/
def execPfailDeassert (s : State) : Host.Outcome State Fault Refusal :=
  if s.hubState == stOff then .next s else .next (s.put Fld.PMU_STAT.PFAIL 0).siltResume

/-- PERST_ASSERT (R588, R657). -/
def execPerstAssert (s : State) : Host.Outcome State Fault Refusal :=
  if s.hubState == stOff then .next { s with pmu.perst := true } else
  let s := (s.put Fld.DMA_PCIE_EVT.PERST 1).dmaReset.linkGone
  .next ({ s with pmu.perst := true } : State).pdEval

/-- PERST_DEASSERT: PD_PCIE powers on and link training starts (R657, R661). -/
def execPerstDeassert (s : State) : Host.Outcome State Fault Refusal :=
  .next ({ s with pmu.perst := false } : State).pdEval

/-- TRST_ASSERT: only the test logic is reset; IDCODE is loaded (R668, R704). -/
def execTrstAssert (s : State) : Host.Outcome State Fault Refusal := .next { s with pmu.tap := 0x01 }

/-- The instruction that the test access port acts on after an opcode is loaded (R704). -/
def tapInstr (op : Nat) (resetLow : Bool) : Nat :=
  if op = 0x01 || op = 0x02 then op
  else if resetLow && [0x00, 0x08, 0x09, 0x0A, 0x0B].contains op then op
  else 0x3F

/-- TAP_UPDATE_IR. -/
def execTapUpdateIr (op : Nat) (s : State) : Host.Outcome State Fault Refusal :=
  .next { s with pmu.tap := tapInstr op s.pmu.resetLow }

/-! ## Supplies, temperature, memories (R183, R641) -/

/-- SUPPLY_OUT_OF_RANGE: rail at position `rail` of the list of R680; VEXCP and VEXCN count only while they are used
(R212, R664, R680). -/
def execSupplyOutOfRange (rail : Nat) (s : State) : Host.Outcome State Fault Refusal :=
  if 13 < rail || s.hubState == stOff then .next s
  else if 12 ≤ rail && !s.is Fld.AFE_GLB_STAT.VEXC_USED then .next s
  else
    let s := s.put Fld.PMU_RAIL_STAT.RAIL (maskBit (s.get Fld.PMU_RAIL_STAT.RAIL) rail false)
    let s := s.put Fld.PMU_RAIL_EVT.RAIL (maskBit (s.get Fld.PMU_RAIL_EVT.RAIL) rail true)
    let s := s.when (rail == 12) (·.put Fld.AFE_GLB_STAT.VEXCP_OUT 1)
    .next ((s.when (rail == 13) (·.put Fld.AFE_GLB_STAT.VEXCN_OUT 1)).selfDiag sdSUPPLY)

/-- THERMAL_LIMIT (R183, R689). -/
def execThermalLimit (s : State) : Host.Outcome State Fault Refusal :=
  .next (if s.hubState == stOff then s else s.selfDiag sdTHERMAL)

/-- MEMORY_UE: `area` 1 the reserved region, 2 the unit tables, and the 32-byte block (R635, R641). -/
def execMemoryUe (area block : Nat) (s : State) : Host.Outcome State Fault Refusal :=
  if s.hubState == stOff then .next s
  else .next ((s.stage 0x0302 (leBytes 1 area ++ leBytes 4 block)).selfDiag sdMEMORY)

/-- The rails that are in range again when the SUPPLY condition has ended. -/
def State.suppliesBack (s : State) : State :=
  let used : Bool := s.is Fld.AFE_GLB_STAT.VEXC_USED
  let s := s.put Fld.PMU_RAIL_STAT.RAIL (if used then 0x3FFF else 0xFFF)
  (s.put Fld.AFE_GLB_STAT.VEXCP_OUT 0).put Fld.AFE_GLB_STAT.VEXCN_OUT 0

/-- SAFE_CAUSE_GONE: the condition of bit `b` has been absent for 100 ms (R183). COMMAND and OVERRUN have none. -/
def execSafeCauseGone (b : Nat) (s : State) : Host.Outcome State Fault Refusal :=
  if b < 2 || 7 < b || (b == 5 && s.is Fld.PMU_STAT.PFAIL) then .next s
  else .next ((s.causeGone b).when (b == 7) (·.suppliesBack))

/-- SELFDIAG_GONE: failure `code` is gone after its holding period (R641). -/
def execSelfdiagGone (code : Nat) (s : State) : Host.Outcome State Fault Refusal :=
  if code = 0 || 6 < code then .next s
  else .next ((s.selfDiagGone code).when (code == sdSUPPLY) (·.suppliesBack))

/-- CAPTURE_MEMORY_INIT_DONE (R669). -/
def execCaptureMemoryInitDone (s : State) : Host.Outcome State Fault Refusal :=
  .next (if s.hubState < stHeld then s else { s with cap.initDone := true })

/-! ## The standby bank's check begins -/

/-- A check of the standby bank begins (R97, R102): REQUIRE and ANTIROLLBACK are as they are now. -/
def State.checkBegin (s : State) (powerUp : Bool) : State :=
  let s := s.bankTo .checking
  { s with banks.checkStart := s.silt.opNs, banks.checkRequire := bit (s.rd Reg.PAT_SIGN_CFG).toNat 0
           banks.checkAnti := bit (s.rd Reg.PAT_SIGN_CFG).toNat 1, banks.powerUp := powerUp, banks.qspiCopy := none }

/-- The standby bank holds an image that the hub copied into it itself. -/
def State.stbyFill (s : State) (bytes : List Byte) : State :=
  let s := { s with banks.stby := Memory.writeN [] 0 bytes, banks.wlen := bytes.length, banks.stbyPat := none }
  s.put Fld.PAT_WLEN.WLEN bytes.length

/-! ## The flash (R673, R674) -/

/-- The loader reads the flash. -/
def State.flashBusy (s : State) : Bool := s.pmu.flashBoot || s.banks.qspiCopy.isSome

/-- A write of PMU_QSPI_CTRL: LEN above 256 is clamped; GO runs the sequence, or is discarded. -/
def State.wrQspi (s : State) (v : Nat) : State :=
  let busy : Bool := s.is Fld.PMU_QSPI_STAT.BUSY || s.pmu.flashBoot || (s.banks.qspiCopy.isSome && !s.is Fld.PMU_QSPI_STAT.BUSY)
  let s := s.wr Reg.PMU_QSPI_CTRL (BitVec.ofNat 32 (v % 2 ^ 31))
  let s := (s.put Fld.PMU_QSPI_CTRL.LEN (min 256 (field v 12 9))).put ⟨Reg.PMU_QSPI_CTRL, 8, 4⟩ 0
  if !bit v 31 then s
  else if busy || s.hubState < stHeld then s.put Fld.PMU_QSPI_STAT.DROP 1
  else s.put Fld.PMU_QSPI_STAT.BUSY 1

/-- QSPI_GO: a write of `v` with GO = 1. -/
def execQspiGo (v : Nat) (s : State) : Host.Outcome State Fault Refusal := .next (s.wrQspi (v % 2 ^ 31 + 2 ^ 31))

/-- QSPI_SEQUENCE_DONE: the sequence ends; with DIR = 0 the data bytes lie in PMU_QSPI_DATAk. -/
def execQspiSequenceDone (bytes : List Byte) (s : State) : Host.Outcome State Fault Refusal :=
  if !s.is Fld.PMU_QSPI_STAT.BUSY then .next s else
  let len := s.get Fld.PMU_QSPI_CTRL.LEN
  let data := padTo len bytes
  let s := if s.is Fld.PMU_QSPI_CTRL.DIR then s else
    s.forEach (List.range ((len + 3) / 4)) fun k s =>
      let keep := leBytes 4 (s.rd Reg.PMU_QSPI_DATAk k).toNat
      let got := slice data (4 * k) 4
      s.wr Reg.PMU_QSPI_DATAk (BitVec.ofNat 32 (leNat (got ++ keep.drop got.length))) k
  .next ((s.put Fld.PMU_QSPI_STAT.BUSY 0).put Fld.PMU_QSPI_STAT.DONE 1)

/-- The boot directory names an image at this offset (R673). -/
def bootOffset (dir : List Byte) : Option Nat :=
  let off := leAt dir 4 4
  if slice dir 0 4 == [0x50, 0x5A, 0x42, 0x44] && crc32 (slice dir 0 12) == leAt dir 12 4 && off != 0xFFFFFFFF
  then some off else none

/-- The bytes that the hub copies for an image read at an offset: IMAGE_LEN of them, or only the header when IMAGE_LEN
exceeds 16 MiB (R673). -/
def imageCopy (bytes : List Byte) : List Byte :=
  let len := leAt bytes 0x10 4
  padTo (if stbySize < len then 128 else max 128 len) bytes

/-- QSPI_IMAGE_READ_DONE: `info` is what PMU_QSPI_INFO shows of the SFDP table, `dir` the boot directory, `bytes` the
flash from the image's offset on. It serves the power-up read and PAT_LOAD with SOURCE 1; a copy waits while a GO is
BUSY (R673, R674). -/
def execQspiImageReadDone (info : Nat) (dir bytes : List Byte) (s : State) : Host.Outcome State Fault Refusal :=
  if s.is Fld.PMU_QSPI_STAT.BUSY || !s.flashBusy then .next s else
  let s := s.wr Reg.PMU_QSPI_INFO (BitVec.ofNat 32 (info % 256))
  if s.banks.qspiCopy.isSome then .next ({ s.stbyFill (imageCopy bytes) with banks.qspiCopy := none } : State) else
  let s := { s with pmu.flashBoot := false }
  match bootOffset dir with
  | none => .next s
  | some _ =>
    match s.banks.stbyState with
    | .empty => .next ((s.stbyFill (imageCopy bytes)).checkBegin true)
    | _ => .next s

/-! ## Firmware update (R677, R681) -/

/-- A write of PMU_FWU_CTRL. -/
def State.wrFwu (s : State) (v : Nat) : State :=
  let s := s.put Fld.PMU_FWU_CTRL.LEN (clampNat 0 4194304 (v % 2 ^ 23))
  if !bit v 31 || s.is Fld.PMU_FWU_STAT.BUSY then s
  else if s.hubState != stMaint || s.banks.stbyState == .checking || s.banks.stbyState == .scheduled then
    s.put Fld.PMU_FWU_STAT.RESULT 2
  else (s.put Fld.PMU_FWU_STAT.BUSY 1).put Fld.PMU_FWU_STAT.RESULT 0

/-- PMU_FWU_START: a write of `v` with START = 1. -/
def execPmuFwuStart (v : Nat) (s : State) : Host.Outcome State Fault Refusal := .next (s.wrFwu (v % 2 ^ 31 + 2 ^ 31))

/-- The standby bank becomes EMPTY. -/
def State.stbyEmpty (s : State) : State :=
  let s := { s with banks.stby := [], banks.wlen := 0, banks.stbyPat := none }
  (s.put Fld.PAT_WLEN.WLEN 0).bankTo .empty

/-- FW_UPDATE_DONE: with the outcome of the verification, 1 or 3 to 6, and the image's version and security version. The
slot that is not running holds the image after OK and is empty after WRITE (R677, R681). -/
def execFwUpdateDone (result ver svn : Nat) (s : State) : Host.Outcome State Fault Refusal :=
  if !s.is Fld.PMU_FWU_STAT.BUSY then .next s else
  let b : Bool := !s.is Fld.PMU_FW.RUN_SLOT
  let slot : Option FwSlot := if result = 1 then some ⟨ver % 2 ^ 32, svn % 256⟩ else none
  let s := if result != 1 && result != 6 then s
    else if b then ({ s with pmu.slotB := slot } : State).put Fld.PMU_FW_VER_B.VER ((slot.map (·.ver)).getD 0)
    else ({ s with pmu.slotA := slot } : State).put Fld.PMU_FW_VER_A.VER ((slot.map (·.ver)).getD 0)
  let s := ((s.put Fld.PMU_FWU_STAT.BUSY 0).put Fld.PMU_FWU_STAT.DONE 1).put Fld.PMU_FWU_STAT.RESULT result
  .next s.stbyEmpty

end Sys2Proof.Machine
end

