-- ==== Sys2Proof/Machine/Boot.lean ====
section
/-! DEFINITION. The end of BOOT (R157, R670), the image from a ring neighbour (R675), MGMT frames (R506), and the meanings
of these commands. -/

namespace Sys2Proof.Machine

/-! ## BOOT_DONE -/

/-- A slot passes the verification of R670: digest and signature as measured, and its security version. -/
def State.slotPasses (s : State) (slot : Option FwSlot) (ok : Bool) : Bool :=
  match slot with
  | some f => ok && decide (s.get Fld.PMU_FW.MIN_SVN ≤ f.svn)
  | none => false

/-- The boot fails: GLB_STATE.BOOT_FAIL stays until a reset, and the boot code writes the record (R157, R625). -/
def State.bootFail (s : State) (kind item : Nat) : State :=
  let s := s.put Fld.GLB_STATE.BOOT_FAIL 1
  s.clearDone.recordNow (s.siltEvent 0x0103 (leBytes 1 kind ++ leBytes 4 item))

/-- The firmware of a slot runs: PMU_FW and GLB_FW_VER show it. -/
def State.runSlot (s : State) (b : Bool) (f : FwSlot) : State :=
  let s := (s.put Fld.PMU_FW.RUN_SLOT (b2n b)).put Fld.PMU_FW.RUN_SVN f.svn
  s.wr Reg.GLB_FW_VER (BitVec.ofNat 32 f.ver)

/-- The first entry to HELD of a new version raises the minimum security version (R670). -/
def State.newFirmware (s : State) (f : FwSlot) : State :=
  if f.ver = s.pmu.lastVer then s else
  let old := s.pmu.lastVer
  let s := ({ s with pmu.lastVer := f.ver } : State).put Fld.PMU_FW.MIN_SVN (max (s.get Fld.PMU_FW.MIN_SVN) f.svn)
  s.stage 0x0201 (leBytes 4 old ++ leBytes 4 f.ver)

/-- The hub enters HELD with the firmware of a slot (R155, R632, R668, R672). -/
def State.bootHeld (s : State) (f : FwSlot) : State :=
  let ms := min 0xFFFF ((s.silt.opNs - s.pmu.bootNs) / 1000000)
  let s := (s.enterState stHeld).clearDone
  let s := if s.silt.job.isNone then s.writerNext else s
  let mode := s.get Fld.PMU_STAT.MODE
  let s := s.stage 0x0101 (leBytes 1 (s.get Fld.PMU_STAT.RST_CAUSE) ++ leBytes 1 mode ++ leBytes 4 f.ver ++ leBytes 2 ms)
  let s := (s.newFirmware f).lanesStart
  let s := if mode = 0 then { s with pmu.flashBoot := true } else s
  (s.when (mode == 3) (·.put Fld.PMU_SRV.FSTATE 1)).pdEval

/-- BOOT_DONE: whether the digest and signature of each slot are good, and the failing item of the self-test, if it fails.
Of two equal versions slot A is the higher. The failing item of an authentication is a free value (log entry 1). -/
def execBootDone (aOk bOk : Bool) (selfTest : Option Nat) (s : State) : Host.Outcome State Fault Refusal :=
  if s.hubState != stBoot || s.pmu.resetLow || s.pmu.xtalLost || s.is Fld.GLB_STATE.BOOT_FAIL then .next s else
  let a := (s.pmu.slotA.map (·.ver)).getD 0
  let b := (s.pmu.slotB.map (·.ver)).getD 0
  let bFirst : Bool := s.pmu.slotA.isNone || (decide (a < b) && s.pmu.slotB.isSome)
  let pass := fun (k : Bool) => if k then s.slotPasses s.pmu.slotB bOk else s.slotPasses s.pmu.slotA aOk
  let show_ := fun (k : Bool) (s : State) =>
    if k then s.put Fld.PMU_FW.B_VALID (b2n (pass true)) else s.put Fld.PMU_FW.A_VALID (b2n (pass false))
  let slot := fun (k : Bool) => (if k then s.pmu.slotB else s.pmu.slotA).getD ⟨0, 0⟩
  let first := pass bFirst
  let s := show_ bFirst s
  let s := if first then s else show_ (!bFirst) s
  let run := if first then bFirst else !bFirst
  if !pass run then
    let (v, s) := s.draw
    .next (s.bootFail 0 (v % 2 ^ 32))
  else
    let s := (s.runSlot run (slot run)).put Fld.PMU_FW.FALLBACK (b2n (!first))
    match selfTest with
    | some item => .next (s.bootFail 1 item)
    | none => .next (s.bootHeld (slot run))

/-! ## MGMT frames (R506) -/

/-- An MGMT frame of this hub with the next MSEQ. -/
def State.mgmtFrame (s : State) (flags dest : Nat) (record : List Byte) : List Byte :=
  withCrc (frameHead 5 flags s.hubId ++ leBytes 1 dest ++ leBytes 1 0 ++ leBytes 2 s.ring.mseq ++ leBytes 2 record.length
    ++ leBytes 2 0 ++ record)

/-- Sends a record in an MGMT frame on every port that is up; a hub without an ID in use sends none (R507, R508, R528). -/
def State.mgmtSend (s : State) (flags dest : Nat) (record : List Byte) : State :=
  if !s.mayEmit then s else
  let s := { s with ring.mseq := (s.ring.mseq + 1) % 65536 }
  s.sendAll (s.mgmtFrame flags dest record)

/-- A command record (R161). -/
def commandRecord (opcode target source request flags : Nat) (args : List Byte) : List Byte :=
  leBytes 1 opcode ++ leBytes 1 target ++ leBytes 2 source ++ leBytes 4 request ++ leBytes 2 args.length
    ++ leBytes 2 flags ++ leBytes 4 0 ++ args

/-! ## The image from a ring neighbour (R675) -/

/-- Other hubs of the discovered ring with their distance: twice the hops, plus 1 on the West side. -/
def State.distances (s : State) : List (Nat × Nat) :=
  match s.ring.result with
  | none => []
  | some (topo, recs) =>
    let l := recs.map recSerial
    let n := l.length
    let own := l.idxOf s.serial
    (l.zipIdx.filter fun e => e.1 != s.serial).map fun e =>
      let east := 2 * (e.2 - own)
      let west := 2 * (own - e.2) + 1
      (e.1, if topo = 1 then min (2 * e.2) (2 * (n - e.2) + 1) else if own < e.2 then east else west)

/-- A HELLO names a possible server; with `want`, one that reports this DIGEST. -/
def serves (want : Option (List Byte)) (b : List Byte) : Bool :=
  !zeroBytes (heDigest b) && heQcause b == 0 && (zeroBytes (heCdigest b) || heCdigest b == heDigest b)
    && (match want with | some d => heDigest b == d | none => true)

/-- The server that step 1 chooses: its hub ID and its DIGEST. A silent hub is none. -/
def State.pickServer (s : State) (want : Option (List Byte)) : Option (Nat × List Byte) :=
  let c := s.distances.filterMap fun e =>
    match s.ring.hellos.find? (fun h => h.serial == e.1) with
    | some h => if serves want h.bytes && h.hub < 128 && !s.is Fld.RING_Hh.SILENT h.hub
        then some (e.2, h.hub, heDigest h.bytes) else none
    | none => none
  match c with
  | [] => none
  | x :: xs => some (xs.foldl (fun a y => if y.1 < a.1 then y else a) x).2

/-- REQUEST_ID of chunk c. -/
def State.chunkId (s : State) (c : Nat) : Nat := s.get Fld.PMU_BOOT_CNT.COUNT % 2 ^ 15 * 2 ^ 17 + c

/-- Asks a server for a chunk: a REG_READ of 56 words of its active image window (R676). -/
def State.chunkAsk (s : State) (server c : Nat) : State :=
  s.mgmtSend 0 server (commandRecord 0x10 server (0xFF00 + s.hubId) (s.chunkId c) 0
    (leBytes 4 (0x1000000 + 224 * c) ++ leBytes 4 56))

/-- Chunks of an image. -/
def chunks (len : Nat) : Nat := ceilDiv len 224

/-- Asks for chunks while fewer than 16 records are in flight; with every chunk here, for the header again. -/
def State.fetchPump (s : State) : State :=
  let s := s.forEach (List.range 16) fun _ s =>
    match s.pmu.fetch with
    | some f =>
      if f.header.isSome && !f.confirm && f.flight.length < 16 && f.next < chunks f.len then
        ({ s with pmu.fetch := some { f with next := f.next + 1, flight := f.flight ++ [f.next] } } : State).chunkAsk f.server f.next
      else s
    | none => s
  match s.pmu.fetch with
  | some f =>
    if f.header.isSome && !f.confirm && f.flight == [] && chunks f.len ≤ f.next then
      ({ s with pmu.fetch := some { f with confirm := true, flight := [0] } } : State).chunkAsk f.server 0
    else s
  | none => s

/-- The fetch begins at step 2 with a server. -/
def State.fetchBegin (s : State) (server : Nat × List Byte) : State :=
  let f : Fetch := { server := server.1, digest := server.2, header := none, len := 0, next := 1, flight := [0], confirm := false }
  let s := ({ s with pmu.fetch := some f } : State).stbyEmpty
  let s := ((s.put Fld.PMU_SRV.SERVER server.1).put Fld.PMU_SRV.FSTATE 2).put Fld.PMU_SRV_BYTES.BYTES 0
  s.chunkAsk server.1 0

/-- The fetch ends without an image; FSTATE shows why. -/
def State.fetchStop (s : State) (fstate : Nat) : State :=
  ({ s with pmu.fetch := none } : State).put Fld.PMU_SRV.FSTATE fstate

/-- A restart at step 2; after 3 restarts the fetch pauses. -/
def State.fetchRestart (s : State) : State :=
  let s := ({ s with pmu.fetchFails := s.pmu.fetchFails + 1 } : State).sat Fld.PMU_SRV.RESTARTS
  if 3 ≤ s.pmu.fetchFails then s.fetchStop 4 else
  match s.pmu.fetch with
  | some f =>
    if s.is Fld.RING_Hh.SILENT f.server then
      match s.pickServer none with
      | some x => s.fetchBegin x
      | none => s.fetchStop 1
    else s.fetchBegin (f.server, f.digest)
  | none => s

/-- The hub takes its first image from another hub, and nothing else uses the standby bank. -/
def State.mayFetch (s : State) : Bool :=
  stHeld ≤ s.hubState && s.get Fld.PMU_STAT.MODE == 3 && s.banks.act.isNone && s.get Fld.RING_STAT.IDSRC == 1
    && s.banks.stbyState != .checking && s.banks.stbyState != .scheduled

/-- NEIGHBOUR_SERVER_FOUND. -/
def execNeighbourServerFound (s : State) : Host.Outcome State Fault Refusal :=
  if !s.mayFetch || s.get Fld.PMU_SRV.FSTATE != 1 then .next s else
  match s.pickServer none with
  | some x => .next (s.fetchBegin x)
  | none => .next s

/-- NEIGHBOUR_FETCH_RESUME: 10 s after the third restart. -/
def execNeighbourFetchResume (s : State) : Host.Outcome State Fault Refusal :=
  if s.get Fld.PMU_SRV.FSTATE != 4 then .next s else
  let s := { s with pmu.fetchFails := 0 }
  if !s.mayFetch then .next (s.fetchStop 0) else
  match s.pickServer none with
  | some x => .next (s.fetchBegin x)
  | none => .next (s.fetchStop 1)

/-- The data of a chunk has arrived. -/
def State.chunkTake (s : State) (f : Fetch) (c : Nat) (data : List Byte) : State :=
  let put := fun (s : State) (len : Nat) =>
    let part := data.take (min 224 (len - 224 * c))
    let (_, s) := s.stbyWrite (224 * c) part
    s.put Fld.PMU_SRV_BYTES.BYTES (s.get Fld.PMU_SRV_BYTES.BYTES + part.length)
  if f.confirm then
    let same := slice data 0x20 32 == slice (f.header.getD []) 0x20 32
    if same then (s.fetchStop 3).checkBegin true else s.fetchRestart
  else if f.header.isNone then
    let len := min stbySize (leAt data 0x10 4)
    let f := { f with header := some (data.take 128), digest := slice data 0x20 32, len := len, flight := [] }
    (put { s with pmu.fetch := some f } len).fetchPump
  else (put { s with pmu.fetch := some { f with flight := f.flight.filter (· != c) } } f.len).fetchPump

/-- A response to a record of the fetch (R675): BUSY and TIMEOUT are asked again unchanged. -/
def State.fetchResponse (s : State) (r : List Byte) : State :=
  match s.pmu.fetch with
  | none => s
  | some f =>
    let c := leAt r 4 4 - s.chunkId 0
    if leAt r 4 4 < s.chunkId 0 || !f.flight.contains c then s
    else if !s.mayFetch then s.fetchStop 0
    else
      let st := fb r 8
      if st = 1 || st = 7 then s.chunkAsk f.server c
      else if st = 0 || st = 4 then s.chunkTake f c (padTo 224 (r.drop 32))
      else s

/-- The records in flight are asked again, unchanged (R675). -/
def State.fetchAgain (s : State) : State :=
  match s.pmu.fetch with
  | some f => s.forEach f.flight fun c s => s.chunkAsk f.server c
  | none => s

/-- The server has become silent: another one with the same DIGEST goes on, or the fetch restarts. -/
def State.fetchSilent (s : State) (hub : Nat) : State :=
  match s.pmu.fetch with
  | none => s
  | some f =>
    if f.server != hub || !s.is Fld.RING_Hh.SILENT hub then s else
    match s.pickServer (some f.digest) with
    | some x => (({ s with pmu.fetch := some { f with server := x.1 } } : State).put Fld.PMU_SRV.SERVER x.1).fetchAgain
    | none => s.fetchRestart

/-- HUB_SILENT (R530, R675). -/
def execHubSilent (hub : Nat) (s : State) : Host.Outcome State Fault Refusal := .next ((s.hubSilent hub).fetchSilent hub)

end Sys2Proof.Machine
end

