-- ==== Sys2Proof/Machine/Crypto.lean ====
section
/-! DEFINITION. SHA-256 (FIPS 180-4) and ECDSA verification over P-256 (FIPS 186-5), as R91 and R92 name them. -/

namespace Sys2Proof.Machine

/-! ## SHA-256 -/

/-- The 64 round constants. -/
def shaK : List Word :=
  [0x428a2f98, 0x71374491, 0xb5c0fbcf, 0xe9b5dba5, 0x3956c25b, 0x59f111f1, 0x923f82a4, 0xab1c5ed5,
   0xd807aa98, 0x12835b01, 0x243185be, 0x550c7dc3, 0x72be5d74, 0x80deb1fe, 0x9bdc06a7, 0xc19bf174] ++
  [0xe49b69c1, 0xefbe4786, 0x0fc19dc6, 0x240ca1cc, 0x2de92c6f, 0x4a7484aa, 0x5cb0a9dc, 0x76f988da,
   0x983e5152, 0xa831c66d, 0xb00327c8, 0xbf597fc7, 0xc6e00bf3, 0xd5a79147, 0x06ca6351, 0x14292967] ++
  [0x27b70a85, 0x2e1b2138, 0x4d2c6dfc, 0x53380d13, 0x650a7354, 0x766a0abb, 0x81c2c92e, 0x92722c85,
   0xa2bfe8a1, 0xa81a664b, 0xc24b8b70, 0xc76c51a3, 0xd192e819, 0xd6990624, 0xf40e3585, 0x106aa070] ++
  [0x19a4c116, 0x1e376c08, 0x2748774c, 0x34b0bcb5, 0x391c0cb3, 0x4ed8aa4a, 0x5b9cca4f, 0x682e6ff3,
   0x748f82ee, 0x78a5636f, 0x84c87814, 0x8cc70208, 0x90befffa, 0xa4506ceb, 0xbef9a3f7, 0xc67178f2]

/-- The eight working variables. -/
structure Sha where
  a : Word
  b : Word
  c : Word
  d : Word
  e : Word
  f : Word
  g : Word
  h : Word
deriving DecidableEq, Repr

/-- The initial hash value. -/
def shaInit : Sha :=
  ⟨0x6a09e667, 0xbb67ae85, 0x3c6ef372, 0xa54ff53a, 0x510e527f, 0x9b05688c, 0x1f83d9ab, 0x5be0cd19⟩

/-- The rest of the message schedule after 16 words: `win` holds the last 16 words, oldest first. -/
def shaSchedule : (n : Nat) → (win : List Word) → List Word
  | 0, _ => []
  | n + 1, win =>
    let x := win.getD 1 0
    let y := win.getD 14 0
    let s0 := x.rotateRight 7 ^^^ x.rotateRight 18 ^^^ (x >>> 3)
    let s1 := y.rotateRight 17 ^^^ y.rotateRight 19 ^^^ (y >>> 10)
    let w := win.getD 0 0 + s0 + win.getD 9 0 + s1
    w :: shaSchedule n (win.drop 1 ++ [w])

/-- One round with its constant and schedule word. -/
def shaRound (s : Sha) (kw : Word × Word) : Sha :=
  let s1 := s.e.rotateRight 6 ^^^ s.e.rotateRight 11 ^^^ s.e.rotateRight 25
  let ch := (s.e &&& s.f) ^^^ (~~~s.e &&& s.g)
  let t1 := s.h + s1 + ch + kw.1 + kw.2
  let s0 := s.a.rotateRight 2 ^^^ s.a.rotateRight 13 ^^^ s.a.rotateRight 22
  let maj := (s.a &&& s.b) ^^^ (s.a &&& s.c) ^^^ (s.b &&& s.c)
  ⟨t1 + (s0 + maj), s.a, s.b, s.c, s.d + t1, s.e, s.f, s.g⟩

/-- The hash value after one 64-byte block. -/
def shaBlock (h : Sha) (blk : List Byte) : Sha :=
  let w := (List.range 16).map fun k => BitVec.ofNat 32 (beNat (slice blk (4 * k) 4))
  let r := (shaK.zip (w ++ shaSchedule 48 w)).foldl shaRound h
  ⟨h.a + r.a, h.b + r.b, h.c + r.c, h.d + r.d, h.e + r.e, h.f + r.f, h.g + r.g, h.h + r.h⟩

/-- The hash value after `n` blocks. -/
def shaBlocks : (n : Nat) → Sha → List Byte → Sha
  | 0, h, _ => h
  | n + 1, h, bs => shaBlocks n (shaBlock h (bs.take 64)) (bs.drop 64)

/-- The SHA-256 digest of a message. -/
def sha256 (m : List Byte) : List Byte :=
  let zeros := (119 - m.length % 64) % 64
  let padded := m ++ [0x80#8] ++ List.replicate zeros 0 ++ beBytes 8 (8 * m.length)
  let h := shaBlocks (padded.length / 64) shaInit padded
  [h.a, h.b, h.c, h.d, h.e, h.f, h.g, h.h].flatMap fun w => beBytes 4 w.toNat

/-! ## P-256 -/

/-- `b ^ e mod m` for an exponent of at most `fuel` bits. -/
def modPow (m : Nat) : (fuel : Nat) → (b e : Nat) → Nat
  | 0, _, _ => 1 % m
  | k + 1, b, e =>
    let h := modPow m k (b * b % m) (e / 2)
    if e % 2 = 1 then b * h % m else h

/-- The inverse modulo a prime below 2^256. -/
def modInv (m x : Nat) : Nat := modPow m 256 (x % m) (m - 2)

/-- The field prime, the coefficient b, the group order and the base point of P-256. -/
def p256p : Nat := 0xffffffff00000001000000000000000000000000ffffffffffffffffffffffff
def p256b : Nat := 0x5ac635d8aa3a93e7b3ebbd55769886bc651d06b0cc53b0f63bce3c3e27d2604b
def p256n : Nat := 0xffffffff00000000ffffffffffffffffbce6faada7179e84f3b9cac2fc632551
def p256x : Nat := 0x6b17d1f2e12c4247f8bce6e563a440f277037d812deb33a0f4a13945d898c296
def p256y : Nat := 0x4fe342e2fe1a7f9b8ee7eb4a7c0f9e162bce33576b315ececbb6406837bf51f5

/-- A pair of coordinates is a point of the curve. -/
def onCurve (x y : Nat) : Bool :=
  decide (x < p256p) && decide (y < p256p) && (y * y % p256p == (x * x * x + (p256p - 3) * x + p256b) % p256p)

/-- Point addition; `none` is the point at infinity. -/
def ecAdd : Option (Nat × Nat) → Option (Nat × Nat) → Option (Nat × Nat)
  | none, q => q
  | p, none => p
  | some (x1, y1), some (x2, y2) =>
    if x1 = x2 && (y1 + y2) % p256p = 0 then none else
    let l := if x1 = x2 then (3 * x1 * x1 + p256p - 3) * modInv p256p (2 * y1) % p256p
             else (y2 + p256p - y1) * modInv p256p (x2 + p256p - x1) % p256p
    let x3 := (l * l + 2 * p256p - x1 - x2) % p256p
    some (x3, (l * (x1 + p256p - x3) + p256p - y1) % p256p)

/-- `k` times a point, for a `k` of at most `fuel` bits. -/
def ecMul : (fuel : Nat) → (k : Nat) → Option (Nat × Nat) → Option (Nat × Nat)
  | 0, _, _ => none
  | n + 1, k, p =>
    let h := ecMul n (k / 2) (ecAdd p p)
    if k % 2 = 1 then ecAdd p h else h

/-- A 64-byte public key is a point of P-256 (R92, R112). -/
def keyOk (key : List Byte) : Bool := key.length == 64 && onCurve (beNat (slice key 0 32)) (beNat (slice key 32 32))

/-- ECDSA verification of a 64-byte signature r, s over a message (R90, R92); r or s out of range fails (R103 0x0E). -/
def ecdsaOk (key msg sig : List Byte) : Bool :=
  let r := beNat (slice sig 0 32)
  let t := beNat (slice sig 32 32)
  if r = 0 || p256n ≤ r || t = 0 || p256n ≤ t then false else
  let e := beNat (sha256 msg)
  let w := modInv p256n t
  let q := some (beNat (slice key 0 32), beNat (slice key 32 32))
  match ecAdd (ecMul 256 (e * w % p256n) (some (p256x, p256y))) (ecMul 256 (r * w % p256n) q) with
  | none => false
  | some (x, _) => x % p256n == r

end Sys2Proof.Machine
end

