-- ==== Sys2Proof/Machine/Image.lean ====
section
/-! DEFINITION. The Pattern image as bytes (R63 to R72, R90 to R96): header, body, sections, and the checks 0x01 to 0x10 of
R103 on them. -/

namespace Sys2Proof.Machine

/-- Chains, and channels of the front end, that are fused off on the PZH4804 (R227, R325). -/
def fusedChain (c : Nat) : Bool := (48 ≤ c && c < 96) || c == 98 || c == 99 || 356 ≤ c

/-- What the loader knows of its hub. -/
structure HubFacts where
  part : Nat
  rev : Nat
  fw : Nat
  serial : Nat
  wlen : Nat
  require : Bool
  anti : Bool
  minSerial : Nat
  keyStat : Nat
  keys : Tab (List Byte)
deriving DecidableEq, Repr

/-- Rejects where a condition holds. -/
def failIf (c : Bool) (code detail : Nat) : Option Reject := if c then some ⟨code, detail, 0, 0⟩ else none

/-- Rejects with the lowest of the failing items, if there is one (R103). -/
def failLowest (code : Nat) (items : List Nat) : Option Reject :=
  match items with
  | [] => none
  | i :: r => some ⟨code, r.foldl min i, 0, 0⟩

/-! ## Header (R64 to R67) -/

def hFlags (h : List Byte) : Nat := leAt h 0x0C 4
def hSigned (h : List Byte) : Bool := bit (hFlags h) 1
def hPacked (h : List Byte) : Bool := bit (hFlags h) 0
def hImageLen (h : List Byte) : Nat := leAt h 0x10 4
def hContentLen (h : List Byte) : Nat := leAt h 0x14 4
def hCount (h : List Byte) : Nat := leAt h 0x18 2
def hSerial (h : List Byte) : Nat := leAt h 0x1C 4
def hDigest (h : List Byte) : List Byte := slice h 0x20 32
def hPart (h : List Byte) : Nat := leAt h 8 2

/-- Offsets of the reserved header bytes and of the bytes of FLAGS that hold a reserved bit at 1. -/
def hReserved (h : List Byte) : List Nat :=
  (([0x0D, 0x0E, 0x0F, 0x1A, 0x1B] ++ (List.range 44).map (· + 0x50)).filter fun o => leAt h o 1 != 0)
    ++ (if leAt h 0x0C 1 / 16 = 0 then [] else [0x0C])

/-- Bytes of the image that are not body: the header and the SIGNATURE section. -/
def hFrame (h : List Byte) : Nat := 128 + (if hSigned h then 76 else 0)

/-- R67 is violated. -/
def hBadLength (h : List Byte) : Bool :=
  decide (hImageLen h < hFrame h) || decide (2 ^ 24 < hImageLen h) || decide (2 ^ 26 < hContentLen h)
    || (!hPacked h && hContentLen h != hImageLen h - hFrame h)

/-- Checks 0x01 to 0x08. -/
def headerCheck (f : HubFacts) (h : List Byte) : Option Reject :=
  failIf (h.take 4 != [0x50, 0x5A, 0x50, 0x54] || leAt h 6 2 != 128) 0x01 0
  <|> failIf (leAt h 4 1 != 1) 0x02 (leAt h 4 1)
  <|> failLowest 0x03 (hReserved h)
  <|> failIf (crc32 (h.take 0x7C) != leAt h 0x7C 4) 0x03 0x7C
  <|> failIf (hPart h != 0x0F00 && ((hPart h != 0x4804 && hPart h != 0x9608) || hPart h != f.part)) 0x04 f.part
  <|> failIf (decide (f.rev < leAt h 0x0A 1)) 0x05 f.rev
  <|> failIf (leAt h 0x0B 1 != f.fw) 0x06 f.fw
  <|> failIf (hBadLength h) 0x07 (hImageLen h)
  <|> failIf (decide (f.wlen < hImageLen h)) 0x08 f.wlen

/-! ## Body (R63, R93, R94) -/

/-- The uncompressed body of an image, check 0x09; DETAIL is the number of output bytes that the stream gave. -/
def bodyOf (h img : List Byte) : Except Reject (List Byte) :=
  let stored := slice img 128 (hImageLen h - hFrame h)
  if !hPacked h then .ok stored else
  match unzlib stored with
  | .ok d rest => if rest = [] && d.length = hContentLen h then .ok d else .error ⟨0x09, d.length, 0, 0⟩
  | .more n => .error ⟨0x09, n, 0, 0⟩
  | .bad _ n => .error ⟨0x09, n, 0, 0⟩

/-! ## Sections (R69 to R72) -/

def tUNITS : Nat := 1
def tPATCHES : Nat := 2
def tNETS : Nat := 3
def tPARAMS : Nat := 4
def tPOLICY : Nat := 5
def tCLUSTER : Nat := 6
def tTIMING : Nat := 7
def tCALDATA : Nat := 8
def tSIGNATURE : Nat := 9

/-- One section: its header bytes 0 to 7, its CRC and its payload. -/
structure Sec where
  head : List Byte
  crc : Nat
  payload : List Byte
deriving DecidableEq, Repr

def Sec.typ (s : Sec) : Nat := leAt s.head 0 1
def Sec.scope (s : Sec) : Nat := leAt s.head 1 1
def Sec.key (s : Sec) : Nat := leAt s.head 2 1

/-- Position of a type and scope in the order of R71. -/
def secRank (typ scope : Nat) : Nat := typ * 512 + (if scope = 255 then 256 else scope)

/-- Cuts a body into sections; `false` where a section overruns it or its LENGTH is no multiple of 4. -/
def cutSections : (fuel : Nat) → List Byte → List Sec × Bool
  | 0, _ => ([], true)
  | k + 1, bs =>
    if bs = [] then ([], true) else
    let len := leAt bs 4 4
    if bs.length < 12 + len || len % 4 != 0 then ([], false) else
    let (r, whole) := cutSections k (bs.drop (12 + len))
    (⟨bs.take 8, leAt bs 8 4, slice bs 12 len⟩ :: r, whole)

/-- A scope that a type may take (R69, R70). -/
def scopeOk (typ scope : Nat) : Bool :=
  if scope = 255 then [tPOLICY, tCLUSTER, tTIMING, tSIGNATURE].contains typ
  else decide (scope < 128) && [tUNITS, tPATCHES, tNETS, tPARAMS, tPOLICY, tCALDATA].contains typ

/-- Whole records of a NETS payload (R77). -/
def netsWhole : (fuel : Nat) → List Byte → Bool
  | 0, bs => bs = []
  | k + 1, bs =>
    if bs = [] then true else
    let n := 8 + 4 * leAt bs 6 2
    decide (8 ≤ bs.length) && decide (n ≤ bs.length) && netsWhole k (bs.drop n)

/-- The length of a section's payload fits its type (R73, R75, R77, R88, R724). -/
def lengthOk (s : Sec) : Bool :=
  let p := s.payload
  if s.typ = tUNITS then p.length % 16 == 0
  else if s.typ = tPATCHES then p.length % 8 == 0
  else if s.typ = tNETS then netsWhole (p.length / 8) p
  else if s.typ = tTIMING then p.length == 16
  else if s.typ = tCLUSTER then
    decide (32 ≤ p.length) && p.length == 32 + 16 * leAt p 2 1 + 8 * leAt p 8 2 + 8 * leAt p 10 2
  else true

/-- The hub IDs of the hub table as stored (R72); none where the section cannot hold them. -/
def tableIds (secs : List Sec) : Option (List Nat) :=
  match secs.find? fun s => s.typ == tCLUSTER with
  | none => none
  | some s =>
    let n := leAt s.payload 2 1
    if s.payload.length < 32 + 16 * n then none
    else some ((List.range n).map fun i => leAt s.payload (32 + 16 * i) 1)

/-- The sections that the body must hold, by type and scope (R70). -/
def required (ids : List Nat) : List (Nat × Nat) :=
  [(tPOLICY, 255), (tCLUSTER, 255), (tTIMING, 255)] ++ ids.flatMap fun h => [(tUNITS, h), (tNETS, h), (tPARAMS, h)]

/-- The index that a missing section would take (R103). -/
def wouldTake (secs : List Sec) (typ scope : Nat) : Nat :=
  ((secs.zipIdx.find? fun e => decide (secRank typ scope < secRank e.1.typ e.1.scope)).map (·.2)).getD secs.length

/-- Indexes of the sections of a body that fail check 0x0A. -/
def badSections (body : List Sec) : List Nat :=
  let ids := tableIds body
  let one := fun (e : Sec × Nat) =>
    let s := e.1
    !scopeOk s.typ s.scope || s.key != 0 || leAt s.head 3 1 != 0 || s.typ == tSIGNATURE || !lengthOk s
      || (match ids with | some l => decide (s.scope < 128) && !l.contains s.scope | none => false)
      || (match body[e.2 - 1]? with
          | some p => e.2 != 0 && decide (secRank s.typ s.scope ≤ secRank p.typ p.scope)
          | none => false)
  (body.zipIdx.filter one).map (·.2)

/-- Indexes that missing required sections would take. -/
def missingSections (secs : List Sec) : List Nat :=
  ((required ((tableIds secs).getD [])).filter fun k => !secs.any fun s => s.typ == k.1 && s.scope == k.2).map
    fun k => wouldTake secs k.1 k.2

/-- The SIGNATURE section of a signed image: its last 76 bytes (R90, R94). -/
def signatureOf (h img : List Byte) : Option Sec :=
  if !hSigned h then none else
  let b := slice img (hImageLen h - 76) 76
  some ⟨b.take 8, leAt b 8 4, b.drop 12⟩

/-- The SIGNATURE section has its form. -/
def signatureForm (s : Sec) : Bool :=
  s.typ == tSIGNATURE && s.scope == 255 && decide (s.key < 8) && leAt s.head 3 1 == 0 && leAt s.head 4 4 == 64

/-- Splits an image into its sections, check 0x0A. -/
def sectionsOf (h img body : List Byte) : Except Reject (List Sec) :=
  let (inner, whole) := cutSections (body.length / 12 + 1) body
  let sig := signatureOf h img
  let secs := inner ++ sig.toList
  let bad := badSections inner ++ missingSections secs ++ (if whole then [] else [inner.length])
    ++ (match sig with | some s => if signatureForm s then [] else [inner.length] | none => [])
    ++ (if whole && secs.length != hCount h then [min secs.length (hCount h)] else [])
  match failLowest 0x0A bad with
  | some r => .error r
  | none => .ok secs

/-! ## The image as a whole -/

/-- An image whose header and sections are intact. -/
structure Image where
  hdr : List Byte
  secs : List Sec
deriving DecidableEq, Repr

/-- The payload of a section, empty where there is none. -/
def Image.part (i : Image) (typ scope : Nat) : List Byte :=
  ((i.secs.find? fun s => s.typ == typ && s.scope == scope).map (·.payload)).getD []

/-- The hub table entries as stored: hub ID, part, serial. -/
def Image.hubs (i : Image) : List (Nat × Nat × Nat) :=
  let c := i.part tCLUSTER 255
  (List.range (leAt c 2 1)).map fun k => (leAt c (32 + 16 * k) 1, leAt c (36 + 16 * k) 2, leAt c (40 + 16 * k) 8)

/-- A hub is a PZH4804 by the hub table. -/
def Image.small (i : Image) (hub : Nat) : Bool := i.hubs.any fun e => e.1 == hub && e.2.1 == 0x4804

/-- State of key slot k: 0 EMPTY, 1 VALID, 2 REVOKED (R95). -/
def HubFacts.slot (f : HubFacts) (k : Nat) : Nat := f.keyStat / 4 ^ k % 4

/-- The signature verifies (R92, R103 code 0x0E). -/
def signatureOk (f : HubFacts) (h : List Byte) (s : Sec) : Bool :=
  f.slot s.key == 1 && ecdsaOk (tabGet f.keys [] s.key) (h.take 0x7C) s.payload

/-- Checks 0x0B to 0x10, and the comparison of the part of R726 step 2. -/
def intactCheck (f : HubFacts) (i : Image) (body : List Byte) : Option Reject :=
  let sig := i.secs.find? fun s => s.typ == tSIGNATURE
  failLowest 0x0B ((i.secs.zipIdx.filter fun e => crc32 (e.1.head ++ e.1.payload) != e.1.crc).map (·.2))
  <|> failIf (sha256 body != hDigest i.hdr) 0x0C 0
  <|> failIf (f.require && sig.isNone) 0x0D 0
  <|> (match sig with | some s => failIf (!signatureOk f i.hdr s) 0x0E s.key | none => none)
  <|> failIf (f.anti && decide (hSerial i.hdr < f.minSerial)) 0x0F f.minSerial
  <|> (match i.hubs.find? fun e => e.2.2 == f.serial with
       | none => some ⟨0x10, 0, 0, 0⟩
       | some e => failIf (hPart i.hdr == 0x0F00 && e.2.1 != f.part) 0x04 f.part)

/-- Opens the image of a bank: checks 0x01 to 0x10 (R726 steps 1 and 2). -/
def openImage (f : HubFacts) (bank : Nat → Nat → List Byte) : Except Reject Image :=
  let h := bank 0 128
  match headerCheck f h with
  | some r => .error r
  | none =>
    let img := bank 0 (hImageLen h)
    match bodyOf h img with
    | .error r => .error r
    | .ok body =>
      match sectionsOf h img body with
      | .error r => .error r
      | .ok secs =>
        match intactCheck f ⟨h, secs⟩ body with
        | some r => .error r
        | none => .ok ⟨h, secs⟩

end Sys2Proof.Machine
end

