-- ==== Sys2Proof/Machine/PatternUnits.lean ====
section
/-! DEFINITION. The UNITS, PATCHES, NETS and PARAMS records of a hub (R73 to R79), the class catalogue (R130, R134, R135) and
the checks 0x20 to 0x23 that read records alone (R726 step 5). -/

namespace Sys2Proof.Machine

/-! ## Records -/

/-- A UNITS record with its parameter words, and the offset and length of its block. -/
structure URec where
  u : PatUnit
  off : Nat
  len : Nat
deriving DecidableEq, Repr

/-- The UNITS records of a payload, with the words of each block in the PARAMS pool (R73, R79). -/
def readUnits (units pool : List Byte) : List URec :=
  (List.range (units.length / 16)).map fun k =>
    let r := slice units (16 * k) 16
    let off := leAt r 8 4
    let len := leAt r 12 2
    { u := { id := leAt r 0 2, cls := leAt r 2 1, ver := leAt r 3 1, parent := leAt r 4 2, inst := leAt r 6 2
             flags := leAt r 14 2, params := toWords (len / 4) (slice pool off len) }
      off := off, len := len }

/-- The PATCHES records of a payload (R75); byte 7 stands above KIND. -/
def readPatches (p : List Byte) : List PPatch :=
  (List.range (p.length / 8)).map fun k =>
    let r := slice p (8 * k) 8
    ⟨leAt r 0 2, leAt r 2 1, leAt r 3 1 + 256 * leAt r 7 1, leAt r 4 2, leAt r 6 1⟩

/-- The NETS records of a payload, and whether a reserved byte of a sink entry is not 0 (R77). -/
def readNets : (fuel : Nat) → List Byte → List (PNet × Bool)
  | 0, _ => []
  | k + 1, p =>
    if p.length < 8 then [] else
    let n := leAt p 6 2
    let at_ := fun i o l => leAt p (8 + 4 * i + o) l
    let sinks := (List.range n).map fun i => (at_ i 0 2, at_ i 2 1)
    (⟨leAt p 0 2, leAt p 2 1, leAt p 4 2, leAt p 3 1, sinks⟩, (List.range n).any fun i => at_ i 3 1 != 0)
      :: readNets k (p.drop (8 + 4 * n))

/-- Inserts into a list ordered by `f`. -/
def insertBy {α : Type} (f : α → Nat) (x : α) : List α → List α
  | [] => [x]
  | y :: l => if f x < f y then x :: y :: l else y :: insertBy f x l

/-- A list in ascending order of `f`. -/
def sortBy {α : Type} (f : α → Nat) (l : List α) : List α := l.foldl (fun a x => insertBy f x a) []

/-- The elements of a list that have an equal one before them. -/
def repeats {α : Type} [DecidableEq α] : List α → List α → List α
  | _, [] => []
  | seen, x :: l => if x ∈ seen then x :: repeats seen l else repeats (x :: seen) l

/-! ## Instances (R130, R74) -/

/-- One more than the largest instance of a class, on the PZH4804 where `small`; 0 for PATCH and for reserved classes. -/
def classLimit (small : Bool) (cls : Nat) : Nat :=
  let l := if small then [0, 48, 48, 256, 356, 356, 712, 32, 16, 32, 48, 16, 2, 64, 64, 16, 8, 8, 8, 4096]
    else [0, 96, 96, 512, 612, 612, 1224, 32, 16, 64, 80, 16, 2, 64, 64, 16, 8, 8, 16, 4096]
  l.getD cls 0

/-- An instance that the class has; the chains of the mend channels and fused chains are never units. -/
def instOk (small : Bool) (cls inst : Nat) : Bool :=
  if cls = cPATCH then inst == 0xFFFF else
  let locals := if small then 48 else 96
  decide (inst < classLimit small cls)
    && !((cls == cFILTER || cls == cLINEARISER) && locals ≤ inst && inst < 100)
    && !(cls == cTHRESHOLD && 2 * locals ≤ inst && inst < 200)

/-- A class of the catalogue. -/
def classOk (cls : Nat) : Bool := cls == cPATCH || (1 ≤ cls && cls ≤ cSUBSCRIBE)

/-- The loader assigns the instance of this unit. -/
def PatUnit.assigned (u : PatUnit) : Bool := u.inst == 0xFFFF && u.cls != cPATCH

/-- The lowest free instance of a class. -/
def freeInst (small : Bool) (used : List (Nat × Nat)) (cls : Nat) : Option Nat :=
  (List.range (classLimit small cls)).find? fun i => instOk small cls i && !used.contains (cls, i)

/-- Assigns instances to units in the order given (R74); a unit for which none is free keeps 0xFFFF. -/
def assignFrom (small : Bool) : List (Nat × Nat) → List URec → List URec
  | _, [] => []
  | used, r :: l =>
    if r.u.assigned then
      match freeInst small used r.u.cls with
      | some i => { r with u.inst := i } :: assignFrom small ((r.u.cls, i) :: used) l
      | none => r :: assignFrom small used l
    else r :: assignFrom small used l

/-- The units of a hub in ascending order of UNIT_ID, every instance assigned (R74). -/
def assignAll (small : Bool) (rs : List URec) : List URec :=
  let rs := sortBy (fun r : URec => r.u.id) rs
  assignFrom small ((rs.filter fun r => !r.u.assigned).map fun r => (r.u.cls, r.u.inst)) rs

/-- A unit of a class and instance stands in the list. -/
def hasUnit (us : List PatUnit) (cls inst : Nat) : Bool := us.any fun u => u.cls == cls && u.inst == inst

/-- The unit of a class and instance. -/
def unitIn (us : List PatUnit) (cls inst : Nat) : Option PatUnit := us.find? fun u => u.cls == cls && u.inst == inst

/-- The units that a unit depends on exist (R131, R380, R536). -/
def dependsOk (us : List PatUnit) (u : PatUnit) : Bool :=
  if u.inst = 0xFFFF then true
  else if u.cls = cADAPTER then hasUnit us cINPUT u.inst
  else if u.cls = cFILTER then
    if u.inst < 96 then hasUnit us cINPUT u.inst else hasUnit us cPOD_BINDING ((u.inst - 100) / 32)
  else if u.cls = cLINEARISER then hasUnit us cFILTER u.inst
  else if u.cls = cTHRESHOLD then hasUnit us cFILTER (u.inst / 2)
  else if u.cls = cPOD_CHANNEL then hasUnit us cPOD_BINDING (u.inst / 32)
  else if u.cls = cOUTPUT then decide (u.inst < 16) || hasUnit us cPOD_BINDING ((u.inst - 16) / 4)
  else if u.cls = cTDC then u.p 0 0 2 != 1 || hasUnit us cTDC (u.p 0 8 4)
  else true

/-- Checks 0x20 to 0x22 (R726 step 5). `raw` are the records as stored, `rs` those with assigned instances. -/
def unitCheck (small : Bool) (raw rs : List URec) : Option Reject :=
  let ids := raw.map (·.u.id)
  let us := rs.map (·.u)
  let explicit := (sortBy (fun r : URec => r.u.id) raw).filter fun r => !r.u.assigned && r.u.cls != cPATCH
  let twice := repeats [] (explicit.map fun r => (r.u.cls, r.u.inst))
  failLowest 0x20 (repeats [] ids ++ ids.filter fun i => 16383 < i)
  <|> failLowest 0x21 ((us.filter fun u => !classOk u.cls || u.ver != 1 || 2 ≤ u.flags).map (·.id))
  <|> failLowest 0x22
    (((raw.map (·.u)).filter fun u => !u.assigned && (!instOk small u.cls u.inst || twice.contains (u.cls, u.inst))).map (·.id)
      ++ (us.filter fun u => !dependsOk us u).map (·.id))

/-! ## Parameter blocks (R129, R135) -/

/-- Every word of a block has only bits of its mask; words past the list of masks have those of the last one. -/
def masked (dflt : Nat) : List Nat → List Nat → Bool
  | [], ws => ws.all fun w => w &&& dflt == w
  | m :: ms, w :: ws => (w &&& m == w) && masked dflt ms ws
  | _ :: _, [] => true

def inRange (lo hi x : Nat) : Bool := decide (lo ≤ x) && decide (x ≤ hi)

/-- All bits of a word. -/
def allBits : Nat := 0xFFFFFFFF

/-- A signed 24-bit value in a 32-bit word. -/
def signed24 (w : Nat) : Bool := decide (-8388608 ≤ signed 32 w) && decide (signed 32 w ≤ 8388607)

/-- A finite binary32 word. -/
def finite32 (w : Nat) : Bool := field w 23 8 != 255

/-- D_LOG2 and PHASE of a unit that has own ticks, and for a LOOP unit M and PHASE: period and phase (R137). -/
def ownPeriod (u : PatUnit) : Option (Nat × Nat) :=
  if u.cls = cFILTER then some (2 ^ u.p 0 4 4, u.p 0 8 10)
  else if u.cls = cCAPTURE then some (2 ^ u.p 0 24 4, u.p 1 0 10)
  else if u.cls = cSTREAM then some (2 ^ u.p 0 10 4, u.p 0 14 10)
  else if u.cls = cQUEUE then some (2 ^ u.p 0 9 4, u.p 0 13 10)
  else if u.cls = cLOOP then some (u.p 0 0 8 + 1, u.p 0 8 8)
  else none

/-- D is at most 1024 (M at most 256) and the phase lies below it (R34, R35, R135). -/
def periodOk (u : PatUnit) : Bool :=
  match ownPeriod u with
  | none => true
  | some (d, p) => decide (d ≤ 1024) && decide (p < d)

/-- PARAM_LEN in words that the class and the unit's own count fields give (R129). -/
def blockWords (u : PatUnit) : Nat :=
  match u.cls with
  | 0x01 => 3
  | 0x02 => 1
  | 0x03 => 1
  | 0x04 => 2
  | 0x05 => 2 + (u.p 0 0 3 + 1) * (u.p 0 4 2 + 1)
  | 0x06 => 3
  | 0x07 => 2
  | 0x08 => 7 + u.p 0 0 11
  | 0x09 => if u.p 0 18 1 = 1 then 268 else 12
  | 0x0A => 6 + u.p 4 0 3
  | 0x0B => 1
  | 0x0C => 1 + u.p 0 0 6
  | 0x0D => 1 + u.p 0 0 10
  | 0x0E => 5 + u.p 1 0 11
  | 0x0F => 3
  | 0x10 => 6
  | 0x11 => 1
  | 0x12 => 5
  | 0x13 => 2 + u.p 1 0 8
  | _ => 1

def inputOk (u : PatUnit) : Bool :=
  masked 0 [0xFFE7, 0xFFFF0003, 0x3] u.params && inRange 4 1024 (u.p 0 5 11)
    && (match u.p 1 0 2 with
        | 0 => u.p 1 16 16 == 0
        | 1 => inRange 500 5000 (u.p 1 16 16)
        | 2 => inRange 100 10000 (u.p 1 16 16)
        | _ => false)
    && (u.p 2 0 1 == 0 || u.p 1 0 2 == 1)

def filterOk (u : PatUnit) : Bool :=
  let d := signed 32 (u.params.getD 1 0)
  masked 0 [0x3FFF7, allBits] u.params && u.p 0 0 2 != 3 && (u.p 0 0 2 != 2 || decide (2 ≤ u.p 0 4 4))
    && decide (-1048576 ≤ d) && decide (d ≤ 1048575)

def lineariserOk (u : PatUnit) : Bool :=
  masked allBits [0x37] u.params && (u.params.drop 1).all finite32 && u.params.getD 1 0 % 2 ^ 31 != 0

def thresholdOk (u : PatUnit) : Bool :=
  masked 0 [1, allBits, allBits] u.params && signed24 (u.params.getD 1 0) && signed24 (u.params.getD 2 0)
    && decide (signed 32 (u.params.getD 2 0) ≤ signed 32 (u.params.getD 1 0))

def captureOk (u : PatUnit) : Bool :=
  masked allBits [0x0F01F7FF, 0x00FF03FF, allBits, allBits, allBits, allBits, 0] u.params
    && inRange 1 1024 (u.p 0 0 11) && decide (u.p 0 12 4 ≤ 10) && decide (1 ≤ u.p 1 16 8)
    && (u.p 0 16 1 == 1 || u.p 1 16 8 == 1) && decide (1 ≤ u.params.getD 3 0) && decide (1 ≤ u.params.getD 5 0)

/-- A gain word has its reserved bits 0 (R422). -/
def gainOk (w : Nat) : Bool := field w 6 2 == 0

def loopOk (u : PatUnit) : Bool :=
  masked allBits [0x1FFFFF, 0xFFF, allBits, allBits, allBits, allBits, allBits, allBits, allBits, 0, 0, 0] u.params
    && u.p 0 16 2 != 3 && u.p 0 19 2 != 3 && !inRange 1 3 (u.p 1 0 12)
    && ((u.params.drop 2).take 4).all gainOk
    && signed24 (u.params.getD 6 0) && signed24 (u.params.getD 7 0)
    && decide (signed 32 (u.params.getD 6 0) < signed 32 (u.params.getD 7 0))
    && inRange 1 (2 ^ 23) (u.params.getD 8 0)
    && (u.params.drop 12).all fun w => gainOk w && !bit w 31

def outputOk (u : PatUnit) : Bool :=
  masked 0xFF7F [0x7F3F, allBits, allBits, allBits, 0x7, 0] u.params && decide (u.p 0 8 7 ≤ 64)
    && signed24 (u.params.getD 1 0) && (u.params.drop 6).all fun w => decide (1 ≤ field w 8 8)

def auxOk (u : PatUnit) : Bool :=
  masked 0xFFFF001F [0x3F] u.params && inRange 1 (if u.inst = 1 then 8 else 32) (u.p 0 0 6)

def queueOk (u : PatUnit) : Bool :=
  let size := 2 ^ u.p 0 0 5
  masked allBits [0x7FFF1F, 0x7FF, 0xFFFFF, 0x7FFFF, 0x7FFFF] u.params && inRange 6 18 (u.p 0 0 5)
    && decide (u.p 1 0 11 ≤ 1024) && inRange 1 1000000 (u.p 2 0 20)
    && decide (u.p 3 0 19 ≤ size) && decide (u.p 4 0 19 ≤ u.p 3 0 19)

def wringOk (u : PatUnit) : Bool :=
  let decompress := u.p 0 7 1 == 1
  masked 0 [0xFF, 0x3F, 0x1F] u.params && inRange 1 9 (u.p 0 0 4) && u.p 0 4 2 != 3
    && (u.p 0 6 1 == 0 || (!decompress && u.p 0 4 2 == 2)) && (!decompress || u.p 1 0 6 == 0)

def timeOutOk (u : PatUnit) : Bool :=
  let w := u.params.getD 1 0
  masked 0 [0x3, allBits, allBits, 0xFFFF, 0x3FFFFFFF, allBits] u.params && inRange 4 (2 ^ 31) w
    && decide (u.params.getD 4 0 ≤ 999999999) && (u.p 0 0 1 == 0 || decide (2 * w ≤ u.params.getD 5 0))

def bindingOk (u : PatUnit) : Bool :=
  masked 0 [0xF, 0x3F, allBits, allBits, 0xFFFF] u.params && bindMode u != 3 && decide (1 ≤ bindLimit u)
    && (bindMode u != 0 || bindSerial u != 0)

/-- The block of a unit lies within its ranges, by itself (R135, R188, R389, R422, R551, R602). -/
def blockOk (u : PatUnit) : Bool :=
  u.params.length == blockWords u && periodOk u &&
  match u.cls with
  | 0x01 => inputOk u
  | 0x02 => masked 0 [7] u.params && decide (u.p 0 0 3 ≤ 4)
  | 0x03 => masked 0 [1] u.params
  | 0x04 => filterOk u
  | 0x05 => lineariserOk u
  | 0x06 => thresholdOk u
  | 0x07 => masked 0 [0x7, 0xFFFF] u.params && u.p 0 0 2 != 3
  | 0x08 => captureOk u
  | 0x09 => loopOk u
  | 0x0A => outputOk u
  | 0x0B => masked 0 [0xF0F] u.params && u.p 0 0 2 != 3 && u.p 0 2 2 != 3
  | 0x0C => auxOk u
  | 0x0D => masked 0x3FF [0x1FFFFFF] u.params && inRange 1 1015 (u.p 0 0 10)
  | 0x0E => queueOk u
  | 0x0F => wringOk u
  | 0x10 => timeOutOk u
  | 0x11 => masked 0 [3] u.params && u.p 0 0 2 != 3
  | 0x12 => bindingOk u
  | 0x13 => masked 0x3FF [0x3F7F, 0xFF] u.params
  | _ => masked 0 [0xFFFF] u.params

/-- D_FE limits of a front end: without an adapter, or with one of feedback RF (R276). -/
def dfeLimits : Option Nat → Nat × Nat
  | none => (31, 472)
  | some 0 => (31, 786)
  | some 1 => (31, 786)
  | some 2 => (63, 1887)
  | some 3 => (157, 7864)
  | some _ => (629, 31457)

/-- RF of the adapter of local channel c, if it has one. -/
def adapterRf (us : List PatUnit) (c : Nat) : Option Nat := (unitIn us cADAPTER c).map fun a => a.p 0 0 3

/-- The alignment of a FILTER unit is possible (R276), and its pod channel allows its mode (R285). -/
def alignOk (us : List PatUnit) (tAl : Nat) (u : PatUnit) : Bool :=
  let d : Int := (tAl : Int) - signed 32 (u.params.getD 1 0)
  if u.inst < 96 then
    let (lo, hi) := dfeLimits (adapterRf us u.inst)
    decide (0 ≤ d - hi) && decide (d - lo ≤ 1048575)
  else
    decide (0 ≤ d) && decide (d ≤ 1048575) &&
    match unitIn us cPOD_CHANNEL (u.inst - 100) with
    | some c => c.p 0 0 1 == 0 || (u.p 0 0 2 == 0 && u.p 0 4 4 == 0)
    | none => true

/-- The compression jobs of a unit list. -/
def packJobs (us : List PatUnit) : List PatUnit := us.filter fun u => u.cls == cWRING && u.p 0 7 1 == 0

/-- R573 for a WRING_JOB unit. -/
def jobOk (us : List PatUnit) (u : PatUnit) : Bool :=
  let others := us.filter fun v => v.cls == cWRING && v.id != u.id
  decide (u.p 2 0 5 < 16) && others.all (fun v => v.p 2 0 5 != u.p 2 0 5) &&
  (u.p 0 7 1 == 1 ||
    ((unitIn us cQUEUE (u.p 1 0 6)).any (fun q => q.p 0 8 1 == 1)
      && others.all fun v => v.p 0 7 1 == 1 || v.p 1 0 6 != u.p 1 0 6))

/-- The SETPOINT messages of a port end before the next tick (R540): a tick has 2·N characters (R537). -/
def setpointsFit (emit ffCode outs : Nat) : Bool :=
  let chars := 2 * (12288000 / ffHz ffCode)
  decide (emit * chars + (13 * outs + 2) * 65536 ≤ 65536 * chars)

/-- An OUTPUT unit of a pod with the highest instance of its port (R540). -/
def lastOutput (us : List PatUnit) (u : PatUnit) : Bool :=
  !us.any fun v => v.cls == cOUTPUT && 16 ≤ v.inst && v.inst != 0xFFFF && (v.inst - 16) / 4 == (u.inst - 16) / 4
    && decide (u.inst < v.inst)

/-- A block agrees with the other units, for the values that need no connection (R276, R285, R540, R573, R135). -/
def blockFits (us : List PatUnit) (tAl hub emit ffCode : Nat) (u : PatUnit) : Bool :=
  if u.cls = cPATCH then u.p 0 0 16 == 0xFFFF || us.any fun v => v.id == u.p 0 0 16 && v.parent == u.id
  else if u.inst = 0xFFFF then true
  else if u.cls = cFILTER then alignOk us tAl u
  else if u.cls = cSUBSCRIBE then u.p 0 0 7 != hub
  else if u.cls = cQUEUE then u.p 0 8 1 == 0 || (packJobs us).any fun j => j.p 1 0 6 == u.inst
  else if u.cls = cWRING then jobOk us u
  else if u.cls = cOUTPUT then
    decide (u.inst < 16) || !lastOutput us u || setpointsFit emit ffCode (outputsOf us ((u.inst - 16) / 4)).length
  else true

/-- Check 0x23 on the records as stored. -/
def paramCheck (rs : List URec) (pool tAl hub emit ffCode : Nat) : Option Reject :=
  let us := rs.map (·.u)
  let good := fun (r : URec) => r.off % 4 == 0 && r.len % 4 == 0 && decide (r.off + r.len ≤ pool) && blockOk r.u
  let fit := fun (r : URec) => good r && blockFits us tAl hub emit ffCode r.u
  failLowest 0x23 ((rs.filter fun r => !fit r).map (·.u.id))

end Sys2Proof.Machine
end

