-- ==== Sys2Proof/Machine/PatternNets.lean ====
section
/-! DEFINITION. Ports (R134), patches and flattening (R138 to R140), and the checks 0x24 to 0x29 of R103. -/

namespace Sys2Proof.Machine

/-! ## Ports (R134) -/

/-- Port kinds: the net types of R78, and the modulator ports of R125, whose net type is sample. -/
def kSAMPLE : Nat := 0
def kEVENT : Nat := 1
def kSETPOINT : Nat := 2
def kTIME : Nat := 3
def kMOD : Nat := 4

/-- The net type of a port kind. -/
def kindType (k : Nat) : Nat := if k = kMOD then kSAMPLE else k

/-- Kind of an input port, and whether it is required. -/
def inPort (u : PatUnit) (port : Nat) : Option (Nat × Bool) :=
  match u.cls, port with
  | 0x04, 0 => some (kMOD, true)
  | 0x05, 0 => some (kSAMPLE, true)
  | 0x05, 1 => some (kSAMPLE, false)
  | 0x06, 0 => some (kSAMPLE, true)
  | 0x07, p => if p < 4 then some (kEVENT, u.p 0 0 2 == 2 && p < 2) else none
  | 0x08, 0 => some (kEVENT, true)
  | 0x09, 0 => some (kSETPOINT, true)
  | 0x09, 1 => some (kSAMPLE, true)
  | 0x09, 2 => some (kSAMPLE, false)
  | 0x09, 3 => some (kSAMPLE, false)
  | 0x0A, p => if p < 8 then some (kSETPOINT, false) else none
  | 0x0C, 0 => some (kEVENT, u.inst == 1)
  | 0x0E, 0 => some (kEVENT, false)
  | 0x0E, 1 => some (kTIME, false)
  | 0x0F, 0 => some (kEVENT, false)
  | 0x10, 0 => some (kTIME, false)
  | _, _ => none

/-- Kind of an output port. -/
def outPort (u : PatUnit) (port : Nat) : Option Nat :=
  match u.cls, port with
  | 0x01, 0 => some kMOD
  | 0x03, 0 => some kMOD
  | 0x04, 0 => some kSAMPLE
  | 0x05, 0 => some kSAMPLE
  | 0x06, 0 => some kEVENT
  | 0x07, 0 => some kEVENT
  | 0x08, 0 => some kEVENT
  | 0x09, 0 => some kSETPOINT
  | 0x09, 1 => some kEVENT
  | 0x0B, 0 => some kSAMPLE
  | 0x0B, 1 => some kEVENT
  | 0x0C, p => if p < u.p 0 0 6 then some kSAMPLE else none
  | 0x0E, 0 => some kEVENT
  | 0x0F, 0 => some kEVENT
  | 0x11, 0 => some kTIME
  | 0x11, 1 => some kEVENT
  | 0x12, 0 => some kEVENT
  | 0x13, p => if p < u.p 1 0 8 then some kSAMPLE else none
  | _, _ => none

/-! ## Patches (check 0x24) -/

/-- The unit with a UNIT_ID. -/
def unitOf (us : List PatUnit) (id : Nat) : Option PatUnit := us.find? fun u => u.id == id

/-- A UNIT_ID names a PATCH unit. -/
def isPatch (us : List PatUnit) (id : Nat) : Bool := (unitOf us id).any fun u => u.cls == cPATCH

/-- The chain of PARENT from a unit passes a UNIT_ID. -/
def parentPasses (us : List PatUnit) (target : Nat) : (fuel : Nat) → Nat → Bool
  | 0, _ => false
  | k + 1, id => id == target || (unitOf us id).any fun u => parentPasses us target k u.parent

/-- The records of a patch port: direction 0 input, 1 output. -/
def patchPort (ps : List PPatch) (patch dir port : Nat) : List PPatch :=
  ps.filter fun m => m.patch == patch && m.kind % 2 == dir && m.port == port

/-- Net type of a PATCHES record. -/
def PPatch.typ (m : PPatch) : Nat := m.kind / 2 % 4

/-- A PATCHES record fits its patch and its inner port (R75, R76, R138). -/
def patchRecOk (us : List PatUnit) (ps : List PPatch) (m : PPatch) : Bool :=
  let dir := m.kind % 2
  isPatch us m.patch && decide (m.kind < 8) && (dir == 0 || (patchPort ps m.patch 1 m.port).length == 1) &&
  match unitOf us m.inner with
  | none => false
  | some u =>
    u.parent == m.patch &&
    if u.cls = cPATCH then
      let inner := patchPort ps u.id dir m.innerPort
      !inner.isEmpty && inner.all fun i => i.typ == m.typ
    else if dir = 1 then (outPort u m.innerPort).any fun k => kindType k == m.typ
    else (inPort u m.innerPort).any fun k => kindType k.1 == m.typ

/-- Check 0x24. -/
def patchCheck (us : List PatUnit) (ps : List PPatch) : Option Reject :=
  let badParent := us.filter fun u =>
    (u.parent != 0xFFFF && !isPatch us u.parent) || parentPasses us u.id us.length u.parent
  failLowest 0x24 (badParent.map (·.id) ++ (ps.filter fun m => !patchRecOk us ps m).map (·.patch))

/-! ## Flattening (R140) -/

/-- Step 1: the driver behind patch output ports. -/
def resolveDriver (us : List PatUnit) (ps : List PPatch) : (fuel : Nat) → Nat × Nat → Option (Nat × Nat)
  | 0, _ => none
  | k + 1, (u, p) =>
    if isPatch us u then
      match patchPort ps u 1 p with
      | m :: _ => resolveDriver us ps k (m.inner, m.innerPort)
      | [] => none
    else if (unitOf us u).isSome then some (u, p) else none

/-- Step 2: the sinks behind patch input ports; none where a patch lacks the port. -/
def resolveSinks (us : List PatUnit) (ps : List PPatch) : (fuel : Nat) → List (Nat × Nat) → Option (List (Nat × Nat))
  | _, [] => some []
  | 0, _ => none
  | k + 1, l =>
    l.foldl (fun acc (u, p) =>
      match acc with
      | none => none
      | some out =>
        if isPatch us u then
          match patchPort ps u 0 p with
          | [] => none
          | ms => (resolveSinks us ps k (ms.map fun m => (m.inner, m.innerPort))).map fun r => out ++ r
        else if (unitOf us u).isSome then some (out ++ [(u, p)]) else none) (some [])

/-- A list without repeats, in order of first occurrence. -/
def distinct {α : Type} [DecidableEq α] (l : List α) : List α :=
  l.foldl (fun a x => if x ∈ a then a else a ++ [x]) []

/-- A stored net with its flattened ends: no sinks where it fails before flattening. -/
structure FlatNet where
  net : PNet
  drv : Option (Nat × Nat)
  sinks : Option (List (Nat × Nat))
deriving DecidableEq, Repr

/-- All ends of a net lie inside one PARENT (R127). -/
def oneParent (us : List PatUnit) (n : PNet) : Bool :=
  match unitOf us n.drvUnit with
  | none => false
  | some d => n.sinks.all fun s => (unitOf us s.1).any fun u => u.parent == d.parent

/-- A stored net flattened. -/
def flatOne (us : List PatUnit) (ps : List PPatch) (n : PNet) : FlatNet :=
  let fuel := us.length + 1
  { net := n, drv := resolveDriver us ps fuel (n.drvUnit, n.drvPort)
    sinks := if oneParent us n then (resolveSinks us ps fuel n.sinks).map distinct else none }

/-- The unit is a LOOP unit. -/
def isLoop (us : List PatUnit) (id : Nat) : Bool := (unitOf us id).any fun u => u.cls == cLOOP

/-- A command loop-back (R419). -/
def loopsBack (us : List PatUnit) (drv : Nat × Nat) (sinks : List (Nat × Nat)) : Bool :=
  isLoop us drv.1 && drv.2 == 0 && sinks == [(drv.1, 0)]

def FlatNet.back (us : List PatUnit) (f : FlatNet) : Bool :=
  match f.drv, f.sinks with
  | some d, some s => loopsBack us d s
  | _, _ => false

/-- Step 3: a net joins the merged net of its driver. Nets come in ascending order of NET_ID. -/
def mergeNet (acc : List PNet) (f : FlatNet) : List PNet :=
  match f.drv, f.sinks with
  | some (u, p), some sk =>
    if acc.any fun n => n.drvUnit == u && n.drvPort == p then
      acc.map fun n =>
        if n.drvUnit == u && n.drvPort == p then
          { n with typ := if n.typ = f.net.typ then n.typ else 0xFF, sinks := distinct (n.sinks ++ sk) }
        else n
    else acc ++ [{ id := f.net.id, typ := f.net.typ, drvUnit := u, drvPort := p, sinks := sk }]
  | _, _ => acc

/-- The nets of a hub after flattening. -/
structure Flattened where
  nets : List PNet
  loopBack : List PNet
  /-- NET_IDs, as they survive the merge, of the nets that fail before it -/
  bad : List Nat
deriving DecidableEq, Repr

/-- Flattens all nets (R140). The nets that fail are those with a repeated NET_ID, an end that is no unit, ends of several
PARENTs or a patch port without a record; a reserved sink byte is reported with the NET_ID as stored (R77). -/
def flatten (us : List PatUnit) (ps : List PPatch) (stored : List (PNet × Bool)) : Flattened :=
  let nets := sortBy (fun n : PNet => n.id) (stored.map (·.1))
  let fs := nets.map (flatOne us ps)
  let again := repeats [] (nets.map (·.id))
  let failed := fs.filter fun f => f.drv.isNone || f.sinks.isNone || again.contains f.net.id
  let survives := fun (f : FlatNet) =>
    if f.drv.isNone then f.net.id
    else (fs.filter fun g => g.drv == f.drv && !g.back us).foldl (fun a g => min a g.net.id) f.net.id
  let backs := fs.filter (·.back us)
  { nets := (fs.filter fun f => !f.back us).foldl mergeNet []
    loopBack := backs.map fun f => { f.net with drvUnit := (f.drv.getD (0, 0)).1, drvPort := 0, sinks := f.sinks.getD [] }
    bad := failed.map survives ++ (stored.filter (·.2)).map (·.1.id) }

/-- Step 6 of R726: the parameters that depend on connections. -/
def wiredOk (us : List PatUnit) (nets : List PNet) (u : PatUnit) : Bool :=
  let fed := fun p => (driverIn nets u.id p).isSome
  if u.cls = cLINEARISER then u.p 0 4 2 == 0 || fed 1
  else if u.cls = cOUTPUT then (List.range 8).all fun k => fed k == (u.p (2 + k / 4) (8 * (k % 4)) 8 != 0)
  else if u.cls = cLOOP then
    let outs := us.filter fun v => v.cls == cOUTPUT && nets.any fun n =>
      n.drvUnit == u.id && n.drvPort == 0 && n.sinks.any fun s => s.1 == v.id
    (u.p 0 19 2 != 1 || fed 3) && (u.p 0 16 2 != 2 || fed 2)
      && (u.p 0 16 2 != 1 || (distinct (outs.map fun v => v.params.getD 1 0)).length == 1)
  else if u.cls = cWRING then u.p 0 7 1 == 0 || !fed 0
  else true

def wiredCheck (us : List PatUnit) (nets : List PNet) : Option Reject :=
  failLowest 0x23 ((us.filter fun u => !wiredOk us nets u).map (·.id))

/-! ## Nets (checks 0x25 to 0x27) -/

/-- The chain of a FILTER, LINEARISER or THRESHOLD unit. -/
def chainOf (u : PatUnit) : Nat := if u.cls = cTHRESHOLD then u.inst / 2 else u.inst

/-- The driver and the sink of a modulator net belong together (R125); the input of a LINEARISER or THRESHOLD comes from its
own chain (R132). -/
def pairOk (d : PatUnit) (dPort : Nat) (s : PatUnit) (sPort : Nat) : Bool :=
  if s.cls = cFILTER then
    dPort == 0 && sPort == 0 && ((d.cls == cINPUT && s.inst == d.inst) || (d.cls == cPOD_CHANNEL && s.inst == d.inst + 100))
  else if d.cls = cINPUT || d.cls = cPOD_CHANNEL then false
  else if sPort = 0 && s.cls = cLINEARISER then d.cls == cFILTER && dPort == 0 && d.inst == s.inst
  else if sPort = 0 && s.cls = cTHRESHOLD then
    (d.cls == cFILTER || d.cls == cLINEARISER) && dPort == 0 && d.inst == s.inst / 2
  else true

/-- A flattened net has the shape of check 0x25. -/
def netShape (us : List PatUnit) (all : List PNet) (n : PNet) : Bool :=
  match unitOf us n.drvUnit with
  | none => false
  | some d =>
    (match outPort d n.drvPort with
      | none => false
      | some k => k != kMOD || n.sinks.length == 1)
    && n.sinks.all (fun s =>
      match unitOf us s.1 with
      | none => false
      | some u => (inPort u s.2).isSome && pairOk d n.drvPort u s.2
        && !(u.cls == cTRIGGER && u.p 0 0 2 == 2 && 2 ≤ s.2))
    && !(d.cls == cLOOP && n.drvPort == 0 && n.sinks.contains (d.id, 0) && n.sinks.length != 1)
    && n.sinks.all fun s => (all.filter fun m => m.sinks.contains s).length == 1

/-- The required inputs of a unit that no net drives, in ascending order. -/
def missingInputs (all : List PNet) (u : PatUnit) : List Nat :=
  let fed := fun p => (driverIn all u.id p).isSome
  let must := (List.range 4).filter fun p => (inPort u p).any (·.2) && !fed p
  let any := (u.cls == cTRIGGER && !(List.range 4).any fed)
    || (u.cls == cOUTPUT && u.p 4 0 3 == 0 && !(List.range 8).any fed)
  if any && must.isEmpty then [0] else must

/-- Check 0x25. -/
def shapeCheck (us : List PatUnit) (f : Flattened) : Option Reject :=
  let all := f.nets ++ f.loopBack
  let live := sortBy (fun u : PatUnit => u.id) (us.filter fun u => u.cls != cPATCH)
  failLowest 0x25 (f.bad ++ (all.filter fun n => !netShape us all n).map (·.id))
  <|> (match (live.flatMap fun u => (missingInputs all u).map fun p => (u.id, p)) with
       | [] => none
       | (id, p) :: _ => some ⟨0x25, 0x80000000 + p * 0x10000 + id, 0, 0⟩)

/-- The type of a net is that of its driver and of every sink (check 0x26). -/
def typeOk (us : List PatUnit) (n : PNet) : Bool :=
  let out := (unitOf us n.drvUnit).bind fun d => outPort d n.drvPort
  out.any (fun k => kindType k == n.typ)
    && n.sinks.all fun s => ((unitOf us s.1).bind fun u => inPort u s.2).any fun k => kindType k.1 == n.typ

/-- A unit of a class that holds state across ticks (R128). -/
def isStateful (us : List PatUnit) (id : Nat) : Bool :=
  (unitOf us id).any fun u => u.cls == cFILTER || u.cls == cCAPTURE || u.cls == cQUEUE || u.cls == cWRING

/-- The connections within one tick: driver, sink, NET_ID. -/
def tickEdges (us : List PatUnit) (nets : List PNet) : List (Nat × Nat × Nat) :=
  (nets.filter fun n => !isStateful us n.drvUnit).flatMap fun n =>
    (n.sinks.filter fun s => !isStateful us s.1).map fun s => (n.drvUnit, s.1, n.id)

/-- The units that a set of units reaches in at most `fuel` connections. -/
def reaches (es : List (Nat × Nat × Nat)) : (fuel : Nat) → List Nat → List Nat
  | 0, seen => seen
  | k + 1, seen =>
    let new := (distinct (((es.filter fun e => seen.contains e.1).map fun e => e.2.1))).filter fun x => !seen.contains x
    if new.isEmpty then seen else reaches es k (seen ++ new)

/-- Check 0x27. -/
def cycleCheck (us : List PatUnit) (nets : List PNet) : Option Reject :=
  let es := tickEdges us nets
  failLowest 0x27 ((es.filter fun e => (reaches es us.length [e.2.1]).contains e.1).map fun e => e.2.2)

/-! ## Slots (check 0x28) -/

/-- A slot that holds nothing (R36, R37). -/
def slotReserved (s : Nat) : Bool := (100 ≤ s && s < 128) || 752 ≤ s

/-- A slot of a mend channel (R38). -/
def slotMend (s : Nat) : Bool := 96 ≤ s && s < 100

/-- The slots that a unit binds (R130). -/
def boundSlots (u : PatUnit) : List Nat :=
  if u.inst = 0xFFFF then []
  else if u.cls = cFILTER then [if u.inst < 96 then u.inst else u.inst + 28]
  else if u.cls = cOUTPUT then (if u.inst < 16 then [688 + u.inst] else [])
  else if u.cls = cTDC then [640 + u.inst]
  else if u.cls = cAUX && u.inst = 0 then distinct ((List.range (u.p 0 0 6)).map fun k => 656 + u.p (1 + k) 0 5)
  else []

/-- The slot references of a CAPTURE or QUEUE unit. -/
def slotRefs (u : PatUnit) : List Nat :=
  if u.cls = cCAPTURE then u.params.drop 7 else if u.cls = cQUEUE then u.params.drop 5 else []

/-- The slot list of a STREAM unit. -/
def streamList (u : PatUnit) : List Nat := (u.params.drop 1).map (· % 1024)

/-- The units of any hub of the cluster, as the comparisons of R72 read them; a block outside its pool or of another length
than its class gives is left out. -/
def hubUnits (i : Image) (hub : Nat) : List PatUnit :=
  let pool := i.part tPARAMS hub
  let rs := assignAll (i.small hub) (readUnits (i.part tUNITS hub) pool)
  (rs.filter fun r => decide (r.off + r.len ≤ pool.length) && r.u.params.length == blockWords r.u).map (·.u)

/-- The slot list of a stream of another hub (R133). -/
def remoteSlots (i : Image) (hub stream : Nat) : List Nat :=
  ((unitIn (hubUnits i hub) cSTREAM stream).map streamList).getD []

/-- The streams that a unit list subscribes to. -/
def subscriptions (us : List PatUnit) : List (Nat × Nat) :=
  distinct ((us.filter fun u => u.cls == cSUBSCRIBE).map fun u => (u.p 0 0 7, u.p 0 8 6))

/-- A slot reference is allowed (R37, R38, R133). -/
def refOk (i : Image) (us : List PatUnit) (r : Nat) : Bool :=
  let slot := r % 1024
  let hub := field r 16 8
  field r 10 6 == 0 && field r 30 2 == 0 && !slotMend slot &&
  if hub = 0xFF then !slotReserved slot
  else (subscriptions us).contains (hub, field r 24 6) && (remoteSlots i hub (field r 24 6)).contains slot

/-- A mend slot reaches an input of a LOOP unit through a SUBSCRIBE unit (R38). -/
def loopTakesMend (us : List PatUnit) (nets : List PNet) (u : PatUnit) : Bool :=
  u.cls == cLOOP && [1, 2, 3].any fun p =>
    match driverIn nets u.id p with
    | none => false
    | some (d, dp) => (unitOf us d).any fun v => v.cls == cSUBSCRIBE && slotMend (v.p (2 + dp) 0 10)

/-- Check 0x28. -/
def slotCheck (i : Image) (us : List PatUnit) (nets : List PNet) : Option Reject :=
  let twice := repeats [] (us.flatMap boundSlots)
  let bad := fun (u : PatUnit) =>
    (boundSlots u).any (fun s => slotReserved s || twice.contains s)
      || (u.cls == cSTREAM && (streamList u).any fun s => slotReserved s || (slotMend s && u.p 0 24 1 == 0))
      || (slotRefs u).any (fun r => !refOk i us r)
      || (u.cls == cSUBSCRIBE &&
          (let l := remoteSlots i (u.p 0 0 7) (u.p 0 8 6)
           l.isEmpty || (u.params.drop 2).any fun s => !l.contains s))
      || loopTakesMend us nets u
  failLowest 0x28 ((us.filter bad).map (·.id))

/-! ## Decimation (check 0x29) -/

/-- The chain of a slot. -/
def slotChain (s : Nat) : Option Nat := if s < 96 then some s else if 128 ≤ s && s < 640 then some (s - 28) else none

/-- A consumer of period `d` and phase `p` is due only where a source is (R283). -/
def duesFit (d p srcD srcP : Nat) : Bool := d % srcD == 0 && p % srcD == srcP

/-- Period and phase of a stream of the stream table. -/
def streamDue (c : Cluster) (hub stream : Nat) : Option (Nat × Nat) :=
  (c.streams.find? fun t => t.hub == hub && t.stream == stream).map fun t => (2 ^ t.dLog2, t.phase)

/-- Periods and phases of the chains and streams whose samples a unit takes (R283, R416). -/
def sourcesOf (us : List PatUnit) (nets : List PNet) (c : Cluster) (u : PatUnit) : List (Nat × Nat) :=
  let chain := fun ch => (unitIn us cFILTER ch).bind ownPeriod
  let slot := fun s => (slotChain s).bind chain
  if u.cls = cSTREAM then (streamList u).filterMap slot
  else if u.cls = cLOOP then [1, 2, 3].filterMap fun p =>
    match driverIn nets u.id p with
    | none => none
    | some (d, _) =>
      (unitOf us d).bind fun v =>
        if v.cls = cFILTER || v.cls = cLINEARISER then chain v.inst
        else if v.cls = cSUBSCRIBE then (streamDue c (v.p 0 0 7) (v.p 0 8 6)).map fun e => (e.1, (e.2 + c.kR) % e.1)
        else none
  else (slotRefs u).filterMap fun r =>
    if field r 16 8 = 0xFF then slot (r % 1024) else streamDue c (field r 16 8) (field r 24 6)

/-- The outer slot of a cascade (R420) is due at the right ticks for an inner slot. -/
def cascadeOk (us : List PatUnit) (nets : List PNet) (u : PatUnit) : Bool :=
  match driverIn nets u.id 0 with
  | none => true
  | some (d, _) =>
    match unitOf us d, ownPeriod u with
    | some v, some (m, p) =>
      d == u.id || v.cls != cLOOP || (ownPeriod v).all fun e => e.1 % m == 0 && e.2 % m == p
    | _, _ => true

/-- Check 0x29. -/
def dueCheck (us : List PatUnit) (nets : List PNet) (c : Cluster) : Option Reject :=
  let ok := fun (u : PatUnit) =>
    match ownPeriod u with
    | none => true
    | some (d, p) => (sourcesOf us nets c u).all (fun e => duesFit d p e.1 e.2) && (u.cls != cLOOP || cascadeOk us nets u)
  failLowest 0x29 ((us.filter fun u => !ok u).map (·.id))

end Sys2Proof.Machine
end

