-- ==== Sys2Proof/Machine/PatternCluster.lean ====
section
/-! DEFINITION. The CLUSTER, TIMING, POLICY and CALDATA sections (R80 to R89, R182 and the item tables of the other chapters)
and the checks 0x2A to 0x46 of R103. -/

namespace Sys2Proof.Machine

/-! ## CLUSTER (R83 to R86) -/

/-- Entry k of a table of entries of `n` bytes at `off`. -/
def entryAt (p : List Byte) (off n k : Nat) : List Byte := slice p (off + n * k) n

/-- The CLUSTER section's values. K_R is ignored for a single hub (R83): it is kept as 0 there. -/
def readCluster (p : List Byte) : Cluster :=
  let nh := leAt p 2 1
  let ns := leAt p 8 2
  let top := leAt p 1 1
  { ffCode := leAt p 0 1, topology := top, kR := if top = 0 then 0 else leAt p 3 1
    head0 := leAt p 4 1, head1 := leAt p 5 1, leafE := leAt p 6 1, leafW := leAt p 7 1, clusterId := leAt p 12 4
    hubs := (List.range nh).map fun k =>
      let e := entryAt p 32 16 k
      ⟨leAt e 0 1, leAt e 1 1, leAt e 2 1, leAt e 4 2, leAt e 6 2, leAt e 8 8⟩
    streams := (List.range ns).map fun k =>
      let e := entryAt p (32 + 16 * nh) 8 k
      ⟨leAt e 0 1, leAt e 1 1, leAt e 2 2, leAt e 4 1, leAt e 5 1, leAt e 6 2⟩
    duals := (List.range (leAt p 10 2)).map fun k =>
      let e := entryAt p (32 + 16 * nh + 8 * ns) 8 k
      ⟨leAt e 0 1, leAt e 1 1, leAt e 2 1, leAt e 3 1⟩ }

/-- A byte offset, where it fails. -/
def offIf (bad : Bool) (o : Nat) : List Nat := if bad then [o] else []

/-- Failing byte offsets of the fixed part (R26, R28, R29, R83). -/
def fixedBad (p : List Byte) (c : Cluster) : List Nat :=
  let ids := c.hubs.map (·.hub)
  let n := c.hubs.length
  let names := fun (x : Nat) => x == 0xFF || ids.contains x
  let open_ : Bool := c.topology == 2
  [offIf (11 ≤ c.ffCode) 0, offIf (3 ≤ c.topology) 1, offIf (n == 0 || 128 < n || (c.topology == 0) != (n == 1)) 2,
   offIf (!inRange 1 64 (leAt p 3 1)) 3, offIf (!names c.head0) 4, offIf (!names c.head1) 5,
   offIf (c.leafE != 0xFF && !(open_ && ids.getLast? == some c.leafE)) 6,
   offIf (c.leafW != 0xFF && !(open_ && ids.head? == some c.leafW)) 7,
   (List.range' 16 16).filter fun o => leAt p o 1 != 0].flatten

/-- Failing byte offsets of one hub table entry (R84). -/
def hubBad (p : List Byte) (c : Cluster) (h : HubEntry) (i : Nat) : List Nat :=
  let n := c.hubs.length
  let o := 32 + 16 * i
  let free : Bool := c.topology == 0 || (c.topology == 2 && i + 1 == n)
  let next := (c.hubs[(i + 1) % n]?.map (·.part)).getD 0
  let most := if h.part = 0x4804 || next = 0x4804 then 2 else 4
  let before := c.hubs.take i
  [offIf (127 < h.hub || before.any fun g => g.hub == h.hub) o,
   offIf (if free then h.lanes != 0 else !inRange 1 most h.lanes) (o + 1),
   offIf (3 < h.rate || (free && h.rate != 0)) (o + 2),
   offIf (leAt p (o + 3) 1 != 0) (o + 3),
   offIf (h.part != 0x4804 && h.part != 0x9608) (o + 4),
   offIf (free && h.cableNs != 0) (o + 6),
   offIf (before.any fun g => g.serial == h.serial) (o + 8)].flatten

/-- Failing byte offsets of the hub table. -/
def hubsBad (p : List Byte) (c : Cluster) : List Nat := c.hubs.zipIdx.flatMap fun e => hubBad p c e.1 e.2

/-- Failing byte offsets of the stream table: of each entry the first failing field (R725). -/
def streamsBad (c : Cluster) : List Nat :=
  let ids := c.hubs.map (·.hub)
  c.streams.zipIdx.flatMap fun (t, i) =>
    let o := 32 + 16 * c.hubs.length + 8 * i
    if !ids.contains t.hub || (c.streams.take i).any (fun u => u.hub == t.hub && u.stream == t.stream) then [o]
    else if 63 < t.stream then [o + 1]
    else if !inRange 1 1015 t.slots then [o + 2]
    else if 10 < t.dLog2 then [o + 4]
    else if 4 ≤ t.sflags then [o + 5]
    else if 2 ^ t.dLog2 ≤ t.phase then [o + 6]
    else []

/-- Check 0x40, then 0x42 on the TIMING payload (R87, R88). -/
def formCheck (p timing : List Byte) (c : Cluster) : Option Reject :=
  let t := (List.range 4).map fun k => leAt timing (2 * k) 2
  let long := (([0] ++ t).zip (t ++ [65536])).all fun e => decide (e.1 + 1024 ≤ e.2)
  failLowest 0x40 (fixedBad p c ++ hubsBad p c ++ streamsBad c)
  <|> failIf (!long || leAt timing 8 8 != 0) 0x42 0

/-! ## POLICY (R80 to R82) -/

/-- Where an item may stand. -/
inductive Place where
  | both | common | perHub
deriving DecidableEq, Repr

/-- The key of REMOTE_DRIVE (R453). -/
def kREMOTE : Nat := 0x0710

/-- An item: key, lowest and highest value, and where it may stand. -/
structure PolItem where
  key : Nat
  lo : Int
  hi : Int
  place : Place
deriving DecidableEq, Repr

/-- Items of owner 0x00 (R182). -/
def itemsStates : List PolItem :=
  [⟨0x0001, 0, 65535, .both⟩, ⟨0x0002, 0, 10, .both⟩, ⟨0x0003, 0, 1, .both⟩]

/-- Items of owner 0x01 (R322). -/
def itemsCal : List PolItem :=
  [⟨0x0101, 0, 2, .both⟩, ⟨0x0102, 10, 604800, .both⟩, ⟨0x0103, 64, 12800, .both⟩, ⟨0x0104, 1, 86400, .both⟩,
   ⟨0x0105, 0, 1, .both⟩, ⟨0x0106, 10, 20000, .both⟩, ⟨0x0107, 10, 20000, .both⟩, ⟨0x0108, 5, 5000, .both⟩,
   ⟨0x0109, 8, 1024, .both⟩, ⟨0x010A, 10, 10000, .both⟩, ⟨0x010B, 16, 65535, .both⟩, ⟨0x010C, 0, 6, .both⟩,
   ⟨0x010D, 10, 86400, .both⟩]

/-- Items of owner 0x02 (R365, R274). -/
def itemsTime : List PolItem :=
  [⟨0x0201, 0, 127, .common⟩, ⟨0x0202, 0, 255, .common⟩, ⟨0x0203, 0, 3, .common⟩, ⟨0x0204, 0, 3, .common⟩,
   ⟨0x0205, -10, -3, .common⟩, ⟨0x0206, -7, 0, .both⟩, ⟨0x0207, 1, 1000, .common⟩, ⟨0x0208, 5, 10000, .both⟩,
   ⟨0x0209, 2, 64, .both⟩, ⟨0x020A, 0, 2, .both⟩, ⟨0x020B, 1, 1000, .both⟩, ⟨0x020C, 0, 1, .common⟩,
   ⟨0x020D, -10000, 10000, .both⟩, ⟨0x020E, -10000, 10000, .both⟩, ⟨0x0280, 0, 1048575, .common⟩]

/-- Items of owner 0x03 (R492). -/
def itemsLanes : List PolItem :=
  [⟨0x0301, 1, 65535, .both⟩, ⟨0x0302, 1, 3600, .both⟩, ⟨0x0303, 28, 40, .both⟩, ⟨0x0304, 0, 65535, .both⟩,
   ⟨0x0305, 16, 128, .both⟩, ⟨0x0306, 16, 64, .both⟩, ⟨0x0307, 0, 1, .both⟩, ⟨0x0308, 0, 7, .both⟩,
   ⟨0x0309, 100, 100000, .both⟩]

/-- Items of owner 0x04 (R534). -/
def itemsRing : List PolItem :=
  [⟨0x0401, 10, 1000, .common⟩, ⟨0x0402, 10, 1000, .common⟩, ⟨0x0403, 1000, 65535, .common⟩, ⟨0x0404, 10, 10000, .common⟩]

/-- Items of owner 0x05 (R564). -/
def itemsField : List PolItem :=
  [⟨0x0501, 16, 65535, .both⟩, ⟨0x0502, 1, 100, .both⟩, ⟨0x0503, 1, 100, .both⟩, ⟨0x0504, 1, 100, .both⟩,
   ⟨0x0505, 0, 255, .both⟩, ⟨0x0506, 1, 3600, .both⟩, ⟨0x0507, 0, 100, .both⟩, ⟨0x0508, 0, 1, .both⟩]

/-- Items of owner 0x06 (R437). -/
def itemsLoops : List PolItem :=
  [⟨0x0601, 1, 65535, .both⟩, ⟨0x0602, 0, 1, .both⟩]

/-- Items of owner 0x07 (R461). -/
def itemsSluice : List PolItem :=
  [⟨0x0701, 1, 255, .both⟩, ⟨0x0702, 1, 65535, .both⟩, ⟨0x0703, 0, 1, .both⟩, ⟨0x0704, 1, 65535, .both⟩,
   ⟨0x0710, 0, 0, .perHub⟩]

/-- Items of owner 0x09 (R595). -/
def itemsQueues : List PolItem :=
  [⟨0x0901, 0, 4000, .both⟩, ⟨0x0902, 1, 1000000, .both⟩, ⟨0x0903, 1, 1000, .both⟩]

/-- Items of owner 0x0A (R637). -/
def itemsSilt : List PolItem :=
  [⟨0x0A01, 50, 100, .common⟩]

/-- Items of owner 0x0B (R653). -/
def itemsCluster : List PolItem :=
  [⟨0x0B01, 0, 1, .common⟩, ⟨0x0B02, 0, 1, .common⟩, ⟨0x0B03, 2, 64, .common⟩, ⟨0x0B04, 1, 16, .common⟩]

/-- The items that the firmware knows. The range of REMOTE_DRIVE is R453's. -/
def policyItems : List PolItem :=
  [itemsStates, itemsCal, itemsTime, itemsLanes, itemsRing, itemsField, itemsLoops, itemsSluice, itemsQueues, itemsSilt,
   itemsCluster].flatten

/-- One entry: KEY as stored, its value's words. -/
abbrev PolEntry := Nat × List Nat

/-- The item of an entry: KEY[14:0] (R80). -/
def PolEntry.item (e : PolEntry) : Nat := e.1 % 0x8000

/-- The entries of a section; the KEY of the entry whose LEN is no multiple of 4 or overruns the section, if there is one. -/
def readPolicy : (fuel : Nat) → List Byte → List PolEntry × Option Nat
  | 0, _ => ([], none)
  | k + 1, p =>
    if p.length < 4 then ([], none) else
    let key := leAt p 0 2
    let len := leAt p 2 2
    if len % 4 != 0 || p.length < 4 + len then ([], some key) else
    let (r, bad) := readPolicy k (p.drop (4 + len))
    ((key, toWords (len / 4) (slice p 4 len)) :: r, bad)

/-- The row of an item. -/
def policyItem (k : Nat) : Option PolItem := policyItems.find? fun r => r.key == k

/-- A 4-byte value lies in the range of its item; ROOT_B takes none of 128 to 254 (R365). -/
def valueOk (e : PolEntry) : Bool :=
  match policyItem e.item, e.2 with
  | some r, [w] =>
    let v : Int := if r.lo < 0 then signed 32 w else w
    decide (r.lo ≤ v) && decide (v ≤ r.hi) && !(r.key == 0x0202 && 128 ≤ w && w < 255)
  | _, _ => false

/-- Failing KEYs of a section's structure: step 4 of R726. -/
def sectionBad (common : Bool) (p : List Byte) : List Nat :=
  let (es, broken) := readPolicy (p.length / 4) p
  let twice := repeats [] (es.map (·.item))
  let bad := fun (e : PolEntry) =>
    twice.contains e.item ||
    match policyItem e.item with
    | none => e.1 < 0x8000
    | some r =>
      (r.place == .common && !common) || (r.place == .perHub && common) || (r.key == 0x0280 && !valueOk e)
  broken.toList ++ (es.filter bad).map (·.1)

/-- The entries of the POLICY section of a scope. -/
def Image.policy (i : Image) (scope : Nat) : List PolEntry :=
  let p := i.part tPOLICY scope
  (readPolicy (p.length / 4) p).1

/-- Step 4 of R726 for the sections that a hub uses. -/
def policyForm (i : Image) (hub : Nat) : Option Reject :=
  failLowest 0x2F (sectionBad false (i.part tPOLICY hub)) <|> failLowest 0x2F (sectionBad true (i.part tPOLICY 255))

/-- The value of an item for a hub: per-hub before common (R72), as words. -/
def Image.item (i : Image) (hub key : Nat) : Option (List Nat) :=
  ((i.policy hub ++ i.policy 255).find? fun e => e.item == key).map (·.2)

/-- The value of a 4-byte item, or a default. -/
def Image.num (i : Image) (hub key dflt : Nat) : Nat := ((i.item hub key).map fun l => l.headD dflt).getD dflt

/-- The optional keys that the firmware does not know (R81). -/
def unknownKeys (i : Image) (hub : Nat) : Nat :=
  min 0xFFFF ((i.policy hub ++ i.policy 255).filter fun e => (policyItem e.item).isNone).length

/-- The entries of REMOTE_DRIVE of a hub: HUB with its reserved byte and OUTPUT_ID, LOOP_ID with its reserved bytes (R453). -/
def Image.drives (i : Image) (hub : Nat) : List (Nat × Nat) :=
  let ws := ((i.item hub kREMOTE).getD [])
  (List.range (ws.length / 2)).map fun k => (ws.getD (2 * k) 0, ws.getD (2 * k + 1) 0)

/-- The remote entries of an OUTPUT unit: hub, rank. -/
def remoteOf (u : PatUnit) : List (Nat × Nat) :=
  if u.cls = cOUTPUT then (u.params.drop 6).map fun w => (w % 128, field w 8 8) else []

/-- K_S of an OUTPUT unit. -/
def latencyOf (u : PatUnit) : Nat := u.p 0 8 7

/-- The OUTPUT unit that an entry of REMOTE_DRIVE names, listing the hub, with the rank that it gives it. -/
def driveTarget (i : Image) (hub : Nat) (e : Nat × Nat) : Option (PatUnit × Nat) :=
  match unitOf (hubUnits i (e.1 % 256)) (e.1 / 65536) with
  | none => none
  | some u => ((remoteOf u).find? fun r => r.1 == hub).map fun r => (u, r.2)

/-- R453 holds for a hub. -/
def drivesOk (i : Image) (us : List PatUnit) (c : Cluster) (hub : Nat) : Bool :=
  let ds := i.drives hub
  let words := ((i.item hub kREMOTE).getD []).length
  let pairs := ds.map (·.1)
  words % 2 == 0 && (repeats [] pairs).isEmpty
    && ds.all (fun e => field e.1 8 8 == 0 && field e.2 16 16 == 0 && (driveTarget i hub e).isSome && isLoop us (e.2 % 65536))
    && c.hubs.all fun h =>
      ((if h.hub = hub then us else hubUnits i h.hub).all fun u =>
        (remoteOf u).all fun r =>
          (h.hub != hub && r.1 != hub) || (i.drives r.1).any fun e => e.1 % 256 == h.hub && e.1 / 65536 == u.id)

/-- Check 0x2F without what step 4 covers: ranges, the roots (R332), REMOTE_DRIVE (R453). -/
def policyCheck (i : Image) (us : List PatUnit) (c : Cluster) (hub : Nat) : Option Reject :=
  let bad := fun scope => ((i.policy scope).filter fun e =>
    e.item != kREMOTE && (policyItem e.item).isSome && !valueOk e).map (·.1)
  let ids := c.hubs.map (·.hub)
  let a := i.num hub 0x0201 (ids.headD 0)
  let b := i.num hub 0x0202 255
  failLowest 0x2F (bad hub) <|> failLowest 0x2F (bad 255)
  <|> failIf (!ids.contains a) 0x2F 0x0201
  <|> failIf (b != 255 && !ids.contains b) 0x2F 0x0202
  <|> failIf (a == b && ids.length != 1) 0x2F 0x0201
  <|> failIf (!drivesOk i us c hub) 0x2F kREMOTE

/-! ## Checks 0x2A to 0x2E -/

/-- The stream table entry of a STREAM unit: its own, or that of the primary home of a dual-homed pod (R44, R85). -/
def entryFor (c : Cluster) (hub stream : Nat) : Option StreamEntry :=
  let owners := hub :: (c.duals.filter fun d => d.secondary == hub && d.stream == stream).map (·.primary)
  owners.findSome? fun h => c.streams.find? fun t => t.hub == h && t.stream == stream

/-- Check 0x2A (R41, R725). -/
def streamTableCheck (us : List PatUnit) (c : Cluster) (hub : Nat) : Option Reject :=
  let own := us.filter fun u => u.cls == cSTREAM
  let bad := fun (u : PatUnit) =>
    !(repeats [] (streamList u)).isEmpty ||
    match entryFor c hub u.inst with
    | none => true
    | some t => t.slots != u.p 0 0 10 || t.dLog2 != u.p 0 10 4 || t.phase != u.p 0 14 10 || t.sflags % 2 != u.p 0 24 1
  let orphan := fun (t : StreamEntry) => t.hub == hub && !own.any fun u => u.inst == t.stream
  failLowest 0x2A ((own.filter bad).map (·.id) ++ (c.streams.zipIdx.filter fun e => orphan e.1).map fun e => 0x10000 + e.2)

/-- UNIT_IDs, of units in ascending order, from which a running sum passes a limit. -/
def overFrom (limit : Nat) (cost : PatUnit → Nat) : Nat → List PatUnit → List Nat
  | _, [] => []
  | n, u :: l => let m := n + cost u; (if limit < m then [u.id] else []) ++ overFrom limit cost m l

/-- Check 0x2B: no free instance (R74), FIR coefficient sets and queue SRAM (R136), the uplink of a pod (R545). -/
def resourceCheck (us : List PatUnit) (ffCode : Nat) : Option Reject :=
  let filters := us.filter fun u => u.cls == cFILTER
  let sets := filters.map fun u => (u.p 0 0 2, u.p 0 4 4)
  let late := filters.zipIdx.filter fun e => 24 < (distinct (sets.take (e.2 + 1))).length
  let n := 12288000 / ffHz ffCode
  let port := fun (u : PatUnit) => u.cls == cPOD_BINDING
    && (decide (uplinkRoom n < uplinkLoad us u.inst n) || decide (8 < (channelsOf us u.inst 0).length))
  failLowest 0x2B ((us.filter fun u => u.assigned || port u).map (·.id) ++ late.map (·.1.id)
    ++ overFrom 524288 (fun u => 2 ^ u.p 0 0 5) 0 (us.filter fun u => u.cls == cQUEUE))

/-- Size of the capture memory for capture regions of this part, in 4 KiB units (R1, R409). -/
def captureSize (small : Bool) : Nat := if small then 0x70000 else 0xF0000

/-- Check 0x2C (R398, R409). -/
def captureCheck (small : Bool) (us : List PatUnit) : Option Reject :=
  let caps := us.filter fun u => u.cls == cCAPTURE
  let base := fun (u : PatUnit) => u.params.getD 2 0
  let size := fun (u : PatUnit) => u.params.getD 3 0
  let bad := fun (u : PatUnit) =>
    let cs := size u * 1024 / u.p 0 0 11 / u.p 1 16 8
    decide (cs < u.params.getD 4 0 + u.params.getD 5 0 + 1) || decide (captureSize small < base u + size u)
      || caps.any fun v => v.id != u.id && base u < base v + size v && base v < base u + size u
  failLowest 0x2C ((caps.filter bad).map (·.id) ++ overFrom (captureSize small) size 0 caps)

/-- The ranks of an OUTPUT unit's sources. -/
def ranksOf (u : PatUnit) : List Nat :=
  (((List.range 8).map fun k => u.p (2 + k / 4) (8 * (k % 4)) 8).filter (· != 0)) ++ (remoteOf u).map (·.2)

/-- OUTPUT units of the primary home of a dual-homed pod that disagree with those of the secondary (R456). -/
def homesBad (i : Image) (us : List PatUnit) (c : Cluster) (hub : Nat) : List Nat :=
  let of := fun h => if h = hub then us else hubUnits i h
  (c.duals.filter fun d => d.primary == hub || d.secondary == hub).flatMap fun d =>
    ((of d.primary).filter fun u => u.cls == cOUTPUT && 16 ≤ u.inst && (u.inst - 16) / 4 == d.port).filterMap fun u =>
      match unitIn (of d.secondary) cOUTPUT u.inst with
      | none => none
      | some v =>
        if u.params.getD 1 0 != v.params.getD 1 0 || u.p 0 0 6 != v.p 0 0 6 || latencyOf u != latencyOf v
          || !(repeats [] (ranksOf u ++ ranksOf v)).isEmpty then some u.id else none

/-- Check 0x2D (R444, R456). -/
def rankCheck (i : Image) (us : List PatUnit) (c : Cluster) (hub : Nat) : Option Reject :=
  failLowest 0x2D ((us.filter fun u => u.cls == cOUTPUT && !(repeats [] (ranksOf u)).isEmpty).map (·.id)
    ++ homesBad i us c hub)

/-- The OUTPUT units that a LOOP unit drives, by UNIT_ID and K_S: directly, and through CLAIM frames (R418, R453). -/
def drivenBy (i : Image) (us : List PatUnit) (nets : List PNet) (hub : Nat) (loop : PatUnit) : List (Nat × Nat) :=
  let direct := us.filter fun v => v.cls == cOUTPUT && nets.any fun n =>
    n.drvUnit == loop.id && n.drvPort == 0 && n.sinks.any fun s => s.1 == v.id
  let far := ((i.drives hub).filter fun e => e.2 % 65536 == loop.id).filterMap fun e => (driveTarget i hub e).map (·.1)
  (direct ++ far).map fun v => (v.id, latencyOf v)

/-- Check 0x2E: K_S below K_R (R57), or outputs of one slot that differ in K_S: the higher UNIT_ID (R418). -/
def latencyCheck (i : Image) (us : List PatUnit) (nets : List PNet) (c : Cluster) (hub : Nat) : Option Reject :=
  let short := us.filter fun u => u.cls == cOUTPUT && !(remoteOf u).isEmpty && decide (latencyOf u < c.kR)
  let differ := (us.filter fun u => u.cls == cLOOP).filterMap fun l =>
    let o := drivenBy i us nets hub l
    if (distinct (o.map (·.2))).length ≤ 1 then none else some (o.foldl (fun a e => max a e.1) 0)
  failLowest 0x2E (short.map (·.id) ++ differ)

/-! ## CALDATA (check 0x30) -/

/-- Full scale of range r in u: 2^22 · 10^(3−r), of which 0.5 % bounds AR (R308). -/
def fullScale (r : Nat) : Nat := 2 ^ 22 * 10 ^ (3 - r)

/-- One CALDATA record is allowed (R89, R298, R308, R276). -/
def calOk (small : Bool) (us : List PatUnit) (e : Nat × Nat) : Bool :=
  let (off, v) := e
  let c := off / 64
  let w := off % 64
  off % 4 == 0 && off ≤ 0x98FF && w < 0x28 && !(small && fusedChain c) &&
  if w < 0x10 then decide (49 * 2 ^ 30 ≤ 50 * v) && decide (50 * v ≤ 51 * 2 ^ 30)
  else if w < 0x20 then decide (200 * (signed 32 v).natAbs ≤ fullScale ((w - 16) / 4))
  else if w = 0x20 && c < 100 then
    let (lo, hi) := dfeLimits (adapterRf us c)
    inRange lo hi v
  else true

/-- The CALDATA records of a payload. -/
def readCaldata (p : List Byte) : List (Nat × Nat) :=
  (List.range (p.length / 8)).map fun k => (leAt p (8 * k) 4, leAt p (8 * k + 4) 4)

/-- Check 0x30; a cut last record fails with its own index. -/
def caldataCheck (small : Bool) (us : List PatUnit) (p : List Byte) : Option Reject :=
  let rs := readCaldata p
  failLowest 0x30 (((rs.zipIdx.filter fun e => !calOk small us e.1).map (·.2)) ++ (if p.length % 8 = 0 then [] else [rs.length]))

/-! ## Cluster-wide checks 0x41 to 0x45 -/

/-- A dual-home entry is good (R86, R560). -/
def dualOk (i : Image) (c : Cluster) (p : List Byte) (e : DualEntry × Nat) : Bool :=
  let d := e.1
  let part := fun (h : Nat) => (c.hubs.find? fun x => x.hub == h).map (·.part)
  let ports := fun (h : Nat) => if part h == some 0x4804 then 8 else 16
  let us := hubUnits i d.primary
  let vs := hubUnits i d.secondary
  let chans := fun l => sortBy (fun x : Nat × List Nat => x.1)
    (((l : List PatUnit).filter fun u => u.cls == cPOD_CHANNEL && u.inst / 32 == d.port).map fun u => (u.inst, u.params))
  let dual := fun l => (unitIn l cPOD_BINDING d.port).any bindDual
  (part d.primary).isSome && (part d.secondary).isSome && d.primary != d.secondary
    && decide (d.port < ports d.primary) && decide (d.port < ports d.secondary)
    && leAt (entryAt p (32 + 16 * c.hubs.length + 8 * c.streams.length) 8 e.2) 4 4 == 0
    && c.streams.any (fun t => t.hub == d.primary && t.stream == d.stream && bit t.sflags 1)
    && dual us && dual vs && chans us == chans vs

/-- Segments that the hub table declares (R84). -/
def segmentsOf (c : Cluster) : List HubEntry := c.hubs.filter fun h => h.lanes != 0

/-- Relative capacity of a segment: lanes times lane rate. -/
def segWidth (h : HubEntry) : Nat := h.lanes * 2 ^ h.rate

/-- The narrowest segment: the first of those with the smallest capacity. -/
def narrowest (c : Cluster) : Option HubEntry :=
  (segmentsOf c).foldl (fun a h => match a with
    | none => some h
    | some g => if segWidth h < segWidth g then some h else some g) none

/-- B_req of R47 times 1024, in bit/s. -/
def streamLoad (c : Cluster) : Nat :=
  c.streams.foldl (fun a t => a + (44 + 4 * t.slots) * 8 * ffHz c.ffCode * 2 ^ (10 - t.dLog2)) 0

/-- Check 0x44 (R47 to R49, R105): B_S is 0.94 · lanes · 3.125 Gbit/s · 2^rate. -/
def bandwidthCheck (c : Cluster) : Option Reject :=
  match narrowest c with
  | none => none
  | some h =>
    let allow := 2937500000 * segWidth h
    let need := streamLoad c
    if need ≤ 1024 * allow then none
    else some ⟨0x44, h.hub, ceilDiv need (1024 * 1000000), allow / 1000000⟩

/-- The smallest K_R that R53 allows. -/
def kRMin (c : Cluster) (timing : List Nat) : Nat :=
  let path := longestPath c fun k => (c.hubs[k]?.map (·.cableNs * 2400)).getD 0
  let span := timing.getD 3 0 - timing.getD 1 0
  ceilDiv (path * ffHz c.ffCode * 65536 + 2400000000000 * span) (2400000000000 * 65536)

/-- Checks 0x41 to 0x45 except 0x42 (R726 step 8). -/
def clusterCheck (i : Image) (c : Cluster) (timing : List Nat) : Option Reject :=
  let p := i.part tCLUSTER 255
  let many := (c.hubs.filter fun h => 4096 < (subscriptions (hubUnits i h.hub)).length).map (·.hub)
  let k := kRMin c timing
  failLowest 0x41 ((c.duals.zipIdx.filter fun e => !dualOk i c p e).map (·.2))
  <|> failLowest 0x43 many
  <|> bandwidthCheck c
  <|> failIf (!(segmentsOf c).isEmpty && (decide (64 < k) || decide (c.kR < k))) 0x45 k

/-! ## Frame budget (R107 to R111, R137) -/

/-- A charge: resource, cycles, and the period and phase of the ticks at which it is due. -/
structure Charge where
  res : Nat
  cycles : Nat
  period : Nat
  phase : Nat
deriving DecidableEq, Repr

/-- A charge at every tick. -/
def always (res cycles : Nat) : Charge := ⟨res, cycles, 1, 0⟩

/-- The charges of a unit; the first is on its primary resource (R137). -/
def chargesOf (us : List PatUnit) (nets : List PNet) (c : Cluster) (u : PatUnit) : List Charge :=
  let fed := fun n => ((List.range n).filter fun p => (driverIn nets u.id p).isSome).length
  let own := fun res cycles =>
    let (d, p) := ((if u.cls = cLINEARISER || u.cls = cTHRESHOLD then (unitIn us cFILTER (chainOf u)).bind ownPeriod
                    else ownPeriod u).getD (1, 0))
    ({ res := res, cycles := cycles, period := d, phase := p } : Charge)
  match u.cls with
  | 0x03 => [always 1 1]
  | 0x04 => [always 0 ([7, 6, 2].getD (u.p 0 0 2) 0), own 1 1]
  | 0x05 => [own 2 (1 + ceilDiv ((u.p 0 0 3 + 1) * (u.p 0 4 2 + 1)) 8)]
  | 0x06 => [own 2 1]
  | 0x07 => always 3 (4 + fed 4) :: (if u.p 0 2 1 = 1 then [always 5 6] else [])
  | 0x08 => [own 5 (4 + ceilDiv (u.p 0 0 11) 16), always 3 2]
  | 0x09 => [own 4 (28 + 4 * u.p 0 18 1 + (if u.p 0 19 2 = 0 then 0 else 4)
      + (if (driverIn nets u.id 2).isSome then 4 else 0)), own 5 2]
  | 0x0A => [always 3 (2 + fed 8 + u.p 4 0 3)]
  | 0x0B => [always 1 1]
  | 0x0C => [always 6 (4 + 2 * u.p 0 0 6)]
  | 0x0D => [own 5 (8 + ceilDiv (u.p 0 0 10) 8)]
  | 0x0E => own 5 (2 + ceilDiv (u.p 1 0 11) 8) :: (if fed 2 = 0 then [] else [always 5 (fed 2)])
  | 0x0F => [always 6 2]
  | 0x10 => [always 6 1]
  | 0x11 => [always 1 1]
  | 0x12 => [always 6 2]
  | 0x13 =>
    let (d, p) := (streamDue c (u.p 0 0 7) (u.p 0 8 6)).getD (1, 0)
    [⟨3, 1 + ceilDiv (u.p 1 0 8) 8, d, (p + c.kR) % d⟩]
  | _ => []

/-- A charge is due at a residue; a period that is no power of two counts at every one (R109). -/
def Charge.due (e : Charge) (q : Nat) : Bool := 1024 % e.period != 0 || q % e.period == e.phase

/-- W_r(q). -/
def loadAt (es : List Charge) (r q : Nat) : Nat :=
  es.foldl (fun a e => if e.res = r && e.due q then a + e.cycles else a) 0

/-- Clock of a resource in MHz (R107). -/
def clockMHz (r : Nat) : Nat := [1000, 1000, 1000, 1000, 800, 1000, 500].getD r 0

/-- Window of a resource in TIMING units (R107). -/
def windowOf (t : List Nat) (r : Nat) : Nat :=
  let at_ := fun k => t.getD k 0
  [65536, at_ 0, at_ 1 - at_ 0, at_ 2 - at_ 1, at_ 2 - at_ 1, at_ 3 - at_ 2, 65536 - at_ 3].getD r 0

/-- C_r (R108). -/
def capacityOf (t : List Nat) (ffCode r : Nat) : Nat := windowOf t r * (clockMHz r * 1000000) / (65536 * ffHz ffCode) - 64

/-- Phase code of a resource (R110). -/
def phaseOf (r : Nat) : Nat := [0xF, 0, 1, 2, 2, 3, 4].getD r 0

/-- W_r of R111: the largest load of each resource. -/
def worstLoads (es : List Charge) : List Nat :=
  (List.range 7).map fun r => (List.range 1024).foldl (fun a q => max a (loadAt es r q)) 0

/-- Check 0x46. -/
def budgetCheck (es : List Charge) (t : List Nat) (ffCode : Nat) : Option Reject :=
  (List.range 7).findSome? fun r =>
    let cap := capacityOf t ffCode r
    let fails := fun q => decide (9 * cap < 10 * loadAt es r q)
    match (List.range 1024).find? fails with
    | none => none
    | some q => some ⟨0x46, r * 2 ^ 28 + phaseOf r * 2 ^ 24 + q, loadAt es r q, 9 * cap / 10⟩

end Sys2Proof.Machine
end

