-- ==== Sys2Proof/Machine/Loader.lean ====
section
/-! DEFINITION. The loader: the whole check of the standby bank in the sequence of R726, and the meaning of
PATTERN_CHECK_DONE (R102, R103). -/

namespace Sys2Proof.Machine

/-- The first failure of the checks, or a value. -/
def unlessRejected {α : Type} (r : Option Reject) (v : Unit → Except Reject α) : Except Reject α :=
  match r with
  | some x => .error x
  | none => v ()

/-- The slot lists of the streams of other hubs that a hub subscribes to, with what fills their slots (R133). -/
def slotLists (i : Image) (us : List PatUnit) : List StreamSlots :=
  (subscriptions us).map fun (hub, stream) =>
    let vs := hubUnits i hub
    let slots := remoteSlots i hub stream
    let mode := fun s => ((slotChain s).bind fun c => unitIn vs cFILTER c).map fun f => (s, f.p 0 0 2, f.p 0 4 4)
    { hub := hub, stream := stream, slots := slots
      lin := slots.filter fun s => (slotChain s).any fun c => hasUnit vs cLINEARISER c
      modes := slots.filterMap mode }

/-- This hub's REMOTE_DRIVE entries (R453). -/
def driveList (i : Image) (hub : Nat) : List RemoteDrive :=
  (i.drives hub).filterMap fun e => (driveTarget i hub e).map fun (u, rank) =>
    { hub := e.1 % 256, outputId := e.1 / 65536, loopId := e.2 % 65536, kS := latencyOf u, rank := rank }

/-- Steps 6 to 8 of R726 on the units of this hub. -/
def netSteps (small : Bool) (i : Image) (hub : Nat) (c : Cluster) (timing : List Nat) (us : List PatUnit) (fl : Flattened)
    (cal : List Byte) (es : List Charge) : Option Reject :=
  let all := fl.nets ++ fl.loopBack
  wiredCheck us fl.nets
  <|> shapeCheck us fl
  <|> failLowest 0x26 ((all.filter fun n => !typeOk us n).map (·.id))
  <|> cycleCheck us fl.nets
  <|> slotCheck i us fl.nets
  <|> dueCheck us fl.nets c
  <|> streamTableCheck us c hub
  <|> resourceCheck us c.ffCode
  <|> captureCheck small us
  <|> rankCheck i us c hub
  <|> latencyCheck i us fl.nets c hub
  <|> policyCheck i us c hub
  <|> caldataCheck small us cal
  <|> clusterCheck i c timing
  <|> budgetCheck es timing c.ffCode

/-- Steps 3 to 5 of R726. -/
def recordSteps (small : Bool) (i : Image) (hub : Nat) (c : Cluster) (timing : List Nat) (raw rs : List URec) (ps : List PPatch) :
    Option Reject :=
  formCheck (i.part tCLUSTER 255) (i.part tTIMING 255) c
  <|> policyForm i hub
  <|> unitCheck small raw rs
  <|> paramCheck rs (i.part tPARAMS hub).length (i.num hub 0x0280 8192) hub (timing.getD 2 0) c.ffCode
  <|> patchCheck (rs.map (·.u)) ps

/-- Steps 3 to 8 of R726 for the hub with ID `hub`, and the Pattern that results. -/
def checkHub (small : Bool) (i : Image) (hub : Nat) : Except Reject Pattern :=
  let c := readCluster (i.part tCLUSTER 255)
  let timing := (List.range 4).map fun k => leAt (i.part tTIMING 255) (2 * k) 2
  let raw := readUnits (i.part tUNITS hub) (i.part tPARAMS hub)
  let rs := assignAll small raw
  let ps := readPatches (i.part tPATCHES hub)
  let us := rs.map (·.u)
  unlessRejected (recordSteps small i hub c timing raw rs ps) fun _ =>
  let stored := i.part tNETS hub
  let fl := flatten us ps (readNets (stored.length / 8 + 1) stored)
  let es := us.flatMap (chargesOf us fl.nets c)
  let cal := i.part tCALDATA hub
  unlessRejected (netSteps small i hub c timing us fl cal es) fun _ =>
  .ok {
    digest := hDigest i.hdr, serial := hSerial i.hdr, flags := hFlags i.hdr, signed := hSigned i.hdr
    keySlot := ((i.secs.find? fun s => s.typ == tSIGNATURE).map (·.key)).getD 0, fwCompat := leAt i.hdr 0x0B 1
    hubId := hub, units := us, nets := fl.nets, loopBack := fl.loopBack
    policy := (i.policy hub ++ i.policy 255).map fun e => (PolEntry.item e, e.2)
    unknownKeys := unknownKeys i hub, cluster := c, timing := timing, caldata := readCaldata cal
    streamSlots := slotLists i us, remoteDrive := driveList i hub
    budgetW := worstLoads es, budgetC := (List.range 7).map (capacityOf timing c.ffCode) }

/-- The whole check of an image in a bank (R726). -/
def checkImage (f : HubFacts) (bank : Nat → Nat → List Byte) : Except Reject Pattern :=
  match openImage f bank with
  | .error r => .error r
  | .ok i => checkHub (f.part == 0x4804) i (((i.hubs.find? fun e => e.2.2 == f.serial).map (·.1)).getD 0)

/-- What the loader knows of this hub; REQUIRE and ANTIROLLBACK are as they were when the check began (R97). -/
def State.facts (s : State) : HubFacts :=
  { part := s.get Fld.GLB_ID.PART, rev := s.get Fld.GLB_ID.REV, fw := s.get Fld.GLB_FW_VER.COMPAT_MAJOR
    serial := s.get Fld.GLB_SERIAL_LO.SERIAL + 2 ^ 32 * s.get Fld.GLB_SERIAL_HI.SERIAL
    wlen := s.banks.wlen, require := s.banks.checkRequire, anti := s.banks.checkAnti
    minSerial := s.get Fld.PAT_MIN_SERIAL.MIN_SERIAL, keyStat := s.get Fld.PAT_KEY_STAT.SLOT, keys := s.banks.keys }

/-- The verdict of the check in progress; an uncorrectable memory error at a bank offset ends it with INTERNAL. -/
def State.verdict (s : State) (ue : Option Nat) : Except Reject Pattern :=
  match ue with
  | some off => .error ⟨0xFF, off, 0, 0⟩
  | none => checkImage s.facts (Memory.readN s.banks.stby)

/-- Shows the verdict's code and items (R103, R105, R124), writes the record and raises the notice (R102). -/
def State.showCheck (s : State) (r : Reject) : State :=
  let s := s.put Fld.PAT_STAT.REJECT r.code
  let s := s.wr Reg.PAT_REJ_DETAIL (BitVec.ofNat 32 r.detail)
  let s := s.wr Reg.PAT_REJ_NEED (BitVec.ofNat 32 r.need)
  let s := s.wr Reg.PAT_REJ_ALLOW (BitVec.ofNat 32 r.allow)
  let s := s.wr Reg.PAT_CHECK_TIME (BitVec.ofNat 32 ((s.silt.opNs - s.banks.checkStart) / 1000))
  let digest := Memory.readN s.banks.stby 0x20 12
  s.stage 0x0601 (leBytes 1 r.code ++ leBytes 3 0 ++ leBytes 4 r.detail ++ digest)

/-- Shows the digest of a bank in eight words. -/
def State.showDigestIn (s : State) (r : RegDef) (d : List Byte) : State :=
  s.forEach (List.range 8) fun k s => s.wr r (BitVec.ofNat 32 (leAt d (4 * k) 4)) k

/-- Sets a PAT_STAT event flag; the Pattern notice is raised where it goes from 0 to 1 (R580). -/
def State.patEvent (s : State) (f : Field) : State := s.evt f 99

/-- A commit of the standby bank's Pattern is scheduled for frame `f` (R114 step 1): the power domains and the pods prepare
for it (R658, R555). -/
def State.commitAt (s : State) (f : Nat) : State :=
  match s.banks.stbyPat with
  | none => s
  | some p =>
    let b := s.banks.stbyState
    let s := ({ s with banks.returnTo := b, banks.commitF := some f, banks.irrevocable := false } : State).bankTo .scheduled
    let s := (s.put Fld.PAT_COMMIT_FRAME_LO.FRAME_LO f).put Fld.PAT_COMMIT_FRAME_HI.FRAME_HI (f / 2 ^ 32)
    let s := s.put Fld.PAT_STAT.COMMIT_PEND 1
    (s.fieldSchedule p.units (12288000 / ffHz p.cluster.ffCode) f).pdEval

/-- PATTERN_CHECK_DONE: the loader's check of the standby bank ends (R102). The running Pattern is untouched (R121); after a
rejected power-up check the hub stays in HELD (R123). `ue` is the bank offset of an uncorrectable memory error, if any. -/
def execPatternCheckDone (ue : Option Nat) (s : State) : Host.Outcome State Fault Refusal :=
  if s.banks.qspiCopy.isSome then .next s else
  match s.banks.stbyState with
  | .checking =>
    match s.verdict ue with
    | .error r =>
      let s := ({ s with banks.stbyPat := none, banks.powerUp := false } : State).bankTo .rejected
      .next ((s.showCheck r).patEvent Fld.PAT_STAT.REJECTED)
    | .ok p =>
      let s := ({ s with banks.stbyPat := some p } : State).bankTo .checked
      let s := (s.showCheck ⟨0, 0, 0, 0⟩).showDigestIn Reg.PAT_STBY_DIGESTk p.digest
      let s := (s.wr Reg.PAT_STBY_SERIAL (BitVec.ofNat 32 p.serial)).put Fld.PAT_STAT_UNKNOWN.COUNT p.unknownKeys
      let s := s.patEvent Fld.PAT_STAT.CHECKED
      .next (if s.banks.powerUp then s.commitAt (s.seq.frame + 2) else s)
  | _ => .next s

end Sys2Proof.Machine
end

