-- ==== Sys2Proof/Machine/Commit.lean ====
section
/-! DEFINITION. The commit (R114 to R119): what ends, what is carried over and what starts at FT(F), the unit status blocks
(R145 to R147), and the completion that makes the old Pattern the previous one. -/

namespace Sys2Proof.Machine

/-! ## Carry-over (R117) -/

/-- A unit of the new Pattern is carried over from the old units: same ID, class, version, instance and parameters, and
NO_CARRY = 0 in both; for a patch its whole record (R117, R141). -/
def carriesOver (old : List PatUnit) (u : PatUnit) : Bool :=
  old.any fun v =>
    v.id == u.id && v.cls == u.cls && v.ver == u.ver && v.inst == u.inst && v.params == u.params
      && !bit v.flags 0 && !bit u.flags 0 && (u.cls != cPATCH || v.parent == u.parent)

/-- Some unit of a list has this class and instance. -/
def holds (us : List PatUnit) (cls inst : Nat) : Bool := us.any fun u => u.cls == cls && u.inst == inst

/-- Sets register families of one instance to their reset values. -/
def State.wipe (s : State) (rs : List RegDef) (i : Nat) : State :=
  s.forEach rs fun r s => s.wr r (BitVec.ofNat 32 r.reset) i

/-! ## Units that end -/

/-- The registers that a chain without a FILTER unit reads as 0 (R294). -/
def chainRegs : List RegDef :=
  [Reg.FLT_CHc_CFG, Reg.FLT_CHc_SDELAY, Reg.FLT_CHc_EC, Reg.FLT_CHc_TAU, Reg.FLT_CHc_TAU_TGT, Reg.FLT_CHc_STAT,
   Reg.FLT_CHc_EVT, Reg.FLT_CHc_RST_LO, Reg.FLT_CHc_RST_HI, Reg.FLT_CHc_OUT]

/-- The registers of a LINEARISER. -/
def linRegs : List RegDef := [Reg.FLT_CHc_LIN_OUT, Reg.FLT_CHc_LIN_STAT, Reg.FLT_CHc_LIN_TEMP]

/-- A FILTER unit ends. -/
def State.filterEnd (s : State) (c : Nat) : State :=
  ({ s with chains := tabErase s.chains c, flow.slot := tabErase s.flow.slot (slotOf c) } : State).wipe chainRegs c

/-- A THRESHOLD unit ends. -/
def State.thrEnd (s : State) (i : Nat) : State :=
  ({ s with cap.thr := tabErase s.cap.thr i } : State).wr Reg.FLT_CHc_THRd 0 (i / 2) (i % 2)

/-- A TDC_INPUT unit ends: FIFO, start and edge are discarded (R385); SCALE and SKEW stay (R386). -/
def State.tdcEnd (s : State) (k : Nat) : State :=
  let s := { s with tdc.ins := tabErase s.tdc.ins k }
  let s := s.wipe [Reg.TDC_CHk_STAT, Reg.TDC_CHk_CNT, Reg.TDC_CHk_EDGES, Reg.TDC_CHk_LAST] k
  s.wr Reg.TDC_CHk_CFG (s.rd Reg.TDC_CHk_CFG k &&& 0x1F0000#32) k

/-- A TIME_IN unit ends. -/
def State.tinEnd (s : State) (k : Nat) : State :=
  ({ s with time.tin := tabErase s.time.tin k } : State).wipe
    [Reg.TIM_TINk_S_LO, Reg.TIM_TINk_S_HI, Reg.TIM_TINk_NS, Reg.TIM_TINk_FRAC, Reg.TIM_TINk_STAT, Reg.TIM_TINk_FRAME] k

/-- A TIME_OUT unit ends. -/
def State.toutEnd (s : State) (k : Nat) : State :=
  ({ s with time.tout := tabErase s.time.tout k } : State).wr Reg.TIM_TOUTk_STAT 0 k

/-- A LOOP unit ends: a from-host ring that serves its slot completes the descriptor in progress with the words pushed so
far, and then waits (R587). -/
def State.loopGone (s : State) (k : Nat) : State :=
  let s := s.forEach ((List.range 32).filter fun r => 16 ≤ r && s.is Fld.DMA_Rr_CFG.ENABLE r && s.ringKind r == 1 && s.ringSrc r == k)
    fun r s => match (s.dring r).job with
      | some j => s.ringWriteBack r j.desc j.done 0 false false
      | none => s
  s.loopEnd k

/-- A unit of the old Pattern that is not carried over ends at FT(F) (R117). An OUTPUT instance that the new Pattern
holds again keeps its word for its new unit (R452). -/
def State.endUnit (s : State) (new : List PatUnit) (u : PatUnit) : State :=
  match u.cls with
  | 0x04 => s.filterEnd u.inst
  | 0x05 => s.wipe linRegs u.inst
  | 0x06 => s.thrEnd u.inst
  | 0x07 => s.trigEnd u.inst
  | 0x08 => s.capEnd u.inst
  | 0x09 => s.loopGone u.inst
  | 0x0A => if holds new cOUTPUT u.inst then s else s.sluEnd u.inst
  | 0x0B => s.tdcEnd u.inst
  | 0x0E => s.queueEnd u.inst
  | 0x0F => s.wringUnitEnd u.inst
  | 0x10 => s.toutEnd u.inst
  | 0x11 => s.tinEnd u.inst
  | 0x13 => s.subEnd u.inst
  | _ => s

/-! ## Units that start -/

/-- The settings of a FILTER unit go to its chain block (R294). -/
def State.filterSettings (s : State) (u : PatUnit) : State :=
  let c := u.inst
  let s := (s.put Fld.FLT_CHc_CFG.MODE (u.p 0 0 2) c).put Fld.FLT_CHc_CFG.SETL_INV (u.p 0 2 1) c
  let s := (s.put Fld.FLT_CHc_CFG.D_LOG2 (u.p 0 4 4) c).put Fld.FLT_CHc_CFG.PHASE (u.p 0 8 10) c
  let fmt := match s.unitAt cPOD_CHANNEL (c - 100) with
    | some v => if c ≥ 100 then v.p 0 0 1 else 0
    | none => 0
  (s.put Fld.FLT_CHc_CFG.FORMAT fmt c).wr Reg.FLT_CHc_SDELAY (BitVec.ofNat 32 (u.params.getD 1 0)) c

/-- A FILTER unit starts: its history is empty, on the range that its channel is on. -/
def State.filterStart (s : State) (u : PatUnit) : State :=
  let c := u.inst
  let base := if c < 96 then s.get Fld.AFE_CHn_STAT.RANGE c else 0
  (s.setChain c { Chain.rest with baseRange := base }).filterSettings u

/-- A TDC_INPUT unit starts with its MODE, EDGE and START_IN (R386). -/
def State.tdcUnitStart (s : State) (u : PatUnit) : State :=
  let k := u.inst
  let s := (s.put Fld.TDC_CHk_CFG.MODE (u.p 0 0 2) k).put Fld.TDC_CHk_CFG.EDGE (u.p 0 2 2) k
  (s.put Fld.TDC_CHk_CFG.START_IN (u.p 0 8 4) k).tdcStart k

/-- A TIME_OUT unit starts: its first pulse is the first scheduled time at or after L(FT(F)) + 2 µs (R361); with a
connected input it waits for a time. -/
def State.toutUnitStart (s : State) (u : PatUnit) : State :=
  let s := s.put Fld.TIM_TOUTk_STAT.ACTIVE 1 u.inst
  if (s.driver u.id 0).isSome && !toutPeriodic u then s
  else s.toutPlan u (tu (toutStart u)) (tu s.time.tickL + us2)

/-- A unit of the new Pattern that is not carried over starts from its reset state (R114). -/
def State.startUnit (s : State) (u : PatUnit) : State :=
  match u.cls with
  | 0x04 => s.filterStart u
  | 0x07 => s.trigStart u
  | 0x08 => s.capStart u
  | 0x09 => s.loopStart u
  | 0x0A => s.sluStart u
  | 0x0B => s.tdcUnitStart u
  | 0x0E => s.queueStart u
  | 0x0F => s.wringUnitStart u
  | 0x10 => s.toutUnitStart u
  | 0x11 => s.put Fld.TIM_TINk_STAT.ACTIVE 1 u.inst
  | 0x13 => s.subStart u
  | _ => s

/-! ## Channels (R189, R224) -/

/-- AFE_CHn_CFG of channel n from its INPUT and SENSOR_ADAPTER units, or its reset value. -/
def State.inputCfg (s : State) (n : Nat) : Nat :=
  match s.unitAt cINPUT n with
  | none => Reg.AFE_CHn_CFG.reset
  | some u =>
    let adapter := match s.unitAt cADAPTER n with
      | some a => 2 ^ 23 + 2 ^ 24 * a.p 0 0 3
      | none => 0
    u.p 0 1 2 + 4 * u.p 0 0 1 + 2 ^ 12 * u.p 0 5 11 + adapter + 2 ^ 27 * u.p 2 0 1 + 2 ^ 28 * u.p 2 1 1

/-- AFE_CHn_EXC of channel n from its INPUT unit. -/
def State.inputExc (s : State) (n : Nat) : Nat :=
  match s.unitAt cINPUT n with
  | none => 0
  | some u => u.p 1 0 2 + 2 ^ 16 * u.p 1 16 16

/-- A channel whose INPUT unit ends or starts: ranging and detection start afresh; a driver keeps what it does until
`excUpdate` decides. -/
def State.channelReset (s : State) (n : Nat) : State :=
  let c := s.chan n
  let drive := if c.drive = .ocOff then .off else c.drive
  let s := s.setChan n { Chan.rest with drive := drive, runIn := c.runIn }
  (s.wr Reg.AFE_CHn_STAT (s.rd Reg.AFE_CHn_STAT n &&& 0x63#32) n).put Fld.AFE_CHn_DWELL.COUNT 0 n

/-- Channel n at a commit: its settings, its range in force, its modulator (R194, R224, R229). -/
def State.channelCommit (s : State) (carried : Bool) (n : Nat) : State :=
  let used := (s.unitAt cINPUT n).isSome
  let s := if used && carried then s else if used || s.is Fld.SAR_MODn_STAT.RUNNING n then s.channelReset n else s
  let cfg := s.inputCfg n
  let s := (s.wr Reg.AFE_CHn_CFG (BitVec.ofNat 32 cfg) n).wr Reg.AFE_CHn_EXC (BitVec.ofNat 32 (s.inputExc n)) n
  let r := cfg % 4
  let fixed : Bool := !carried || !bit cfg 2
  let s := if s.get Fld.AFE_CHn_STAT.RANGE n == r || !fixed then s
    else (s.put Fld.AFE_CHn_STAT.RANGE r n).switchAt n (s.ftPos s.seq.frame) r
  if used then s.modStart n else if s.is Fld.SAR_MODn_STAT.RUNNING n then s.modStop n else s

/-! ## Unit status blocks (R145 to R147) -/

/-- Stores a word of a unit's common block. -/
def State.uWord (s : State) (r : RegDef) (id v : Nat) : State :=
  let a := r.base + unitBlock id
  let w : Word := BitVec.ofNat 32 v
  { s with regs := if w = 0 then tabErase s.regs a else tabSet s.regs a w }

/-- The block of one unit of the new Pattern: a carried-over unit keeps its flags and counts. -/
def State.unitBlockCommit (s : State) (p : Pattern) (carried : Bool) (u : PatUnit) : State :=
  let cost := match chargesOf p.units p.nets p.cluster u with
    | c :: _ => c.cycles
    | [] => 0
  let inst := if u.cls = cPATCH then 0xFFFF else u.inst
  let s := (s.uWord Reg.UNIT_IDENT u.id (u.cls * 2 ^ 24 + u.ver * 2 ^ 16 + u.id)).uWord Reg.UNIT_INST u.id (u.parent * 2 ^ 16 + inst)
  let s := (s.uPut Fld.UNIT_CYCLES.COST (min 0xFFFF cost) u.id).uPut Fld.UNIT_STAT.ACTIVE 1 u.id
  s.uPut Fld.UNIT_STAT.CARRIED (b2n carried) u.id

/-- Every block at once: those of units that ended or start read 0 first (R146). -/
def State.blocksCommit (s : State) (p : Pattern) (kept : List PatUnit) : State :=
  let ids := kept.map (·.id)
  let window := fun (a : Nat) => decide (0x400000 ≤ a ∧ a < 0x800000)
  let s := { s with regs := s.regs.filter fun (e : Nat × Word) => !window e.1 || ids.contains ((e.1 - 0x400000) / 256) }
  s.forEach p.units fun u s => s.unitBlockCommit p (ids.contains u.id) u

/-! ## What follows the Pattern as a whole -/

/-- Outputs of units that are not carried over are gone. -/
def State.flowCommit (s : State) (kept : List PatUnit) : State :=
  let ids := kept.map (·.id)
  let live := fun (e : Nat) => ids.contains (e / 256)
  { s with
    flow.out := s.flow.out.filter fun (e : Nat × Nat) => live e.1
    flow.time := s.flow.time.filter fun (e : Nat × TimeVal) => live e.1
    flow.evt := s.flow.evt.filter live, flow.held := s.flow.held.filter live
    flow.evtNext := s.flow.evtNext.filter live, flow.late := s.flow.late.filter live }

/-- The POLICY values that registers show as in force (R274, R365, R492, R534, R575). -/
def State.policyCommit (s : State) : State :=
  let slew := s.policy 0x0207 100
  let s := (s.put Fld.TIM_SLEW.SLEW_NS_S slew).put Fld.TIM_SLEW.SLEW_INC (roundDiv ((slew * 2 ^ 33 : Nat) : Int) 1000000000).toNat
  let s := (s.wrAsym 0 (s.policy 0x020D 0)).wrAsym 1 (s.policy 0x020E 0)
  let s := s.put Fld.FLT_GLB_TAL.TAL (s.policy 0x0280 8192)
  let s := (s.put Fld.RING_POL.SILENT_MS (s.policy 0x0401 25)).put Fld.RING_POL.RETX_TIMEOUT_NS (s.policy 0x0403 4000)
  s.put Fld.QUE_STAT.WAIT_NS (s.policy 0x0901 4000)

/-- FIR coefficient sets in use (R136). -/
def coefSets (us : List PatUnit) : Nat :=
  ((us.filter fun u => u.cls == cFILTER).map fun u => (u.p 0 0 2, u.p 0 4 4)).eraseDups.length

/-- The discovered ring is compared with the new CLUSTER section (R525). -/
def State.orderCommit (s : State) : State :=
  match s.ring.result with
  | none => s
  | some (topo, recs) =>
    let ok := s.orderOk topo (recs.map recSerial)
    let s := s.put Fld.RING_STAT.ORDER_OK (b2n ok)
    if ok then s else s.evt Fld.RING_EVT.ORDER_MISMATCH 104

/-- The slot list of a stream in a Pattern. -/
def slotsOf (p : Option Pattern) (hub stream : Nat) : Option (List Nat) :=
  p.bind fun q => (q.streamSlots.find? fun t => t.hub == hub && t.stream == stream).map (·.slots)

/-- Subscriptions at a commit: a subscriber of the same stream identity still receives what was labelled before F, as
ABSENT where the stream's slot list changed (R118). `olds` are the old subscriptions with what they held. -/
def State.subsCommit (s : State) (old : Option Pattern) (olds : List (Nat × Nat × Conf)) : State :=
  s.forEach (s.units cSUBSCRIBE) fun u s =>
    match olds.find? fun e => e.1 == subHub u && e.2.1 == subStream u with
    | none => s
    | some (_, _, x) =>
      let changed : Bool := slotsOf old (subHub u) (subStream u) != slotsOf s.banks.act (subHub u) (subStream u)
      s.setConf u.inst (if changed then { x with absentBefore := s.seq.frame } else x)

/-- Chains of FILTER units that started: they run from this tick with a synchronising reset; one that the field port has
already reset at this tick keeps that reset, recorded as a commit (R280, R295). -/
def State.chainCommit (s : State) (c : Nat) : State :=
  if s.is Fld.FLT_CHc_EVT.RESET c then s.put Fld.FLT_CHc_RST_HI.CAUSE 1 c
  else if !s.alignable.contains c then s
  else if s.acquires then s.startChain c 1
  else s.alignEval c true

/-- The swap in progress ends when the INPUT or FILTER unit of its channel is not carried over (R117, R314). -/
def State.swapCommit (s : State) (kept : List PatUnit) : State :=
  match s.cal.swap with
  | none => s
  | some w =>
    let c := w.forCh.getD w.ch
    if c < 96 && !(holds kept cINPUT c && holds kept cFILTER c) then s.calEnd 0xC else s

/-! ## The switch (R114 step 3) -/

/-- The new Pattern takes effect at this tick. -/
def State.commitSwitch (s : State) (p : Pattern) : State :=
  let oldP := s.banks.act
  let old := s.patUnits
  let new := p.units
  let kept := new.filter (carriesOver old)
  let fresh := new.filter fun u => !carriesOver old u
  let gone := old.filter fun v => !kept.any fun u => u.id == v.id
  let before := [0, 1].map fun q => (s.segment q, s.leafPort q)
  let olds := (old.filter fun u => u.cls == cSUBSCRIBE).map fun u => (subHub u, subStream u, s.conf u.inst)
  let per := s.nPer
  let auxKept := fun (i : Nat) => holds kept cAUX i || (!holds old cAUX i && !holds new cAUX i)
  let s := s.swapCommit kept
  let s := s.forEach gone fun u s => s.endUnit new u
  let s := { s with banks.outgoing := oldP, banks.act := some p, banks.switched := true }
  let s := if s.nPer = per then s else s.movePeriods 0 ((s.seq.frame : Int) * ((s.nPer : Int) - per))
  let s := (s.flowCommit kept).blocksCommit p kept
  let changed := (List.range 96).filter fun n => (s.rd Reg.AFE_CHn_EXC n).toNat != s.inputExc n
  let s := s.forEach (List.range 96) fun n s => s.channelCommit (holds kept cINPUT n) n
  let s := s.policyCommit.put Fld.FLT_GLB_COEF.SETS (coefSets new)
  let s := s.forEach fresh fun u s => s.startUnit u
  let s := s.forEach (kept.filter fun u => u.cls == cLOOP) fun u s => s.loopWires u
  let s := s.subsCommit oldP olds
  let s := s.forEach (new.filter fun u => u.cls == cWRING) fun u s => s.wringBind u
  let s := (s.auxCommit (auxKept 0) (auxKept 1)).scalCommit
  let s := if auxKept 0 || !s.noScan then s else s.startScan
  let s := (s.setId p.hubId 2).orderCommit
  let s := ((s.fieldCommit old).laneCommit before).queuePlaces
  let s := s.forEach ((fresh.filter fun u => u.cls == cFILTER).map (·.inst)) fun c s => s.chainCommit c
  let s := (s.excUpdate changed).toutRest
  let s := if s.inStates [stHeld, stMaint] then s.sluPark else s
  s.headDegraded.partnerDegraded

/-! ## The rows -/

/-- COMMIT_IRREVOCABLE: the House phase of tick F − 1; the CALDATA values are staged for FT(F) (R114 step 2, R89, R300). -/
def execCommitIrrevocable (s : State) : Host.Outcome State Fault Refusal :=
  match s.banks.commitF, s.banks.stbyPat with
  | some _, some p =>
    if s.banks.irrevocable then .next s else
    let s := { s with banks.irrevocable := true }
    .next (if bit p.flags 2 then s.forEach p.caldata fun e s => s.wrCoef (e.1 / 64) (e.1 % 64) e.2 4 else s)
  | _, _ => .next s

/-- The scheduled commit of the standby Pattern, past the point of no return, takes effect. -/
def State.commitDue (s : State) : State :=
  match s.banks.commitF, s.banks.stbyPat with
  | some _, some p => if s.banks.irrevocable && !s.banks.switched then s.commitSwitch p else s
  | _, _ => s

/-- COMMIT_SWITCH: FT(F) of a commit by command (R114 step 3). -/
def execCommitSwitch (s : State) : Host.Outcome State Fault Refusal :=
  .next (if s.banks.powerUp then s else s.commitDue)

/-- POWER_UP_COMMIT: the image accepted at power-up takes effect, and the hub enters ARMED at the same tick unless
HOLD_AT_BOOT is set (R122, R155). -/
def execPowerUpCommit (s : State) : Host.Outcome State Fault Refusal :=
  if !s.banks.powerUp || !s.banks.irrevocable || s.banks.switched then .next s else
  match s.banks.stbyPat with
  | none => .next s
  | some p =>
    let s := s.commitDue
    .next (if s.hubState == stHeld && !bit p.flags 3 then s.enterState stArmed else s)

/-- COMMIT_COMPLETE: the House phase of tick F (R114 step 5): the banks change places, the registers of the active Pattern
show the new one, and MIN_SERIAL rises where ANTIROLLBACK is set and the image is signed (R96, R111). -/
def execCommitComplete (s : State) : Host.Outcome State Fault Refusal :=
  match s.banks.act with
  | none => .next s
  | some p =>
    if !s.banks.switched then .next s else
    let old := s.banks.outgoing
    let b := { s.banks with
      actBytes := s.banks.stby, actLen := s.banks.wlen, stby := s.banks.actBytes, wlen := s.banks.actLen, stbyPat := old
      commitF := none, irrevocable := false, outgoing := none, switched := false, powerUp := false }
    let s := ({ s with banks := b } : State).bankTo (if old.isSome then .previous else .empty)
    let s := (s.put Fld.PAT_WLEN.WLEN s.banks.wlen).put Fld.PAT_STAT.COMMIT_PEND 0
    let s := (s.put Fld.PAT_STAT.ACT_VALID 1).put Fld.PAT_STAT.ACT_SIGNED (b2n p.signed)
    let s := (s.put Fld.PAT_STAT.ACT_CALDATA (b2n (bit p.flags 2))).showDigestIn Reg.PAT_ACT_DIGESTk p.digest
    let s := s.wr Reg.PAT_ACT_SERIAL (BitVec.ofNat 32 p.serial)
    let s := match old with
      | some q => (s.showDigestIn Reg.PAT_STBY_DIGESTk q.digest).wr Reg.PAT_STBY_SERIAL (BitVec.ofNat 32 q.serial)
      | none => (s.showDigestIn Reg.PAT_STBY_DIGESTk []).wr Reg.PAT_STBY_SERIAL 0
    let s := s.forEach (List.range 7) fun r s =>
      (s.wr Reg.PAT_BUDGET_Wr (BitVec.ofNat 32 (p.budgetW.getD r 0)) r).wr Reg.PAT_BUDGET_Cr (BitVec.ofNat 32 (p.budgetC.getD r 0)) r
    let serial : Word := BitVec.ofNat 32 p.serial
    let s := if s.is Fld.PAT_SIGN_CFG.ANTIROLLBACK && p.signed && (s.rd Reg.PAT_MIN_SERIAL).toNat < serial.toNat then
        s.wr Reg.PAT_MIN_SERIAL serial
      else s
    let s := s.stage 0x0602 (leBytes 4 p.serial ++ p.digest.take 16)
    .next (s.patEvent Fld.PAT_STAT.COMMITTED).pdEval

/-! ## Pattern commands (R95, R112, R113, R115, R116, R119) -/

/-- PAT_LOAD: the check of the standby bank starts, after a copy from the flash with SOURCE = 1. -/
def State.patLoad (s : State) (source addr : Nat) : Answer × State :=
  match s.banks.stbyState with
  | .checking => ({ status := 1 }, s)
  | .scheduled => ({ status := 1 }, s)
  | _ =>
    if 1 < source then ({ status := 3, detail := 3 }, s) else
    let s := ({ s with banks.stbyPat := none } : State).checkBegin false
    ({ status := 0 }, if source = 1 then { s with banks.qspiCopy := some addr } else s)

/-- CLUSTER's fixed part and hub table are the same in two Patterns (R115). -/
def sameCluster (a b : Pattern) : Bool :=
  { a.cluster with streams := [], duals := [] } == { b.cluster with streams := [], duals := [] }

/-- A revert is refused (R116). -/
def State.revertDenied (s : State) (p : Pattern) : Bool :=
  s.banks.stbyState == .previous
    && ((s.is Fld.PAT_SIGN_CFG.ANTIROLLBACK && decide (p.serial < s.get Fld.PAT_MIN_SERIAL.MIN_SERIAL))
      || (p.signed && field (s.get Fld.PAT_KEY_STAT.SLOT) (2 * p.keySlot) 2 == 2))

/-- PAT_COMMIT: a hub without a frame counter can place only F = 0 (log entry 20). -/
def State.patCommit (s : State) (f : Nat) : Answer × State :=
  let ready : Bool := s.banks.stbyState == .checked || s.banks.stbyState == .previous
  match s.banks.stbyPat with
  | none => ({ status := 2 }, s)
  | some p =>
    let barred : Bool := match s.banks.act with
      | some a => s.hubState == stRun && !sameCluster a p
      | none => false
    let n := s.seq.frame
    if f ≥ 2 ^ 48 then ({ status := 3, detail := 3 }, s)
    else if !ready || barred then ({ status := 2 }, s)
    else if s.revertDenied p then ({ status := 5 }, s)
    else if f != 0 && (!s.seq.counter || f < n + 2) then ({ status := 8 }, s)
    else ({ status := 0 }, s.commitAt (if f = 0 then n + 2 else f))

/-- PAT_CANCEL (R119). -/
def State.patCancel (s : State) : Answer × State :=
  if s.banks.commitF.isNone || s.banks.irrevocable then ({ status := 2 }, s) else
  let s := ({ s with banks.commitF := none, banks.powerUp := false } : State).bankTo s.banks.returnTo
  ({ status := 0 }, (s.put Fld.PAT_STAT.COMMIT_PEND 0).fieldCancel.pdEval)

/-- PAT_DISCARD. -/
def State.patDiscard (s : State) : Answer × State :=
  match s.banks.stbyState with
  | .checking => ({ status := 2 }, s)
  | .scheduled => ({ status := 2 }, s)
  | _ => ({ status := 0 }, s.stbyEmpty)

/-- Sets a slot's code in PAT_KEY_STAT. -/
def State.keySlotTo (s : State) (slot code : Nat) : State := s.put ⟨Reg.PAT_KEY_STAT, 2 * slot, 2⟩ code

/-- PAT_KEY_INSTALL (R95). -/
def State.keyInstall (s : State) (slot : Nat) (key : List Byte) : Answer × State :=
  if 7 < slot then ({ status := 3, detail := 3 }, s)
  else if field (s.get Fld.PAT_KEY_STAT.SLOT) (2 * slot) 2 != 0 then ({ status := 5 }, s)
  else if !keyOk key then ({ status := 3 }, s)
  else
    let s := { s with banks.keys := tabSet s.banks.keys slot key }
    ({ status := 0 }, (s.keySlotTo slot 1).stage 0x0202 (leBytes 1 slot ++ (sha256 key).take 8))

/-- PAT_KEY_REVOKE (R95). -/
def State.keyRevoke (s : State) (slot : Nat) : Answer × State :=
  if 7 < slot then ({ status := 3, detail := 3 }, s)
  else if field (s.get Fld.PAT_KEY_STAT.SLOT) (2 * slot) 2 != 1 then ({ status := 5 }, s)
  else ({ status := 0 }, (s.keySlotTo slot 2).stage 0x0203 (leBytes 1 slot))

end Sys2Proof.Machine
end

