-- ==== Sys2Proof/Machine/Mailbox.lean ====
section
/-! DEFINITION. Command and response records (R161 to R163), the mailboxes (R184, R185), relaying through a hub's mailbox
(R531, R532), ring notices (R582), the duplicate table (R169), and the meanings of these commands. -/

namespace Sys2Proof.Machine

/-- The frame counter as registers and responses show it: 0 until it is started or adopted (R31). -/
def State.frameNow (s : State) : Nat := if s.seq.counter then s.seq.frame else 0

/-! ## Records -/

/-- The argument length of each assigned opcode (R175 and the command tables of the chapters). REG_WRITE (0x11) has its
own rule in `argsOk`. -/
def argLens : List (Nat × Nat) :=
  [(0x01, 0), (0x02, 0), (0x03, 0), (0x04, 8), (0x05, 8), (0x06, 0), (0x07, 0), (0x08, 0), (0x09, 0), (0x0A, 0), (0x10, 8)]
    ++ [(0x20, 8), (0x21, 8), (0x22, 0), (0x23, 0), (0x24, 68), (0x25, 4), (0x30, 4), (0x31, 4), (0x32, 20), (0x40, 16)]
    ++ [(0x41, 24), (0x42, 12), (0x43, 0), (0x50, 8), (0x51, 4), (0x52, 16), (0x58, 0), (0x60, 8), (0x61, 4), (0x70, 12)]
    ++ [(0x71, 4), (0x78, 0), (0x79, 8), (0x80, 12), (0x81, 4), (0x82, 4), (0x90, 4), (0x98, 4), (0x99, 4), (0xA0, 0)]
    ++ [(0xA1, 4), (0xB0, 44), (0xB1, 4)]

/-- The opcode is assigned to a command (R173). -/
def opKnown (op : Nat) : Bool := op == 0x11 || argLens.any fun e => e.1 == op

/-- The arguments have a length that the opcode permits (R163). A REG_WRITE carries its address, COUNT and COUNT words; a
reserved opcode has no length of its own. -/
def argsOk (op : Nat) (args : List Byte) : Bool :=
  if op = 0x11 then
    let n := leAt args 4 4
    decide (12 ≤ args.length) && (n == 0 || decide (58 < n) || args.length == 8 + 4 * n)
  else match argLens.find? fun e => e.1 == op with
    | some e => args.length == e.2
    | none => true

/-- The record passes R163. -/
def recordOk (b : List Byte) : Bool :=
  let t := fb b 1
  let src := leAt b 2 2
  let n := leAt b 8 2
  (decide (t < 0x80) || decide (0xFE ≤ t)) && src != 0 && src != 0xFFFF && decide (n ≤ 240) && n % 4 == 0
    && b.length == 16 + n && leAt b 10 2 / 2 == 0 && leAt b 12 4 == 0 && argsOk (fb b 0) (b.drop 16)

/-- Who sent a record that came through a path: its header's SOURCE_ID, REQUEST_ID, TARGET and NOTIFY. -/
def originOf (path : Path) (hub : Nat) (b : List Byte) : Origin :=
  { path := path, hub := hub, source := leAt b 2 2, request := leAt b 4 4, target := fb b 1, notify := bit (leAt b 10 2) 0 }

/-- A response record (R162). -/
def responseRecord (opcode hub source request status orig frame rflags detail : Nat) (result : List Byte) : List Byte :=
  let r := result.take 224
  leBytes 1 opcode ++ leBytes 1 hub ++ leBytes 2 source ++ leBytes 4 request ++ leBytes 1 status ++ leBytes 1 orig
    ++ leBytes 2 r.length ++ leBytes 6 frame ++ leBytes 2 rflags ++ leBytes 4 detail ++ leBytes 8 0 ++ r

/-! ## Mailboxes -/

/-- A word of a path's mailbox by its GLB offset. -/
def State.mbxGet (s : State) (p : Path) (off : Nat) : Nat := (tabGet (s.bank p).mbx 0 off).toNat

/-- Stores a word of a path's mailbox; a word at its reset value 0 is not listed. -/
def State.mbxSet (s : State) (p : Path) (off v : Nat) : State :=
  let b := s.bank p
  let w := BitVec.ofNat 32 v
  s.setBank p { b with mbx := if w = 0 then tabErase b.mbx off else tabSet b.mbx off w }

/-- BUSY of a path's mailbox. -/
def State.mbxBusy (s : State) (p : Path) : Bool := bit (s.mbxGet p 0x44) 0

/-- GO_DROP of a path's mailbox is set. -/
def State.mbxDrop (s : State) (p : Path) : State := s.mbxSet p 0x44 (s.mbxGet p 0x44 ||| 4)

/-- A response is stored in a mailbox: BUSY falls, RSP_VALID rises, and NOTIFY raises the mailbox's notice (R184,
R580). -/
def State.mbxStore (s : State) (p : Path) (r : List Byte) (notify : Bool) : State :=
  let s := s.forEach (toWords (r.length / 4) r).zipIdx fun e s => s.mbxSet p (0x200 + 4 * e.2) e.1
  let s := s.mbxSet p 0x44 (s.mbxGet p 0x44 / 4 * 4 + 2)
  s.when notify (·.raise (if p = .pcie then 96 else 97))

/-- A response goes back on the path of its command: into the mailbox, or in an MGMT frame to the hub that sent it
(R506). -/
def State.respond (s : State) (o : Origin) (r : List Byte) : State :=
  match o.path with
  | .mgmt => s.mgmtSend 1 o.hub r
  | p => s.mbxStore p r o.notify

/-- The response of this hub to a command of this tick. -/
def State.answerNow (s : State) (o : Origin) (opcode : Nat) (a : Answer) : State :=
  s.respond o (responseRecord opcode s.hubId o.source o.request a.status a.status s.frameNow 0 a.detail a.result)

/-! ## Relaying (R531, R532) -/

/-- The record is for another hub, or for every hub. -/
def State.isRelayed (s : State) (o : Origin) : Bool :=
  o.path != .mgmt && (o.target == 0xFE || (decide (o.target < 0x80) && o.target != s.hubId))

/-- A hub relays for its mailboxes without an active Pattern, or as a head hub (R25, R531). -/
def State.mayRelay (s : State) : Bool := s.banks.act.isNone || s.isHead

/-- Relays a record; of the broadcasts of a path the latest is kept for its responses. -/
def State.relay (s : State) (o : Origin) (b : List Byte) : State :=
  let s := s.wrap Fld.RING_MGMT.RELAY_CNT
  let e : Relay := { path := o.path, opcode := fb b 0, target := o.target, source := o.source, request := o.request, notify := o.notify }
  let rest := s.seq.relays.filter fun x => !(x.path == o.path && (x.target == 0xFE) == (o.target == 0xFE))
  ({ s with seq.relays := rest ++ [e] } : State).mgmtSend 2 o.target b

/-- A well-formed record of a mailbox that this hub relays: with TARGET 0xFE it also executes it, and `true` says that
it still has to. -/
def State.relayStep (s : State) (o : Origin) (b : List Byte) : Bool × State := (o.target == 0xFE, s.relay o b)

/-- A response that names a relayed record: a unicast record's response goes to the mailbox, a broadcast's into
RING_MRSPh of its sender. -/
def State.relayBack (s : State) (hub : Nat) (r : List Byte) : State :=
  match s.seq.relays.find? fun x => x.source == leAt r 2 2 && x.request == leAt r 4 4 with
  | none => s
  | some x =>
    if x.target = 0xFE then
      if 127 < hub then s else
      let s := { s with ring.mrsp := tabSet s.ring.mrsp hub r }
      s.put Fld.RING_MRSP_VALIDj.VALID (maskBit (s.get Fld.RING_MRSP_VALIDj.VALID (hub / 32)) (hub % 32) true) (hub / 32)
    else ({ s with seq.relays := s.seq.relays.filter (· != x) } : State).mbxStore x.path r x.notify

/-- MGMT_RELAY_TIMEOUT: no response came within MGMT_TIMEOUT_MS to the record relayed for a mailbox; for the path of MGMT,
to the records of a fetch (R532, R675). -/
def execMgmtRelayTimeout (path : Path) (s : State) : Host.Outcome State Fault Refusal :=
  if path = .mgmt then .next s.fetchAgain else
  match s.seq.relays.find? fun x => x.path == path && x.target != 0xFE with
  | none => .next s
  | some x =>
    let s := ({ s with seq.relays := s.seq.relays.filter (· != x) } : State).sat Fld.RING_MGMT.TIMEOUT_CNT
    .next (s.mbxStore path (responseRecord x.opcode x.target x.source x.request 7 7 s.frameNow 0 0 []) x.notify)

/-! ## Submission (R166 to R168) -/

/-- A record waits for a House phase (R166). -/
def State.wait (s : State) (o : Origin) (b : List Byte) : State :=
  { s with seq.waiting := s.seq.waiting ++ [{ origin := o, bytes := b }] }

/-- A write of 1 to GO: while BUSY it is discarded; otherwise the record in GLB_CMD_BUF is submitted. A record for other
hubs is relayed at once, in BOOT when the hub has reached HELD (R168, R184, R531). -/
def State.mbxGo (s : State) (p : Path) : State :=
  if s.mbxBusy p then s.mbxDrop p else
  let s := s.mbxSet p 0x44 (s.mbxGet p 0x44 / 4 * 4 + 1)
  let buf := ofWords ((List.range 64).map fun k => s.mbxGet p (0x100 + 4 * k))
  let b := buf.take (16 + min 240 (leAt buf 8 2))
  let o := originOf p s.hubId b
  if stHeld ≤ s.hubState && recordOk b && s.isRelayed o && s.mayRelay then
    let (own, s) := s.relayStep o b
    if own then s.wait { o with target := 0xFF } b else s
  else s.wait o b

/-- MAILBOX_GO: a write of 1 to GO of a path's mailbox. MGMT has no mailbox (R185). -/
def execMailboxGo (path : Path) (s : State) : Host.Outcome State Fault Refusal :=
  .next (if path = .mgmt || s.hubState = stOff then s else s.mbxGo path)

/-! ## MGMT frames (R506, R511, R521) -/

/-- A response frame: a NOTICE record, the answer to a fetch, or the answer to a relayed record. -/
def State.mgmtResponse (s : State) (hub : Nat) (r : List Byte) : State :=
  if fb r 0 = 0x97 && leAt r 2 2 = 0 then (if s.isHead then s.noticeStore hub (padTo 16 (r.drop 32)) else s)
  else if leAt r 2 2 = 0xFF00 + s.hubId then s.fetchResponse r
  else s.relayBack hub r

/-- A command frame: up to 16 MGMT commands wait at once (R167). -/
def State.mgmtCommand (s : State) (hub : Nat) (b : List Byte) : State :=
  let o := { originOf .mgmt hub b with target := 0xFF }
  if 16 ≤ s.seq.waiting.countP fun w => w.origin.path == .mgmt then s.answerNow o (fb b 0) { status := 1 }
  else s.wait o b

/-- Keys of MGMT frames of a hub are dropped once 64 newer MSEQ of it have been seen (R521). -/
def State.dropMgmtKeys (s : State) (emit : Nat) : State :=
  let mine := s.ring.seen.filter fun e => e.type == 5 && e.key.head? == some emit
  let newer := fun (k : SeenKey) => mine.countP fun e =>
    let d := lseqDiff (e.key.getD 1 0) (k.key.getD 1 0)
    decide (0 < d) && decide (d < 32768)
  { s with ring.seen := s.ring.seen.filter fun k =>
      !(k.type == 5 && k.key.head? == some emit) || decide (newer k < 64) }

/-- MGMT_FRAME_RECEIVE: a frame for this hub is taken and not forwarded; one for every hub is forwarded and taken. -/
def execMgmtFrameReceive (port lseq : Nat) (bytes : List Byte) (s : State) : Host.Outcome State Fault Refusal :=
  let dest := fb bytes 4
  let own := dest == s.hubId && s.hubId != 0xFF
  let (ok, s) := s.receive port lseq 5 (!own) bytes
  if !ok || !(own || dest == 0xFE) then .next s else
  let hub := fb bytes 3
  let (dup, s) := s.keyed ⟨5, [hub, leAt bytes 6 2], s.opMs + 10000⟩
  if dup then .next s else
  let s := s.dropMgmtKeys hub
  let r := slice bytes 12 (leAt bytes 8 2)
  .next (if bit (fb bytes 1) 0 then s.mgmtResponse hub r else s.mgmtCommand hub r)

/-! ## Ring notices (R582) -/

/-- NOTICE_RING_SEND: the interval of NOTICE_RING_MS ends, and the raises in it are sent in one record to each head hub. -/
def execNoticeRingSend (s : State) : Host.Outcome State Fault Refusal :=
  if !s.host.ringNotice then .next s else
  let s := { s with host.ringNotice := false }
  if s.isHead then .next s else
  match s.banks.act with
  | none => .next s
  | some p =>
    let map := ofWords ((List.range 4).map fun j => s.get Fld.DMA_NPENDj.PEND j)
    let r := responseRecord 0x97 s.hubId 0 s.host.noticeSeq 0 0 s.frameNow 0 0 map
    let s := { s with host.noticeSeq := (s.host.noticeSeq + 1) % 2 ^ 32 }
    .next (s.forEach ([p.cluster.head0, p.cluster.head1].filter (· < 128)) fun h s => s.mgmtSend 1 h r)

/-! ## Duplicate table (R169) -/

/-- The source whose newest entry is the oldest; entries stand oldest first. -/
def oldestSource (l : List DupEntry) : Nat := ((l.map (·.source)).reverse.eraseDups).getLastD 0

/-- Enters an answer: 256 entries per source, 64 sources. -/
def State.dupEnter (s : State) (e : DupEntry) : State :=
  let l := s.seq.dup.filter fun x => !(x.source == e.source && x.request == e.request)
  let mine := l.filter fun x => x.source == e.source
  let full : Bool := mine.isEmpty && decide (64 ≤ ((l.map (·.source)).eraseDups).length)
  let l := if full then l.filter fun x => x.source != oldestSource l
    else if 256 ≤ mine.length then l.erase (mine.headD e) else l
  ({ s with seq.dup := l ++ [e] } : State).when full (·.sat Fld.GLB_DUP_EVICT.EVICT)

/-- DUPLICATE_ENTRY_EXPIRE: the entry of a source and request is removed, 60 s of operating time after its execution. -/
def execDuplicateEntryExpire (source request : Nat) (s : State) : Host.Outcome State Fault Refusal :=
  .next { s with seq.dup := s.seq.dup.filter fun x => !(x.source == source && x.request == request) }

end Sys2Proof.Machine
end

