-- ==== Sys2Proof/Machine/Bus.lean ====
section
/-! DEFINITION. The register map as the three access paths reach it (R715 to R721): decoding an offset, reads with their
effects, writes by register, the unit window (R142 to R147), and the meanings of the commands that are register
accesses. -/

namespace Sys2Proof.Machine

/-! ## Decoding an offset (R715) -/

/-- The indices of the register of a family that stands at an offset. -/
def RegDef.index (r : RegDef) (a : Nat) : Option (Nat × Nat) :=
  if a < r.base then none else
  let d := a - r.base
  let i := if r.s1 = 0 then 0 else d / r.s1
  let e := d - r.s1 * i
  let j := if r.s2 = 0 then 0 else e / r.s2
  if i < r.n1 && j < r.n2 && e == r.s2 * j then some (i, j) else none

/-- The register families of the block that an offset lies in. -/
def blockAt (a : Nat) : List RegDef :=
  let k := a / 0x10000
  if k < 4 then [Reg.blockGlb, Reg.blockPmu, Reg.blockPat, Reg.blockSup].getD k []
  else if k < 8 then [Reg.blockTim, Reg.blockTdc, Reg.blockSar, []].getD (k - 4) []
  else if k < 0xC then (if k < 0xA then Reg.blockAfe else Reg.blockCal)
  else if k < 0x10 then Reg.blockFlt
  else if k < 0x18 then [Reg.blockCap, Reg.blockLoop, Reg.blockSlu, Reg.blockLane].getD ((k - 0x10) / 2) []
  else if k < 0x20 then (if k < 0x1C then Reg.blockRing else Reg.blockFld)
  else if k < 0x24 then Reg.blockQue
  else if k < 0x28 then (if k < 0x26 then Reg.blockDma else Reg.blockWrg)
  else if k = 0x28 then Reg.blockSlt
  else []

/-- The register at an offset outside the unit window, the mailboxes and the active image window. -/
def regAt (a : Nat) : Option (RegDef × Nat × Nat) :=
  (blockAt a).findSome? fun r => (r.index a).map fun e => (r, e.1, e.2)

/-! ## Reads -/

/-- Word k of a time group: seconds low, VALID and seconds high, ns, fraction (R367). -/
def timeWord (t : TimeVal) (k : Nat) : Nat :=
  match k with
  | 0 => t.s % 2 ^ 32
  | 1 => 2 ^ 31 + t.s / 2 ^ 32 % 2 ^ 16
  | 2 => t.ns
  | _ => t.frac / 2 ^ 16

/-- A read in the TIM_L, TIM_A and TIM_B groups: a read of TIM_L_S_LO latches all three for its path (R367, R719). -/
def State.readTime (s : State) (p : Path) (r : RegDef) : Nat × State :=
  let s := if r = Reg.TIM_L_S_LO then
      s.setBank p { s.bank p with timL := s.time.l, timA := (s.dom 0).t, timB := (s.dom 1).t } else s
  let b := s.bank p
  let t := if r.base < 0x40110 then b.timL else if r.base < 0x40120 then b.timA else b.timB
  (timeWord t (r.base / 4 % 4), s)

/-- A read of LOOP_Sn_INT_LO latches the upper half for its path (R718, R719). -/
def State.readInt (s : State) (p : Path) (k : Nat) : Nat × State :=
  let x := unsigned 64 (s.slot k).int
  let b := s.bank p
  (x % 2 ^ 32, s.setBank p { b with loopIntHi := tabSet b.loopIntHi k (x / 2 ^ 32) })

/-- A read of TDC_CHk_FIFO_W0 removes the oldest entry and latches its other words for its path (R384, R719). -/
def State.readTdcFifo (s : State) (p : Path) (k : Nat) : Nat × State :=
  let (ws, s) := s.tdcPop k
  let b := s.bank p
  (ws.headD 0, s.setBank p { b with tdcW := tabSet b.tdcW k ws.tail })

/-- A read of QUE_Qq_POP_LO through SPI pops without wait; through REG_READ it reads 0 (R717). -/
def State.readPop (s : State) (p : Path) (q : Nat) : Nat × State :=
  if p = .mgmt then (0, s) else
  let t := s.queuePop p q false false
  match t.host.popData.drop s.host.popData.length with
  | e :: _ => (e.2.1, { t with host.popData := s.host.popData })
  | [] => (0, t)

/-- A read of FLD_Pp_ISNS restarts PEAK (R718). -/
def State.readIsns (s : State) (p : Nat) : Nat × State :=
  (s.readByCode Reg.FLD_Pp_ISNS p, s.put Fld.FLD_Pp_ISNS.PEAK 0 p)

/-- AFE_GRPg_STAT with the connection of the group's mend channel (R226). -/
def State.mendStat (s : State) (g : Nat) : Nat :=
  let off := s.readByCode Reg.AFE_GRPg_STAT g % 2
  match s.cal.swap with
  | some w => if s.inSwap w.ch && w.ch < 96 && w.ch / 24 = g then w.ch % 24 * 2 ^ 16 + 2 + off else 0xFF0000 + off
  | none => 0xFF0000 + off

/-- Registers whose content other state gives: their word without an effect on it. -/
def State.shownWord (s : State) (p : Path) (r : RegDef) (i j : Nat) : Option Nat :=
  if r = Reg.GLB_FRAME_HI then some (s.bank p).frameHi
  else if r = Reg.TIM_OFF_L then some (unsigned 32 (satSigned 32 (s.offL / 2 ^ 24)))
  else if r = Reg.TIM_INC_L_LO then some (s.time.incL % 2 ^ 32)
  else if r = Reg.TIM_INC_L_HI then some (s.time.incL / 2 ^ 32)
  else if r = Reg.LOOP_Sn_INT_HI then some (tabGet (s.bank p).loopIntHi 0 i)
  else if r = Reg.SLT_OPT_HI then some (s.bank p).optHi
  else if r = Reg.SLT_CURSOR then some (s.bank p).cursor
  else if r = Reg.SLT_WIN_STAT then some (s.bank p).winStat
  else if r = Reg.CAP_Ee_DESCw then some ((descWords (s.engine i) (s.get Fld.CAP_Ee_DSEL.SEG i)).getD j 0)
  else if r = Reg.AFE_GRPg_STAT then some (s.mendStat i)
  else if r = Reg.FLT_CHc_CFG then some (if s.acquires then s.readByCode r i j else s.readByCode r i j % 2 ^ 31)
  else if r = Reg.RING_HWk then
    let hub := s.get Fld.RING_HSEL.HUB
    some (match s.ring.hellos.find? fun h => h.hub == hub with
      | some h => leAt h.bytes (4 * i) 4
      | none => 0)
  else if r = Reg.RING_DISCi_Wj then
    some (match s.ring.result with
      | some (_, recs) => leAt (recs.getD i []) (4 * j) 4
      | none => 0)
  else if r = Reg.RING_MRSPh_Wk then some (leAt (tabGet s.ring.mrsp [] i) (4 * j) 4)
  else if Reg.CAL_CHc_GRr.base ≤ r.base && r.base ≤ Reg.CAL_CHc_VALID.base then
    some (s.readCoef i (r.base + r.s2 * j - Reg.CAL_CHc_GRr.base))
  else none

/-- The register belongs to a resource that is fused off on the PZH4804 (R186, R227, R294, R325, R414, R439, R463,
R536). -/
def fusedReg (r : RegDef) (i : Nat) : Bool :=
  let a := r.base
  if r.n1 = 100 || r.n1 = 612 then fusedChain i
  else if r.n1 = 4 && (a / 0x1000 = 0x88 || a / 0x1000 = 0xAA) then decide (2 ≤ i)
  else if r.n1 = 16 && (a / 0x1000 = 0xAA || a / 0x10000 = 0x1C) then decide (8 ≤ i)
  else if r.n1 = 64 && (a / 0x10000 = 0x12 || a / 0x10000 = 0x13) then decide (32 ≤ i)
  else if a / 0x10000 = 0x14 then decide (48 ≤ i)
  else if r.n1 = 8 && a / 0x10000 = 0x16 then decide (2 ≤ i % 4)
  else false

/-- Accesses to a register of a fused resource read 0 and have no effect (R2, R716). -/
def State.fused (s : State) (r : RegDef) (i : Nat) : Bool := s.small && fusedReg r i

/-- A read of a register, with its effects (R718). -/
def State.readReg (s : State) (p : Path) (r : RegDef) (i j : Nat) : Nat × State :=
  if s.fused r i then (0, s)
  else if r = Reg.GLB_FRAME_LO then
    (s.frameNow % 2 ^ 32, s.setBank p { s.bank p with frameHi := s.frameNow / 2 ^ 32 % 2 ^ 16 })
  else if Reg.TIM_L_S_LO.base ≤ r.base && r.base ≤ Reg.TIM_B_FRAC.base then s.readTime p r
  else if r = Reg.LOOP_Sn_INT_LO then s.readInt p i
  else if r = Reg.SLT_OPT_LO then s.optRead p
  else if r = Reg.SLT_WINk then (if i = 15 then s.win15Read p 0 [] else (s.winWord p i, s))
  else if r = Reg.QUE_Qq_POP_LO then s.readPop p i
  else if r = Reg.QUE_Qq_POP_HI then (tabGet (s.bank p).popHi 0 i, s)
  else if r = Reg.QUE_Qq_POP_STAT && p = .mgmt then (0, s)
  else if r = Reg.TDC_CHk_FIFO_Wj then
    (if j = 0 then s.readTdcFifo p i else ((tabGet (s.bank p).tdcW [] i).getD (j - 1) 0, s))
  else if r = Reg.FLD_Pp_ISNS then s.readIsns i
  else ((s.shownWord p r i j).getD (s.readByCode r i j), s)

/-! ## The unit window (R142 to R147) -/

/-- The registers that a class mirrors from offset 0x20 of its block on: how many, and where they stand. -/
def mirrorOf (u : PatUnit) : Nat × Nat :=
  let i := u.inst
  if u.cls = cINPUT then (12, 0x80000 + 0x100 * i)
  else if u.cls = cFILTER then (12, 0xC0000 + 0x100 * i)
  else if u.cls = cLINEARISER then (3, 0xC0040 + 0x100 * i)
  else if u.cls = cTHRESHOLD then (1, 0xC0050 + 0x100 * (i / 2) + 4 * (i % 2))
  else if u.cls = cTRIGGER then (5, 0x100100 + 0x20 * i)
  else if u.cls = cCAPTURE then (32, 0x101000 + 0x200 * i)
  else if u.cls = cLOOP then (24, 0x120000 + 0x100 * i)
  else if u.cls = cOUTPUT then (10, 0x140000 + 0x40 * i)
  else if u.cls = cTDC then (12, 0x50100 + 0x40 * i)
  else if u.cls = cSTREAM then (2, 0x180400 + 8 * i)
  else if u.cls = cSUBSCRIBE then (4, 0x190000 + 0x10 * i)
  else if u.cls = cQUEUE then (15, 0x200000 + 0x40 * i)
  else if u.cls = cWRING then (13, 0x260000 + 0x40 * i)
  else if u.cls = cTIME_OUT then (1, 0x40300 + 0x10 * i)
  else if u.cls = cTIME_IN then (6, 0x40200 + 0x20 * i)
  else if u.cls = cPOD_BINDING then (16, 0x1C0000 + 0x100 * i)
  else (0, 0)

/-- The BAR0 offset that an offset from 0x20 on of a unit's block mirrors; a patch shows its STATUS_SRC (R143). -/
def State.unitMirror (s : State) : (fuel id off : Nat) → Option Nat
  | 0, _, _ => none
  | fuel + 1, id, off =>
    match s.unitId id with
    | none => none
    | some u =>
      if u.cls = cPATCH then (if u.p 0 0 16 = 0xFFFF then none else s.unitMirror fuel (u.p 0 0 16) off)
      else
        let (n, base) := mirrorOf u
        if off < 0x20 + 4 * n then some (base + (off - 0x20)) else none

/-- A unit lies inside a patch, at any depth (R140). -/
def insideOf (us : List PatUnit) (patch : Nat) : (fuel : Nat) → PatUnit → Bool
  | 0, _ => false
  | fuel + 1, u =>
    u.parent == patch || (match us.find? fun w => w.id == u.parent with
      | some w => insideOf us patch fuel w
      | none => false)

/-- The units, no patches, that a write to the common block of a unit reaches: itself, or those inside a patch (R144). -/
def State.blockUnits (s : State) (id : Nat) : List PatUnit :=
  match s.unitId id with
  | none => []
  | some u =>
    if u.cls ≠ cPATCH then [u]
    else s.patUnits.filter fun w => w.cls != cPATCH && insideOf s.patUnits id 64 w

/-- The stored word of a unit's common block. -/
def State.rawWord (s : State) (id off : Nat) : Nat := (tabGet s.regs 0 (0x400000 + unitBlock id + off)).toNat

/-- The common block of a patch (R142). -/
def State.patchWord (s : State) (id off : Nat) : Nat :=
  let us := s.blockUnits id
  let sum := fun (f : PatUnit → Nat) => min 0xFFFF (us.foldl (fun a u => a + f u) 0)
  let last := us.foldl (fun a u => max a (s.rawWord u.id 0x10 + 2 ^ 32 * s.rawWord u.id 0x14)) 0
  match off / 4 with
  | 0 => s.rawWord id 0
  | 1 => s.rawWord id 4
  | 2 => 1 + 2 * b2n (us.all fun u => bit (s.rawWord u.id 8) 1) + us.foldl (fun a u => a ||| s.rawWord u.id 8 / 4 * 4) 0
  | 3 => sum (fun u => s.rawWord u.id 0xC / 2 ^ 16) * 2 ^ 16 + sum (fun u => s.rawWord u.id 0xC % 2 ^ 16)
  | 4 => last % 2 ^ 32
  | 5 => last / 2 ^ 32
  | 6 =>
    let cost := match s.banks.act with
      | some p => fun (u : PatUnit) => (chargesOf p.units p.nets p.cluster u).foldl (fun a c => a + c.cycles) 0
      | none => fun _ => 0
    sum cost * 2 ^ 16 + sum fun u => s.rawWord u.id 0x18 % 2 ^ 16
  | _ => 0

/-- A read in the unit window: a unit that the active Pattern does not hold reads 0 (R145). -/
def State.readUnit (s : State) (p : Path) (id off : Nat) : Nat × State :=
  match s.unitId id with
  | none => (0, s)
  | some u =>
    if off < 0x20 then
      (if off = 0x1C then 0 else if u.cls = cPATCH then s.patchWord id off else s.rawWord id off, s)
    else match (s.unitMirror 64 id off).bind regAt with
      | some (r, i, j) => s.readReg p r i j
      | none => (0, s)

/-! ## Mailboxes, windows and reads of the map -/

/-- The offset is in the mailbox part of the GLB block (R185). -/
def inMbx (a : Nat) : Bool := decide (0x40 ≤ a) && decide (a < 0x300)

/-- The offset is in that part of the mailboxes that holds registers. -/
def mbxReg (a : Nat) : Bool := decide (a < 0x48) || decide (0x100 ≤ a)

/-- The offset is in the MSI-X table or the PBA (R581, R715). -/
def inMsix (a : Nat) : Bool := (decide (0x250000 ≤ a) && decide (a < 0x250400)) || a == 0x251000 || a == 0x251004

/-- A word of the active image window (R676). -/
def State.activeWord (s : State) (a : Nat) : Nat :=
  if !s.is Fld.PAT_STAT.ACT_VALID then 0 else
  leNat ((List.range 4).map fun k =>
    let b := a - 0x1000000 + k
    if b < s.banks.actLen then Memory.read s.banks.actBytes b else 0)

/-- In BOOT only the PMU block and the mailboxes respond, and in OFF nothing does (R671). -/
def State.responds (s : State) (a : Nat) : Bool :=
  s.mapOpen || (s.hubState == stBoot && (inMbx a || a / 0x10000 == 1))

/-- An access to a reserved address (R720). -/
def State.reservedHit (s : State) : State := s.put Fld.GLB_ACC_STAT.RSVD_ACC 1

/-- A read of the word at an offset through a path: its value, and whether the address is reserved (R715 to R720). -/
def State.busRead (s : State) (p : Path) (a : Nat) : Nat × Bool × State :=
  if !s.responds a then (0, false, s)
  else if a % 4 ≠ 0 then (0, true, s.reservedHit)
  else if inMbx a then
    if !mbxReg a then (0, true, s.reservedHit)
    else (if p = .mgmt || a = 0x40 then 0 else s.mbxGet p a, false, s)
  else if inMsix a then
    (if p ≠ .pcie then 0
      else if a < 0x251000 then s.msixWord ((a - 0x250000) / 4)
      else s.host.pba / 2 ^ (32 * ((a - 0x251000) / 4)) % 2 ^ 32, false, s)
  else if 0x400000 ≤ a && a < 0x800000 then
    let (v, s) := s.readUnit p ((a - 0x400000) / 256) (a % 256)
    (v, false, s)
  else if 0x1000000 ≤ a && a < 0x2000000 then (s.activeWord a, false, s)
  else match regAt a with
    | some (r, i, j) =>
      let (v, s) := s.readReg p r i j
      (v, false, s)
    | none => (0, true, s.reservedHit)

/-! ## Writes -/

/-- The next state of a meaning that always gives one. -/
def State.did (s : State) (o : Host.Outcome State Fault Refusal) : State :=
  match o with
  | .next t => t
  | _ => s

/-- A write of PAT_SIGN_CFG: a 1 sets a bit for good in MAINT; elsewhere it is discarded and flagged (R97, R635). -/
def State.wrSignCfg (s : State) (v : Nat) : State :=
  let v := v % 4
  let old := s.readByCode Reg.PAT_SIGN_CFG
  if v = 0 then s
  else if s.hubState ≠ stMaint then s.put Fld.GLB_ACC_STAT.RWL_DROP 1
  else if old ||| v = old then s
  else
    let s := s.wr Reg.PAT_SIGN_CFG (BitVec.ofNat 32 (old ||| v))
    s.stage 0x0204 (leBytes 1 (old ||| v) ++ leBytes 4 (s.get Fld.PAT_MIN_SERIAL.MIN_SERIAL))

/-- Writes of the PMU, PAT and SUP blocks that are more than their access codes. -/
def State.writeSys (s : State) (r : RegDef) (i j v : Nat) : State :=
  if r = Reg.PMU_QSPI_CTRL then s.wrQspi v
  else if r = Reg.PMU_FWU_CTRL then s.wrFwu v
  else if r = Reg.PAT_WDATA then s.did (execPatWdataWrite v s)
  else if r = Reg.PAT_SIGN_CFG then s.wrSignCfg v
  else if r = Reg.SUP_CTRL then s.when (bit v 0) fun s => s.did (execSupCntClr s)
  else s.writeByCode r v i j

/-- Writes of the TIM and TDC blocks. -/
def State.writeTime (s : State) (r : RegDef) (i j v : Nat) : State :=
  if r = Reg.TIM_INC_A_LO then s.wrInc 0 false v
  else if r = Reg.TIM_INC_A_HI then s.wrInc 0 true v
  else if r = Reg.TIM_INC_B_LO then s.wrInc 1 false v
  else if r = Reg.TIM_INC_B_HI then s.wrInc 1 true v
  else if r = Reg.TIM_ADJ_A then s.wrAdj 0 v
  else if r = Reg.TIM_ADJ_B then s.wrAdj 1 v
  else if r = Reg.TIM_HOST_Q then s.wrHostQ v
  else if r = Reg.TIM_PORTE_ASYM then s.wrAsym 0 v
  else if r = Reg.TIM_PORTW_ASYM then s.wrAsym 1 v
  else if r = Reg.TIM_IRQ_CTRL then s.wrIrqCtrl v
  else if r = Reg.TDC_CFG then s.wrTdcCfg v
  else if r = Reg.TDC_CHk_CFG then s.wrTdcChCfg i v
  else if r = Reg.TDC_CHk_CTRL then s.wrTdcCtrl i v
  else s.writeByCode r v i j

/-- Writes of the SAR, AFE, CAL and FLT blocks. -/
def State.writeFront (s : State) (r : RegDef) (i j v : Nat) : State :=
  if r = Reg.SAR_EXCSEL then s.wrExcsel v
  else if r = Reg.SAR_SCAL_CTRL then s.wrScalCtrl v
  else if r = Reg.SAR_MOD_CTRL then s.wrModCtrl v
  else if r = Reg.AFE_CHn_CFG then s.wrAfeCfg i v
  else if r = Reg.AFE_CHn_EXC then s.wrAfeExc i v
  else if r = Reg.AFE_CHn_CTRL then s.wrAfeCtrl i v
  else if r = Reg.AFE_GLB_CFG then s.wrAfeGlb v
  else if Reg.CAL_CHc_GRr.base ≤ r.base && r.base ≤ Reg.CAL_CHc_VALID.base then
    s.wrCoef i (r.base + r.s2 * j - Reg.CAL_CHc_GRr.base) v 5
  else if r = Reg.CAL_CTRL then s.wrCalCtrl v
  else if r = Reg.FLT_CHc_CTRL then s.wrFltCtrl i v
  else s.writeByCode r v i j

/-- A write of LOOP_Sn_CTRL (R438). -/
def State.wrLoopCtrl (s : State) (k v : Nat) : State :=
  let s := s.writeByCode Reg.LOOP_Sn_CTRL v k
  let s := s.when (bit v 1) fun s => s.did (execLoopFifoFlush k s)
  s.when (bit v 0) fun s => s.did (execLoopCntClr k s)

/-- Writes of the CAP, LOOP and SLU blocks. -/
def State.writeEngines (s : State) (r : RegDef) (i j v : Nat) : State :=
  if r = Reg.CAP_Ee_CTRL then s.wrCapCtrl i v
  else if r = Reg.CAP_Ee_PRE then s.wrPrePost i false v
  else if r = Reg.CAP_Ee_POST then s.wrPrePost i true v
  else if r = Reg.CAP_Ee_DSEL then s.wrDsel i v
  else if r = Reg.LOOP_Sn_KP then s.did (execLoopGainWrite i 0 v s)
  else if r = Reg.LOOP_Sn_KI then s.did (execLoopGainWrite i 1 v s)
  else if r = Reg.LOOP_Sn_KD then s.did (execLoopGainWrite i 2 v s)
  else if r = Reg.LOOP_Sn_KFF then s.did (execLoopGainWrite i 3 v s)
  else if r = Reg.LOOP_Sn_CMD then s.did (execLoopCmdWrite i v s)
  else if r = Reg.LOOP_Sn_CMD_FIFO then s.did (execLoopCmdFifoPush i v s)
  else if r = Reg.LOOP_Sn_CTRL then s.wrLoopCtrl i v
  else if r = Reg.SLU_Oo_CTRL then s.when (bit v 0) fun s => s.did (execSluCntClr i s)
  else s.writeByCode r v i j

/-- Writes of the LANE, RING and FLD blocks. -/
def State.writeLinks (s : State) (r : RegDef) (i j v : Nat) : State :=
  if r = Reg.LANE_Ln_CTRL then
    let s := s.when (bit v 1) fun s => s.did (execLaneCntClr i s)
    s.when (bit v 0) fun s => s.did (execLanePrbsClr i s)
  else if r = Reg.RING_CTRL then s.when (bit v 0) fun s => s.did (execRingCntClr s)
  else if r = Reg.FLD_Pp_CTRL then s.when (bit v 0) fun s => s.did (execFldCntClr i s)
  else s.writeByCode r v i j

/-- `n` descriptors that the hub reads from host memory in a write whose command does not carry them: free values (log
entry 1). -/
def State.drawDescs (s : State) : (n : Nat) → List Descriptor × State
  | 0 => ([], s)
  | n + 1 =>
    let (a, s) := s.draw
    let (b, s) := s.draw
    let (c, s) := s.draw
    let (d, s) := s.draw
    let (rest, s) := s.drawDescs n
    ({ addr := a % 2 ^ 64, len := b % 2 ^ 32, ctl := c % 2 ^ 32, param := d % 2 ^ 64 } :: rest, s)

/-- A write of DMA_Rr_TAIL (R585). -/
def State.wrTail (s : State) (r v : Nat) : State :=
  let x := s.dring r
  let n := (v % 65536 + 65536 - s.get Fld.DMA_Rr_HEAD.INDEX r) % 65536
  let new := n - (x.posted.length + b2n x.job.isSome)
  if 2 ^ s.get Fld.DMA_Rr_CFG.SIZE_LOG2 r < n || !s.is Fld.DMA_Rr_CFG.ENABLE r then s.did (execDmaTailWrite r v [] s)
  else
    let (ds, s) := s.drawDescs new
    s.did (execDmaTailWrite r v ds s)

/-- A write of WRG_Cj_CTRL (R617). -/
def State.wrWrgCtrl (s : State) (j v : Nat) : State :=
  let s := s.when (bit v 0) fun s => s.did (execWrgCtrlCut j s)
  let s := s.when (bit v 1) fun s => s.did (execWrgCtrlAbort j s)
  s.when (bit v 2) fun s => s.did (execWrgCntClr j s)

/-- A write of QUE_Qq_CTRL (R596). -/
def State.wrQueCtrl (s : State) (q v : Nat) : State :=
  let s := s.when (bit v 1) fun s => s.did (execQueCtrlFlush q s)
  s.when (bit v 0) fun s => s.did (execQueCntClr q s)

/-- Writes of the QUE, DMA, WRG and SLT blocks. -/
def State.writeHost (s : State) (p : Path) (r : RegDef) (i j v : Nat) : State :=
  if r = Reg.QUE_Qq_CTRL then s.wrQueCtrl i v
  else if r = Reg.QUE_Qq_WM_HI then s.did (execWatermarkWrite i true v s)
  else if r = Reg.QUE_Qq_WM_LO then s.did (execWatermarkWrite i false v s)
  else if r = Reg.QUE_Qq_WMSTAT then s.when (bit v 1) fun s => s.did (execWmxClear i s)
  else if r = Reg.QUE_Qq_STALE then s.wrStale i v
  else if r = Reg.DMA_Rr_CFG then s.wrDmaCfg i v
  else if r = Reg.DMA_Rr_TAIL then s.wrTail i v
  else if r = Reg.WRG_Cj_LIMIT then s.wrWrgLimit i v
  else if r = Reg.WRG_Cj_CLOSE_US then s.wrWrgClose i v
  else if r = Reg.WRG_Cj_MAXBUF then s.wrWrgMaxbuf i v
  else if r = Reg.WRG_Cj_CTRL then s.wrWrgCtrl i v
  else if r = Reg.SLT_CURSOR then s.cursorWrite p v 0 []
  else if r = Reg.SLT_CTRL then s.when (bit v 0) fun s => s.did (execSltCntClr s)
  else s.writeByCode r v i j

/-- A write of a register (R5, and the chapter's own rule where it has one). -/
def State.writeReg (s : State) (p : Path) (r : RegDef) (i j v : Nat) : State :=
  let a := r.base
  if s.fused r i then s
  else if a < 0x40000 then s.writeSys r i j v
  else if a < 0x60000 then s.writeTime r i j v
  else if a < 0x100000 then s.writeFront r i j v
  else if a < 0x160000 then s.writeEngines r i j v
  else if a < 0x200000 then s.writeLinks r i j v
  else s.writeHost p r i j v

/-- A write of 1s to the W1C flags of a unit's UNIT_STAT, or of a patch's in every unit inside it (R144, R147). -/
def State.wrUnitStat (s : State) (id v : Nat) : State :=
  s.forEach (s.blockUnits id) fun u s =>
    let w := s.rawWord u.id 8
    s.uWord Reg.UNIT_STAT u.id (w - (w &&& v &&& 0x3C))

/-- A write of UNIT_CTRL (R144, R147). -/
def State.wrUnitCtrl (s : State) (id v : Nat) : State :=
  s.forEach (s.blockUnits id) fun u s =>
    let s := s.when (bit v 0) (·.uWord Reg.UNIT_CNT u.id 0)
    s.when (bit v 1) (·.uPut Fld.UNIT_CYCLES.WORST 0 u.id)

/-- A write in the unit window (R143 to R147). -/
def State.writeUnit (s : State) (p : Path) (id off v : Nat) : State :=
  if (s.unitId id).isNone then s
  else if off = 8 then s.wrUnitStat id v
  else if off = 0x1C then s.wrUnitCtrl id v
  else if off < 0x20 then s
  else match (s.unitMirror 64 id off).bind regAt with
    | some (r, i, j) => s.writeReg p r i j v
    | none => s

/-- A write into the mailbox of a path (R184, R185). -/
def State.writeMbx (s : State) (p : Path) (a v : Nat) : State :=
  if p = .mgmt then s
  else if a = 0x40 then (if bit v 0 then s.mbxGo p else s)
  else if a = 0x44 then s.mbxSet p 0x44 (s.mbxGet p 0x44 - (s.mbxGet p 0x44 &&& v &&& 6))
  else if 0x200 ≤ a then s
  else if s.mbxBusy p then s.mbxDrop p
  else s.mbxSet p a v

/-- A write of a word at an offset through a path: whether the address is reserved, and what it does (R715 to R720). -/
def State.busWrite (s : State) (p : Path) (a v : Nat) : Bool × State :=
  let v := v % 2 ^ 32
  if !s.responds a then (false, s)
  else if a % 4 ≠ 0 then (true, s.reservedHit)
  else if inMbx a then (if mbxReg a then (false, s.writeMbx p a v) else (true, s.reservedHit))
  else if inMsix a then (false, if p = .pcie && a < 0x251000 then s.wrMsix ((a - 0x250000) / 4) v else s)
  else if 0x400000 ≤ a && a < 0x800000 then (false, s.writeUnit p ((a - 0x400000) / 256) (a % 256) v)
  else if 0x1000000 ≤ a && a < 0x2000000 then (false, s)
  else match regAt a with
    | some (r, i, j) => (false, s.writeReg p r i j v)
    | none => (true, s.reservedHit)

/-! ## Commands that are one register access -/

/-- A read through a path, with the value it returns. -/
def State.readTo (s : State) (p : Path) (a : Nat) : State :=
  let (v, _, s) := s.busRead p a
  { s with host.readData := [v] }

/-- REGISTER_WRITE: an aligned 4-byte write at an offset. -/
def execRegisterWrite (path : Path) (addr v : Nat) (s : State) : Host.Outcome State Fault Refusal :=
  .next (s.busWrite path addr v).2

/-- The offset of the register that an offset names, itself or through the mirrors of the unit window (R145, R596). -/
def State.mirrored (s : State) (a : Nat) : Nat :=
  if 0x400000 ≤ a && a < 0x800000 && 0x20 ≤ a % 256 then (s.unitMirror 64 ((a - 0x400000) / 256) (a % 256)).getD a else a

/-- RESERVED_READ: a read of `size` bytes at an address that is reserved, unaligned or not 4 bytes; a read of 8 bytes at
POP_LO or a mirror of it is a pop (R591, R596), any other returns 0 and sets RSVD_ACC (R720). An aligned 4-byte read of a register is an
ordinary read. -/
def execReservedRead (path : Path) (addr size : Nat) (s : State) : Host.Outcome State Fault Refusal :=
  if size = 4 then .next (s.readTo path addr)
  else if !s.responds addr then .next { s with host.readData := [0] }
  else match regAt (s.mirrored addr) with
    | some (r, i, _) =>
      if size = 8 && r = Reg.QUE_Qq_POP_LO then .next (s.queuePop path i true false)
      else .next { s.reservedHit with host.readData := [0] }
    | none => .next { s.reservedHit with host.readData := [0] }

/-- GLB_FRAME_LO_READ. -/
def execGlbFrameLoRead (path : Path) (s : State) : Host.Outcome State Fault Refusal :=
  .next (s.readTo path Reg.GLB_FRAME_LO.base)

/-- TIM_L_READ: a read of TIM_L_S_LO. -/
def execTimLRead (path : Path) (s : State) : Host.Outcome State Fault Refusal := .next (s.readTo path Reg.TIM_L_S_LO.base)

/-- LOOP_INT_READ: a read of LOOP_Sn_INT_LO. -/
def execLoopIntRead (path : Path) (slot : Nat) (s : State) : Host.Outcome State Fault Refusal :=
  .next (if slot < 64 then s.readTo path (Reg.LOOP_Sn_INT_LO.at slot 0) else s)

/-- TDC_FIFO_POP: a read of TDC_CHk_FIFO_W0. -/
def execTdcFifoPop (path : Path) (k : Nat) (s : State) : Host.Outcome State Fault Refusal :=
  .next (if k < 16 then s.readTo path (Reg.TDC_CHk_FIFO_Wj.at k 0) else s)

/-- FLD_ISNS_READ: a read of FLD_Pp_ISNS. -/
def execFldIsnsRead (path : Path) (port : Nat) (s : State) : Host.Outcome State Fault Refusal :=
  .next (if port < 16 then s.readTo path (Reg.FLD_Pp_ISNS.at port 0) else s)

/-- A write of a register of a family, through a path. -/
def State.writeAt (s : State) (p : Path) (r : RegDef) (i v : Nat) : State :=
  if i < r.n1 then (s.busWrite p (r.at i 0) v).2 else s

/-- SIGN_CFG_REQUIRE_SET: a write of 1 to PAT_SIGN_CFG.REQUIRE (R97). -/
def execSignCfgRequireSet (path : Path) (s : State) : Host.Outcome State Fault Refusal :=
  .next (s.writeAt path Reg.PAT_SIGN_CFG 0 1)

/-- SIGN_CFG_ANTIROLLBACK_SET: a write of 1 to PAT_SIGN_CFG.ANTIROLLBACK (R97). -/
def execSignCfgAntirollbackSet (path : Path) (s : State) : Host.Outcome State Fault Refusal :=
  .next (s.writeAt path Reg.PAT_SIGN_CFG 0 2)

/-- UNIT_CNT_CLR: a write of 1 to UNIT_CTRL.CNT_CLR of a unit or patch (R144, R147). -/
def execUnitCntClr (id : Nat) (s : State) : Host.Outcome State Fault Refusal :=
  .next (if s.mapOpen then s.wrUnitCtrl id 1 else s)

/-- UNIT_WORST_CLR: a write of 1 to UNIT_CTRL.WORST_CLR (R144, R147). -/
def execUnitWorstClr (id : Nat) (s : State) : Host.Outcome State Fault Refusal :=
  .next (if s.mapOpen then s.wrUnitCtrl id 2 else s)

/-- PATCH_STATUS_CLEAR: a write of `v` to UNIT_STAT of a patch (R144). -/
def execPatchStatusClear (id v : Nat) (s : State) : Host.Outcome State Fault Refusal :=
  .next (if s.mapOpen then s.wrUnitStat id v else s)

/-- AFE_EXC_RETRY: a write of 1 to AFE_CHn_CTRL.EXC_RETRY, RANGE_HOLD written as it stands (R211). -/
def execAfeExcRetry (ch : Nat) (s : State) : Host.Outcome State Fault Refusal :=
  .next (s.writeAt .pcie Reg.AFE_CHn_CTRL ch (4 + s.get Fld.AFE_CHn_CTRL.RANGE_HOLD ch))

/-- AFE_CNT_CLR: a write of 1 to AFE_CHn_CTRL.CNT_CLR (R226). -/
def execAfeCntClr (ch : Nat) (s : State) : Host.Outcome State Fault Refusal :=
  .next (s.writeAt .pcie Reg.AFE_CHn_CTRL ch (2 + s.get Fld.AFE_CHn_CTRL.RANGE_HOLD ch))

/-- RANGE_HOLD_WRITE: a write of AFE_CHn_CTRL.RANGE_HOLD (R194). -/
def execRangeHoldWrite (ch : Nat) (on : Bool) (s : State) : Host.Outcome State Fault Refusal :=
  .next (s.writeAt .pcie Reg.AFE_CHn_CTRL ch (b2n on))

/-- FLT_SYNC_RESET: a write of 1 to FLT_CHc_CTRL.SYNC_RESET (R280). -/
def execFltSyncReset (c : Nat) (s : State) : Host.Outcome State Fault Refusal := .next (s.writeAt .pcie Reg.FLT_CHc_CTRL c 1)

/-- FLT_CNT_CLR: a write of 1 to FLT_CHc_CTRL.CNT_CLR (R296). -/
def execFltCntClr (c : Nat) (s : State) : Host.Outcome State Fault Refusal := .next (s.writeAt .pcie Reg.FLT_CHc_CTRL c 2)

/-- SAR_SCAL_START: a write of `v` to SAR_SCAL_CTRL with START = 1 (R255). -/
def execSarScalStart (v : Nat) (s : State) : Host.Outcome State Fault Refusal :=
  .next (s.writeAt .pcie Reg.SAR_SCAL_CTRL 0 (v % 2 ^ 16 + 2 ^ 16))

/-- SAR_COEF_WRITE: a write of SAR_GAINm, or of SAR_OFFm, staged to the next frame tick (R257). -/
def execSarCoefWrite (m : Nat) (off : Bool) (v : Nat) (s : State) : Host.Outcome State Fault Refusal :=
  .next (s.writeAt .pcie (if off then Reg.SAR_OFFm else Reg.SAR_GAINm) m v)

/-- SAR_MOD_CNT_CLR: a write of 1 to SAR_MOD_CTRL.CNT_CLR (R259). -/
def execSarModCntClr (s : State) : Host.Outcome State Fault Refusal := .next (s.writeAt .pcie Reg.SAR_MOD_CTRL 0 1)

/-- TIM_INC_WRITE: writes of TIM_INC_x_LO and then TIM_INC_x_HI with the 40 bits of `v` (R329). -/
def execTimIncWrite (d v : Nat) (s : State) : Host.Outcome State Fault Refusal :=
  let s := s.writeAt .pcie (if d = 0 then Reg.TIM_INC_A_LO else Reg.TIM_INC_B_LO) 0 (v % 2 ^ 32)
  .next (s.writeAt .pcie (if d = 0 then Reg.TIM_INC_A_HI else Reg.TIM_INC_B_HI) 0 (v / 2 ^ 32))

/-- TIM_ADJ_WRITE (R344). -/
def execTimAdjWrite (d v : Nat) (s : State) : Host.Outcome State Fault Refusal :=
  .next (s.writeAt .pcie (if d = 0 then Reg.TIM_ADJ_A else Reg.TIM_ADJ_B) 0 v)

/-- TIM_SERVO_TAKEOVER: a write of TIM_SERVO_CTRL (R344). -/
def execTimServoTakeover (v : Nat) (s : State) : Host.Outcome State Fault Refusal :=
  .next (s.writeAt .pcie Reg.TIM_SERVO_CTRL 0 v)

/-- TIM_HOST_Q_WRITE (R727). -/
def execTimHostQWrite (v : Nat) (s : State) : Host.Outcome State Fault Refusal := .next (s.writeAt .pcie Reg.TIM_HOST_Q 0 v)

/-- TIM_IRQ_REARM: a write of 1 to TIM_IRQ_CTRL.REARM (R358). -/
def execTimIrqRearm (s : State) : Host.Outcome State Fault Refusal := .next (s.writeAt .pcie Reg.TIM_IRQ_CTRL 0 1)

/-- TDC_SRC_WRITE: a write of TDC_CFG (R369). -/
def execTdcSrcWrite (v : Nat) (s : State) : Host.Outcome State Fault Refusal := .next (s.writeAt .pcie Reg.TDC_CFG 0 v)

/-- TDC_FLUSH: a write of 1 to TDC_CHk_CTRL.FLUSH (R387). -/
def execTdcFlush (k : Nat) (s : State) : Host.Outcome State Fault Refusal := .next (s.writeAt .pcie Reg.TDC_CHk_CTRL k 2)

/-- TDC_CNT_CLR: a write of 1 to TDC_CHk_CTRL.CNT_CLR (R387). -/
def execTdcCntClr (k : Nat) (s : State) : Host.Outcome State Fault Refusal := .next (s.writeAt .pcie Reg.TDC_CHk_CTRL k 1)

/-! ## SPI transactions (R593) -/

/-- Writes words at rising offsets. -/
def State.writeWords (s : State) (p : Path) : (a : Nat) → List Nat → State
  | _, [] => s
  | a, w :: ws => ((s.busWrite p a w).2).writeWords p (a + 4) ws

/-- Reads `n` words at rising offsets: the words, how many addresses were reserved. -/
def State.readWords (s : State) (p : Path) : (a n : Nat) → List Nat × Nat × State
  | _, 0 => ([], 0, s)
  | a, n + 1 =>
    let (v, bad, s) := s.busRead p a
    let (vs, k, s) := s.readWords p (a + 4) n
    (v :: vs, k + b2n bad, s)

/-- The SPI port works once the hub has left OFF. -/
def State.spiOn (s : State) : Bool := s.hubState != stOff

/-- SPI_WRITE: `bytes` are the bytes after the command byte. A transaction cut inside its address or a word sets PARTIAL;
an unaligned address aborts and sets ALIGN and RSVD_ACC (R593, R720). -/
def execSpiWrite (bytes : List Byte) (s : State) : Host.Outcome State Fault Refusal :=
  if !s.spiOn then .next s else
  let s := { s with host.miso := List.replicate (bytes.length + 1) 0 }
  if bytes.length < 4 then .next { s with host.spiPartial := true } else
  let a := leAt bytes 0 4
  if a % 4 ≠ 0 then .next { s.reservedHit with host.spiAlign := true } else
  let data := bytes.drop 4
  let s := s.writeWords .spi a (toWords (data.length / 4) data)
  .next (if data.length % 4 = 0 then s else { s with host.spiPartial := true })

/-- SPI_READ: `wait` bytes of 0 pass before 0xA5 (at most 1 us, R593). -/
def execSpiRead (addr count wait : Nat) (s : State) : Host.Outcome State Fault Refusal :=
  if !s.spiOn then .next s else
  if addr % 4 ≠ 0 then .next { s.reservedHit with host.spiAlign := true, host.miso := List.replicate 5 0 } else
  let (ws, _, s) := s.readWords .spi addr count
  .next { s with host.miso := List.replicate (5 + wait) 0 ++ [0xA5] ++ ofWords ws }

/-- SPI_STATUS. -/
def execSpiStatus (s : State) : Host.Outcome State Fault Refusal :=
  if !s.spiOn then .next s else
  let v := b2n s.irqN + 2 * b2n s.host.spiPartial + 4 * b2n s.host.spiAlign
  .next { s with host.miso := [0] ++ leBytes 1 v, host.spiPartial := false, host.spiAlign := false }

/-- SPI_UNKNOWN_COMMAND: a transaction of `n` bytes with another command byte. -/
def execSpiUnknownCommand (n : Nat) (s : State) : Host.Outcome State Fault Refusal :=
  .next (if s.spiOn then { s with host.miso := List.replicate n 0 } else s)

end Sys2Proof.Machine
end

