-- ==== Sys2Proof/Machine/Commands.lean ====
section
/-! DEFINITION. The commands (R161 to R176 and the command tables of the chapters): when each is legal, what it does, the
duplicate table and conflict counts, and the meaning of each command's row. -/

namespace Sys2Proof.Machine

/-! ## Legal states (R174 and the command tables) -/

/-- The states in which an opcode is legal. -/
def opStates (op : Nat) : List Nat :=
  let all := [stHeld, stArmed, stRun, stSafe, stMaint]
  if op = 0x02 then [stHeld]
  else if op = 0x03 || op = 0x04 then [stArmed]
  else if op = 0x05 || op = 0x06 || op = 0x32 || op = 0x78 then [stArmed, stRun]
  else if op = 0x07 then [stSafe]
  else if op = 0x08 then [stHeld, stArmed, stSafe]
  else if op = 0x09 || op = 0x24 || op = 0x25 || op = 0xA0 || op = 0xA1 then [stMaint]
  else if op = 0x0A then [stHeld, stArmed, stSafe, stMaint]
  else if op = 0x30 then [stArmed, stRun, stMaint]
  else if op = 0x31 || op = 0x60 || op = 0x61 then [stArmed, stRun, stSafe, stMaint]
  else if op = 0x40 then [stHeld, stArmed, stMaint]
  else if op = 0x70 || op = 0x71 then [stRun]
  else if op = 0x79 then [stArmed, stRun, stSafe]
  else if op = 0x80 || op = 0x81 || op = 0x82 then [stRun, stSafe]
  else all

/-! ## State and register commands (R175, R176) -/

/-- A command-driven transition at FT(n_exec + 1) (R155, R158). -/
def State.goNext (s : State) (st rank : Nat) : State :=
  { s with seq.due := s.seq.due ++ [{ target := st, frame := s.seq.frame + 1, rank := rank }] }

/-- START: RUN_INTENT is set, and R159 places the entry into RUN. -/
def State.startCmd (s : State) (f : Nat) : Answer × State :=
  if 2 ^ 48 ≤ f then ({ status := 3, detail := 3 }, s) else
  let at_ := if f = 0 then s.frameNow + 2 else f
  let ok := s.is Fld.GLB_STATE.READY && decide (s.seq.frame + 2 ≤ at_)
  ({ status := if ok then 0 else 8 }, ({ s with seq.startF := at_ } : State).put Fld.GLB_STATE.RUN_INTENT 1)

/-- STOP: RUN_INTENT is cleared, and in RUN the hub enters ARMED at FT(F) or at the next tick. -/
def State.stopCmd (s : State) (f : Nat) : Answer × State :=
  if 2 ^ 48 ≤ f then ({ status := 3, detail := 3 }, s) else
  let n := s.seq.frame
  let s := s.put Fld.GLB_STATE.RUN_INTENT 0
  if s.hubState ≠ stRun then ({ status := 0 }, s) else
  let at_ := if f = 0 then n + 2 else f
  if at_ < n + 2 then ({ status := 8 }, s.goNext stArmed 3)
  else ({ status := 0 }, { s with seq.due := s.seq.due ++ [{ target := stArmed, frame := at_, rank := 3 }] })

/-- RECOVER: the latched causes whose condition is gone are cleared (R176, R183), and a self-diagnosis withdrawal whose
failure is gone ends (R447). -/
def State.recoverCmd (s : State) : Answer × State :=
  let before := s.get Fld.GLB_SAFE_CAUSE.CAUSE
  let left := before &&& s.seq.safeLive &&& 0xFC
  let s := s.put Fld.GLB_SAFE_CAUSE.CAUSE left
  let s := s.sluReclaim.2
  let result := leBytes 4 before ++ leBytes 4 left
  if left ≠ 0 then ({ status := 8, detail := left, result := result }, s)
  else ({ status := 0, result := result }, (s.put Fld.GLB_STATE.RUN_INTENT 0).goNext stArmed 3)

/-- REG_READ and REG_WRITE of `n` words: the answer where the range does not execute. -/
def rangeBad (a n most : Nat) : Option Answer :=
  if a % 4 ≠ 0 || n = 0 || most < n then some { status := 3, detail := 3 }
  else if 0x4000000 < a + 4 * n then some { status := 3 }
  else none

/-- Writes words at rising offsets, counting the reserved ones (R721). -/
def State.writeCount (s : State) (p : Path) : (a : Nat) → List Nat → Nat × State
  | _, [] => (0, s)
  | a, w :: ws =>
    let (bad, s) := s.busWrite p a w
    let (k, s) := s.writeCount p (a + 4) ws
    (k + b2n bad, s)

/-- REG_READ: COUNT words, through the path of MGMT for every sender (R717). -/
def State.regRead (s : State) (a n : Nat) : Answer × State :=
  match rangeBad a n 56 with
  | some x => (x, s)
  | none =>
    let (ws, k, s) := s.readWords .mgmt a n
    ({ status := 0, detail := k, result := ofWords ws }, s)

/-- REG_WRITE: the words in order. -/
def State.regWrite (s : State) (a n : Nat) (ws : List Nat) : Answer × State :=
  match rangeBad a n 58 with
  | some x => (x, s)
  | none =>
    let (k, s) := s.writeCount .mgmt a ws
    ({ status := 0, detail := k }, s)

/-! ## Calibration commands (R314, R318, R323) -/

/-- CAL_RUN: the channel comes to the head of the schedule. -/
def State.calRunCmd (s : State) (v : Nat) : Answer × State :=
  let ch := v % 128
  let force := bit v 8
  if force && s.hubState ≠ stMaint then ({ status := 2 }, s)
  else if v % 2 ^ 32 ≠ ch + 256 * b2n force || 99 < ch || (s.small && fusedChain ch) then ({ status := 3, detail := 3 }, s)
  else if ch < 96 && (s.unitAt cINPUT ch).isNone then ({ status := 3 }, s)
  else if (match s.cal.swap with | some w => w.ch == ch || s.inSwap ch | none => false) then ({ status := 1 }, s)
  else ({ status := 0 }, { s with cal.queue := (ch, force) :: s.cal.queue.filter fun q => q.1 != ch })

/-- CAL_ABORT: how the swap of a channel goes on depends on its phase (R314). -/
def State.calAbortCmd (s : State) (ch : Nat) : Answer × State :=
  if 99 < ch then ({ status := 3, detail := 3 }, s) else
  match s.cal.swap with
  | none => ({ status := 2 }, s)
  | some w =>
    if w.ch ≠ ch && w.forCh ≠ some ch then ({ status := 2 }, s) else
    let own := s.nextOwn w.ch s.seq.frame
    let go := fun (p : CalPhase) (w : Swap) => s.calGo p (some { w with result := 0xE })
    ({ status := 0 },
      match s.cal.phase with
      | .shadow => s.abortAt w 0xE
      | .matchIn => s.abortAt w 0xE
      | .measure => go .measure { w with step := 99, due := some own, ended := none }
      | .reconnect => if w.applied then go .reconnect { w with due := some own } else go .reconnect w
      | .matchBack => if w.applied then go .reconnect { w with due := some own } else go .matchBack w
      | _ => s.calEnd 0xE)

/-- CAL_POD_POINT: a measurement of a pod chain starts (R323). -/
def State.calPodCmd (s : State) (chain range point : Nat) (t : Int) : Answer × State :=
  if chain < 100 || 611 < chain || (s.small && fusedChain chain) || 3 < range || 1 < point then ({ status := 3, detail := 3 }, s)
  else if s.cal.pod.isSome then ({ status := 1 }, s)
  else
    let p : PodPoint :=
      { chain := chain, range := range, point := point, t := t, sum := 0, words := 0, start := s.seq.frame, ovld := false }
    ({ status := 0 }, ({ s with cal.pod := some p } : State).calShow)

/-! ## Time commands (R355, R364) -/

/-- The source of a domain's root is PPS_IN (R333). -/
def State.ppsSrc (s : State) (d : Nat) : Bool := s.srcOf d == 1 || s.srcOf d == 2

/-- TIME_SET_TOD: the seconds of a domain at its root. -/
def State.todCmd (s : State) (d sec ns : Nat) : Answer × State :=
  if s.seq.counter then ({ status := 2 }, s)
  else if 1 < d || 2 ^ 48 ≤ sec then ({ status := 3, detail := 3 }, s)
  else if 1000000000 ≤ ns then ({ status := 3 }, s)
  else if !s.isRoot d then ({ status := 5 }, s)
  else if s.ppsSrc d then
    if ns ≠ 0 then ({ status := 3 }, s)
    else ({ status := 0 }, s.setDom d { s.dom d with tod := some sec, todDone := true })
  else ({ status := 0 }, s.setDom d { s.dom d with t := { s := sec, ns := ns, frac := 0 }, todDone := true })

/-- TIME_STEP: a step of the timescale at tick F. -/
def State.stepCmd (s : State) (f : Nat) (dS dNs : Int) (flags : Nat) : Answer × State :=
  let delta := (dS * 1000000000 + dNs) * 2 ^ 32
  let l := tu s.time.l + delta
  let pps := [0, 1].any fun d => s.isRoot d && s.ppsSrc d
  if !s.seq.counter then ({ status := 2 }, s)
  else if 2 ^ 48 ≤ f || 2 ^ 47 ≤ dS.natAbs || 999999999 < dNs.natAbs || (dS > 0 && dNs < 0) || (dS < 0 && dNs > 0) || 1 < flags
  then ({ status := 3, detail := 3 }, s)
  else if s.time.step.isSome then ({ status := 1 }, s)
  else if l < 0 || 2 ^ 48 * 1000000000 * 2 ^ 32 ≤ l || (dNs ≠ 0 && pps && flags = 0) then ({ status := 3 }, s)
  else if f < s.seq.frame + 2 then ({ status := 8 }, s)
  else
    let s := { s with time.step := some { f := f, delta := delta, lOnly := flags == 1 } }
    ({ status := 0 }, (s.put Fld.TIM_STAT.STEP_PEND 1).put Fld.TIM_STEP_F_LO.FRAME_LO f)

/-- TIME_SELECT: which domain L follows from tick F on. -/
def State.selectCmd (s : State) (f mode : Nat) : Answer × State :=
  let n := s.seq.frame
  if 2 < mode || 2 ^ 48 ≤ f then ({ status := 3, detail := 3 }, s)
  else if !s.seq.counter then ({ status := if f = 0 then 0 else 8 }, { s with time.select := some (none, mode) })
  else if f < n + 2 then ({ status := 8 }, { s with time.select := some (some (n + 1), mode) })
  else ({ status := 0 }, { s with time.select := some (some f, mode) })

/-- TIME_STEP_CANCEL. -/
def State.stepCancelCmd (s : State) : Answer × State :=
  match s.time.step with
  | some x =>
    if s.seq.counter && s.seq.frame + 2 ≤ x.f then
      ({ status := 0 }, ({ s with time.step := none } : State).put Fld.TIM_STAT.STEP_PEND 0)
    else ({ status := 2 }, s)
  | none => ({ status := 2 }, s)

/-! ## The command table -/

/-- ADOPT of a 44-byte argument: digest, compatibility major, F (R652). -/
def State.adoptCmd (s : State) (a : List Byte) : Answer × State := s.adopt (a.take 32) (leAt a 32 4) (leAt a 36 8)

/-- CAP_ARM and CAP_ABORT name engines 0 to 15 (R407). -/
def State.capMaskCmd (s : State) (arm : Bool) (f mask : Nat) : Answer × State :=
  if 2 ^ 16 ≤ mask || 2 ^ 48 ≤ f then ({ status := 3, detail := 3 }, s)
  else if arm then s.capArm f mask else s.capAbortCmd mask

/-- State, register and Pattern commands, 0x01 to 0x2F. -/
def State.commandLow (s : State) (op : Nat) (a : List Byte) : Answer × State :=
  let w := fun (k : Nat) => leAt a (4 * k) 4
  if op = 0x01 then ({ status := 0, result := leBytes 4 (s.rd Reg.GLB_STATE).toNat ++ leBytes 8 s.frameNow }, s)
  else if op = 0x02 then
    if s.is Fld.PAT_STAT.ACT_VALID then ({ status := 0 }, s.goNext stArmed 3) else ({ status := 2 }, s)
  else if op = 0x03 then ({ status := 0 }, s.goNext stHeld 3)
  else if op = 0x04 then s.startCmd (leAt a 0 8)
  else if op = 0x05 then s.stopCmd (leAt a 0 8)
  else if op = 0x06 then ({ status := 0 }, s.safeCause 0)
  else if op = 0x07 then s.recoverCmd
  else if op = 0x08 then ({ status := 0 }, s.goNext stMaint 3)
  else if op = 0x09 then ({ status := 0 }, s.siltDisarm.goNext stHeld 3)
  else if op = 0x0A then ({ status := 0 }, s.goNext stBoot 0)
  else if op = 0x10 then s.regRead (w 0) (w 1)
  else if op = 0x11 then s.regWrite (w 0) (w 1) (toWords (w 1) (a.drop 8))
  else if op = 0x20 then s.patLoad (w 0) (w 1)
  else if op = 0x21 then s.patCommit (leAt a 0 8)
  else if op = 0x22 then s.patCancel
  else if op = 0x23 then s.patDiscard
  else if op = 0x24 then s.keyInstall (w 0) (slice a 4 64)
  else s.keyRevoke (w 0)

/-- Calibration, time, lane, ring and field port commands, 0x30 to 0x6F. -/
def State.commandMid (s : State) (op : Nat) (a : List Byte) : Answer × State :=
  let w := fun (k : Nat) => leAt a (4 * k) 4
  if op = 0x30 then s.calRunCmd (w 0)
  else if op = 0x31 then s.calAbortCmd (w 0)
  else if op = 0x32 then s.calPodCmd (w 0) (w 1) (w 2) (signed 64 (leAt a 12 8))
  else if op = 0x40 then s.todCmd (w 0) (leAt a 4 8) (w 3)
  else if op = 0x41 then s.stepCmd (leAt a 0 8) (signed 64 (leAt a 8 8)) (signed 32 (w 4)) (w 5)
  else if op = 0x42 then s.selectCmd (leAt a 0 8) (w 2)
  else if op = 0x43 then s.stepCancelCmd
  else if op = 0x50 then s.laneAdmin (w 0) (w 1)
  else if op = 0x51 then s.laneRetrainCmd (w 0)
  else if op = 0x52 then s.laneTest (w 0) (w 1) (w 2) (w 3)
  else if op = 0x58 then s.ringDiscover
  else if op = 0x60 then s.fieldPortCmd (w 0) (w 1)
  else s.fieldAdopt (w 0)

/-- Loop, Sluice, capture, queue, Wring, silt log and agreement commands, from 0x70 on. -/
def State.commandHigh (s : State) (op : Nat) (a : List Byte) (o : Origin) : Answer × State :=
  let w := fun (k : Nat) => leAt a (4 * k) 4
  if op = 0x70 then s.loopIntSet (w 0) (signed 64 (leAt a 4 8))
  else if op = 0x71 then s.loopRet (w 0)
  else if op = 0x78 then s.sluReclaim
  else if op = 0x79 then s.sluForceCmd (w 0) (w 1)
  else if op = 0x80 then s.capMaskCmd true (leAt a 0 8) (w 2)
  else if op = 0x81 then s.capMaskCmd false 0 (w 0)
  else if op = 0x82 then s.capForce (w 0)
  else if op = 0x90 then s.queueFlushCmd (w 0)
  else if op = 0x98 then s.wringCutCmd (w 0)
  else if op = 0x99 then s.wringAbortCmd (w 0)
  else if op = 0xA0 then s.clearArm o.source
  else if op = 0xA1 then s.clearConfirm o.source o.request (w 0)
  else if op = 0xB0 then s.adoptCmd a
  else s.quarantineCmd (w 0)

/-- What the command does in this House phase, and its answer (R164, R173, R174). -/
def State.command (s : State) (op : Nat) (a : List Byte) (o : Origin) : Answer × State :=
  if !opKnown op then ({ status := 3, detail := 2 }, s)
  else if !s.inStates (opStates op) then ({ status := 2 }, s)
  else if op < 0x30 then s.commandLow op a
  else if op < 0x70 then s.commandMid op a
  else s.commandHigh op a o

/-! ## One record (R163, R169 to R172) -/

/-- A STATE_CONFLICT answer is counted, and recorded at most once per source in 1000 ms (R172). -/
def State.conflict (s : State) (op st source : Nat) : State :=
  let s := s.sat Fld.GLB_CMD_CNT.CONFLICT
  let old : ConflictCount := (s.seq.conflicts.find? fun c => c.source == source).getD ⟨source, 0, none⟩
  let rest := s.seq.conflicts.filter fun c => c.source != source
  let n := old.count + 1
  let due := match old.last with
    | some t => decide (t + 1000 ≤ s.opMs)
    | none => true
  if due then
    let s := { s with seq.conflicts := rest ++ [(⟨source, 0, some s.opMs⟩ : ConflictCount)] }
    s.stage 0x0502 (leBytes 1 op ++ leBytes 1 st ++ leBytes 2 source ++ leBytes 4 n)
  else { s with seq.conflicts := rest ++ [(⟨source, n, old.last⟩ : ConflictCount)] }

/-- An executed command (or one that may not execute) enters the duplicate table unless it is answered BUSY, a
STATE_CONFLICT in state `st` is counted, and the answer goes back on the path of the command (R164, R169, R170, R172). -/
def State.settle (s : State) (o : Origin) (op : Nat) (args : List Byte) (st : Nat) (a : Answer) : State :=
  let entry : DupEntry :=
    { source := o.source, request := o.request, opcode := op, argCrc := crc32 args, status := a.status, detail := a.detail
      result := a.result, frame := s.frameNow, optime := s.opMs }
  let s := s.when (a.status != 1) (·.dupEnter entry)
  let s := s.when (a.status == 2) (·.conflict op st o.source)
  s.answerNow o op a

/-- A record that passes R163 and is for this hub: answered from the duplicate table, or executed and entered (R169,
R170). A record for other hubs that this hub may not relay is DENIED (R531). -/
def State.execute (s : State) (o : Origin) (b : List Byte) : State :=
  let op := fb b 0
  let args := b.drop 16
  match s.seq.dup.find? fun e => e.source == o.source && e.request == o.request with
  | some e =>
    if e.opcode = op && e.argCrc = crc32 args then
      (s.sat Fld.GLB_CMD_CNT.DUP).respond o
        (responseRecord op s.hubId o.source o.request 4 e.status e.frame 0 e.detail e.result)
    else s.answerNow o op { status := 3, detail := 1 }
  | none =>
    let r : Answer × State := if s.isRelayed o then ({ status := 5 }, s) else s.command op args o
    r.2.settle o op args s.hubState r.1

/-- A record in a House phase: refused by R163, relayed, or executed here (R531). -/
def State.runRecord (s : State) (o : Origin) (b : List Byte) : State :=
  if !recordOk b then s.answerNow o (fb b 0) { status := 3 }
  else if s.isRelayed o && s.mayRelay then
    let (own, s) := s.relayStep o b
    if own then s.execute { o with target := 0xFF } b else s
  else s.execute o b

/-- A command of a sender in the House phase of the present tick. In OFF and BOOT no command executes (R168). -/
def State.runCommand (s : State) (o : Origin) (op : Nat) (args : List Byte) : State :=
  if !s.mapOpen then s
  else s.runRecord o (commandRecord op o.target o.source o.request (b2n o.notify) args)

/-! ## The rows -/

/-- NOP (R175). -/
def execNop (o : Origin) (s : State) : Host.Outcome State Fault Refusal := .next (s.runCommand o 0x01 [])

/-- ARM (R175). -/
def execArm (o : Origin) (s : State) : Host.Outcome State Fault Refusal := .next (s.runCommand o 0x02 [])

/-- HOLD (R175). -/
def execHold (o : Origin) (s : State) : Host.Outcome State Fault Refusal := .next (s.runCommand o 0x03 [])

/-- START (R159, R176). -/
def execStart (o : Origin) (f : Nat) (s : State) : Host.Outcome State Fault Refusal :=
  .next (s.runCommand o 0x04 (leBytes 8 f))

/-- STOP (R176). -/
def execStop (o : Origin) (f : Nat) (s : State) : Host.Outcome State Fault Refusal :=
  .next (s.runCommand o 0x05 (leBytes 8 f))

/-- SAFE_ENTER (R176). -/
def execSafeEnter (o : Origin) (s : State) : Host.Outcome State Fault Refusal := .next (s.runCommand o 0x06 [])

/-- RECOVER (R176). -/
def execRecover (o : Origin) (s : State) : Host.Outcome State Fault Refusal := .next (s.runCommand o 0x07 [])

/-- MAINT_ENTER (R175). -/
def execMaintEnter (o : Origin) (s : State) : Host.Outcome State Fault Refusal := .next (s.runCommand o 0x08 [])

/-- MAINT_EXIT (R175). -/
def execMaintExit (o : Origin) (s : State) : Host.Outcome State Fault Refusal := .next (s.runCommand o 0x09 [])

/-- RESTART (R155). -/
def execRestart (o : Origin) (s : State) : Host.Outcome State Fault Refusal := .next (s.runCommand o 0x0A [])

/-- REG_READ (R176, R721). -/
def execRegRead (o : Origin) (addr count : Nat) (s : State) : Host.Outcome State Fault Refusal :=
  .next (s.runCommand o 0x10 (leBytes 4 addr ++ leBytes 4 count))

/-- REG_WRITE of a list of words (R176, R721). -/
def execRegWrite (o : Origin) (addr : Nat) (words : List Nat) (s : State) : Host.Outcome State Fault Refusal :=
  .next (s.runCommand o 0x11 (leBytes 4 addr ++ leBytes 4 words.length ++ ofWords words))

/-- RESERVED_OPCODE: a record whose opcode is reserved or unassigned (R173). An assigned opcode is that command. -/
def execReservedOpcode (o : Origin) (op : Nat) (args : List Byte) (s : State) : Host.Outcome State Fault Refusal :=
  .next (s.runCommand o (op % 256) args)

/-- PAT_LOAD (R112). -/
def execPatLoad (o : Origin) (source addr : Nat) (s : State) : Host.Outcome State Fault Refusal :=
  .next (s.runCommand o 0x20 (leBytes 4 source ++ leBytes 4 addr))

/-- PAT_COMMIT (R114). -/
def execPatCommit (o : Origin) (f : Nat) (s : State) : Host.Outcome State Fault Refusal :=
  .next (s.runCommand o 0x21 (leBytes 8 f))

/-- PAT_CANCEL (R119). -/
def execPatCancel (o : Origin) (s : State) : Host.Outcome State Fault Refusal := .next (s.runCommand o 0x22 [])

/-- PAT_DISCARD (R112). -/
def execPatDiscard (o : Origin) (s : State) : Host.Outcome State Fault Refusal := .next (s.runCommand o 0x23 [])

/-- PAT_KEY_INSTALL (R95). -/
def execPatKeyInstall (o : Origin) (slot : Nat) (key : List Byte) (s : State) : Host.Outcome State Fault Refusal :=
  .next (s.runCommand o 0x24 (leBytes 4 slot ++ padTo 64 key))

/-- PAT_KEY_REVOKE (R95). -/
def execPatKeyRevoke (o : Origin) (slot : Nat) (s : State) : Host.Outcome State Fault Refusal :=
  .next (s.runCommand o 0x25 (leBytes 4 slot))

/-- CAL_RUN: `channel` is the CHANNEL word with FORCE (R318). -/
def execCalRun (o : Origin) (channel : Nat) (s : State) : Host.Outcome State Fault Refusal :=
  .next (s.runCommand o 0x30 (leBytes 4 channel))

/-- CAL_ABORT (R314, R318). -/
def execCalAbort (o : Origin) (channel : Nat) (s : State) : Host.Outcome State Fault Refusal :=
  .next (s.runCommand o 0x31 (leBytes 4 channel))

/-- CAL_POD_POINT (R318, R323). -/
def execCalPodPoint (o : Origin) (chain range point : Nat) (target : Int) (s : State) : Host.Outcome State Fault Refusal :=
  .next (s.runCommand o 0x32 (leBytes 4 chain ++ leBytes 4 range ++ leBytes 4 point ++ leBytes 8 (unsigned 64 target)))

/-- TIME_SET_TOD (R364). -/
def execTimeSetTod (o : Origin) (domain seconds ns : Nat) (s : State) : Host.Outcome State Fault Refusal :=
  .next (s.runCommand o 0x40 (leBytes 4 domain ++ leBytes 8 seconds ++ leBytes 4 ns))

/-- TIME_STEP (R355, R364). -/
def execTimeStep (o : Origin) (f : Nat) (deltaS deltaNs : Int) (flags : Nat) (s : State) :
    Host.Outcome State Fault Refusal :=
  .next (s.runCommand o 0x41
    (leBytes 8 f ++ leBytes 8 (unsigned 64 deltaS) ++ leBytes 4 (unsigned 32 deltaNs) ++ leBytes 4 flags))

/-- TIME_SELECT (R364). -/
def execTimeSelect (o : Origin) (f mode : Nat) (s : State) : Host.Outcome State Fault Refusal :=
  .next (s.runCommand o 0x42 (leBytes 8 f ++ leBytes 4 mode))

/-- TIME_STEP_CANCEL (R364). -/
def execTimeStepCancel (o : Origin) (s : State) : Host.Outcome State Fault Refusal := .next (s.runCommand o 0x43 [])

/-- LANE_ADMIN (R491). -/
def execLaneAdmin (o : Origin) (lane mode : Nat) (s : State) : Host.Outcome State Fault Refusal :=
  .next (s.runCommand o 0x50 (leBytes 4 lane ++ leBytes 4 mode))

/-- LANE_RETRAIN (R491). -/
def execLaneRetrain (o : Origin) (lane : Nat) (s : State) : Host.Outcome State Fault Refusal :=
  .next (s.runCommand o 0x51 (leBytes 4 lane))

/-- LANE_TEST (R488, R491). -/
def execLaneTest (o : Origin) (lane gen chk loop : Nat) (s : State) : Host.Outcome State Fault Refusal :=
  .next (s.runCommand o 0x52 (leBytes 4 lane ++ leBytes 4 gen ++ leBytes 4 chk ++ leBytes 4 loop))

/-- RING_DISCOVER (R533). -/
def execRingDiscover (o : Origin) (s : State) : Host.Outcome State Fault Refusal := .next (s.runCommand o 0x58 [])

/-- FLD_PORT (R563). -/
def execFldPort (o : Origin) (port action : Nat) (s : State) : Host.Outcome State Fault Refusal :=
  .next (s.runCommand o 0x60 (leBytes 4 port ++ leBytes 4 action))

/-- FLD_ADOPT (R553, R563). -/
def execFldAdopt (o : Origin) (port : Nat) (s : State) : Host.Outcome State Fault Refusal :=
  .next (s.runCommand o 0x61 (leBytes 4 port))

/-- LOOP_INT_SET (R436). -/
def execLoopIntSet (o : Origin) (slot : Nat) (value : Int) (s : State) : Host.Outcome State Fault Refusal :=
  .next (s.runCommand o 0x70 (leBytes 4 slot ++ leBytes 8 (unsigned 64 value)))

/-- LOOP_RETURN (R436). -/
def execLoopReturn (o : Origin) (slot : Nat) (s : State) : Host.Outcome State Fault Refusal :=
  .next (s.runCommand o 0x71 (leBytes 4 slot))

/-- SLU_RECLAIM (R447, R460). -/
def execSluReclaim (o : Origin) (s : State) : Host.Outcome State Fault Refusal := .next (s.runCommand o 0x78 [])

/-- SLU_FORCE_PARK (R451, R460). -/
def execSluForcePark (o : Origin) (inst on : Nat) (s : State) : Host.Outcome State Fault Refusal :=
  .next (s.runCommand o 0x79 (leBytes 4 inst ++ leBytes 4 on))

/-- CAP_ARM (R407). -/
def execCapArm (o : Origin) (f mask : Nat) (s : State) : Host.Outcome State Fault Refusal :=
  .next (s.runCommand o 0x80 (leBytes 8 f ++ leBytes 4 mask))

/-- CAP_ABORT (R407). -/
def execCapAbort (o : Origin) (mask : Nat) (s : State) : Host.Outcome State Fault Refusal :=
  .next (s.runCommand o 0x81 (leBytes 4 mask))

/-- CAP_FORCE (R407). -/
def execCapForce (o : Origin) (unit : Nat) (s : State) : Host.Outcome State Fault Refusal :=
  .next (s.runCommand o 0x82 (leBytes 4 unit))

/-- QUE_FLUSH (R576, R594). -/
def execQueFlush (o : Origin) (q : Nat) (s : State) : Host.Outcome State Fault Refusal :=
  .next (s.runCommand o 0x90 (leBytes 4 q))

/-- NOTICE sent as a command: its opcode is no command's (R582, R594). -/
def execNotice (o : Origin) (s : State) : Host.Outcome State Fault Refusal := .next (s.runCommand o 0x97 [])

/-- WRG_CUT (R604, R617). -/
def execWrgCut (o : Origin) (ctx : Nat) (s : State) : Host.Outcome State Fault Refusal :=
  .next (s.runCommand o 0x98 (leBytes 4 ctx))

/-- WRG_ABORT (R617). -/
def execWrgAbort (o : Origin) (ctx : Nat) (s : State) : Host.Outcome State Fault Refusal :=
  .next (s.runCommand o 0x99 (leBytes 4 ctx))

/-- SLT_CLEAR_ARM (R631). -/
def execSltClearArm (o : Origin) (s : State) : Host.Outcome State Fault Refusal := .next (s.runCommand o 0xA0 [])

/-- SLT_CLEAR_CONFIRM (R631, R632). -/
def execSltClearConfirm (o : Origin) (token : Nat) (s : State) : Host.Outcome State Fault Refusal :=
  .next (s.runCommand o 0xA1 (leBytes 4 token))

/-- ADOPT (R644, R652). -/
def execAdopt (o : Origin) (digest : List Byte) (compat f : Nat) (s : State) : Host.Outcome State Fault Refusal :=
  .next (s.runCommand o 0xB0 (padTo 32 digest ++ leBytes 4 compat ++ leBytes 8 f))

/-- QUARANTINE (R652). -/
def execQuarantine (o : Origin) (on : Nat) (s : State) : Host.Outcome State Fault Refusal :=
  .next (s.runCommand o 0xB1 (leBytes 4 on))

end Sys2Proof.Machine
end

