-- ==== Sys2Proof/Machine/Sequence.lean ====
section
/-! DEFINITION. The frame sequencer: the frame tick with the Acquire phase, the Decide, Emit and House phases (R177 to
R181), and the state transitions that fall due at a tick (R155, R158). -/

namespace Sys2Proof.Machine

/-! ## The overrun of the tick that ends (R179, R181) -/

/-- Every sample that a unit should have produced at the tick that ends is invalid with reason FRAME_OVERRUN; a loop that
was not computed sends no setpoint. -/
def State.spoil (s : State) (u : PatUnit) : State :=
  let bad := fun (r : Nat) => invWord rOVERRUN s.tun r
  let out := fun (s : State) (port w : Nat) => { s with flow.out := tabSet s.flow.out (256 * u.id + port) w }
  let slot := fun (s : State) (k w : Nat) => { s with flow.slot := tabSet s.flow.slot k w }
  if u.cls = cFILTER then s.setOutput u (bad (s.sampleRange u.inst))
  else if u.cls = cLINEARISER then
    let w := bad (s.sampleRange u.inst)
    slot (out (s.put Fld.FLT_CHc_LIN_OUT.WORD w u.inst) 0 w) (slotOf u.inst) w
  else if u.cls = cTDC then slot (out (s.put Fld.TDC_CHk_LAST.WORD (bad 0) u.inst) 0 (bad 0)) (640 + u.inst) (bad 0)
  else if u.cls = cAUX then
    s.forEach (List.range (s.auxEntries u.inst)) fun e s =>
      let s := out s e (bad 0)
      if u.inst = 0 then slot s (656 + s.auxMux 0 e) (bad 0) else s
  else if u.cls = cLOOP then
    (s.setSlot u.inst { s.slot u.inst with sent := none }).forEach (s.flow.out.filter fun e => e.1 / 256 == u.id) fun e s =>
      out s (e.1 % 256) (bad 0)
  else s.forEach (s.flow.out.filter fun e => e.1 / 256 == u.id) fun e s => out s (e.1 % 256) (bad 0)

/-- The frame overrun of the tick that ends: `k` is the phase whose work was not complete, `ids` the units whose work was
abandoned, `held` the ports and streams whose late frame waits (R179). -/
def State.overrun (s : State) (k : Nat) (ids : List Nat) (held : List (Nat × Nat)) : State :=
  let s := s.forEach (ids.filterMap s.unitId) fun u s =>
    let s := (s.spoil u).uPut Fld.UNIT_STAT.OVERRUN 1 u.id
    s.uPut Fld.UNIT_CNT.OVR_CNT (satAdd 16 (s.uGet Fld.UNIT_CNT.OVR_CNT u.id) 1) u.id
  let s := s.when (s.seq.phase < 3) (·.streamEmit held)
  let run := s.seq.ovrRun + 1
  let s := (s.put Fld.GLB_SEQ_STAT.OVERRUN 1).sat Fld.GLB_SEQ_STAT.OVR_TICKS
  let s := (s.put Fld.GLB_SEQ_STAT.OVR_RUN (min run 255)).put Fld.GLB_OVR_FRAME_LO.FRAME s.seq.frame
  let s := { s with seq.ovrRun := run, seq.lastOvr := some s.seq.frame }
  (s.degrade Fld.GLB_DEGRADED.OVERRUN Fld.GLB_DEGRADED_STICKY.OVERRUN true).stage 0x0503
    (leBytes 1 k ++ leBytes 1 (min run 255))

/-- The tick that ends is judged: an overrun of a hub that acquires, or the end of a run of overruns. -/
def State.endTick (s : State) (t : TickInput) : State :=
  match t.overrun, s.acquires with
  | some (k, ids), true => s.overrun k ids t.held
  | _, _ => { s.put Fld.GLB_SEQ_STAT.OVR_RUN 0 with seq.ovrRun := 0 }

/-- The measurements of the tick that ends, before the next one begins: the cycles of each unit that was due on its primary
resource are a free value (R147; log entry 40), the FIR engine's cycles are those that its chains charge (R137), and the edge
of a locked modulator clock at FT is a free value. -/
def State.measureTick (s : State) : State :=
  let s := if s.is Fld.SAR_MCLK_STAT.LOCK then
      let (x, s) := s.draw
      s.put Fld.SAR_MCLK_STAT.PHASE_PS (x % 2 ^ 16)
    else s
  match s.banks.act, s.acquires with
  | some p, true =>
    let n := s.seq.frame
    let s := s.forEach p.units fun u s =>
      match chargesOf p.units p.nets p.cluster u with
      | e :: _ =>
        if n % e.period = e.phase then
          let (x, s) := s.draw
          s.uPut Fld.UNIT_CYCLES.WORST (max (s.uGet Fld.UNIT_CYCLES.WORST u.id) (min 0xFFFF x)) u.id
        else s
      | [] => s
    let fir := min 0xFFFF ((p.units.flatMap fun u => (chargesOf p.units p.nets p.cluster u).filter (·.res == 0)).foldl
      (fun a e => a + e.cycles) 0)
    (s.put Fld.FLT_GLB_LOAD.LAST fir).put Fld.FLT_GLB_LOAD.WORST (max (s.get Fld.FLT_GLB_LOAD.WORST) fir)
  | _, _ => s

/-- What overruns lead to from the tick on that follows: SAFE after OVR_SAFE_LIMIT of them in a row (R181), and the end of
the OVERRUN cause of GLB_DEGRADED after 1024 ticks without one (R184). -/
def State.overrunAfter (s : State) : State :=
  let lim := s.policy 0x0001 8
  let s := s.when (lim != 0 && decide (lim ≤ s.seq.ovrRun)) (·.safeCause 1)
  match s.seq.lastOvr with
  | some f =>
    if f + 1024 ≤ s.seq.frame then
      ({ s with seq.lastOvr := none } : State).degrade Fld.GLB_DEGRADED.OVERRUN Fld.GLB_DEGRADED_STICKY.OVERRUN false
    else s
  | none => s

/-! ## The Acquire phase -/

/-- The words of the interval that ends enter the chains, and pod data whose place has come (R231, R277). -/
def State.tickFeed (s : State) (word : Nat → Nat → Option Nat) : State :=
  let s := s.forEach ((List.range 100).filter s.chainRuns) fun c s => s.feedChain c (word c)
  let pods := ((s.units cFILTER).map (·.inst)).filter fun c => c ≥ 100 && s.chainRuns c
  let s := s.forEach pods fun c s =>
    if s.is Fld.FLT_CHc_CFG.FORMAT c then s.feedPod1 c else (s.calPodFeed c).feedPod c
  s.calFeed word

/-- The sample of one FILTER unit at its own tick (R132, R309): in a swap the mend chain's sample is formed as well, and
stands in for the channel's from STAND_IN on. -/
def State.tickSample (s : State) (u : PatUnit) : State :=
  let c := u.inst
  if !s.ownTick c s.seq.frame then s
  else if !s.chainRuns c then s.setOutput u (invWord rABSENT s.tun 0)
  else
    match s.cal.swap, s.inSwap c with
    | some w, true =>
      let (mend, s) := s.ownSample (mendOf c)
      let s := { s with flow.slot := tabSet s.flow.slot (mendOf c) mend }
      let measured : Bool := s.cal.phase == .measure
      let (own, s) : Nat × State := if measured then (invWord rABSENT s.tun 0, s) else s.ownSample c
      (s.setOutput u (if w.standIn then mend else own)).calMatch own mend
    | _, _ =>
      let (own, s) := s.ownSample c
      s.setOutput u own

/-- The samples of this tick (R177): filters, auxiliary converter, time units, leaves, output read-back. -/
def State.tickSamples (s : State) : State :=
  if !s.acquires then s else
  let s := s.forEach (s.units cFILTER) fun u s => s.tickSample u
  s.auxDeliver.tinDeliver.toutDeliver.leafSlots.sluSlots

/-- Excitation measured in the tick (R224, R226): I_P and I_N in 1 µA, lead voltages in 1 mV, VEXCP and VEXCN. -/
def State.tickExc (s : State) (t : TickInput) : State :=
  let s := s.forEach t.exc fun e s =>
    let s := (s.putI Fld.AFE_CHn_EXC_I.I_P e.iP e.ch).putI Fld.AFE_CHn_EXC_I.I_N e.iN e.ch
    let six := s.is Fld.AFE_CHn_CFG.SIX_WIRE e.ch
    (s.putI Fld.AFE_CHn_LEAD.LEAD_P (if six then e.leadP else 0) e.ch).putI Fld.AFE_CHn_LEAD.LEAD_N
      (if six then e.leadN else 0) e.ch
  let s := s.forEach (if t.exc = [] then [] else List.range 4) fun g s =>
    let l := t.exc.filter fun e => groupOf e.ch == g
    let sum := fun (f : ExcTick → Int) => ((l.map fun e => (f e).natAbs).foldl (· + ·) 0 + 50) / 100
    (s.put Fld.AFE_GRPg_EXC_SUM.SUM_P (min 0xFFFF (sum (·.iP))) g).put Fld.AFE_GRPg_EXC_SUM.SUM_N (min 0xFFFF (sum (·.iN))) g
  (s.putI Fld.AFE_GLB_VEXC.VEXCP_MV t.vexcP).putI Fld.AFE_GLB_VEXC.VEXCN_MV t.vexcN

/-- The frame counter advances and the tick begins: events that assert now take the place of the last tick's. -/
def State.nextFrame (s : State) : State :=
  { s with seq.frame := s.seq.frame + 1, seq.phase := 0, flow.evt := s.flow.evtNext, flow.evtNext := [], flow.time := [] }

/-- FRAME_TICK: the tick that ends is judged, the frame counter advances, words take their place with the settings in
force until now, changes due at this tick come into force, and the samples labelled with it are formed (R31, R177). -/
def execFrameTick (t : TickInput) (s : State) : Host.Outcome State Fault Refusal :=
  if s.hubState < stHeld then .next s else
  let word := fun (c j : Nat) => (t.words.find? fun e => e.1 == c).bind fun e => e.2[j]?
  let s := (s.endTick t).measureTick.nextFrame.overrunAfter.timeTick
  let s := s.tickFeed word
  let dfe := s.stagedDfe
  let s := s.calTick.auxTick
  let s := s.forEach (List.range 100) fun c s => (s.frontLive c).downRange c
  let s := (s.forEach (s.chains.map (·.1)) fun c s => (s.takeResets c).slewTau c).alignDfe dfe
  let s := s.tickSamples.forEach (s.units cCAPTURE) fun u s => s.capNextSeg u
  let step : Bool := match s.time.stepDone with
    | some x => x.f == s.seq.frame
    | none => false
  let s := s.tdcTick t.coarse step
  .next (((s.fieldTick.fieldCurrents t.isns).loopTick.ringTick).tickExc t)

/-! ## Decide, Emit and House -/

/-- DECIDE_PHASE: remote samples due at this tick are delivered; then loop laws, Sluice arbitration, triggers and captures
(R177). `mismatch` lists slots whose second computation was compared, and whether it agreed (R433). -/
def execDecidePhase (late : Bool) (mismatch : List (Nat × Bool)) (s : State) : Host.Outcome State Fault Refusal :=
  if !s.acquires then .next s else
  let s := (((s.enterPhase 2 late).ringDecide.loopDecide mismatch).sluDecide).trigDecide
  .next (s.forEach (s.units cCAPTURE) fun u s => s.capDecide u)

/-- EMIT_PHASE: health and Sluice words come into force; claims, triggers and streams are sent; captures, jobs and queues
take this tick; pods get their setpoints (R177). In MAINT pods get PARK_NOW only (R540). -/
def execEmitPhase (late : Bool) (pins : List (Nat × Int)) (held : List (Nat × Nat)) (s : State) :
    Host.Outcome State Fault Refusal :=
  if s.hubState == stMaint then .next s.fieldEmit
  else if !s.acquires then .next s else
  let s := ((s.enterPhase 3 late).healthEmit.sluEmit pins).claimEmit.trigEmit.streamEmit held
  let s := s.forEach (s.units cCAPTURE) fun u s => s.capEmit u
  .next s.wringEmit.queueEmit.fieldEmit

/-- Fault causes are evaluated first: a latched cause moves an ARMED or RUN hub to SAFE at the next tick (R155, R158). -/
def State.faultHouse (s : State) : State :=
  if (s.hubState == stArmed || s.hubState == stRun) && s.get Fld.GLB_SAFE_CAUSE.CAUSE != 0 then
    { s with seq.due := s.seq.due ++ [{ target := stSafe, frame := s.seq.frame + 1, rank := 1 }] }
  else s

/-- Up to eight waiting command records execute in their order of arrival (R166). -/
def State.houseCommands (s : State) : State :=
  let run := s.seq.waiting.take 8
  let s := { s with seq.waiting := s.seq.waiting.drop 8 }
  s.forEach run fun w s => s.runRecord w.origin w.bytes

/-- House work of the tick is not complete at its end (R180): it goes on in the next House phase, and the waiting commands
are delayed. -/
def State.houseUnfinished (s : State) : State :=
  let k := s.seq.houseLate + 1
  let s := ({ s with seq.houseLate := k } : State).put Fld.GLB_SEQ_STAT.HOUSE_LATE 1
  s.when (k == 64) (·.stage 0x0504 (leBytes 2 64))

/-- Every 1024 ticks the alignment of the chains is evaluated again (R278). -/
def State.alignHouse (s : State) : State :=
  if s.seq.frame % 1024 != 0 || !s.acquires then s else s.forEach s.alignable fun c s => s.alignEval c false

/-- HOUSE_PHASE: fault causes and quarantine, then commands, then the other House work (R158, R177). -/
def execHousePhase (late unfinished : Bool) (s : State) : Host.Outcome State Fault Refusal :=
  if s.hubState < stHeld then .next s else
  let s := (s.enterPhase 4 late).faultHouse.quarantineHouse.timeHouse.readyHouse
  let s := if unfinished then s.houseUnfinished else ({ s with seq.houseLate := 0 } : State).houseCommands
  let s := s.joinHouse.calHouse.scalHouse.healthHouse.fieldHouse
  .next s.siltHouse.wringHouse.ringsPump.pdEval.alignHouse

/-! ## State transitions -/

/-- STATE_TRANSITION: the transitions due at this tick are settled: the first that applies in the order of R158 takes
effect and the others are not carried out. `boot` is BOOT[1:0] for a restart. -/
def execStateTransition (boot : Nat) (s : State) : Host.Outcome State Fault Refusal :=
  let m := s.dueMove
  let s := { s with seq.due := s.seq.due.filter fun t => decide (s.seq.frame < t.frame) }
  match m with
  | none => .next s
  | some t => .next (if t.target = stBoot then s.hubReset 3 boot else s.enterState t.target)

end Sys2Proof.Machine
end

