-- ==== Sys2Proof/Machine/Dispatch.lean ====
section
/-! DEFINITION. What each command does: one arm per constructor. -/

namespace Sys2Proof.Machine

def exec (i : Instr) (s : State) : Host.Outcome State Fault Refusal :=
  match i with
  | .frameTick t => Sys2Proof.Machine.execFrameTick t s
  | .conditionPhase late => Sys2Proof.Machine.execConditionPhase late s
  | .decidePhase late mismatch => Sys2Proof.Machine.execDecidePhase late mismatch s
  | .emitPhase late pins held => Sys2Proof.Machine.execEmitPhase late pins held s
  | .housePhase late unfinished => Sys2Proof.Machine.execHousePhase late unfinished s
  | .stateTransition boot => Sys2Proof.Machine.execStateTransition boot s
  | .streamFrameDeadline port => Sys2Proof.Machine.execStreamFrameDeadline port s
  | .nop o => Sys2Proof.Machine.execNop o s
  | .arm o => Sys2Proof.Machine.execArm o s
  | .hold o => Sys2Proof.Machine.execHold o s
  | .start o f => Sys2Proof.Machine.execStart o f s
  | .stop o f => Sys2Proof.Machine.execStop o f s
  | .safeEnter o => Sys2Proof.Machine.execSafeEnter o s
  | .recover o => Sys2Proof.Machine.execRecover o s
  | .maintEnter o => Sys2Proof.Machine.execMaintEnter o s
  | .maintExit o => Sys2Proof.Machine.execMaintExit o s
  | .restart o => Sys2Proof.Machine.execRestart o s
  | .regRead o addr count => Sys2Proof.Machine.execRegRead o addr count s
  | .regWrite o addr words => Sys2Proof.Machine.execRegWrite o addr words s
  | .reservedOpcode o op args => Sys2Proof.Machine.execReservedOpcode o op args s
  | .patLoad o source addr => Sys2Proof.Machine.execPatLoad o source addr s
  | .patCommit o f => Sys2Proof.Machine.execPatCommit o f s
  | .patCancel o => Sys2Proof.Machine.execPatCancel o s
  | .patDiscard o => Sys2Proof.Machine.execPatDiscard o s
  | .patKeyInstall o slot key => Sys2Proof.Machine.execPatKeyInstall o slot key s
  | .patKeyRevoke o slot => Sys2Proof.Machine.execPatKeyRevoke o slot s
  | .patternCheckDone ue => Sys2Proof.Machine.execPatternCheckDone ue s
  | .commitIrrevocable => Sys2Proof.Machine.execCommitIrrevocable s
  | .commitSwitch => Sys2Proof.Machine.execCommitSwitch s
  | .commitComplete => Sys2Proof.Machine.execCommitComplete s
  | .powerUpCommit => Sys2Proof.Machine.execPowerUpCommit s
  | .calRun o channel => Sys2Proof.Machine.execCalRun o channel s
  | .calAbort o channel => Sys2Proof.Machine.execCalAbort o channel s
  | .calPodPoint o chain range point target => Sys2Proof.Machine.execCalPodPoint o chain range point target s
  | .calPodPointDone => Sys2Proof.Machine.execCalPodPointDone s
  | .calPodPointTimeout => Sys2Proof.Machine.execCalPodPointTimeout s
  | .calStepEnd edge => Sys2Proof.Machine.execCalStepEnd edge s
  | .matchTimeout => Sys2Proof.Machine.execMatchTimeout s
  | .calCoefWrite chain off v => Sys2Proof.Machine.execCalCoefWrite chain off v s
  | .calCtrlSuspend on => Sys2Proof.Machine.execCalCtrlSuspend on s
  | .timeSetTod o domain seconds ns => Sys2Proof.Machine.execTimeSetTod o domain seconds ns s
  | .timeStep o f deltaS deltaNs flags => Sys2Proof.Machine.execTimeStep o f deltaS deltaNs flags s
  | .timeSelect o f mode => Sys2Proof.Machine.execTimeSelect o f mode s
  | .timeStepCancel o => Sys2Proof.Machine.execTimeStepCancel o s
  | .timeStepApply => Sys2Proof.Machine.execTimeStepApply s
  | .timeSelectEffect => Sys2Proof.Machine.execTimeSelectEffect s
  | .laneAdmin o lane mode => Sys2Proof.Machine.execLaneAdmin o lane mode s
  | .laneRetrain o lane => Sys2Proof.Machine.execLaneRetrain o lane s
  | .laneTest o lane gen chk loop => Sys2Proof.Machine.execLaneTest o lane gen chk loop s
  | .ringDiscover o => Sys2Proof.Machine.execRingDiscover o s
  | .fldPort o port action => Sys2Proof.Machine.execFldPort o port action s
  | .fldAdopt o port => Sys2Proof.Machine.execFldAdopt o port s
  | .loopIntSet o slot value => Sys2Proof.Machine.execLoopIntSet o slot value s
  | .loopReturn o slot => Sys2Proof.Machine.execLoopReturn o slot s
  | .sluReclaim o => Sys2Proof.Machine.execSluReclaim o s
  | .sluForcePark o inst on => Sys2Proof.Machine.execSluForcePark o inst on s
  | .capArm o f mask => Sys2Proof.Machine.execCapArm o f mask s
  | .capAbort o mask => Sys2Proof.Machine.execCapAbort o mask s
  | .capForce o unit => Sys2Proof.Machine.execCapForce o unit s
  | .captureArm e => Sys2Proof.Machine.execCaptureArm e s
  | .captureAbortEffect e => Sys2Proof.Machine.execCaptureAbortEffect e s
  | .triggerHoldoffEnd t => Sys2Proof.Machine.execTriggerHoldoffEnd t s
  | .queFlush o q => Sys2Proof.Machine.execQueFlush o q s
  | .notice o => Sys2Proof.Machine.execNotice o s
  | .wrgCut o ctx => Sys2Proof.Machine.execWrgCut o ctx s
  | .wrgAbort o ctx => Sys2Proof.Machine.execWrgAbort o ctx s
  | .sltClearArm o => Sys2Proof.Machine.execSltClearArm o s
  | .sltClearConfirm o token => Sys2Proof.Machine.execSltClearConfirm o token s
  | .logClearDone => Sys2Proof.Machine.execLogClearDone s
  | .adopt o digest compat f => Sys2Proof.Machine.execAdopt o digest compat f s
  | .adoptEffect => Sys2Proof.Machine.execAdoptEffect s
  | .digestInherit => Sys2Proof.Machine.execDigestInherit s
  | .quarantine o on => Sys2Proof.Machine.execQuarantine o on s
  | .mailboxGo path => Sys2Proof.Machine.execMailboxGo path s
  | .mgmtFrameReceive port lseq bytes => Sys2Proof.Machine.execMgmtFrameReceive port lseq bytes s
  | .mgmtRelayTimeout path => Sys2Proof.Machine.execMgmtRelayTimeout path s
  | .noticeRecordReceive hub bytes => Sys2Proof.Machine.execNoticeRecordReceive hub bytes s
  | .spiWrite bytes => Sys2Proof.Machine.execSpiWrite bytes s
  | .spiRead addr count wait => Sys2Proof.Machine.execSpiRead addr count wait s
  | .spiStatus => Sys2Proof.Machine.execSpiStatus s
  | .spiUnknownCommand n => Sys2Proof.Machine.execSpiUnknownCommand n s
  | .registerWrite path addr v => Sys2Proof.Machine.execRegisterWrite path addr v s
  | .glbFrameLoRead path => Sys2Proof.Machine.execGlbFrameLoRead path s
  | .timLRead path => Sys2Proof.Machine.execTimLRead path s
  | .loopIntRead path slot => Sys2Proof.Machine.execLoopIntRead path slot s
  | .sltOptRead path => Sys2Proof.Machine.execSltOptRead path s
  | .queuePop path q wide bad => Sys2Proof.Machine.execQueuePop path q wide bad s
  | .popWaitExpire q => Sys2Proof.Machine.execPopWaitExpire q s
  | .tdcFifoPop path k => Sys2Proof.Machine.execTdcFifoPop path k s
  | .sltWin15Read path corr ue => Sys2Proof.Machine.execSltWin15Read path corr ue s
  | .sltCursorWrite path v corr ue => Sys2Proof.Machine.execSltCursorWrite path v corr ue s
  | .fldIsnsRead path port => Sys2Proof.Machine.execFldIsnsRead path port s
  | .patWdataWrite v => Sys2Proof.Machine.execPatWdataWrite v s
  | .standbyWindowWrite off bytes => Sys2Proof.Machine.execStandbyWindowWrite off bytes s
  | .signCfgRequireSet path => Sys2Proof.Machine.execSignCfgRequireSet path s
  | .signCfgAntirollbackSet path => Sys2Proof.Machine.execSignCfgAntirollbackSet path s
  | .unitCntClr id => Sys2Proof.Machine.execUnitCntClr id s
  | .unitWorstClr id => Sys2Proof.Machine.execUnitWorstClr id s
  | .patchStatusClear id v => Sys2Proof.Machine.execPatchStatusClear id v s
  | .afeExcRetry ch => Sys2Proof.Machine.execAfeExcRetry ch s
  | .afeCntClr ch => Sys2Proof.Machine.execAfeCntClr ch s
  | .rangeHoldWrite ch on => Sys2Proof.Machine.execRangeHoldWrite ch on s
  | .fltSyncReset c => Sys2Proof.Machine.execFltSyncReset c s
  | .fltCntClr c => Sys2Proof.Machine.execFltCntClr c s
  | .sarScalStart v => Sys2Proof.Machine.execSarScalStart v s
  | .sarScalPointDone => Sys2Proof.Machine.execSarScalPointDone s
  | .sarCoefWrite m off v => Sys2Proof.Machine.execSarCoefWrite m off v s
  | .sarModCntClr => Sys2Proof.Machine.execSarModCntClr s
  | .auxConversionDone code parity => Sys2Proof.Machine.execAuxConversionDone code parity s
  | .auxInjectStart => Sys2Proof.Machine.execAuxInjectStart s
  | .timIncWrite d v => Sys2Proof.Machine.execTimIncWrite d v s
  | .timAdjWrite d v => Sys2Proof.Machine.execTimAdjWrite d v s
  | .timServoTakeover v => Sys2Proof.Machine.execTimServoTakeover v s
  | .timHostQWrite v => Sys2Proof.Machine.execTimHostQWrite v s
  | .timIrqRearm => Sys2Proof.Machine.execTimIrqRearm s
  | .tdcSrcWrite v => Sys2Proof.Machine.execTdcSrcWrite v s
  | .tdcFlush k => Sys2Proof.Machine.execTdcFlush k s
  | .tdcCntClr k => Sys2Proof.Machine.execTdcCntClr k s
  | .capCtrlArm e => Sys2Proof.Machine.execCapCtrlArm e s
  | .capCtrlAbort e => Sys2Proof.Machine.execCapCtrlAbort e s
  | .capPrePostWrite e post v => Sys2Proof.Machine.execCapPrePostWrite e post v s
  | .loopCmdWrite slot v => Sys2Proof.Machine.execLoopCmdWrite slot v s
  | .loopCmdFifoPush slot v => Sys2Proof.Machine.execLoopCmdFifoPush slot v s
  | .loopFifoFlush slot => Sys2Proof.Machine.execLoopFifoFlush slot s
  | .loopCntClr slot => Sys2Proof.Machine.execLoopCntClr slot s
  | .loopGainWrite slot gain v => Sys2Proof.Machine.execLoopGainWrite slot gain v s
  | .sluCntClr o => Sys2Proof.Machine.execSluCntClr o s
  | .laneCntClr lane => Sys2Proof.Machine.execLaneCntClr lane s
  | .lanePrbsClr lane => Sys2Proof.Machine.execLanePrbsClr lane s
  | .ringCntClr => Sys2Proof.Machine.execRingCntClr s
  | .fldCntClr port => Sys2Proof.Machine.execFldCntClr port s
  | .queCtrlFlush q => Sys2Proof.Machine.execQueCtrlFlush q s
  | .queCntClr q => Sys2Proof.Machine.execQueCntClr q s
  | .wmxClear q => Sys2Proof.Machine.execWmxClear q s
  | .watermarkWrite q hi v => Sys2Proof.Machine.execWatermarkWrite q hi v s
  | .dmaRingEnable r v => Sys2Proof.Machine.execDmaRingEnable r v s
  | .dmaRingDisable r => Sys2Proof.Machine.execDmaRingDisable r s
  | .dmaTailWrite r tail descs => Sys2Proof.Machine.execDmaTailWrite r tail descs s
  | .dmaDescriptorComplete r bytes bad => Sys2Proof.Machine.execDmaDescriptorComplete r bytes bad s
  | .dmaFlushTimeout r => Sys2Proof.Machine.execDmaFlushTimeout r s
  | .dmaHostError r => Sys2Proof.Machine.execDmaHostError r s
  | .noticePendingClear j v => Sys2Proof.Machine.execNoticePendingClear j v s
  | .noticeRingSend => Sys2Proof.Machine.execNoticeRingSend s
  | .msixUnmask vec enable => Sys2Proof.Machine.execMsixUnmask vec enable s
  | .dmaPause d3 => Sys2Proof.Machine.execDmaPause d3 s
  | .wrgCtrlCut j => Sys2Proof.Machine.execWrgCtrlCut j s
  | .wrgCtrlAbort j => Sys2Proof.Machine.execWrgCtrlAbort j s
  | .wrgCntClr j => Sys2Proof.Machine.execWrgCntClr j s
  | .wringDecompressStart j => Sys2Proof.Machine.execWringDecompressStart j s
  | .wringCloseTimeout j => Sys2Proof.Machine.execWringCloseTimeout j s
  | .wringJobEnd j memErr => Sys2Proof.Machine.execWringJobEnd j memErr s
  | .sltCntClr => Sys2Proof.Machine.execSltCntClr s
  | .siltRecordWritten => Sys2Proof.Machine.execSiltRecordWritten s
  | .optimeCheckpoint => Sys2Proof.Machine.execOptimeCheckpoint s
  | .supCntClr => Sys2Proof.Machine.execSupCntClr s
  | .pmuFwuStart v => Sys2Proof.Machine.execPmuFwuStart v s
  | .fwUpdateDone result ver svn => Sys2Proof.Machine.execFwUpdateDone result ver svn s
  | .qspiGo v => Sys2Proof.Machine.execQspiGo v s
  | .qspiSequenceDone bytes => Sys2Proof.Machine.execQspiSequenceDone bytes s
  | .powerGood boot => Sys2Proof.Machine.execPowerGood boot s
  | .resetNAssert boot => Sys2Proof.Machine.execResetNAssert boot s
  | .watchdogReset boot => Sys2Proof.Machine.execWatchdogReset boot s
  | .railLoss rail => Sys2Proof.Machine.execRailLoss rail s
  | .pfailAssert => Sys2Proof.Machine.execPfailAssert s
  | .pfailDeassert => Sys2Proof.Machine.execPfailDeassert s
  | .perstAssert => Sys2Proof.Machine.execPerstAssert s
  | .functionLevelReset => Sys2Proof.Machine.execFunctionLevelReset s
  | .trstAssert => Sys2Proof.Machine.execTrstAssert s
  | .pcieLinkDown => Sys2Proof.Machine.execPcieLinkDown s
  | .xtalLoss boot => Sys2Proof.Machine.execXtalLoss boot s
  | .bootDone aOk bOk selfTest => Sys2Proof.Machine.execBootDone aOk bOk selfTest s
  | .qspiImageReadDone info dir bytes => Sys2Proof.Machine.execQspiImageReadDone info dir bytes s
  | .neighbourServerFound => Sys2Proof.Machine.execNeighbourServerFound s
  | .neighbourFetchResume => Sys2Proof.Machine.execNeighbourFetchResume s
  | .captureMemoryInitDone => Sys2Proof.Machine.execCaptureMemoryInitDone s
  | .duplicateEntryExpire source request => Sys2Proof.Machine.execDuplicateEntryExpire source request s
  | .supplyOutOfRange rail => Sys2Proof.Machine.execSupplyOutOfRange rail s
  | .thermalLimit => Sys2Proof.Machine.execThermalLimit s
  | .memoryUe area block => Sys2Proof.Machine.execMemoryUe area block s
  | .safeCauseGone b => Sys2Proof.Machine.execSafeCauseGone b s
  | .selfdiagGone code => Sys2Proof.Machine.execSelfdiagGone code s
  | .mclkLockLoss => Sys2Proof.Machine.execMclkLockLoss s
  | .mclkLockRegained => Sys2Proof.Machine.execMclkLockRegained s
  | .coefParityError mode d running next => Sys2Proof.Machine.execCoefParityError mode d running next s
  | .captureEccError block corrected => Sys2Proof.Machine.execCaptureEccError block corrected s
  | .modulatorRunInEnd ch => Sys2Proof.Machine.execModulatorRunInEnd ch s
  | .modulatorOverload ch j clamp => Sys2Proof.Machine.execModulatorOverload ch j clamp s
  | .cmOverload ch j => Sys2Proof.Machine.execCmOverload ch j s
  | .excRampEnd ch => Sys2Proof.Machine.execExcRampEnd ch s
  | .excOvercurrentOff ch => Sys2Proof.Machine.execExcOvercurrentOff ch s
  | .excRetryTimer ch => Sys2Proof.Machine.execExcRetryTimer ch s
  | .excObservation k obs => Sys2Proof.Machine.execExcObservation k obs s
  | .wireCheck half obs => Sys2Proof.Machine.execWireCheck half obs s
  | .wireBreakConfirm ch => Sys2Proof.Machine.execWireBreakConfirm ch s
  | .wireRecover ch => Sys2Proof.Machine.execWireRecover ch s
  | .irqNAssert => Sys2Proof.Machine.execIrqNAssert s
  | .tinEdge k falling ago => Sys2Proof.Machine.execTinEdge k falling ago s
  | .toutPulse k => Sys2Proof.Machine.execToutPulse k s
  | .toutPulseEnd k => Sys2Proof.Machine.execToutPulseEnd k s
  | .tdcEdge k falling c raw raw1 raw2 => Sys2Proof.Machine.execTdcEdge k falling c raw raw1 raw2 s
  | .tdcStartTimeout k => Sys2Proof.Machine.execTdcStartTimeout k s
  | .tdcFreqTimeout k => Sys2Proof.Machine.execTdcFreqTimeout k s
  | .refinWindow present rate pll => Sys2Proof.Machine.execRefinWindow present rate pll s
  | .tdcRefLoss => Sys2Proof.Machine.execTdcRefLoss s
  | .ppsInEdge ago => Sys2Proof.Machine.execPpsInEdge ago s
  | .ppsLoss => Sys2Proof.Machine.execPpsLoss s
  | .rootHoldover domain => Sys2Proof.Machine.execRootHoldover domain s
  | .syncSend domain => Sys2Proof.Machine.execSyncSend domain s
  | .pdReqSend port => Sys2Proof.Machine.execPdReqSend port s
  | .pdReq port msg ago turn => Sys2Proof.Machine.execPdReq port msg ago turn s
  | .pdResp port msg turn ago => Sys2Proof.Machine.execPdResp port msg turn ago s
  | .sync port msg ago res crcOk => Sys2Proof.Machine.execSync port msg ago res crcOk s
  | .domainLoss domain => Sys2Proof.Machine.execDomainLoss domain s
  | .frameCounterStart => Sys2Proof.Machine.execFrameCounterStart s
  | .frameCounterAdopt => Sys2Proof.Machine.execFrameCounterAdopt s
  | .rootBTakeover => Sys2Proof.Machine.execRootBTakeover s
  | .laneBlockLock lane => Sys2Proof.Machine.execLaneBlockLock lane s
  | .laneNoPeer lane => Sys2Proof.Machine.execLaneNoPeer lane s
  | .trainBlock lane block => Sys2Proof.Machine.execTrainBlock lane block s
  | .rateChange lane => Sys2Proof.Machine.execRateChange lane s
  | .eqTrainDone lane => Sys2Proof.Machine.execEqTrainDone lane s
  | .laneCheckEnd lane errors => Sys2Proof.Machine.execLaneCheckEnd lane errors s
  | .am lane skew block => Sys2Proof.Machine.execAm lane skew block s
  | .laneErrorLimit lane => Sys2Proof.Machine.execLaneErrorLimit lane s
  | .laneLockLoss lane => Sys2Proof.Machine.execLaneLockLoss lane s
  | .laneRetryTimer lane => Sys2Proof.Machine.execLaneRetryTimer lane s
  | .adaptWindow lane td div shErr blkErr bitErr ctle taps => Sys2Proof.Machine.execAdaptWindow lane td div shErr blkErr bitErr ctle taps s
  | .prbsResync lane => Sys2Proof.Machine.execPrbsResync lane s
  | .leafSyncChange port sync => Sys2Proof.Machine.execLeafSyncChange port sync s
  | .leafFrame port violation bytes => Sys2Proof.Machine.execLeafFrame port violation bytes s
  | .leafTimeout port => Sys2Proof.Machine.execLeafTimeout port s
  | .streamFrameReceive port lseq full bytes => Sys2Proof.Machine.execStreamFrameReceive port lseq full bytes s
  | .triggerFrameReceive port lseq bytes => Sys2Proof.Machine.execTriggerFrameReceive port lseq bytes s
  | .claimFrameReceive port lseq bytes => Sys2Proof.Machine.execClaimFrameReceive port lseq bytes s
  | .helloReceive port lseq bytes => Sys2Proof.Machine.execHelloReceive port lseq bytes s
  | .unknownFrameReceive port lseq bytes => Sys2Proof.Machine.execUnknownFrameReceive port lseq bytes s
  | .linkAck port lseq => Sys2Proof.Machine.execLinkAck port lseq s
  | .linkNak port lseq count => Sys2Proof.Machine.execLinkNak port lseq count s
  | .linkSkip port lseq => Sys2Proof.Machine.execLinkSkip port lseq s
  | .retransmitTimeout port => Sys2Proof.Machine.execRetransmitTimeout port s
  | .helloSend => Sys2Proof.Machine.execHelloSend s
  | .discProbeSend change => Sys2Proof.Machine.execDiscProbeSend change s
  | .discFrameReceive port lseq bytes => Sys2Proof.Machine.execDiscFrameReceive port lseq bytes s
  | .discProbeTimeout port => Sys2Proof.Machine.execDiscProbeTimeout port s
  | .hubSilent hub => Sys2Proof.Machine.execHubSilent hub s
  | .uplinkSyncGain port => Sys2Proof.Machine.execUplinkSyncGain port s
  | .uplinkSyncLoss port => Sys2Proof.Machine.execUplinkSyncLoss port s
  | .slice port first event bytes => Sys2Proof.Machine.execSlice port first event bytes s
  | .podTickBlock port bytes => Sys2Proof.Machine.execPodTickBlock port bytes s
  | .podTickMiss port => Sys2Proof.Machine.execPodTickMiss port s
  | .echo port rtt => Sys2Proof.Machine.execEcho port rtt s
  | .podResponse port bytes => Sys2Proof.Machine.execPodResponse port bytes s
  | .podCmdTimeout port => Sys2Proof.Machine.execPodCmdTimeout port s
  | .podConfigResend port => Sys2Proof.Machine.execPodConfigResend port s
  | .podBind port => Sys2Proof.Machine.execPodBind port s
  | .podNoload port => Sys2Proof.Machine.execPodNoload port s
  | .podOvercurrent port => Sys2Proof.Machine.execPodOvercurrent port s
  | .podOcRetry port => Sys2Proof.Machine.execPodOcRetry port s
  | .podPowerOn port => Sys2Proof.Machine.execPodPowerOn port s
  | .partnerTimeout o index => Sys2Proof.Machine.execPartnerTimeout o index s
  | .outputFault o => Sys2Proof.Machine.execOutputFault o s
  | .staleTimeout q => Sys2Proof.Machine.execStaleTimeout q s
  | .resetNDeassert boot => Sys2Proof.Machine.execResetNDeassert boot s
  | .xtalRestored => Sys2Proof.Machine.execXtalRestored s
  | .perstDeassert => Sys2Proof.Machine.execPerstDeassert s
  | .pcieLinkUp width speed => Sys2Proof.Machine.execPcieLinkUp width speed s
  | .dmaResume d3 => Sys2Proof.Machine.execDmaResume d3 s
  | .amSend port => Sys2Proof.Machine.execAmSend port s
  | .fldPowerCycleEnd port => Sys2Proof.Machine.execFldPowerCycleEnd port s
  | .tapUpdateIr op => Sys2Proof.Machine.execTapUpdateIr op s
  | .captureMemoryWrite addr => Sys2Proof.Machine.execCaptureMemoryWrite addr s
  | .reservedRead path addr size => Sys2Proof.Machine.execReservedRead path addr size s
  | .refinPresenceLoss => Sys2Proof.Machine.execRefinPresenceLoss s

end Sys2Proof.Machine
end

