-- ==== Sys2Proof/Safety.lean ====
section
/-! DEFINITION. What the statements speak of: legal states and moves (R149, R155), the canonical form of the byte memories,
a command record that is new to this hub (R161 to R169), and a state that differs from another in listed registers only. -/

namespace Sys2Proof.Machine

/-- A code of GLB_STATE.STATE that R149 assigns. -/
def legalState (st : Nat) : Bool := decide (st ≤ 6)

/-- From `old` the hub is in `new` after one command: it stays, makes a move of R155 between the states from HELD on, leaves
BOOT for HELD, is reset to BOOT, leaves OFF for BOOT, or loses power. -/
def stateMove (old new : Nat) : Bool :=
  old == new || legalMove old new || (old == stBoot && new == stHeld) || (new == stBoot) || new == stOff

/-- The byte memories of the hub are in canonical form: both banks, the log's memory and capture memory. -/
def State.memOk (s : State) : Bool :=
  Memory.wf s.banks.stby && Memory.wf s.banks.actBytes && Memory.wf s.silt.mram && Memory.wf s.cap.mem

/-- A record of this sender executes here and now: the hub is in a state from HELD on, SOURCE_ID and TARGET are legal, the record is
for this hub, and no record of this source with this REQUEST_ID has been executed (R161, R163, R169, R531). -/
def State.fresh (s : State) (o : Origin) : Bool :=
  s.mapOpen && legalState s.hubState && decide (1 ≤ o.source) && decide (o.source < 0xFFFF) && (decide (o.target < 0x80) || o.target == 0xFE || o.target == 0xFF)
    && !s.isRelayed o && (s.seq.dup.find? fun e => e.source == o.source && e.request == o.request).isNone

/-- Registers of two families never share an address: their ranges are apart, or they interleave with one stride. -/
def RegDef.disjoint (r q : RegDef) : Bool :=
  decide (r.base + r.s1 * (r.n1 - 1) + r.s2 * (r.n2 - 1) < q.base) || decide (q.base + q.s1 * (q.n1 - 1) + q.s2 * (q.n2 - 1) < r.base)
    || (decide (0 < r.s1) && r.s1 == q.s1 && r.s2 == 0 && q.s2 == 0 && r.base % r.s1 != q.base % q.s1)

/-- The two fields share no bit of any register. -/
def Field.indep (f g : Field) : Bool :=
  f.reg.disjoint g.reg || (f.reg == g.reg && (decide (g.lsb + g.width ≤ f.lsb) || decide (f.lsb + f.width ≤ g.lsb)))

/-- `t` is `s` but for the registers at the listed addresses. -/
def RegsOnly (l : List Nat) (s t : State) : Prop :=
  t = { s with regs := t.regs } ∧ ∀ a, a ∉ l → tabGet t.regs 0 a = tabGet s.regs 0 a

/-- What a reset of any kind leaves (R664, R667 to R669): the hub is in the named state, the Pattern, the frame counter, the
duplicate table and the staged events are gone, and the key slots, the log's memory and the non-volatile registers stay. -/
def resetLeaves (s t : State) (st : Nat) : Prop :=
  t.hubState = st ∧ t.banks.act = none ∧ t.banks.stbyState = .empty ∧ t.seq.counter = false ∧ t.seq.dup = [] ∧ t.seq.waiting = [] ∧
  t.silt.fifo = [] ∧ t.silt.mram = s.silt.mram ∧ t.banks.keys = s.banks.keys ∧ t.cap.mem = [] ∧
  t.rd Reg.PAT_SIGN_CFG = s.rd Reg.PAT_SIGN_CFG ∧ t.rd Reg.PAT_MIN_SERIAL = s.rd Reg.PAT_MIN_SERIAL ∧
  t.rd Reg.PAT_KEY_STAT = s.rd Reg.PAT_KEY_STAT

end Sys2Proof.Machine
end

