-- ==== Sys2Proof/Certificates/Slice0/Obligations.lean ====
section
/-! DEFINITION. The statements for the provers: the machine as a whole, the shared operations, and every family of commands
with the state that each touches. A statement that gives a row's next state as an equation says with it everything that the row
changes and that nothing else changes; PutFieldEffectAndFrame and NoticeLogAndSafeCauseEffects say what the operations in such
an equation do. -/

open Sys2Proof Sys2Proof.Machine

/-! ## The machine as a whole -/
/-- A step runs the command at the front of the queue on the state with the queue's rest. -/
def Obligations.StepRunsFrontCommand : Prop :=
  ∀ (c : Instr) (rest : List Instr) (s : State),
    step { s with pending := c :: rest } = exec c { s with pending := rest }

/-- With no command waiting, a step is one edge of the 500 MHz time clock (the model's choice, log entry 21): operating time
grows by 2 ns, both domain counters move by their increments, and no register changes but TIM_STAT (SLEWING). -/
def Obligations.EmptyQueueStepIsOneClockEdge : Prop :=
  ∀ s : State, s.pending = [] → ∃ t, step s = .next t ∧ t.silt.opNs = s.silt.opNs + 2
    ∧ t.time.doms = [{ s.dom 0 with t := addTu (s.dom 0).t (s.dom 0).inc }, { s.dom 1 with t := addTu (s.dom 1).t (s.dom 1).inc }]
    ∧ (s.time.follow = none → t.time.l = addTu s.time.l s.time.incL)
    ∧ t = { s with regs := t.regs, time := t.time, silt := { s.silt with opNs := s.silt.opNs + 2 } }
    ∧ ∀ a, a ≠ Reg.TIM_STAT.base → tabGet t.regs 0 a = tabGet s.regs 0 a

/-- Every command answers a next state in every state, so the model has no fault and no refusal that a command reaches, and it
leaves the commands that wait in the queue as they are. -/
def Obligations.EveryCommandAnswersNext : Prop :=
  ∀ (c : Instr) (s : State), ∃ t, exec c s = .next t ∧ t.pending = s.pending

/-- After reset the hub is in BOOT, no Pattern is active and the standby bank is EMPTY, no frame counter exists, the duplicate
table is empty and no command waits (R149, R99, R31, R169). -/
def Obligations.ResetState : Prop :=
  State.reset.hubState = stBoot ∧ State.reset.banks.act = none ∧ State.reset.banks.stbyState = .empty ∧
  State.reset.seq.counter = false ∧ State.reset.seq.frame = 0 ∧ State.reset.seq.dup = [] ∧ State.reset.seq.waiting = [] ∧
  State.reset.pending = [] ∧ State.reset.get Fld.GLB_ID.PART = 0x9608 ∧ State.reset4804.get Fld.GLB_ID.PART = 0x4804 ∧
  State.reset.get Fld.RING_STAT.HUB_ID = 0xFF ∧ State.reset.get Fld.SLT_LIFE_HEAD.HEAD = 0 ∧ State.reset.free = 0

/-- The states of both parts after reset meet the invariants that the statements below keep: a state code that R149 assigns and
byte memories in canonical form. -/
def Obligations.ResetMeetsInvariants : Prop :=
  legalState State.reset.hubState = true ∧ State.reset.memOk = true ∧
  legalState State.reset4804.hubState = true ∧ State.reset4804.memOk = true

/-- One step keeps the hub's state code among those that R149 assigns, and moves it only as R155 permits: out of BOOT to HELD,
between the states from HELD on by a transition of R155, to BOOT by a reset, and to OFF by loss of power. -/
def Obligations.HubStateMovesOnlyAsListed : Prop :=
  ∀ s t : State, step s = .next t → legalState s.hubState = true →
    legalState t.hubState = true ∧ stateMove s.hubState t.hubState = true

/-- One step keeps the canonical form of every byte memory: both Pattern banks, the silt log and capture memory. -/
def Obligations.StepKeepsMemoriesCanonical : Prop :=
  ∀ s t : State, step s = .next t → s.memOk = true → t.memOk = true

/-- The one-time bits of PAT_SIGN_CFG never clear (R97), and PAT_MIN_SERIAL never falls (R96), whatever command runs. -/
def Obligations.OneTimeValuesNeverGoBack : Prop :=
  ∀ (c : Instr) (s t : State), exec c s = .next t →
    (∀ k, (s.rd Reg.PAT_SIGN_CFG).getLsbD k = true → (t.rd Reg.PAT_SIGN_CFG).getLsbD k = true) ∧
    s.get Fld.PAT_MIN_SERIAL.MIN_SERIAL ≤ t.get Fld.PAT_MIN_SERIAL.MIN_SERIAL


/-! ## Shared operations -/
/-- A field that is put reads back cut to its width; fields that share no bit with it keep their value, and nothing but the
field's register changes. -/
def Obligations.PutFieldEffectAndFrame : Prop :=
  ∀ (s : State) (f : Field) (v i j : Nat), f.lsb + f.width ≤ 32 → f.reg.has i j = true →
    (s.put f v i j).get f i j = v % 2 ^ f.width ∧
    (∀ (g : Field) (a b : Nat), f.indep g = true → (s.put f v i j).get g a b = s.get g a b) ∧
    RegsOnly [f.reg.at i j] s (s.put f v i j)

/-- What a software write leaves in a register, bit by bit (R5): a W1C bit clears and a W1S bit sets where a 1 is written and
stays where a 0 is; a RW or RWH bit takes the value; a RWL bit takes it outside RUN; any other bit stays. -/
def Obligations.AccessCodesBitByBit : Prop :=
  ∀ (r : RegDef) (inRun : Bool) (old v : Word) (k : Nat), k < 32 →
    let has := fun (m : Nat) => m.testBit k
    let new := (writeCodes r inRun old v).getLsbD k
    (has r.w1c = true → has r.w1s = false → has r.rw = false → has r.rwl = false → new = (old.getLsbD k && !v.getLsbD k)) ∧
    (has r.w1s = true → has r.w1c = false → has r.rw = false → has r.rwl = false → new = (old.getLsbD k || v.getLsbD k)) ∧
    (has r.rw = true → has r.w1c = false → has r.w1s = false → new = v.getLsbD k) ∧
    (has r.rwl = true → has r.rw = false → has r.w1c = false → has r.w1s = false →
      new = if inRun then old.getLsbD k else v.getLsbD k) ∧
    (has r.rw = false → has r.rwl = false → has r.w1c = false → has r.w1s = false → new = old.getLsbD k)

/-- R9: a write to a register with RWL fields while the hub is in RUN leaves every RWL bit as it was and sets
GLB_ACC_STAT.RWL_DROP. Nothing but that register and GLB_ACC_STAT changes, so no write is queued for a later state; and
where no other field can be written the register keeps its value. -/
def Obligations.LockedFieldWriteInRunIsDropped : Prop :=
  ∀ (s : State) (r : RegDef) (v i j : Nat), s.hubState = stRun → r.rwl ≠ 0 → r.has i j = true →
    r.disjoint Reg.GLB_ACC_STAT = true →
    (s.writeByCode r v i j).get Fld.GLB_ACC_STAT.RWL_DROP = 1 ∧
    (∀ k, k < 32 → r.rwl.testBit k = true → r.rw.testBit k = false → r.w1c.testBit k = false → r.w1s.testBit k = false →
      ((s.writeByCode r v i j).rd r i j).getLsbD k = (s.rd r i j).getLsbD k) ∧
    (r.rw = 0 → r.w1c = 0 → r.w1s = 0 → (s.writeByCode r v i j).rd r i j = s.rd r i j) ∧
    RegsOnly [r.at i j, Reg.GLB_ACC_STAT.base] s (s.writeByCode r v i j)

/-- A byte of a byte memory after a byte list is stored (unlisted bytes read 0), and the canonical form is kept. -/
def Obligations.MemoryReadAfterWrite : Prop :=
  ∀ (m : Memory) (a b : Nat) (bs : List Byte), Memory.wf m = true →
    Memory.wf (Memory.writeN m a bs) = true ∧
    Memory.read (Memory.writeN m a bs) b = if a ≤ b ∧ b < a + bs.length then bs.getD (b - a) 0 else Memory.read m b

/-- Raising a notice source sets its pending bit; a source already pending changes nothing; nothing but the pending word, the
MSI-X messages and their PBA and the owed ring notice changes (R581, R582). An event of the silt log changes the log's
registers and staging only; with room in the FIFO and a busy writer it is staged behind those that wait (R626, R639). A safe
cause latches in GLB_SAFE_CAUSE; in ARMED and RUN the hub is due for SAFE at the next tick, and elsewhere the cause is only
recorded (R155, R183). -/
def Obligations.NoticeLogAndSafeCauseEffects : Prop :=
  (∀ (s : State) (i : Nat), i < 109 →
     (s.raise i).pendingBit i = true ∧ (s.pendingBit i = true → s.raise i = s) ∧
     (∀ k, k ≠ i → k < 109 → (s.raise i).pendingBit k = s.pendingBit k) ∧
     s.raise i = { s with regs := (s.raise i).regs, host := (s.raise i).host } ∧
     ∀ a, a ≠ Reg.DMA_NPENDj.at (i / 32) 0 → tabGet (s.raise i).regs 0 a = tabGet s.regs 0 a) ∧
  (∀ (s : State) (code : Nat) (data : List Byte),
     s.stage code data = { s with regs := (s.stage code data).regs, silt := (s.stage code data).silt } ∧
     (∀ a, a < 0x280000 ∨ 0x281000 ≤ a → tabGet (s.stage code data).regs 0 a = tabGet s.regs 0 a) ∧
     (s.is Fld.SLT_STAT.PFAIL = false → s.is Fld.SLT_STAT.FULL = false → s.silt.job.isSome = true → s.silt.fifo.length < 64 →
       (s.stage code data).silt.fifo = s.silt.fifo ++ [s.siltEvent code data])) ∧
  (∀ (s : State) (b : Nat), b < 8 →
     bit ((s.safeCause b).get Fld.GLB_SAFE_CAUSE.CAUSE) b = true ∧
     (s.hubState = stArmed ∨ s.hubState = stRun →
       { target := stSafe, frame := s.seq.frame + 1, rank := 1 } ∈ (s.safeCause b).seq.due) ∧
     (s.hubState ≠ stArmed → s.hubState ≠ stRun → (s.safeCause b).seq.due = s.seq.due) ∧
     (s.safeCause b).hubState = s.hubState ∧
     s.safeCause b = { s with regs := (s.safeCause b).regs, seq := (s.safeCause b).seq } ∧
     ∀ a, a ≠ Reg.GLB_SAFE_CAUSE.base → tabGet (s.safeCause b).regs 0 a = tabGet s.regs 0 a)


/-! ## Register accesses -/
/-- Rows whose register write needs the register map: in OFF and BOOT they change nothing (R671). -/
def Obligations.ClosedMapIgnoresRegisterRows : Prop :=
  ∀ (s : State) (k v : Nat) (on : Bool) (bs : List Byte) (ds : List Descriptor), s.mapOpen = false →
    exec .supCntClr s = .next s ∧ exec .sltCntClr s = .next s ∧ exec .ringCntClr s = .next s ∧ exec (.fldCntClr k) s = .next s ∧
    exec (.laneCntClr k) s = .next s ∧ exec (.lanePrbsClr k) s = .next s ∧ exec (.loopCntClr k) s = .next s ∧
    exec (.queCntClr k) s = .next s ∧ exec (.wmxClear k) s = .next s ∧ exec (.sluCntClr k) s = .next s ∧
    exec (.wrgCntClr k) s = .next s ∧ exec (.patWdataWrite v) s = .next s ∧ exec (.standbyWindowWrite k bs) s = .next s ∧
    exec (.calCtrlSuspend on) s = .next s ∧ exec (.capCtrlArm k) s = .next s ∧ exec (.capCtrlAbort k) s = .next s ∧
    exec (.loopCmdWrite k v) s = .next s ∧ exec (.loopCmdFifoPush k v) s = .next s ∧ exec (.loopFifoFlush k) s = .next s ∧
    exec (.queCtrlFlush k) s = .next s ∧ exec (.watermarkWrite k on v) s = .next s ∧ exec (.dmaRingEnable k v) s = .next s ∧
    exec (.dmaRingDisable k) s = .next s ∧ exec (.dmaTailWrite k v ds) s = .next s ∧ exec (.wrgCtrlCut k) s = .next s ∧
    exec (.wrgCtrlAbort k) s = .next s

/-- Rows that clear counters (R462, R490, R493, R565, R577, R596, R618, R639, R656): with the map open each clears the counters
that its rule names, of instance k, and changes nothing else. RING_CNT_CLR sets every saturating count of the RING block to
0 (R535), changes registers only, and leaves the wrapping counts RELAY_CNT, DUP_CNT and RETURN. -/
def Obligations.CounterClearRows : Prop :=
  (∀ (s : State) (k : Nat), s.mapOpen = true →
     exec .supCntClr s = .next ((s.wr Reg.SUP_SD_CNT 0).wr Reg.SUP_QCNT 0) ∧
     exec .sltCntClr s = .next ((s.wr Reg.SLT_ECC 0).wr Reg.SLT_FIFO_MAX 0) ∧
     exec (.fldCntClr k) s = .next (((s.wr Reg.FLD_Pp_CNT 0 k).put Fld.FLD_Pp_CNT2.OC_CNT 0 k).put Fld.FLD_Pp_CNT2.RANGE_ERR 0 k) ∧
     exec (.laneCntClr k) s =
       .next (((s.wr Reg.LANE_Ln_ERR 0 k).put Fld.LANE_Ln_WIN.DROP_CNT 0 k).put Fld.LANE_Ln_RETR.RETRAIN_CNT 0 k) ∧
     exec (.lanePrbsClr k) s = .next ((s.wr Reg.LANE_Ln_PRBS_ERR 0 k).wr Reg.LANE_Ln_PRBS_BITS 0 k) ∧
     exec (.loopCntClr k) s = .next ((s.wr Reg.LOOP_Sn_CNT 0 k).wr Reg.LOOP_Sn_CNT2 0 k) ∧
     exec (.queCntClr k) s = .next ((s.wr Reg.QUE_Qq_CNT 0 k).wr Reg.QUE_Qq_CNT2 0 k) ∧
     exec (.wmxClear k) s = .next ((s.put Fld.QUE_Qq_WMSTAT.WMX 0 k).put Fld.QUE_Qq_WMSTAT.XCNT 0 k) ∧
     exec (.sluCntClr k) s = .next ((s.wr Reg.SLU_Oo_CNT 0 k).wr Reg.SLU_Oo_CNT2 0 k) ∧
     exec (.wrgCntClr k) s = .next ((s.put Fld.WRG_Cj_CNT.FAIL_CNT 0 k).wr Reg.WRG_Cj_LOST 0 k)) ∧
  (∀ s : State, s.mapOpen = true → ∃ t, exec .ringCntClr s = .next t ∧
     t.get Fld.RING_MGMT.TIMEOUT_CNT = 0 ∧ t.get Fld.RING_MISC.TTL_CNT = 0 ∧ t.get Fld.RING_MISC.UNKNOWN_CNT = 0 ∧
     (∀ p < 2, t.rd Reg.RING_Pp_ERR p = 0 ∧ t.rd Reg.RING_Pp_RETX p = 0 ∧ t.rd Reg.RING_Pp_OVR p = 0 ∧ t.rd Reg.RING_Pp_CAP p = 0 ∧
       t.get Fld.RING_Pp_RET.NAK_TX p = 0 ∧ t.get Fld.RING_Pp_RET.RETURN p = s.get Fld.RING_Pp_RET.RETURN p) ∧
     (∀ k < 64, t.get Fld.RING_STRs_CNT.CAP_DROP k = 0) ∧
     (∀ u ∈ s.units cSUBSCRIBE, u.inst < 4096 → t.rd Reg.RING_CFk_LOSS u.inst = 0) ∧
     t.get Fld.RING_MGMT.RELAY_CNT = s.get Fld.RING_MGMT.RELAY_CNT ∧ t.get Fld.RING_MISC.DUP_CNT = s.get Fld.RING_MISC.DUP_CNT ∧
     t = { s with regs := t.regs } ∧ ∀ a, a < 0x180000 ∨ 0x1C0000 ≤ a → tabGet t.regs 0 a = tabGet s.regs 0 a)

/-- UNIT_CTRL and UNIT_STAT of a unit that is no patch (R144, R147): CNT_CLR clears UNIT_CNT, WORST_CLR clears WORST, and a 1 in
a W1C flag clears it. PATCH_STATUS_CLEAR at a patch clears the named flags in every unit inside it (R144). -/
def Obligations.UnitBlockRows : Prop :=
  (∀ (s : State) (id v : Nat) (u : PatUnit), s.mapOpen = true → s.unitId id = some u → u.cls ≠ cPATCH →
     exec (.unitCntClr id) s = .next (s.uWord Reg.UNIT_CNT u.id 0) ∧
     exec (.unitWorstClr id) s = .next (s.uPut Fld.UNIT_CYCLES.WORST 0 u.id) ∧
     exec (.patchStatusClear id v) s =
       .next (s.uWord Reg.UNIT_STAT u.id (s.rawWord u.id 8 - (s.rawWord u.id 8 &&& v &&& 0x3C)))) ∧
  (∀ (s : State) (id v : Nat) (u : PatUnit), s.mapOpen = true → s.unitId id = some u → u.cls = cPATCH →
     exec (.patchStatusClear id v) s = .next (s.forEach (s.patUnits.filter fun w => w.cls != cPATCH && insideOf s.patUnits id 64 w)
       fun w s => s.uWord Reg.UNIT_STAT w.id (s.rawWord w.id 8 - (s.rawWord w.id 8 &&& v &&& 0x3C))))

/-- A write to the standby window (R98, R100, R101): in a bank state other than CHECKING and SCHEDULED the bytes are stored, the
bank is WRITING (emptied first where it was not), WLEN covers the highest byte written, and PAT_WADDR moves on after
PAT_WDATA; in CHECKING and SCHEDULED the write is dropped and flagged. Capture memory cannot be written: the write is
counted (R409). PAT_SIGN_CFG (R97): in MAINT a write of 1 to a clear bit sets it and writes a SIGN_CFG record; outside MAINT
the bit keeps its value and RWL_DROP is set. -/
def Obligations.BankAndSignCfgRows : Prop :=
  (∀ (s : State) (off v : Nat) (bs : List Byte), s.mapOpen = true → off + bs.length ≤ 2 ^ 24 →
     let a := s.get Fld.PAT_WADDR.ADDR
     (s.banks.stbyState = .writing →
       exec (.standbyWindowWrite off bs) s = .next
         (({ s with banks.stby := Memory.writeN s.banks.stby off bs, banks.wlen := max s.banks.wlen (off + bs.length) } : State).put
           Fld.PAT_WLEN.WLEN (max s.banks.wlen (off + bs.length))) ∧
       exec (.patWdataWrite v) s = .next
         ((({ s with banks.stby := Memory.writeN s.banks.stby (4 * a) (leBytes 4 v), banks.wlen := max s.banks.wlen (4 * a + 4) }
           : State).put Fld.PAT_WLEN.WLEN (max s.banks.wlen (4 * a + 4))).put Fld.PAT_WADDR.ADDR (a + 1))) ∧
     (s.banks.stbyState = .empty ∨ s.banks.stbyState = .checked ∨ s.banks.stbyState = .rejected ∨ s.banks.stbyState = .previous →
       let u := ({ s with banks.stby := [], banks.wlen := 0, banks.stbyPat := none } : State).bankTo .writing
       exec (.standbyWindowWrite off bs) s = .next
         (({ u with banks.stby := Memory.writeN [] off bs, banks.wlen := off + bs.length } : State).put Fld.PAT_WLEN.WLEN
           (off + bs.length)) ∧
       exec (.patWdataWrite v) s = .next
         ((({ u with banks.stby := Memory.writeN [] (4 * a) (leBytes 4 v), banks.wlen := 4 * a + 4 } : State).put
           Fld.PAT_WLEN.WLEN (4 * a + 4)).put Fld.PAT_WADDR.ADDR (a + 1))) ∧
     (s.banks.stbyState = .checking ∨ s.banks.stbyState = .scheduled →
       exec (.standbyWindowWrite off bs) s = .next (s.put Fld.PAT_STAT.WR_DROP 1) ∧
       exec (.patWdataWrite v) s = .next ((s.put Fld.PAT_STAT.WR_DROP 1).put Fld.PAT_WADDR.ADDR (a + 1))) ∧
     ∀ addr, addr < s.stbyBase ∨ s.stbyBase + 2 ^ 24 ≤ addr → exec (.captureMemoryWrite addr) s = .next (s.sat Fld.CAP_STAT.WDROP)) ∧
  (∀ (s : State) (p : Path), s.mapOpen = true →
     let w := s.readByCode Reg.PAT_SIGN_CFG
     (s.hubState = stMaint → s.rd Reg.PAT_SIGN_CFG = 0 →
       exec (.signCfgRequireSet p) s = .next ((s.wr Reg.PAT_SIGN_CFG 1).stage 0x0204
         (leBytes 1 1 ++ leBytes 4 (s.get Fld.PAT_MIN_SERIAL.MIN_SERIAL))) ∧
       exec (.signCfgAntirollbackSet p) s = .next ((s.wr Reg.PAT_SIGN_CFG 2).stage 0x0204
         (leBytes 1 2 ++ leBytes 4 (s.get Fld.PAT_MIN_SERIAL.MIN_SERIAL)))) ∧
     (s.hubState = stMaint → w ||| 1 = w → exec (.signCfgRequireSet p) s = .next s) ∧
     (s.hubState = stMaint → w ||| 2 = w → exec (.signCfgAntirollbackSet p) s = .next s) ∧
     (s.hubState ≠ stMaint → exec (.signCfgRequireSet p) s = .next (s.put Fld.GLB_ACC_STAT.RWL_DROP 1) ∧
       exec (.signCfgAntirollbackSet p) s = .next (s.put Fld.GLB_ACC_STAT.RWL_DROP 1)))

/-- A write through a path of an ordinary register, one whose block gives it no rule of its own: its access codes decide what it
leaves (R5, R715). The register is one of the interrupt sources' configuration words. An access to a reserved address reads
0 or discards the write, and sets RSVD_ACC, whichever path makes it; in OFF nothing answers (R671, R720). SPI transactions
(R593): an aligned write of one whole word is a register write; a transaction cut short sets PARTIAL; an unaligned address
aborts and sets ALIGN and RSVD_ACC; STATUS returns and clears both flags; an unknown command byte is answered with zeros and
changes nothing else. -/
def Obligations.RegisterAccessRows : Prop :=
  (∀ (s : State) (p : Path) (i v : Nat), s.mapOpen = true → i < 109 → v < 2 ^ 32 →
     exec (.registerWrite p (Reg.DMA_NSRCi.at i 0) v) s = .next (s.writeByCode Reg.DMA_NSRCi v i)) ∧
  (∀ (s : State) (p : Path) (a size v : Nat), inMbx a = false → inMsix a = false → a < 0x400000 → regAt a = none →
     (s.mapOpen = true → size = 4 ∨ size = 1 ∨ size = 2 ∨ size = 8 →
       exec (.reservedRead p a size) s = .next { s.put Fld.GLB_ACC_STAT.RSVD_ACC 1 with host.readData := [0] } ∧
       exec (.registerWrite p a v) s = .next (s.put Fld.GLB_ACC_STAT.RSVD_ACC 1)) ∧
     (s.hubState = stOff → exec (.reservedRead p a size) s = .next { s with host.readData := [0] } ∧
       exec (.registerWrite p a v) s = .next s)) ∧
  (∀ (s : State) (a v n wait : Nat), s.hubState ≠ stOff → a < 2 ^ 32 → v < 2 ^ 32 →
     let out := fun (k : Nat) => { s with host.miso := List.replicate k 0 }
     (a % 4 = 0 → exec (.spiWrite (leBytes 4 a ++ leBytes 4 v)) s = .next ((out 9).busWrite .spi a v).2) ∧
     (a % 4 ≠ 0 → exec (.spiWrite (leBytes 4 a ++ leBytes 4 v)) s = .next { (out 9).reservedHit with host.spiAlign := true }) ∧
     (∀ bytes, bytes.length < 4 → exec (.spiWrite bytes) s = .next { out (bytes.length + 1) with host.spiPartial := true }) ∧
     (a % 4 = 0 → exec (.spiRead a 1 wait) s = .next { (s.busRead .spi a).2.2 with
       host.miso := List.replicate (5 + wait) 0 ++ [0xA5] ++ leBytes 4 (s.busRead .spi a).1 }) ∧
     (a % 4 ≠ 0 → exec (.spiRead a 1 wait) s = .next { s.reservedHit with host.spiAlign := true, host.miso := List.replicate 5 0 }) ∧
     exec .spiStatus s = .next { s with
       host.miso := [0] ++ leBytes 1 (b2n s.irqN + 2 * b2n s.host.spiPartial + 4 * b2n s.host.spiAlign)
       host.spiPartial := false, host.spiAlign := false } ∧
     exec (.spiUnknownCommand n) s = .next (out n))

/-- A read of GLB_FRAME_LO returns the low half of the frame counter and latches the high half for its path; a read of
TIM_L_S_LO latches the three time groups for its path (R31, R367, R719). A read of LOOP_Sn_INT_LO returns the low half of
the integrator and latches the high half for its path (R718, R719). A pop of a TDC FIFO removes the oldest entry, returns
its first word and latches the others for its path; an empty FIFO returns zeros (R384). A read of FLD_Pp_ISNS returns the
register and restarts PEAK (R718). -/
def Obligations.LatchingAndDestructiveReads : Prop :=
  (∀ (s : State) (p : Path), s.mapOpen = true →
     (s.seq.counter = true → exec (.glbFrameLoRead p) s = .next
       { s.setBank p { s.bank p with frameHi := s.seq.frame / 2 ^ 32 % 2 ^ 16 } with host.readData := [s.seq.frame % 2 ^ 32] }) ∧
     (s.seq.counter = false → exec (.glbFrameLoRead p) s = .next
       { s.setBank p { s.bank p with frameHi := 0 } with host.readData := [0] }) ∧
     exec (.timLRead p) s = .next
       { s.setBank p { s.bank p with timL := s.time.l, timA := (s.dom 0).t, timB := (s.dom 1).t } with
         host.readData := [s.time.l.s % 2 ^ 32] }) ∧
  (∀ (s : State) (p : Path) (k : Nat), s.mapOpen = true → k < 64 → s.fused Reg.LOOP_Sn_INT_LO k = false →
     let x := unsigned 64 (s.slot k).int
     exec (.loopIntRead p k) s = .next
       { s.setBank p { s.bank p with loopIntHi := tabSet (s.bank p).loopIntHi k (x / 2 ^ 32) } with
         host.readData := [x % 2 ^ 32] }) ∧
  (∀ (s : State) (p : Path) (k : Nat), s.mapOpen = true → k < 16 →
     ((s.tdcIn k).fifo = [] → exec (.tdcFifoPop p k) s = .next
       { s.setBank p { s.bank p with tdcW := tabSet (s.bank p).tdcW k [0, 0, 0] } with host.readData := [0] }) ∧
     (∀ e rest, (s.tdcIn k).fifo = e :: rest → ∃ t w1 w2 w3, exec (.tdcFifoPop p k) s = .next t ∧
       (t.tdcIn k).fifo = rest ∧ t.host.readData = [e.result % 2 ^ 32] ∧ tabGet (t.bank p).tdcW [] k = [w1, w2, w3] ∧
       w1 = e.result / 2 ^ 32 % 2 ^ 32 ∧ w2 = e.m % 2 ^ 32 ∧ w3 % 2 ^ 24 = e.count % 2 ^ 24 ∧ bit w3 31 = true ∧ bit w3 30 = e.pol) ∧
     (s.fused Reg.FLD_Pp_ISNS k = false → exec (.fldIsnsRead p k) s = .next
       { s.put Fld.FLD_Pp_ISNS.PEAK 0 k with host.readData := [s.readByCode Reg.FLD_Pp_ISNS k] }))


/-! ## Front end and converters -/
/-- Rows that write AFE_CHn_CTRL of a channel that the part has (R194, R211, R226): RANGE_HOLD takes the written value and, at
1, cancels a pending step down; CNT_CLR clears the range counts; EXC_RETRY retries a driver that is off for overcurrent.
Overloads (R193, R195, R232): an overloaded period flags and counts the modulator and CLIP; a common-mode overload flags
CM_OVR. The period is kept on the chain. Excitation drivers (R210, R211): the end of a ramp resets the chain with cause 0x3;
an overcurrent of 1 ms turns the driver off and confirms a break with cause EXC_OC; a driver that is off for overcurrent
retries with a ramp. The end of a modulator's run-in resets the chain with cause 0x2 (R229). -/
def Obligations.FrontEndRows : Prop :=
  (∀ (s : State) (ch : Nat), s.mapOpen = true → ch < 100 → s.fused Reg.AFE_CHn_CTRL ch = false →
     let held := s.get Fld.AFE_CHn_CTRL.RANGE_HOLD ch
     let kept := (s.put Fld.AFE_CHn_CTRL.RANGE_HOLD held ch).when (held == 1) fun s => s.put Fld.AFE_CHn_STAT.DOWN_PEND 0 ch
     (∀ on : Bool, exec (.rangeHoldWrite ch on) s =
       .next ((s.put Fld.AFE_CHn_CTRL.RANGE_HOLD (b2n on) ch).when on fun s => s.put Fld.AFE_CHn_STAT.DOWN_PEND 0 ch)) ∧
     exec (.afeCntClr ch) s = .next ((kept.put Fld.AFE_CHn_RCNT.UP_CNT 0 ch).put Fld.AFE_CHn_RCNT.DOWN_CNT 0 ch) ∧
     exec (.afeExcRetry ch) s = .next (kept.excRetry ch) ∧
     ((s.chan ch).drive = .ocOff → (kept.setChan ch { s.chan ch with ocBreak := false }).excWanted ch = true →
       exec (.afeExcRetry ch) s = .next ((kept.setChan ch { s.chan ch with ocBreak := false }).excRamp ch))) ∧
  (∀ (s : State) (ch j : Nat), ch < 100 →
     let k := s.seq.frame * s.nPer + j
     (∃ t, exec (.modulatorOverload ch j true) s = .next t ∧ t.get Fld.SAR_MODn_STAT.OVL ch = 1 ∧
       t.get Fld.SAR_MODn_STAT.OVL_SEEN ch = 1 ∧ t.get Fld.SAR_MODn_STAT.CLAMP ch = 1 ∧ t.get Fld.AFE_CHn_EVT.CLIP ch = 1 ∧
       ((k * 256 : Nat) : Int) ∈ (t.chain ch).ovl) ∧
     (∃ t, exec (.cmOverload ch j) s = .next t ∧ t.get Fld.AFE_CHn_STAT.CM_OVR ch = 1 ∧ t.get Fld.AFE_CHn_EVT.CM_OVR ch = 1 ∧
       (t.chan ch).cmoAt = some k ∧ ((k * 256 : Nat) : Int) ∈ (t.chain ch).ovl ∧
       t.get Fld.AFE_CHn_STAT.RANGE ch = s.get Fld.AFE_CHn_STAT.RANGE ch)) ∧
  (∀ (s : State) (ch : Nat),
     ((s.chan ch).drive = .ramping → exec (.excRampEnd ch) s = .next
       ((s.setChan ch { s.chan ch with drive := .on }).resetNext ch 3)) ∧
     exec (.excOvercurrentOff ch) s = .next
       ((((((s.setChan ch { s.chan ch with drive := .ocOff, ocBreak := true }).put Fld.AFE_CHn_STAT.EXC_ON 0 ch).put
         Fld.AFE_CHn_STAT.EXC_ILIM 0 ch).put Fld.AFE_CHn_STAT.EXC_OC 1 ch).put Fld.AFE_CHn_EVT.EXC_OC 1 ch).confirmBreak ch 2) ∧
     ((s.chan ch).drive = .ocOff → (s.setChan ch { s.chan ch with ocBreak := false }).excWanted ch = true →
       exec (.excRetryTimer ch) s = .next ((s.setChan ch { s.chan ch with ocBreak := false }).excRamp ch)) ∧
     (s.is Fld.SAR_MODn_STAT.RUNNING ch = true → (s.chan ch).runIn = false → exec (.modulatorRunInEnd ch) s = .next
       ((s.setChan ch { s.chan ch with runIn := true }).resetNext ch 2)))

/-- Observations of wires (R213 to R221): one channel's excitation observation shows the current limit and feeds the
open-circuit detector; a check at half a tick feeds the sense and signal detectors; after 2 L clean samples a confirmed
break is over. The modulator clock (R238, R641): loss of lock is flagged, recorded and a self-diagnosis failure; with lock
back every local chain resets with cause 0x5. COEF_PARITY_ERROR (R297) flags the set, poisons the words that were being
formed, and notes the chains whose next sample reads it. -/
def Obligations.WireAndClockRows : Prop :=
  (∀ (s : State) (k : Nat) (o : ExcObs) (w : WireObs),
     (s.wbOn o.ch = true → (s.chan o.ch).drive = .on → s.get Fld.AFE_CHn_EXC.MODE o.ch = 1 → o.iP.natAbs < s.get Fld.AFE_GLB_CFG.EXC_OPEN_UA →
       let t := s.put Fld.AFE_CHn_STAT.EXC_ILIM (b2n o.ilim) o.ch
       t.wbOn o.ch = true →
       exec (.excObservation k [o]) s = .next
         ((t.observe o.ch 0 ((t.ftPos s.seq.frame).toNat + k * 1572864 / 1000) true).put Fld.AFE_CHn_STAT.EXC_OPEN 1 o.ch)) ∧
     (w.ch < 96 → s.wbOn w.ch = true → s.is Fld.AFE_CHn_CFG.ADAPT_EN w.ch = false → s.is Fld.AFE_CHn_CFG.SIX_WIRE w.ch = false →
       ∃ t, exec (.wireCheck true [w]) s = .next t ∧ (t.chan w.ch).atFt = false ∧
         t.get Fld.AFE_CHn_STAT.SNS_OPEN_P w.ch = 0 ∧
         t.get Fld.AFE_CHn_STAT.SIG_OPEN_P w.ch = b2n (s.sigOut w.ch w.ainP w.excP w.excN) ∧
         t.get Fld.AFE_CHn_STAT.SIG_OPEN_N w.ch = b2n (s.sigOut w.ch w.ainN w.excP w.excN)) ∧
     (∀ ch, s.is Fld.AFE_CHn_STAT.WB_CONF ch = true → 2 * settleLen (s.get Fld.FLT_CHc_CFG.MODE ch) ≤ (s.chan ch).clean →
       exec (.wireRecover ch) s = .next
         (((((s.put Fld.AFE_CHn_STAT.WB_CONF 0 ch).put Fld.AFE_CHn_STAT.RECOVERING 0 ch).setChan ch { s.chan ch with clean := 0 }).put
           Fld.AFE_CHn_EVT.RECOVERED 1 ch).stage 0x0702 (leBytes 1 ch)))) ∧
  (∀ (s : State) (mode d : Nat) (nx : List Nat),
     exec .mclkLockLoss s = .next (((((s.put Fld.SAR_MCLK_STAT.LOCK 0).put Fld.SAR_MCLK_STAT.LOCK_LOST 1).put
       Fld.PMU_CLK_STAT.MOD 0).stage 0x0304 (leBytes 1 0)).selfDiag sdMCLK) ∧
     (∃ t, exec .mclkLockRegained s = .next t ∧ t.get Fld.SAR_MCLK_STAT.LOCK = 1 ∧ t.get Fld.PMU_CLK_STAT.MOD = 1 ∧
       t.get Fld.SAR_MCLK_STAT.RELOCK_CNT = satAdd Fld.SAR_MCLK_STAT.RELOCK_CNT.width (s.get Fld.SAR_MCLK_STAT.RELOCK_CNT) 1 ∧
       ∀ c ∈ s.localChains, (t.chain c).resets.contains 5 = true) ∧
     (tabGet? s.coef.lastErr (16 * mode + d) = none → exec (.coefParityError mode d [] nx) s = .next
       { s.put Fld.FLT_GLB_STAT.COEF_ERR 1 with
         coef.lastErr := tabSet s.coef.lastErr (16 * mode + d) s.seq.frame, coef.failed := s.coef.failed ++ nx }))

/-- Rows that write a control register of the filter engine, the auxiliary converter, the modulator bank and the TDC (R255,
R257, R259, R280, R296, R387). A calibration point of the auxiliary converter that may start starts (R255): the point and
its input are taken, the sum and the count are 0, BUSY is 1, and a zero point clears the earlier results of another input.
SAR_SCAL_POINT_DONE (R255): with 2^AVG_LOG2 words the mean of the point, rounded to nearest, is shown and BUSY falls.
AUX_CONVERSION_DONE (R242 to R248): a regular entry that is not the last stores its result and the next entry starts; the
start event of the injected sequence interrupts the regular one, and is missed while injected entries run. -/
def Obligations.ConverterRows : Prop :=
  (∀ (s : State) (c m k v : Nat), s.mapOpen = true → v < 2 ^ 32 →
     (c < 612 → s.fused Reg.FLT_CHc_CTRL c = false →
       (s.chainRuns c = true → exec (.fltSyncReset c) s = .next (s.resetNext c 8)) ∧
       exec (.fltCntClr c) s =
         .next (((s.wr Reg.FLT_CHc_CNT 0 c).put Fld.FLT_CHc_THRd.SET_CNT 0 c 0).put Fld.FLT_CHc_THRd.SET_CNT 0 c 1)) ∧
     (m < 16 → exec (.sarCoefWrite m false v) s = .next (s.writeByCode Reg.SAR_GAINm v m) ∧
       exec (.sarCoefWrite m true v) s = .next (s.writeByCode Reg.SAR_OFFm v m)) ∧
     exec .sarModCntClr s = .next (s.forEach (List.range 100) fun n s => s.put Fld.SAR_MODn_STAT.OVL_CNT 0 n) ∧
     exec (.sarScalStart v) s = .next (((s.writeByCode Reg.SAR_SCAL_CTRL (v % 2 ^ 16 + 2 ^ 16)).put Fld.SAR_SCAL_CTRL.AVG_LOG2
       (min 10 (field v 12 4))).scalStart) ∧
     (k < 16 → exec (.tdcFlush k) s = .next (s.setTdc k { s.tdcIn k with fifo := [] }) ∧
       exec (.tdcCntClr k) s = .next (s.wr Reg.TDC_CHk_CNT 0 k))) ∧
  (∀ s : State, s.is Fld.SAR_SCAL_STAT.BUSY = false → s.auxRuns = true → s.get Fld.SAR_SCAL_CTRL.POINT = 0 →
     s.inSeq (s.get Fld.SAR_SCAL_CTRL.INPUT) = true →
     s.scalStart.aux.scal = some (s.get Fld.SAR_SCAL_CTRL.INPUT, 0) ∧ s.scalStart.aux.sum = 0 ∧ s.scalStart.aux.cnt = 0 ∧
     s.scalStart.get Fld.SAR_SCAL_STAT.BUSY = 1 ∧ s.scalStart.get Fld.SAR_SCAL_STAT.DONE1 = 0 ∧
     s.scalStart = { s with regs := s.scalStart.regs, aux := s.scalStart.aux } ∧
     ∀ a, a ≠ Reg.SAR_SCAL_STAT.base → tabGet s.scalStart.regs 0 a = tabGet s.regs 0 a) ∧
  (∀ (s : State) (m : Nat), 2 ^ s.get Fld.SAR_SCAL_CTRL.AVG_LOG2 ≤ s.aux.cnt →
     let avg := unsigned 32 (roundDiv s.aux.sum (2 ^ s.get Fld.SAR_SCAL_CTRL.AVG_LOG2))
     (s.aux.scal = some (m, 0) → exec .sarScalPointDone s = .next
       ((({ s.put Fld.SAR_SCAL_STAT.BUSY 0 with aux.scal := none, aux.zeroOf := some m } : State).put Fld.SAR_SCAL_N0.N0 avg).put
         Fld.SAR_SCAL_STAT.DONE0 1)) ∧
     (s.aux.scal = some (m, 1) → exec .sarScalPointDone s = .next
       ((({ s.put Fld.SAR_SCAL_STAT.BUSY 0 with aux.scal := none, aux.ready := true } : State).put Fld.SAR_SCAL_N1.N1 avg).put
         Fld.SAR_SCAL_STAT.DONE1 1))) ∧
  (∀ (s : State) (e : Nat) (code : Int) (u : PatUnit),
     (s.aux.act = .regular e → e + 1 < s.auxEntries 0 →
       (s.auxRegular (some e) (s.auxMux 0 e) code false).auxEntries 0 = s.auxEntries 0 →
       exec (.auxConversionDone code false) s =
         .next ((s.auxRegular (some e) (s.auxMux 0 e) code false).auxGo (.regular (e + 1)))) ∧
     (s.unitAt cAUX 1 = some u → s.auxRuns = true → ∀ k, s.aux.act = .regular k →
       exec .auxInjectStart s = .next (({ s with aux.resume := .regular k } : State).auxGo (.injected 0))) ∧
     (s.unitAt cAUX 1 = some u → s.auxRuns = true → ∀ k, s.aux.act = .injected k →
       exec .auxInjectStart s =
         .next (((s.sat Fld.SAR_INJ_CNT.MISS_CNT).uPut Fld.UNIT_STAT.CLASS_EVT 1 u.id).put Fld.SAR_STAT.INJ_MISS 1)))

/-- Software access to calibration (R300, R319): a write of a coefficient word of a chain that is in no swap is staged with
SOURCE 5 for the next frame tick; during the channel's swap it is dropped and flagged; SUSPEND takes the written value. The
ends of calibration measurements (R304, R311): a step whose words are complete ends with its edge; a match into the
calibration path that ran out of time is aborted with OVERTIME of the match (code 9), and a match back that was applied goes
on with code 0xA. Both wait for the channel's next own tick. WIRE_BREAK_CONFIRM (R218, R221, R314): the first condition that
reached its count is confirmed, and a swap of the channel is aborted with code 0xB. A system calibration point of a pod
chain (R323): with all words and no overload its mean is kept, and the first of two points leaves the unit idle; an
overloaded point, and a point whose words do not arrive in time, end with OVERRANGE (code 2). -/
def Obligations.CalibrationRows : Prop :=
  (∀ (s : State) (c off v : Nat) (on : Bool), s.mapOpen = true → c < 100 → off < 32 → off % 4 = 0 →
     (s.inSwap c = false →
       exec (.calCoefWrite c off v) s = .next ((s.stageCoef c off v).put Fld.CAL_CHc_RESULT.SOURCE 5 c) ∧
       (s.stageCoef c off v).readCoef c off = v % 2 ^ 32) ∧
     (s.inSwap c = true → exec (.calCoefWrite c off v) s = .next (s.put Fld.CAL_STAT.WR_DROP 1)) ∧
     ∃ t, exec (.calCtrlSuspend on) s = .next t ∧ t.get Fld.CAL_CTRL.SUSPEND = b2n on ∧ RegsOnly [Reg.CAL_CTRL.base] s t) ∧
  (∀ (s : State) (w : Swap) (edge : Int), s.cal.swap = some w →
     (∀ ch, s.onBus = some ch → s.stepLen w ≤ w.fed →
       exec (.calStepEnd edge) s = .next { s with cal.swap := some { w with ended := some edge } }) ∧
     (w.passed = false → w.due = none → s.matchLimit w.ch ≤ w.ticks → s.cal.phase = .matchIn →
       let w' := { w with aborting := some 9, due := some (s.nextOwn w.ch s.seq.frame), ended := none }
       exec .matchTimeout s = .next (({ s with cal.phase := .matchIn, cal.swap := some w' } : State).calShow)) ∧
     (w.passed = false → w.due = none → s.matchLimit w.ch ≤ w.ticks → s.cal.phase = .matchBack → w.applied = true →
       let w' := { w with result := 0xA, due := some (s.nextOwn w.ch s.seq.frame) }
       exec .matchTimeout s = .next (({ s with cal.phase := .matchBack, cal.swap := some w' } : State).calShow))) ∧
  (∀ (s : State) (ch cause : Nat) (more : List Nat), ch < 96 → s.confirmable ch = cause :: more →
     s.is Fld.AFE_CHn_STAT.WB_CONF ch = false →
     exec (.wireBreakConfirm ch) s = .next ((s.confirmBreak ch cause).calWireBreak ch) ∧
     (s.confirmBreak ch cause).is Fld.AFE_CHn_STAT.WB_CONF ch = true ∧
     (s.confirmBreak ch cause).get Fld.AFE_CHn_WB_HI.CAUSE ch = cause % 16 ∧
     (s.confirmBreak ch cause).is Fld.AFE_CHn_EVT.WB ch = true) ∧
  (∀ (s : State) (p : PodPoint), s.cal.pod = some p →
     (s.podN ≤ p.words → p.ovld = true → exec .calPodPointDone s = .next (s.podResult p.chain 2)) ∧
     (s.podN ≤ p.words → p.ovld = false → p.point = 0 → tabGet? s.cal.podMeans (podKey p.chain p.range 1) = none →
       let means := tabSet s.cal.podMeans (podKey p.chain p.range 0) { t := p.t, sum := p.sum, n := p.words }
       exec .calPodPointDone s = .next (({ s with cal.pod := none, cal.podMeans := means } : State).calShow)) ∧
     (p.words < s.podN → 16 * s.podN ≤ (s.seq.frame - p.start) * s.nPer →
       exec .calPodPointTimeout s = .next (s.podResult p.chain 2)))


/-! ## Time -/
/-- Rows that write a control register of the time unit (R329, R344, R358, R369, R727). TIM_INC and TIM_ADJ take effect in host
mode of the domain; TDC_CFG with another valid source changes the base of the TDC. Edges and pulses (R358 to R361): the
first IRQ_N edge keeps L and the frame, and further ones are counted as missed until it is re-armed; a selected edge of a
TIME_IN pin is kept with its time and polarity; a TIME_OUT pulse begins at its time and ends. -/
def Obligations.TimeControlAndEdgeRows : Prop :=
  (∀ (s : State) (v : Nat), s.mapOpen = true → v < 2 ^ 32 →
     (s.is Fld.TIM_SERVO_CTRL.HOST_A = true →
       exec (.timAdjWrite 0 v) s = .next (s.setDom 0 { s.dom 0 with t := addTu (s.dom 0).t (signed 32 v * 2 ^ 32) }) ∧
       ∀ inc, incClamp (inc : Nat) = inc → inc < 2 ^ 40 → ∃ u, exec (.timIncWrite 0 inc) s = .next u ∧
         u.time.doms = s.time.doms.set 0 { s.dom 0 with inc := inc } ∧
         u.get Fld.TIM_INC_A_LO.FRAC = inc % 2 ^ 32) ∧
     (s.is Fld.TIM_SERVO_CTRL.HOST_B = true →
       exec (.timAdjWrite 1 v) s = .next (s.setDom 1 { s.dom 1 with t := addTu (s.dom 1).t (signed 32 v * 2 ^ 32) }) ∧
       ∀ inc, incClamp (inc : Nat) = inc → inc < 2 ^ 40 → ∃ u, exec (.timIncWrite 1 inc) s = .next u ∧
         u.time.doms = s.time.doms.set 1 { s.dom 1 with inc := inc } ∧
         u.get Fld.TIM_INC_B_LO.FRAC = inc % 2 ^ 32) ∧
     exec (.timServoTakeover v) s = .next (s.writeByCode Reg.TIM_SERVO_CTRL v) ∧
     (field v 0 8 = 0x30 ∨ field v 0 8 = 0x60 → field v 8 8 = 0x30 ∨ field v 8 8 = 0x60 →
       exec (.timHostQWrite v) s = .next (((((s.put Fld.TIM_HOST_Q.CLASS_A (field v 0 8)).put Fld.TIM_HOST_Q.CLASS_B
         (field v 8 8)).rootLock 0).rootLock 1).rootClass 0 |>.rootClass 1)) ∧
     exec .timIrqRearm s = .next (s.put Fld.TIM_IRQ_STAT.FULL 0) ∧
     (s.hubState ≠ stRun → field v 3 2 ≠ 3 → field v 0 2 ≠ 3 → field v 0 2 ≠ s.get Fld.TDC_CFG.SRC → s.tdcSrcOk (field v 0 2) = true →
       exec (.tdcSrcWrite v) s = .next ((({ ((s.put Fld.TDC_CFG.AUTO_RETURN (field v 7 1)).put Fld.TDC_CFG.REFIN_RATE (field v 3 2))
         with tdc.ret := true } : State).put Fld.TDC_CFG.SRC (field v 0 2)).tdcRebase (field v 0 2) false))) ∧
  (∀ (s : State) (k : Nat) (u : PatUnit),
     (s.is Fld.TIM_IRQ_STAT.FULL = true →
       exec .irqNAssert s = .next ((s.put Fld.TIM_IRQ_STAT.MISS 1).sat Fld.TIM_IRQ_STAT.MISS_CNT)) ∧
     (s.is Fld.TIM_IRQ_STAT.FULL = false → ∃ t, exec .irqNAssert s = .next t ∧ t.is Fld.TIM_IRQ_STAT.FULL = true ∧
       t.get Fld.TIM_IRQ_CAP_S_LO.S_LO = s.time.l.s % 2 ^ 32 ∧ t.get Fld.TIM_IRQ_FRAME.FRAME_LO = s.seq.frame % 2 ^ 32 ∧
       t.get Fld.TIM_IRQ_CAP_S_HI.VALID = 1) ∧
     (∀ (falling : Bool) (ago : Nat), s.unitAt cTIME_IN k = some u → u.p 0 0 2 = 2 → k < 8 →
       let pin := tabGet s.time.tin ⟨[], none⟩ k
       let at_ := addTu s.time.l (-(ago : Int))
       (16 ≤ pin.fifo.length → exec (.tinEdge k falling ago) s =
         .next ((s.put Fld.TIM_TINk_STAT.OVF 1 k).sat Fld.TIM_TINk_STAT.LOST_CNT 1 k)) ∧
       (pin.fifo.length < 16 → pin.last = none → ∃ t, exec (.tinEdge k falling ago) s = .next t ∧
         tabGet t.time.tin ⟨[], none⟩ k = { fifo := pin.fifo ++ [(at_, falling)], last := some (tu at_) } ∧
         t.get Fld.TIM_TINk_STAT.LEVEL k = pin.fifo.length + 1 ∧ t.get Fld.TIM_TINk_FRAC.POL k = b2n falling)) ∧
     (∀ t0, s.unitAt cTIME_OUT k = some u → (tabGet s.time.tout ⟨none, false⟩ k).next = some t0 → tu t0 ≤ tu s.time.l →
       s.acquires = true → toutPeriodic u = false →
       let v := { s with time.tout := tabSet s.time.tout k { next := none, high := true } }
       exec (.toutPulse k) s =
         .next (((v.put Fld.TIM_TOUTk_STAT.LEVEL (1 - v.toutIdle k) k).wrap Fld.TIM_TOUTk_STAT.PULSE_CNT 1 k).countEvt u.id)) ∧
     exec (.toutPulseEnd k) s = .next (({ s with time.tout := tabSet s.time.tout k { tabGet s.time.tout ⟨none, false⟩ k with
       high := false } } : State).put Fld.TIM_TOUTk_STAT.LEVEL (s.toutIdle k) k))

/-- The frame counter begins (R352): the root of domain A, or the root of B that takes over, starts it at 0 once its domain is
locked and no counter was heard for 1 s; another hub adopts the counter that it heard, converted to its own tick. Loss and
steps of time (R335, R342, R355, R364, R727): a domain without SYNC is lost, unlocked and of class 0xFF; a PPS root goes on
in holdover; a step moves L (and both domains, unless it is for L only) by Δ at its tick and resets every local chain; a
selection takes effect at its tick. -/
def Obligations.FrameCounterAndTimeChangeRows : Prop :=
  (∀ (s : State) (m : Nat × TimeVal), s.seq.counter = false →
     (s.isRoot 0 = true → s.locked 0 = true → s.time.heardAt = none → s.policy 0x020C 0 = 0 → ∃ t,
       exec .frameCounterStart s = .next t ∧ t.seq.counter = true ∧ t.seq.frame = 0 ∧ t.hubState = s.hubState ∧
       t.get Fld.TIM_STAT.COUNTER = 1) ∧
     (s.isRoot 0 = false → s.isRoot 1 = true → s.time.takeover = true → s.locked 1 = true → s.time.heardAt = none →
       s.policy 0x020C 0 = 0 → exec .frameCounterStart s = .next (s.setCounter 0)) ∧
     (s.time.heard = some m → s.time.acquired = true → stHeld ≤ s.hubState → ∃ t, exec .frameCounterAdopt s = .next t ∧
       t.seq.counter = true ∧ t.seq.frame = (s.counterHere m).toNat ∧ t.hubState = s.hubState) ∧
     (∀ b, s.isRoot 1 = true → s.locked 1 = true → (s.dom 1).lockedAt = some b → b + 10000000000 ≤ s.silt.opNs →
       exec .rootBTakeover s = .next { s with time.takeover := true })) ∧
  (∀ (s : State) (d : Nat), d < 2 →
     (s.isRoot d = false → s.cls d ≠ 0xFF → ∃ t, exec (.domainLoss d) s = .next t ∧ t.locked d = false ∧ t.cls d = 0xFF ∧
       t.is (ab d Fld.TIM_EVT.LOSS_A Fld.TIM_EVT.LOSS_B) = true ∧ t.seq.frame = s.seq.frame) ∧
     (s.isRoot d = true → s.srcOf d = 1 ∨ s.srcOf d = 2 → (s.dom d).holdSince = none → s.locked d = true → exec (.rootHoldover d) s =
       .next ((s.setDom d { s.dom d with holdSince := some s.silt.opNs, holdErr := s.rootErr d, spaced := 0, lastEdge := none }).rootClass
         d)) ∧
     (∀ x, s.time.step = some x → ∃ t, exec .timeStepApply s = .next t ∧ t.time.l = addTu s.time.l x.delta ∧ t.time.step = none ∧
       t.time.doms = (if x.lOnly then s.time.doms else s.time.doms.map fun e => { e with t := addTu e.t x.delta, lastEdge := e.lastEdge.map (· + x.delta / 65536) }) ∧
       t.get Fld.TIM_STAT.STEP_PEND = 0 ∧ ∀ c ∈ s.localChains, 4 ∈ (t.chain c).resets) ∧
     (∀ f mode, s.time.select = some (some f, mode) →
       (f ≤ s.seq.frame → exec .timeSelectEffect s =
         .next (({ s with time.select := none, time.modeCmd := true } : State).put Fld.TIM_SEL.MODE mode)) ∧
       (s.seq.frame < f → exec .timeSelectEffect s = .next s)))

/-- Delay measurement (R339, R340): a request carries the next number and the time L, and is kept for its answer; a request
received is answered with the time of its arrival and the turnaround; the answer gives one value of the delay, unless its
turnaround is above 10 µs. SYNC messages (R339, R342, R343): a damaged one is dropped, counted and flagged; the root of the
domain takes none; any other is forwarded with the delay and the residence time added, and a usable one offers its offset; a
root sends its own on both ports. -/
def Obligations.DelayAndSyncRows : Prop :=
  (∀ (s : State) (p : Nat) (m : PdMsg) (ago turn : Int), stHeld ≤ s.hubState → p < 2 →
     let lock := if p = 0 then Fld.TIM_STAT.NEIGH_E_LOCK else Fld.TIM_STAT.NEIGH_W_LOCK
     (s.portUp p = true →
       let q := ((s.pd p).seq + 1) % 65536
       let u := s.setPd p { s.pd p with seq := q, sent := some (q, s.l16) }
       exec (.pdReqSend p) s = .next { u with tx := u.tx ++ [.pdReq p (u.pdMsg q u.time.l)] }) ∧
     (let u := (s.put lock (b2n m.lock)).hear m.counter m.hub
      exec (.pdReq p m ago turn) s =
        .next { u with tx := u.tx ++ [.pdResp p (u.pdMsg m.seq (addTu u.time.l (-ago * 65536))) turn] }) ∧
     (∀ t1, (s.pd p).sent = some (m.seq, t1) →
       (turn > 10000 * 65536 → exec (.pdResp p m turn ago) s =
         .next (((s.put lock (b2n m.lock)).hear m.counter m.hub).setPd p { s.pd p with sent := none })) ∧
       (turn ≤ 10000 * 65536 → (s.pd p).valid = false → ∃ t, exec (.pdResp p m turn ago) s = .next t ∧ (t.pd p).sent = none ∧
         (t.pd p).accepted = (s.pd p).accepted + 1 ∧
         (t.pd p).vals = ((((s.l16 - ago) - t1 - turn) * 1000 +
           signed 16 (s.get (if p = 0 then Fld.TIM_PORTE_ASYM.ASYM else Fld.TIM_PORTW_ASYM.ASYM)) * 65536) :: (s.pd p).vals).take 16))) ∧
  (∀ (s : State) (p : Nat) (m : SyncMsg) (ago res : Int), stHeld ≤ s.hubState → m.domain < 2 →
     exec (.sync p m ago res false) s = .next ((s.sat Fld.TIM_CNT.TIME_DROP).evt Fld.TIM_EVT.TIME_DROP 101) ∧
     (s.isRoot m.domain = true → exec (.sync p m ago res true) s = .next s) ∧
     (s.isRoot m.domain = false → (s.pd p).valid = true → m.bad = false → s.syncFiltered m = false →
       let delta := roundDiv (s.pd p).delta 2000
       let fwd : SyncMsg := { m with correction := m.correction + delta + res, hops := m.hops + 1 }
       let u := if s.portUp (1 - p) then { s with tx := s.tx ++ [.sync (1 - p) fwd] } else s
       let v := u.hear m.counter m.emit
       exec (.sync p m ago res true) s = .next (v.offerSync p m
         (tu (v.dom m.domain).t / 65536 - ago - (tu m.origin / 65536 + m.correction + delta)))) ∧
     (∀ d, d < 2 → s.isRoot d = true →
       let u := s.rootClass d
       let x := u.dom d
       let q := (x.seqOut + 1) % 65536
       let out : SyncMsg :=
         { domain := d, seq := q, origin := x.t, correction := 0, hops := 0, bad := false, cls := x.ann
           errNs := u.rootErr d, classFrame := x.annFrame, counter := u.ownCounter, emit := u.hubId }
       let v := u.setDom d { x with seqOut := q }
       exec (.syncSend d) s = .next (v.forEach ([0, 1].filter v.portUp) fun p s => { s with tx := s.tx ++ [.sync p out] })))

/-- TDC_EDGE (R374, R376): a selected edge of a time-stamp input less than 6 ns after the last is lost and flagged; another is
counted and its time kept as an edge of this tick. TDC_START_TIMEOUT and TDC_FREQ_TIMEOUT (R380, R381). REFIN and the TDC's
base (R370 to R372): ten good windows in a row make REFIN valid; a lost edge clears its flags; the loss of the selected
source falls back to the coarse clock, is flagged, counted and recorded. PPS_IN (R371): the third edge in a row that comes 1
s ± 1 µs after the one before makes PPS_VALID 1; an edge that stays away makes it 0. -/
def Obligations.TdcRows : Prop :=
  (∀ (s : State) (k c raw r1 r2 : Nat) (u : PatUnit), s.unitAt cTDC k = some u → s.acquires = true → u.p 0 2 2 = 2 →
     let s1 := s.setTdc k { s.tdcIn k with n := (s.tdcIn k).n + 1 }
     let t := (s1.tdcTime k c raw).1
     let s2 := (s1.tdcTime k c raw).2
     let x := s2.tdcIn k
     (∀ p, x.last = some p → t - p < 384 → exec (.tdcEdge k false c raw r1 r2) s = .next
       ((((s2.setTdc k { x with lost := true }).sat Fld.TDC_CHk_CNT.SHORT_CNT 1 k).put Fld.TDC_CHk_STAT.SHORT 1 k).put
         Fld.TDC_EVT.SHORT 1)) ∧
     (x.last = none → u.p 0 0 2 ≠ 1 →
       let y := { x with
         cal := x.cal.set x.turn (r1, r2), turn := 1 - x.turn, last := some t
         edges := x.edges ++ [{ t := t, n := x.n, falling := false, base := s2.is Fld.TDC_STAT.FALLBACK }] }
       exec (.tdcEdge k false c raw r1 r2) s = .next (((s2.setTdc k y).wrap Fld.TDC_CHk_EDGES.EDGES 1 k).tdcStarts k t)) ∧
     (∀ b, (s.tdcIn k).start = some b → exec (.tdcStartTimeout k) s = .next
       ((s.setTdc k { s.tdcIn k with start := none }).put Fld.TDC_CHk_STAT.TIMEOUT 1 k)) ∧
     exec (.tdcFreqTimeout k) s = .next (s.setTdc k { s.tdcIn k with value := 0x7FFFFF })) ∧
  (∀ s : State, stHeld ≤ s.hubState →
     (s.get Fld.TDC_CFG.REFIN_RATE = 1 → 9 ≤ s.tdc.windows → ∃ t, exec (.refinWindow true 10000000000 true) s = .next t ∧
       t.tdc.windows = 10 ∧ t.get Fld.TDC_STAT.REFIN_PRESENT = 1 ∧ t.get Fld.TDC_STAT.REFIN_VALID = 1 ∧
       t.get Fld.TDC_STAT.REFIN_100M = 0 ∧ t.get Fld.TDC_STAT.PLL_LOCK = 1 ∧ t.get Fld.TDC_REF_PPM.PPM = 0) ∧
     (∃ t, exec .refinPresenceLoss s = .next t ∧ t.tdc.windows = 0 ∧ t.get Fld.TDC_STAT.REFIN_PRESENT = 0 ∧
       t.get Fld.TDC_STAT.REFIN_VALID = 0 ∧ t.get Fld.TDC_STAT.PLL_LOCK = 0 ∧ t = { s with regs := t.regs, tdc := t.tdc } ∧
       ∀ a, a ≠ Reg.TDC_STAT.base → tabGet t.regs 0 a = tabGet s.regs 0 a) ∧
     (s.get Fld.TDC_STAT.BASE ≠ 0 → ∃ t, exec .tdcRefLoss s = .next t ∧ t.get Fld.TDC_STAT.BASE = 0 ∧
       t.get Fld.TDC_STAT.FALLBACK = 1 ∧ t.get Fld.TDC_EVT.REF_LOSS = 1)) ∧
  (∀ (s : State) (ago p : Int), stHeld ≤ s.hubState → s.isRoot 0 = false → s.isRoot 1 = false →
     (s.tdc.ppsL = some p → (s.l16 - ago - p - 1000000000 * 65536).natAbs ≤ 65536000 → s.tdc.ppsRun = 2 →
       ∃ t, exec (.ppsInEdge ago) s = .next t ∧ t.tdc.ppsRun = 3 ∧ t.tdc.ppsL = some (s.l16 - ago) ∧
         t.get Fld.TDC_STAT.PPS_VALID = 1) ∧
     exec .ppsLoss s = .next (({ s with tdc.ppsRun := 0, tdc.ppsL := none } : State).put Fld.TDC_STAT.PPS_VALID 0))


/-! ## Capture, Pattern, boot -/
/-- TRIGGER_HOLDOFF_END (R390): once the holdoff's tick has passed its Decide phase the unit may fire again. Arming and aborting
an engine (R401, R407, R412). An abort ends a capture (R407): ABORTED, and ABORT is done. CAPTURE_ECC_ERROR (R410): a
corrected error is counted; an uncorrectable one poisons its block, is flagged with the block's address, and is recorded. -/
def Obligations.CaptureRows : Prop :=
  (∀ (s : State) (t h : Nat), (s.trig t).holdTo = some h → h < s.seq.frame →
     exec (.triggerHoldoffEnd t) s = .next ((s.setTrig t { s.trig t with holdTo := none }).put Fld.CAP_TRGt_STAT.HOLDOFF 0 t)) ∧
  (∀ (s : State) (e f : Nat) (u : PatUnit), s.unitAt cCAPTURE e = some u → s.trigRuns = true →
     ((s.engine e).armAt = some f → f ≤ s.seq.frame → capBoundary u s.seq.frame = s.seq.frame →
       let pre := s.get Fld.CAP_Ee_PRE.PRE e
       let post := s.get Fld.CAP_Ee_POST.POST e
       let x := { Engine.rest with armTick := s.seq.frame, segFirst := s.seq.frame, pre := pre, post := post }
       exec (.captureArm e) s = .next ((((s.setEngine u x).put Fld.CAP_Ee_SEG.DONE 0 e).put Fld.CAP_Ee_CTRL.ARM 0 e).put
         Fld.CAP_Ee_STAT.STATE ceFILL e)) ∧
     ((s.engine e).abortAt = some f → f ≤ s.seq.frame → s.ceBusy e = true →
       exec (.captureAbortEffect e) s = .next (s.capAbort u)) ∧
     (s.ceBusy e = false → exec (.capCtrlArm e) s = .next
       ((s.setEngine u { s.engine e with armAt := some (s.seq.frame + 1) }).put Fld.CAP_Ee_CTRL.ARM 1 e)) ∧
     (s.ceBusy e = true → exec (.capCtrlArm e) s = .next (s.put Fld.CAP_Ee_STAT.ARM_DROP 1 e) ∧
       exec (.capCtrlAbort e) s = .next
         ((s.setEngine u { s.engine e with abortAt := some (s.seq.frame + 1) }).put Fld.CAP_Ee_CTRL.ABORT 1 e)) ∧
     (s.get Fld.CAP_Ee_POST.POST e = 1 → ∀ v, v + 1 < capCs u → v < 2 ^ 32 → e < 16 →
       exec (.capPrePostWrite e false v) s = .next (s.put Fld.CAP_Ee_PRE.PRE v e))) ∧
  (∀ (s : State) (u : PatUnit), u.inst < 16 →
     (s.capAbort u).get Fld.CAP_Ee_STAT.STATE u.inst = ceABORTED ∧ (s.capAbort u).get Fld.CAP_Ee_CTRL.ABORT u.inst = 0 ∧
     ((s.capAbort u).engine u.inst).abortAt = none ∧ (s.capAbort u).cap.mem = s.cap.mem) ∧
  (∀ (s : State) (b : Nat), exec (.captureEccError b true) s = .next (s.sat Fld.CAP_ECC_CNT.CORR) ∧
     (s.cap.poisoned.contains b = false → exec (.captureEccError b false) s = .next
       ((((({ s with cap.poisoned := b :: s.cap.poisoned } : State).sat Fld.CAP_ECC_CNT.UNCORR).put Fld.CAP_ECC_ADDR.BLOCK b).put
         Fld.CAP_STAT.ECC_UE 1).stage 0x0302 (leBytes 1 0 ++ leBytes 4 b))))

/-- PATTERN_CHECK_DONE (R102, R121): an accepted image makes the bank CHECKED and its Pattern available for commit; a rejected
one makes it REJECTED; the running Pattern stays as it is. The commit of a scheduled Pattern (R114, R122): it becomes
irrevocable in the House phase before its frame (a Pattern without CALDATA stages nothing), its tables are switched at the
frame tick, and a power-up commit without HOLD_AT_BOOT enters ARMED at that tick. -/
def Obligations.PatternCheckAndCommitRows : Prop :=
  (∀ (s : State) (ue : Option Nat), s.banks.qspiCopy = none → s.banks.stbyState = .checking →
     (∀ r, s.verdict ue = .error r → exec (.patternCheckDone ue) s = .next
       (((({ s with banks.stbyPat := none, banks.powerUp := false } : State).bankTo .rejected).showCheck r).patEvent
         Fld.PAT_STAT.REJECTED)) ∧
     (∀ p, s.verdict ue = .ok p → s.banks.powerUp = false → ∃ t, exec (.patternCheckDone ue) s = .next t ∧
       t.banks = { s.banks with stbyPat := some p, stbyState := .checked } ∧ t.get Fld.PAT_STAT.STBY_STATE = 3 ∧
       t.get Fld.PAT_STAT.REJECT = 0 ∧ t.is Fld.PAT_STAT.CHECKED = true ∧
       t.rd Reg.PAT_STBY_SERIAL = BitVec.ofNat 32 p.serial ∧
       t = { s with regs := t.regs, banks := t.banks, silt := t.silt, host := t.host })) ∧
  (∀ (s : State) (f : Nat) (p : Pattern), s.banks.commitF = some f → s.banks.stbyPat = some p →
     (s.banks.irrevocable = false → bit p.flags 2 = false →
       exec .commitIrrevocable s = .next { s with banks.irrevocable := true }) ∧
     (s.banks.irrevocable = true → s.banks.switched = false → s.banks.powerUp = false →
       exec .commitSwitch s = .next (s.commitSwitch p) ∧ (s.commitSwitch p).banks.act = some p ∧
       (s.commitSwitch p).banks.outgoing = s.banks.act ∧ (s.commitSwitch p).banks.switched = true) ∧
     (s.banks.irrevocable = true → s.banks.switched = false → s.banks.powerUp = true → s.hubState = stHeld →
       ∃ t, exec .powerUpCommit s = .next t ∧ t.banks.act = some p ∧ t.banks.switched = true ∧
         t.hubState = if bit p.flags 3 then stHeld else stArmed))

/-- COMMIT_COMPLETE (R114 step 5, R96): the banks change places, the old Pattern is PREVIOUS (or the bank EMPTY), the registers
of the active Pattern show the new one, and MIN_SERIAL rises to a signed image's serial where ANTIROLLBACK is set. -/
def Obligations.CommitCompleteRow : Prop :=
  ∀ (s : State) (p : Pattern), s.banks.act = some p → s.banks.switched = true →
    ∃ t, exec .commitComplete s = .next t ∧
      t.banks.actBytes = s.banks.stby ∧ t.banks.actLen = s.banks.wlen ∧ t.banks.stby = s.banks.actBytes ∧
      t.banks.stbyPat = s.banks.outgoing ∧ t.banks.act = some p ∧ t.banks.commitF = none ∧ t.banks.switched = false ∧
      t.banks.stbyState = (if s.banks.outgoing.isSome then .previous else .empty) ∧
      t.get Fld.PAT_STAT.ACT_VALID = 1 ∧ t.get Fld.PAT_STAT.ACT_SIGNED = b2n p.signed ∧ t.get Fld.PAT_STAT.COMMIT_PEND = 0 ∧
      t.is Fld.PAT_STAT.COMMITTED = true ∧ t.rd Reg.PAT_ACT_SERIAL = BitVec.ofNat 32 p.serial ∧
      (∀ k < 8, t.rd Reg.PAT_ACT_DIGESTk k = BitVec.ofNat 32 (leAt p.digest (4 * k) 4)) ∧
      t.rd Reg.PAT_MIN_SERIAL = (if s.is Fld.PAT_SIGN_CFG.ANTIROLLBACK && p.signed
          && decide ((s.rd Reg.PAT_MIN_SERIAL).toNat < (BitVec.ofNat 32 p.serial).toNat)
        then BitVec.ofNat 32 p.serial else s.rd Reg.PAT_MIN_SERIAL) ∧
      t.hubState = s.hubState ∧ t.seq = s.seq

/-- BOOT_DONE in BOOT (R155, R661, R670, R672): with a good slot and a passed self-test the hub enters HELD and runs the
firmware of the valid slot with the higher version; with no good slot, or a failed self-test, the boot fails and the hub
stays in BOOT. BOOT_DONE without a good slot: the hub stays in BOOT with BOOT_FAIL set (R661, R672). The fetch of an image
from a ring neighbour (R675) begins with the nearest server once one is found, and again 10 s after the third restart. -/
def Obligations.BootRows : Prop :=
  (∀ (s : State) (a : FwSlot), s.hubState = stBoot → s.pmu.resetLow = false → s.pmu.xtalLost = false →
     s.is Fld.GLB_STATE.BOOT_FAIL = false →
     s.pmu.slotA = some a → s.pmu.slotB = none → s.slotPasses s.pmu.slotA true = true → s.slotPasses s.pmu.slotB false = false →
     ∃ t, exec (.bootDone true false none) s = .next t ∧ t.hubState = stHeld ∧ t.get Fld.PMU_FW.A_VALID = 1 ∧
       t.get Fld.PMU_FW.RUN_SLOT = 0 ∧ t.get Fld.PMU_FW.FALLBACK = 0 ∧
       t.rd Reg.GLB_FW_VER = BitVec.ofNat 32 a.ver ∧ t.pmu.lastVer = a.ver ∧ t.get Fld.GLB_STATE_CHG.PREV = stBoot) ∧
  (∀ s : State, s.hubState = stBoot → s.pmu.resetLow = false → s.pmu.xtalLost = false → s.is Fld.GLB_STATE.BOOT_FAIL = false →
     s.slotPasses s.pmu.slotA false = false → s.slotPasses s.pmu.slotB false = false →
     ∃ t, exec (.bootDone false false none) s = .next t ∧ t.hubState = stBoot ∧ t.is Fld.GLB_STATE.BOOT_FAIL = true) ∧
  (∀ (s : State) (x : Nat × List Byte), s.mayFetch = true → s.pickServer none = some x →
     (s.get Fld.PMU_SRV.FSTATE = 1 → exec .neighbourServerFound s = .next (s.fetchBegin x) ∧
       (s.fetchBegin x).get Fld.PMU_SRV.FSTATE = 2 ∧ (s.fetchBegin x).get Fld.PMU_SRV_BYTES.BYTES = 0) ∧
     (s.get Fld.PMU_SRV.FSTATE = 4 → exec .neighbourFetchResume s = .next (({ s with pmu.fetchFails := 0 } : State).fetchBegin x)))

/-- Resets (R155, R664, R667, R668): RESET_N, the watchdog and loss of the crystal put the hub into BOOT with the cause, the
straps latched and the boot counted; loss of a rail of steps 1 to 3 puts it into OFF; power good takes it from OFF to BOOT. -/
def Obligations.ResetRows : Prop :=
  ∀ (s : State) (boot rail : Nat),
    let booted := fun (t : State) (cause : Nat) =>
      t.get Fld.PMU_STAT.RST_CAUSE = cause ∧ t.get Fld.PMU_STAT.MODE = boot % 4 ∧
      t.get Fld.PMU_BOOT_CNT.COUNT = (s.get Fld.PMU_BOOT_CNT.COUNT + 1) % 2 ^ 32
    (s.hubState ≠ stOff → s.pmu.resetLow = false →
      (∃ t, exec (.resetNAssert boot) s = .next t ∧ resetLeaves s t stBoot ∧ booted t 1 ∧ t.pmu.resetLow = true) ∧
      (∃ t, exec (.watchdogReset boot) s = .next t ∧ resetLeaves s t stBoot ∧ booted t 2) ∧
      (∃ t, exec (.xtalLoss boot) s = .next t ∧ resetLeaves s t stBoot ∧ booted t 2 ∧ t.pmu.xtalLost = true ∧
        t.get Fld.PMU_STAT.XTAL_OK = 0)) ∧
    (s.hubState ≠ stOff → rail ≤ 9 → ∃ t, exec (.railLoss rail) s = .next t ∧ resetLeaves s t stOff ∧
      t.get Fld.PMU_STAT.PG = 0 ∧ bit (t.get Fld.PMU_RAIL_STAT.RAIL) rail = false) ∧
    (s.hubState = stOff → s.is Fld.PMU_STAT.PG = false → s.pmu.resetLow = false → ∃ t, exec (.powerGood boot) s = .next t ∧
      t.hubState = stBoot ∧ booted t 0 ∧ t.get Fld.SLT_PCC.PCC = (s.get Fld.SLT_PCC.PCC + 1) % 2 ^ Fld.SLT_PCC.PCC.width ∧
      t.silt.mram = s.silt.mram) ∧
    (s.hubState = stOff → s.is Fld.PMU_STAT.PG = false → s.pmu.resetLow = true →
      exec (.powerGood boot) s = .next ((s.put Fld.PMU_STAT.PG 1).put Fld.PMU_RAIL_STAT.RAIL 0xFFF)) ∧
    (s.hubState = stOff → s.is Fld.PMU_STAT.PG = true → s.pmu.resetLow = true → ∃ t, exec (.resetNDeassert boot) s = .next t ∧
      t.hubState = stBoot ∧ booted t 0 ∧ t.pmu.resetLow = false) ∧
    (s.hubState = stBoot → s.pmu.resetLow = true → ∃ t, exec (.resetNDeassert boot) s = .next t ∧ t.hubState = stBoot ∧
      t.pmu.resetLow = false ∧ t.get Fld.PMU_STAT.MODE = boot % 4) ∧
    (∃ t, exec .xtalRestored s = .next t ∧ t.pmu = { s.pmu with xtalLost := false } ∧ t.get Fld.PMU_STAT.XTAL_OK = 1 ∧
      t.get Fld.PMU_CLK_STAT.TIME = 1 ∧ t.get Fld.PMU_CLK_STAT.CORE = 1 ∧ t.get Fld.PMU_CLK_STAT.MEM = 1 ∧
      RegsOnly [Reg.PMU_STAT.base, Reg.PMU_CLK_STAT.base] { s with pmu := t.pmu } t)

/-- Pins of the hub (R588, R630, R657, R663, R704): PFAIL_N runs the log's power-fail sequence and latches the cause POWER;
PERST_N resets the PCI Express function; TRST_N and the test port change the test instruction only. Supervision (R183, R635,
R641, R664, R669): a rail out of range is shown, flagged and a SUPPLY failure; the thermal limit and an uncorrectable memory
error are failures; a safe cause or a failure that has gone is no longer live. The flash port and the firmware update (R673,
R674, R677): GO starts a sequence when nothing is busy and its end is shown; a copy for PAT_LOAD fills the standby bank; a
firmware update starts in MAINT only, and its good image goes into the slot that does not run. -/
def Obligations.PmuRows : Prop :=
  (∀ (s : State) (op : Nat),
     (s.hubState ≠ stOff → s.is Fld.PMU_STAT.PFAIL = false →
       exec .pfailAssert s = .next ((s.put Fld.PMU_STAT.PFAIL 1).siltPfail.safeCause 5)) ∧
     (s.hubState ≠ stOff → exec .pfailDeassert s = .next (s.put Fld.PMU_STAT.PFAIL 0).siltResume) ∧
     (s.hubState ≠ stOff → exec .perstAssert s =
       .next ({ (s.put Fld.DMA_PCIE_EVT.PERST 1).dmaReset.linkGone with pmu.perst := true } : State).pdEval) ∧
     exec .perstDeassert s = .next ({ s with pmu.perst := false } : State).pdEval ∧
     exec .trstAssert s = .next { s with pmu.tap := 0x01 } ∧
     exec (.tapUpdateIr op) s = .next { s with pmu.tap :=
       if op = 0x01 ∨ op = 0x02 then op
       else if s.pmu.resetLow = true ∧ op ∈ [0x00, 0x08, 0x09, 0x0A, 0x0B] then op else 0x3F }) ∧
  (∀ (s : State) (k area block : Nat),
     (s.hubState ≠ stOff → k < 12 → exec (.supplyOutOfRange k) s = .next
       (((s.put Fld.PMU_RAIL_STAT.RAIL (maskBit (s.get Fld.PMU_RAIL_STAT.RAIL) k false)).put Fld.PMU_RAIL_EVT.RAIL
         (maskBit (s.get Fld.PMU_RAIL_EVT.RAIL) k true)).selfDiag sdSUPPLY)) ∧
     (s.hubState ≠ stOff → exec .thermalLimit s = .next (s.selfDiag sdTHERMAL) ∧
       exec (.memoryUe area block) s = .next ((s.stage 0x0302 (leBytes 1 area ++ leBytes 4 block)).selfDiag sdMEMORY)) ∧
     (2 ≤ k → k ≤ 6 → k ≠ 5 ∨ s.is Fld.PMU_STAT.PFAIL = false → exec (.safeCauseGone k) s = .next (s.causeGone k) ∧
       bit (s.causeGone k).seq.safeLive k = false) ∧
     (1 ≤ k → k ≤ 6 → k ≠ sdSUPPLY → exec (.selfdiagGone k) s = .next (s.selfDiagGone k) ∧
       bit ((s.selfDiagGone k).get Fld.SUP_SD_STAT.ACTIVE) (k - 1) = false) ∧
     (stHeld ≤ s.hubState → exec .captureMemoryInitDone s = .next { s with cap.initDone := true })) ∧
  (∀ (s : State) (v info : Nat) (dir bytes : List Byte),
     (stHeld ≤ s.hubState → s.is Fld.PMU_QSPI_STAT.BUSY = false → s.pmu.flashBoot = false → s.banks.qspiCopy = none →
       ∃ t, exec (.qspiGo v) s = .next t ∧ t.is Fld.PMU_QSPI_STAT.BUSY = true ∧
         t.get Fld.PMU_QSPI_CTRL.LEN = min 256 (field v 12 9) ∧ t.get Fld.PMU_QSPI_CTRL.OPCODE = v % 256 ∧
         RegsOnly [Reg.PMU_QSPI_CTRL.base, Reg.PMU_QSPI_STAT.base] s t) ∧
     (s.is Fld.PMU_QSPI_STAT.BUSY = true → s.is Fld.PMU_QSPI_CTRL.DIR = true → exec (.qspiSequenceDone bytes) s =
       .next ((s.put Fld.PMU_QSPI_STAT.BUSY 0).put Fld.PMU_QSPI_STAT.DONE 1)) ∧
     (∀ a, s.is Fld.PMU_QSPI_STAT.BUSY = false → s.banks.qspiCopy = some a → exec (.qspiImageReadDone info dir bytes) s =
       .next ({ (s.wr Reg.PMU_QSPI_INFO (BitVec.ofNat 32 (info % 256))).stbyFill (imageCopy bytes) with banks.qspiCopy := none } : State)) ∧
     (s.is Fld.PMU_FWU_STAT.BUSY = false →
       let t := s.put Fld.PMU_FWU_CTRL.LEN (min 4194304 (v % 2 ^ 23))
       (s.hubState = stMaint → s.banks.stbyState ≠ .checking → s.banks.stbyState ≠ .scheduled → v < 2 ^ 31 →
         exec (.pmuFwuStart v) s = .next ((t.put Fld.PMU_FWU_STAT.BUSY 1).put Fld.PMU_FWU_STAT.RESULT 0)) ∧
       (s.hubState ≠ stMaint → v < 2 ^ 31 → exec (.pmuFwuStart v) s = .next (t.put Fld.PMU_FWU_STAT.RESULT 2))) ∧
     (∀ ver svn, s.is Fld.PMU_FWU_STAT.BUSY = true → ver < 2 ^ 32 → svn < 256 → ∃ t, exec (.fwUpdateDone 1 ver svn) s = .next t ∧
       (if s.is Fld.PMU_FW.RUN_SLOT then t.pmu.slotA = some ⟨ver, svn⟩ ∧ t.pmu.slotB = s.pmu.slotB
        else t.pmu.slotB = some ⟨ver, svn⟩ ∧ t.pmu.slotA = s.pmu.slotA) ∧
       t.get Fld.PMU_FWU_STAT.RESULT = 1 ∧ t.is Fld.PMU_FWU_STAT.BUSY = false ∧ t.is Fld.PMU_FWU_STAT.DONE = true ∧
       t.banks.stbyState = .empty ∧ t.banks.stby = []))


/-! ## The tick -/
/-- FRAME_TICK from HELD on (R31, R150): the frame counter grows by exactly one, whether the hub keeps a counter or not, and the
hub's state stays. In OFF and BOOT it changes nothing. -/
def Obligations.FrameTickRow : Prop :=
  ∀ (s : State) (x : TickInput),
    (s.mapOpen = true → ∃ t, exec (.frameTick x) s = .next t ∧ t.seq.frame = s.seq.frame + 1 ∧ t.seq.counter = s.seq.counter ∧
      t.hubState = s.hubState) ∧
    (s.mapOpen = false → exec (.frameTick x) s = .next s)

/-- The phases of a tick (R177, R178). In MAINT the Emit phase only sends PARK_NOW to pods; in HELD Decide and Emit do nothing.
In the House phase fault causes come before commands, and at most eight commands execute, oldest first (R158, R166). -/
def Obligations.PhaseRows : Prop :=
  ∀ (s : State) (late : Bool),
    (s.acquires = true →
      let t := (s.enterPhase 1 late).forEach ((s.enterPhase 1 late).units cLINEARISER) fun u s => s.linearise u
      exec (.conditionPhase late) s = .next (t.forEach (t.units cTHRESHOLD) fun u s => s.threshold u)) ∧
    (s.acquires = false → exec (.conditionPhase late) s = .next s) ∧
    (s.acquires = true → ∀ l, exec (.decidePhase late l) s = .next
      ((((s.enterPhase 2 late).ringDecide.loopDecide l).sluDecide.trigDecide).forEach
        ((((s.enterPhase 2 late).ringDecide.loopDecide l).sluDecide.trigDecide).units cCAPTURE) fun u s => s.capDecide u)) ∧
    (s.hubState = stHeld → ∀ l, exec (.decidePhase late l) s = .next s) ∧
    (s.hubState = stHeld → ∀ pins held, exec (.emitPhase late pins held) s = .next s) ∧
    (s.hubState = stMaint → ∀ pins held, exec (.emitPhase late pins held) s = .next s.fieldEmit) ∧
    (s.acquires = true → ∀ pins held,
      let t := (((s.enterPhase 3 late).healthEmit.sluEmit pins).claimEmit.trigEmit.streamEmit held)
      exec (.emitPhase late pins held) s =
        .next ((t.forEach (t.units cCAPTURE) fun u s => s.capEmit u).wringEmit.queueEmit.fieldEmit)) ∧
    (stHeld ≤ s.hubState →
      let t := (s.enterPhase 4 late).faultHouse.quarantineHouse.timeHouse.readyHouse
      let u := ({ t with seq.houseLate := 0 } : State).houseCommands.joinHouse.calHouse.scalHouse.healthHouse.fieldHouse
      exec (.housePhase late false) s = .next (u.siltHouse.wringHouse.ringsPump.pdEval.alignHouse) ∧
      t.houseCommands = (t.seq.waiting.take 8).foldl (fun u w => u.runRecord w.origin w.bytes)
        { t with seq.waiting := t.seq.waiting.drop 8 })

/-- STATE_TRANSITION (R155, R158): of the transitions due at this tick the one with the lowest rank that is legal now takes
effect; a restart resets the hub; every due transition is removed. -/
def Obligations.StateTransitionRow : Prop :=
  ∀ (s : State) (boot : Nat) (m : Transition), s.dueMove = some m →
    let t := { s with seq.due := s.seq.due.filter fun t => decide (s.seq.frame < t.frame) }
    (m ∈ s.seq.due ∧ m.frame ≤ s.seq.frame) ∧
    (∀ x ∈ s.seq.due, x.frame ≤ s.seq.frame → x.target = stBoot ∨ s.moveHolds x = true → x.rank ≤ 3 → m.rank ≤ x.rank) ∧
    (m.target = stBoot → exec (.stateTransition boot) s = .next (t.hubReset 3 boot)) ∧
    (m.target ≠ stBoot → exec (.stateTransition boot) s = .next (t.enterState m.target) ∧
      (t.enterState m.target).hubState = m.target)


/-! ## Command records -/
/-- State commands (R175, R176): NOP answers GLB_STATE and the frame; ARM, HOLD, MAINT_ENTER and MAINT_EXIT are due at the next
tick, RESTART resets then; START and STOP set RUN_INTENT and place the entry and the exit; SAFE_ENTER latches the cause
COMMAND; RECOVER clears causes that are gone. Each hypothesis is the command's legal state and its arguments' range. -/
def Obligations.StateCommandRows : Prop :=
  ∀ (s : State) (o : Origin) (f : Nat), s.fresh o = true →
    let done := fun (op : Nat) (args : List Byte) (t : State) (a : Answer) =>
      (.next (t.settle o op args s.hubState a) : Host.Outcome State Fault Refusal)
    let ok : Answer := { status := 0 }
    exec (.nop o) s =
      done 0x01 [] s { status := 0, result := leBytes 4 (s.rd Reg.GLB_STATE).toNat ++ leBytes 8 s.frameNow } ∧
    (s.hubState = stHeld → exec (.arm o) s =
      if s.is Fld.PAT_STAT.ACT_VALID then done 0x02 [] (s.goNext stArmed 3) ok else done 0x02 [] s { status := 2 }) ∧
    (s.hubState = stArmed → exec (.hold o) s = done 0x03 [] (s.goNext stHeld 3) ok) ∧
    (s.hubState = stArmed → f < 2 ^ 48 →
      let at_ := if f = 0 then s.frameNow + 2 else f
      exec (.start o f) s = done 0x04 (leBytes 8 f) (({ s with seq.startF := at_ } : State).put Fld.GLB_STATE.RUN_INTENT 1)
        { status := if s.is Fld.GLB_STATE.READY = true ∧ s.seq.frame + 2 ≤ at_ then 0 else 8 }) ∧
    (s.hubState = stArmed → f < 2 ^ 48 →
      exec (.stop o f) s = done 0x05 (leBytes 8 f) (s.put Fld.GLB_STATE.RUN_INTENT 0) ok) ∧
    (s.hubState = stRun → f = 0 ∨ (s.seq.frame + 2 ≤ f ∧ f < 2 ^ 48) →
      let due : List Transition := [{ target := stArmed, frame := if f = 0 then s.seq.frame + 2 else f, rank := 3 }]
      exec (.stop o f) s = done 0x05 (leBytes 8 f)
        { s.put Fld.GLB_STATE.RUN_INTENT 0 with seq.due := s.seq.due ++ due } ok) ∧
    (s.hubState = stArmed ∨ s.hubState = stRun → exec (.safeEnter o) s = done 0x06 [] (s.safeCause 0) ok) ∧
    (s.hubState = stSafe → s.is Fld.SLU_WD.SD = false →
      let before := s.get Fld.GLB_SAFE_CAUSE.CAUSE
      let left := before &&& s.seq.safeLive &&& 0xFC
      let t := s.put Fld.GLB_SAFE_CAUSE.CAUSE left
      let r := leBytes 4 before ++ leBytes 4 left
      exec (.recover o) s =
        if left = 0 then done 0x07 [] ((t.put Fld.GLB_STATE.RUN_INTENT 0).goNext stArmed 3) { status := 0, result := r }
        else done 0x07 [] t { status := 8, detail := left, result := r }) ∧
    (s.hubState = stHeld ∨ s.hubState = stArmed ∨ s.hubState = stSafe →
      exec (.maintEnter o) s = done 0x08 [] (s.goNext stMaint 3) ok) ∧
    (s.hubState = stMaint → exec (.maintExit o) s = done 0x09 [] (s.siltDisarm.goNext stHeld 3) ok) ∧
    (s.hubState = stHeld ∨ s.hubState = stArmed ∨ s.hubState = stSafe ∨ s.hubState = stMaint →
      exec (.restart o) s = done 0x0A [] (s.goNext stBoot 0) ok)

/-- REG_READ and REG_WRITE in a legal range answer the words read, or write them in order, and count the reserved offsets in
DETAIL (R176, R721); an unassigned opcode and NOTICE sent as a command are answered BAD_ARG with DETAIL 2 (R173, R582). -/
def Obligations.RegisterCommandRows : Prop :=
  ∀ (s : State) (o : Origin) (a n : Nat) (ws : List Nat), s.fresh o = true →
    let done := fun (op : Nat) (args : List Byte) (t : State) (x : Answer) =>
      (.next (t.settle o op args s.hubState x) : Host.Outcome State Fault Refusal)
    (a % 4 = 0 → 1 ≤ n → n ≤ 56 → a + 4 * n ≤ 0x4000000 →
      let r := s.readWords .mgmt a n
      exec (.regRead o a n) s =
        done 0x10 (leBytes 4 a ++ leBytes 4 n) r.2.2 { status := 0, detail := r.2.1, result := ofWords r.1 }) ∧
    (a % 4 = 0 → 1 ≤ ws.length → ws.length ≤ 58 → a + 4 * ws.length ≤ 0x4000000 → (∀ w ∈ ws, w < 2 ^ 32) →
      let r := s.writeCount .mgmt a ws
      exec (.regWrite o a ws) s =
        done 0x11 (leBytes 4 a ++ leBytes 4 ws.length ++ ofWords ws) r.2 { status := 0, detail := r.1 }) ∧
    (∀ op args, op < 256 → opKnown op = false → args.length % 4 = 0 → args.length ≤ 240 →
      exec (.reservedOpcode o op args) s = done op args s { status := 3, detail := 2 }) ∧
    exec (.notice o) s = done 0x97 [] s { status := 3, detail := 2 }

/-- Pattern commands (R95, R112, R114, R119): PAT_LOAD begins a check, PAT_COMMIT schedules a checked Pattern, PAT_CANCEL
returns the bank to its former state, PAT_DISCARD empties it, and a key slot takes a good key once and is revoked once. -/
def Obligations.PatternCommandRows : Prop :=
  ∀ (s : State) (o : Origin), s.fresh o = true →
    let done := fun (op : Nat) (args : List Byte) (t : State) =>
      (.next (t.settle o op args s.hubState { status := 0 }) : Host.Outcome State Fault Refusal)
    let idle : Prop := s.banks.stbyState ≠ .checking ∧ s.banks.stbyState ≠ .scheduled
    (idle → ∀ addr, addr < 2 ^ 32 →
      let t := ({ s with banks.stbyPat := none } : State).checkBegin false
      exec (.patLoad o 0 addr) s = done 0x20 (leBytes 4 0 ++ leBytes 4 addr) t ∧
      exec (.patLoad o 1 addr) s = done 0x20 (leBytes 4 1 ++ leBytes 4 addr) { t with banks.qspiCopy := some addr }) ∧
    (∀ p f, s.banks.stbyPat = some p → s.banks.stbyState = .checked ∨ s.banks.stbyState = .previous → s.banks.act = none →
      s.revertDenied p = false → f < 2 ^ 48 → f = 0 ∨ (s.seq.counter = true ∧ s.seq.frame + 2 ≤ f) →
      exec (.patCommit o f) s = done 0x21 (leBytes 8 f) (s.commitAt (if f = 0 then s.seq.frame + 2 else f))) ∧
    (s.banks.commitF.isSome = true → s.banks.irrevocable = false →
      exec (.patCancel o) s = done 0x22 [] ((((({ s with banks.commitF := none, banks.powerUp := false } : State).bankTo
        s.banks.returnTo).put Fld.PAT_STAT.COMMIT_PEND 0).fieldCancel).pdEval)) ∧
    (idle → exec (.patDiscard o) s = done 0x23 [] s.stbyEmpty) ∧
    (s.hubState = stMaint → ∀ slot key, slot < 8 → key.length = 64 → keyOk key = true →
      field (s.get Fld.PAT_KEY_STAT.SLOT) (2 * slot) 2 = 0 →
      exec (.patKeyInstall o slot key) s = done 0x24 (leBytes 4 slot ++ key)
        ((({ s with banks.keys := tabSet s.banks.keys slot key } : State).keySlotTo slot 1).stage 0x0202
          (leBytes 1 slot ++ (sha256 key).take 8))) ∧
    (s.hubState = stMaint → ∀ slot, slot < 8 → field (s.get Fld.PAT_KEY_STAT.SLOT) (2 * slot) 2 = 1 →
      exec (.patKeyRevoke o slot) s = done 0x25 (leBytes 4 slot) ((s.keySlotTo slot 2).stage 0x0203 (leBytes 1 slot)))

/-- Calibration and time commands (R318, R323, R364): a channel comes to the head of the schedule, a queued swap is aborted with
code 0xE, a pod point starts; a time of day, a step, a selection and a step's cancellation are taken. -/
def Obligations.CalibrationAndTimeCommandRows : Prop :=
  ∀ (s : State) (o : Origin), s.fresh o = true →
    let done := fun (op : Nat) (args : List Byte) (t : State) =>
      (.next (t.settle o op args s.hubState { status := 0 }) : Host.Outcome State Fault Refusal)
    (s.hubState = stArmed ∨ s.hubState = stRun ∨ s.hubState = stMaint → ∀ ch, ch < 100 → s.small = false → s.cal.swap = none →
      96 ≤ ch ∨ (s.unitAt cINPUT ch).isSome = true →
      exec (.calRun o ch) s = done 0x30 (leBytes 4 ch) { s with cal.queue := (ch, false) :: s.cal.queue.filter fun q => q.1 != ch }) ∧
    (s.hubState = stArmed ∨ s.hubState = stRun ∨ s.hubState = stSafe ∨ s.hubState = stMaint → ∀ w, s.cal.swap = some w → w.ch < 100 →
      (s.cal.phase = .shadow ∨ s.cal.phase = .matchIn → exec (.calAbort o w.ch) s = done 0x31 (leBytes 4 w.ch) (s.abortAt w 0xE)) ∧
      (s.cal.phase = .measure → exec (.calAbort o w.ch) s = done 0x31 (leBytes 4 w.ch) (s.calGo .measure (some { w with
        step := 99, due := some (s.nextOwn w.ch s.seq.frame), ended := none, result := 0xE })))) ∧
    (s.hubState = stArmed ∨ s.hubState = stRun → s.cal.pod = none → s.small = false → ∀ chain range point t,
      100 ≤ chain → chain ≤ 611 → range ≤ 3 → point ≤ 1 → signed 64 (unsigned 64 t) = t →
      let p : PodPoint :=
        { chain := chain, range := range, point := point, t := t, sum := 0, words := 0, start := s.seq.frame, ovld := false }
      exec (.calPodPoint o chain range point t) s =
        done 0x32 (leBytes 4 chain ++ leBytes 4 range ++ leBytes 4 point ++ leBytes 8 (unsigned 64 t))
          (({ s with cal.pod := some p } : State).calShow)) ∧
    (s.hubState = stHeld ∨ s.hubState = stArmed ∨ s.hubState = stMaint → s.seq.counter = false → ∀ d sec ns, d < 2 → sec < 2 ^ 48 →
      ns < 1000000000 → s.isRoot d = true → s.ppsSrc d = false →
      exec (.timeSetTod o d sec ns) s = done 0x40 (leBytes 4 d ++ leBytes 8 sec ++ leBytes 4 ns)
        (s.setDom d { s.dom d with t := { s := sec, ns := ns, frac := 0 }, todDone := true })) ∧
    (s.seq.counter = true → s.time.step = none → ∀ f dS flags, s.seq.frame + 2 ≤ f → f < 2 ^ 48 → flags ≤ 1 → 0 ≤ dS →
      dS < 2 ^ 47 → tu s.time.l + dS * 1000000000 * 2 ^ 32 < 2 ^ 48 * 1000000000 * 2 ^ 32 →
      exec (.timeStep o f dS 0 flags) s =
        done 0x41 (leBytes 8 f ++ leBytes 8 (unsigned 64 dS) ++ leBytes 4 (unsigned 32 0) ++ leBytes 4 flags)
          ((({ s with time.step := some { f := f, delta := dS * 1000000000 * 2 ^ 32, lOnly := flags == 1 } } : State).put
            Fld.TIM_STAT.STEP_PEND 1).put Fld.TIM_STEP_F_LO.FRAME_LO f)) ∧
    (s.seq.counter = true → ∀ f mode, s.seq.frame + 2 ≤ f → f < 2 ^ 48 → mode ≤ 2 →
      exec (.timeSelect o f mode) s = done 0x42 (leBytes 8 f ++ leBytes 4 mode) { s with time.select := some (some f, mode) }) ∧
    (s.seq.counter = true → ∀ x, s.time.step = some x → s.seq.frame + 2 ≤ x.f →
      exec (.timeStepCancel o) s = done 0x43 [] (({ s with time.step := none } : State).put Fld.TIM_STAT.STEP_PEND 0))

/-- Lane, ring and field port commands (R488, R491, R533, R553, R563). -/
def Obligations.LaneRingAndFieldCommandRows : Prop :=
  ∀ (s : State) (o : Origin), s.fresh o = true →
    let done := fun (op : Nat) (args : List Byte) (t : State) =>
      (.next (t.settle o op args s.hubState { status := 0 }) : Host.Outcome State Fault Refusal)
    (∀ n, n < 8 → s.fusedLane n = false →
      (s.lnState n ≠ lnBLIND → s.hubState ≠ stRun →
        exec (.laneAdmin o n 1) s = done 0x50 (leBytes 4 n ++ leBytes 4 1) (s.setLane n { s.lane n with admin := 1 })) ∧
      (s.lnState n = lnOFF → s.hubState ≠ stRun → exec (.laneAdmin o n 0) s = done 0x50 (leBytes 4 n ++ leBytes 4 0)
        ((s.setLane n { s.lane n with admin := 0 }).laneRestart n ((s.setLane n { s.lane n with admin := 0 }).portRate (n / 4)))) ∧
      (s.lnState n = lnSPARE → exec (.laneRetrain o n) s = done 0x51 (leBytes 4 n) (s.laneRetrain n)) ∧
      (s.lnState n = lnACTIVE → (s.lane n).want = true → exec (.laneRetrain o n) s = done 0x51 (leBytes 4 n) (s.laneDrop n 3)) ∧
      (s.hubState = stMaint → s.lnState n ≠ lnACTIVE → ∀ gen chk loop, gen ≤ 5 → chk ≤ 5 → loop ≤ 3 → gen + chk + loop ≠ 0 →
        exec (.laneTest o n gen chk loop) s = done 0x52 (leBytes 4 n ++ leBytes 4 gen ++ leBytes 4 chk ++ leBytes 4 loop)
          (((((s.setLane n { Lane.rest with admin := (s.lane n).admin }).put Fld.LANE_Ln_TEST.GEN gen n).put Fld.LANE_Ln_TEST.CHK chk
            n).put Fld.LANE_Ln_TEST.LOOP loop n).laneTo n lnTEST))) ∧
    exec (.ringDiscover o) s = done 0x58 [] (s.forEach [0, 1] fun p s => if s.discUp p then s.probe p false else s) ∧
    (s.hubState ≠ stHeld → s.small = false → ∀ p, p < 16 →
      ((s.unitAt cPOD_BINDING p).isSome = true →
        exec (.fldPort o p 0) s = done 0x60 (leBytes 4 p ++ leBytes 4 0) ((s.setFport p { s.fport p with off := true }).fieldStop p) ∧
        exec (.fldPort o p 1) s = done 0x60 (leBytes 4 p ++ leBytes 4 1) (((s.setFport p { s.fport p with
          off := false, foreignOff := false, cycling := false, ocRun := 0, latched := false, cmd := none, todo := [] }).fieldStart
          p).podLinkDegraded) ∧
        exec (.fldPort o p 2) s =
          done 0x60 (leBytes 4 p ++ leBytes 4 2) ((s.setFport p { s.fport p with cycling := true }).dropPower p)) ∧
      (s.lstate p = fpFOREIGN → s.get Fld.FLD_Pp_TYPE.REJ p = 2 ∨ s.get Fld.FLD_Pp_TYPE.REJ p = 3 →
        exec (.fldAdopt o p) s = done 0x61 (leBytes 4 p) (((s.setFport p { s.fport p with
          adopted := some (s.podSerial p, s.podType p), foreignOff := false, cmd := none, todo := [] }).toLstate p
          fpDISCOVER).judgePod p)))

/-- Loop, Sluice and capture commands (R407, R436, R447, R451, R460). Each takes effect from the next tick on. -/
def Obligations.LoopSluiceAndCaptureCommandRows : Prop :=
  ∀ (s : State) (o : Origin) (k : Nat) (u : PatUnit), s.fresh o = true → k < 2 ^ 16 →
    let done := fun (op : Nat) (args : List Byte) (t : State) =>
      (.next (t.settle o op args s.hubState { status := 0 }) : Host.Outcome State Fault Refusal)
    (s.hubState = stRun → s.unitAt cLOOP k = some u →
      (∀ v, signed 64 (unsigned 64 v) = v → exec (.loopIntSet o k v) s = done 0x70 (leBytes 4 k ++ leBytes 8 (unsigned 64 v))
        (s.setSlot k { s.slot k with intSet := some (s.seq.frame + 1, v) })) ∧
      ((s.slot k).lstate ≠ 1 → (s.slot k).fb1.bad = false →
        exec (.loopReturn o k) s = done 0x71 (leBytes 4 k) (s.setSlot k { s.slot k with ret := true }))) ∧
    (s.hubState = stArmed ∨ s.hubState = stRun → s.is Fld.SLU_WD.SD = true → s.get Fld.SUP_SD_STAT.ACTIVE = 0 →
      exec (.sluReclaim o) s = done 0x78 []
        (((s.put Fld.SLU_WD.SD 0).degrade Fld.GLB_DEGRADED.SELFDIAG Fld.GLB_DEGRADED_STICKY.SELFDIAG false).stage 0x0902
          (leBytes 1 3 ++ leBytes 1 (s.get Fld.SLU_HEALTH.H)))) ∧
    (s.hubState = stArmed ∨ s.hubState = stRun ∨ s.hubState = stSafe → k < 80 → s.unitAt cOUTPUT k = some u → ∀ on, on ≤ 1 →
      exec (.sluForcePark o k on) s = done 0x79 (leBytes 4 k ++ leBytes 4 on)
        (s.setSlu k { s.slu k with forceNext := some (s.seq.frame + 1, on == 1) })) ∧
    (s.hubState = stRun ∨ s.hubState = stSafe →
      (∀ f, f < 2 ^ 48 → f = 0 ∨ s.seq.frame < f → s.capMask k = [u] → s.ceBusy u.inst = false →
        exec (.capArm o f k) s = done 0x80 (leBytes 8 f ++ leBytes 4 k)
          (s.setEngine u { s.engine u.inst with armAt := some (max f (s.seq.frame + 1)) })) ∧
      (s.capMask k = [u] → s.ceBusy u.inst = true → exec (.capAbort o k) s = done 0x81 (leBytes 4 k)
        (s.setEngine u { s.engine u.inst with abortAt := some (s.seq.frame + 1) })) ∧
      (s.unitAt cTRIGGER k = some u → exec (.capForce o k) s = done 0x82 (leBytes 4 k)
        (s.setTrig k { s.trig k with force := some (s.seq.frame + 1) })))

/-- Queue, Wring, silt log and agreement commands (R594, R617, R631, R632, R644, R652). The token of SLT_CLEAR_ARM is a free
value (log entry 1): the statement holds for every one. -/
def Obligations.QueueLogAndAgreementCommandRows : Prop :=
  ∀ (s : State) (o : Origin) (k : Nat) (u : PatUnit), s.fresh o = true →
    let done := fun (op : Nat) (args : List Byte) (t : State) (a : Answer) =>
      (.next (t.settle o op args s.hubState a) : Host.Outcome State Fault Refusal)
    let ok : Answer := { status := 0 }
    (k < 64 → s.unitAt cQUEUE k = some u → exec (.queFlush o k) s = done 0x90 (leBytes 4 k) (s.queueFlush k) ok) ∧
    (∀ w, k < 16 → s.unitAt cWRING k = some u → s.wjob k = some w →
      (w.expand = false → exec (.wrgCut o k) s = done 0x98 (leBytes 4 k) (s.wringCut k) ok) ∧
      exec (.wrgAbort o k) s = done 0x99 (leBytes 4 k) (s.wringFail k 3) ok) ∧
    (s.hubState = stMaint → s.silt.clear = none →
      (let token := s.draw.1 % 2 ^ 32
       exec (.sltClearArm o) s = done 0xA0 [] (({ s.draw.2 with silt.arm := some ⟨token, o.source, s.opMs⟩ } : State).put
          Fld.SLT_STAT.ARMED 1) { status := 0, result := leBytes 4 token }) ∧
      (∀ a, s.silt.arm = some a → a.token < 2 ^ 32 → s.opMs ≤ a.optime + 1000 →
        (a.source = o.source → exec (.sltClearConfirm o a.token) s = done 0xA1 (leBytes 4 a.token)
          (({ s.siltDisarm with silt.clear := some ⟨o.source, o.request⟩ } : State).put Fld.SLT_STAT.CLEARING 1) ok) ∧
        (∀ token, token < 2 ^ 32 → token ≠ a.token →
          exec (.sltClearConfirm o token) s = done 0xA1 (leBytes 4 token) s.siltDisarm { status := 5 }))) ∧
    (∀ digest compat f, digest.length = 32 → compat < 256 → f < 2 ^ 48 → f = 0 ∨ s.seq.frame + 2 ≤ f → s.seq.counter = true →
      let p : CDigest := ⟨digest, compat⟩
      exec (.adopt o digest compat f) s = done 0xB0 (digest ++ leBytes 4 compat ++ leBytes 8 f)
        (({ s with sup.adopted := true, sup.pend := some (p, if f = 0 then s.seq.frame + 2 else f) } : State).showDigest) ok) ∧
    (∀ on, on ≤ 1 → exec (.quarantine o on) s = done 0xB1 (leBytes 4 on) (s.put Fld.SUP_QUAR.COMMAND on) ok)

/-- R174: a command received in a state in which its chapter does not list it as legal (opStates) is answered STATE_CONFLICT,
and so is ARM with no active Pattern; the command itself changes nothing, and the answer is sent and counted as R172 says. -/
def Obligations.IllegalCommandIsStateConflict : Prop :=
  ∀ (s : State) (o : Origin) (op : Nat) (args : List Byte), s.fresh o = true →
    (op < 256 → args.length ≤ 240 → args.length % 4 = 0 → argsOk op args = true → opKnown op = true →
      s.inStates (opStates op) = false → s.runCommand o op args = s.settle o op args s.hubState { status := 2 }) ∧
    (s.hubState = stHeld → s.is Fld.PAT_STAT.ACT_VALID = false →
      exec (.arm o) s = .next (s.settle o 0x02 [] s.hubState { status := 2 }))

/-- Command transport (R163, R169, R184, R531, R532): GO submits the record of the mailbox, or is discarded while it is BUSY; an
MGMT command frame for this hub waits for the House phase; a relayed record without a response is answered TIMEOUT; an
expired duplicate entry is removed. A record of a source and request seen before is answered DUPLICATE with the kept answer
and not executed again; with another opcode or other arguments it is BAD_ARG with DETAIL 1 (R169, R170). In OFF and BOOT no
command executes (R168). -/
def Obligations.CommandTransportAndRepeats : Prop :=
  (∀ (s u : State) (p : Path) (port lseq source request : Nat) (bytes : List Byte),
     (p ≠ .mgmt → s.hubState ≠ stOff →
       (s.mbxBusy p = true → exec (.mailboxGo p) s = .next (s.mbxDrop p)) ∧
       (s.mbxBusy p = false →
         let t := s.mbxSet p 0x44 (s.mbxGet p 0x44 / 4 * 4 + 1)
         let buf := ofWords ((List.range 64).map fun k => t.mbxGet p (0x100 + 4 * k))
         let b := buf.take (16 + min 240 (leAt buf 8 2))
         t.isRelayed (originOf p t.hubId b) = false → exec (.mailboxGo p) s = .next (t.wait (originOf p t.hubId b) b))) ∧
     (∀ x, p ≠ .mgmt → (s.seq.relays.find? fun x => x.path == p && x.target != 0xFE) = some x →
       exec (.mgmtRelayTimeout p) s = .next
         ((({ s with seq.relays := s.seq.relays.filter (· != x) } : State).sat Fld.RING_MGMT.TIMEOUT_CNT).mbxStore p
           (responseRecord x.opcode x.target x.source x.request 7 7 s.frameNow 0 0 []) x.notify)) ∧
     (fb bytes 4 = s.hubId → s.hubId ≠ 0xFF → s.receive port lseq 5 false bytes = (true, u) → bit (fb bytes 1) 0 = false →
       (u.ring.seen.any fun e => e.type == 5 && e.key == [fb bytes 3, leAt bytes 6 2]) = false →
       exec (.mgmtFrameReceive port lseq bytes) s = .next
         ((({ u with ring.seen := ⟨5, [fb bytes 3, leAt bytes 6 2], u.opMs + 10000⟩ :: u.ring.seen } : State).dropMgmtKeys
           (fb bytes 3)).mgmtCommand (fb bytes 3) (slice bytes 12 (leAt bytes 8 2)))) ∧
     exec (.duplicateEntryExpire source request) s = .next
       { s with seq.dup := s.seq.dup.filter fun x => !(x.source == source && x.request == request) }) ∧
  (∀ (s : State) (o : Origin) (op : Nat) (args : List Byte),
     op < 256 → args.length ≤ 240 → args.length % 4 = 0 → argsOk op args = true →
     (∀ e, s.mapOpen = true → 1 ≤ o.source → o.source < 0xFFFF → o.target < 0x80 → s.isRelayed o = false →
       (s.seq.dup.find? fun e => e.source == o.source && e.request == o.request) = some e →
       s.runCommand o op args =
         if e.opcode = op ∧ e.argCrc = crc32 args then (s.sat Fld.GLB_CMD_CNT.DUP).respond o
           (responseRecord op s.hubId o.source o.request 4 e.status e.frame 0 e.detail e.result)
         else s.answerNow o op { status := 3, detail := 1 }) ∧
     (s.mapOpen = false → s.runCommand o op args = s))


/-! ## Lanes, ring and agreement -/
/-- Bring-up of a lane (R470 to R472, R478): each row moves the lane to the next state of R494 when it stands in the state that
the row belongs to. A TRAIN block that is damaged counts an error and restarts the count; a good one steers the transmit
equaliser. -/
def Obligations.LaneBringUpRows : Prop :=
  ∀ (s : State) (n r errors : Nat) (block : List Byte),
    (s.lnState n = lnDETECT → exec (.laneBlockLock n) s = .next ((s.put Fld.LANE_Ln_STAT.BLOCK_LOCK 1 n).laneTo n lnTRAIN_BASE) ∧
      exec (.laneNoPeer n) s = .next (s.laneTo n lnNO_PEER)) ∧
    (s.lnState n = lnRATE_CHANGE → (s.lane n).target = some r →
      exec (.rateChange n) s = .next ((s.put Fld.LANE_Ln_STAT.RATE r n).put Fld.LANE_Ln_STAT.BLOCK_LOCK 0 n) ∧
      (s.get Fld.LANE_Ln_STAT.RATE n = r →
        exec (.laneBlockLock n) s = .next ((s.put Fld.LANE_Ln_STAT.BLOCK_LOCK 1 n).laneTo n lnTRAIN_TARGET))) ∧
    (s.lnState n = lnNO_PEER ∨ s.lnState n = lnFAILED → exec (.laneRetryTimer n) s = .next (s.detect n (s.portRate (n / 4)))) ∧
    (s.lnState n = lnTRAIN_TARGET →
      (markOk 0xA4 block = false →
        exec (.trainBlock n block) s = .next ((s.blkErr n 1).setLane n { s.lane n with train := 0 })) ∧
      (markOk 0xA4 block = true →
        let b1 := fb block 1
        let b2 := fb block 2
        let x := { s.lane n with
          train := (s.lane n).train + 1, peerReady := bit b1 3, peerRates := field b2 0 4
          peerTarget := if bit b2 6 then some (field b2 4 2) else none }
        exec (.trainBlock n block) s = .next (((s.peerFields n b1).setLane n x).ffeRequest n (fb block 3))) ∧
      exec (.eqTrainDone n) s = .next ((s.setLane n { s.lane n with checked := none }).laneTo n lnCHECK)) ∧
    (s.lnState n = lnRETRAIN → exec (.eqTrainDone n) s = .next (s.setLane n { s.lane n with checking := true }) ∧
      ((s.lane n).want = false → (s.lane n).checking = true →
        exec (.laneCheckEnd n errors) s = .next
          (if errors ≤ s.policy 0x0304 4 then (s.put Fld.LANE_Ln_RETR.CHECK_ERR (min 0xFFFF errors) n).lanePass n true
           else (s.put Fld.LANE_Ln_RETR.CHECK_ERR (min 0xFFFF errors) n).laneFail n)))

/-- Alignment markers (R466 to R469, R476). A damaged marker on an ACTIVE lane counts a block error; an intact one without DROP
bits shows the neighbour's port, the skew and the lanes that the neighbour lists. A port that neither loses nor gains a lane
sends its marker on every lane that carries groups. Monitoring (R476, R477, R480, R490): an ACTIVE lane over its error
limit, or one that loses lock while another accepted lane is left, drops; a spare drops and retrains; training that loses
lock starts again; a checker's resynchronisation is flagged. A lane that drops leaves the set it wants, is rejected unless
the neighbour dropped it, counts and flags the drop (R477). -/
def Obligations.LaneMarkerAndMonitoringRows : Prop :=
  (∀ (s : State) (n p skew : Nat) (block : List Byte),
     (s.lnState n = lnACTIVE →
       (markOk 0xA3 block = false → exec (.am n skew block) s = .next (s.blkErr n 1)) ∧
       (markOk 0xA3 block = true → tabGet? s.lanes.amNext n = some (leAt block 3 2) → field (fb block 2) 4 4 = 0 →
         let u := ({ s with lanes.amNext := tabSet s.lanes.amNext n ((leAt block 3 2 + 1) % 65536) } : State).peerFields n (fb block 1)
         let u := u.setLane n { u.lane n with skew := skew }
         let widest := (portLanes (n / 4)).foldl (fun a k => max a (u.lane k).skew) 0
         let t := (u.put Fld.LANE_Pp_STAT.SKEW (min 0xFF widest) (n / 4)).forEach (portLanes (n / 4)) fun k s =>
           if s.is Fld.LANE_Ln_STAT.PEER_VALID k then
             s.setLane k { s.lane k with peerListed := bit (field (fb block 2) 0 4) (s.get Fld.LANE_Ln_STAT.PEER_LANE k) }
           else s
         t.joining (n / 4) = [] → exec (.am n skew block) s = .next t)) ∧
     (s.grouped p = [] → exec (.amSend p) s = .next s) ∧
     (s.grouped p ≠ [] →
       let u := ({ s with lanes.amCount := s.lanes.amCount.set p ((s.lanes.amCount.getD p 0 + 1) % 65536) } : State).forEach
         (portLanes p) fun k s => s.setLane k { s.lane k with listed := (s.lane k).want }
       let t := { u with tx := u.tx ++ (u.grouped p).map fun k => PortTx.link p (u.amBlock k) }
       t.joining p = [] → (∀ k ∈ t.lanesIn p lnACTIVE, (t.lane k).want = true) →
       exec (.amSend p) s = .next ((t.setActive p (t.lanesIn p lnACTIVE)).laneDegraded))) ∧
  (∀ (s : State) (n : Nat),
     (s.lnState n = lnACTIVE → (s.lane n).want = true →
       exec (.laneErrorLimit n) s = .next ((s.put Fld.LANE_Ln_EVT.ERR_LIMIT 1 n).laneDrop n 1) ∧
       (let t := ((s.put Fld.LANE_Ln_EVT.LOCK_LOSS 1 n).put Fld.LANE_Ln_STAT.BLOCK_LOCK 0 n).laneDrop n 0
        (∃ k ∈ t.lanesIn (n / 4) lnACTIVE, (t.lane k).reject = false) → exec (.laneLockLoss n) s = .next t)) ∧
     (s.lnState n = lnSPARE → ∀ s1, s1 = s.put Fld.LANE_Ln_EVT.ERR_LIMIT 1 n → s1.lnState n = lnSPARE →
       exec (.laneErrorLimit n) s = .next ((s1.laneDrop n 1).laneRetrain n)) ∧
     (s.lnState n = lnTRAIN_BASE ∨ s.lnState n = lnTRAIN_TARGET →
       exec (.laneLockLoss n) s = .next (s.detect n (s.portRate (n / 4)))) ∧
     (s.lnState n = lnTEST → exec (.prbsResync n) s = .next (s.put Fld.LANE_Ln_EVT.PRBS_RESYNC 1 n))) ∧
  (∀ (s : State) (n cause : Nat), n < 8 →
     ((s.laneDrop n cause).lane n).want = false ∧ ((s.laneDrop n cause).lane n).listed = false ∧
     ((s.laneDrop n cause).lane n).reject = decide (cause ≠ 2) ∧ ((s.laneDrop n cause).lane n).peerDrop = decide (cause = 2) ∧
     (s.laneDrop n cause).is Fld.LANE_Ln_EVT.DROP n = true ∧ (s.laneDrop n cause).lnState n = s.lnState n ∧
     (s.laneDrop n cause).get Fld.LANE_Ln_WIN.DROP_CNT n = satAdd Fld.LANE_Ln_WIN.DROP_CNT.width (s.get Fld.LANE_Ln_WIN.DROP_CNT n) 1)

/-- ADAPT_WINDOW of an ACTIVE lane (R476, R481, R482): density and diversity are shown, a low one freezes adaptation, and sync
header and block errors are counted and enter the error window, which ends after 16,896 windows. The PZ220 leaf of a port
whose first lane is in BLIND (R485 to R487): sync is shown, a damaged frame is counted, an intact one gives the 24 samples
and their overload bits, and after a timeout no sample is live. -/
def Obligations.AdaptationAndLeafRows : Prop :=
  (∀ (s : State) (n td div sh blk bits : Nat) (ctle : Int) (taps : List Int), n < 8 → s.lnState n = lnACTIVE →
     ∃ t, exec (.adaptWindow n td div sh blk bits ctle taps) s = .next t ∧
       t.get Fld.LANE_Ln_ADAPT.TD n = min 255 td ∧
       t.is Fld.LANE_Ln_STAT.FROZEN n = decide (td < s.policy 0x0305 77 ∨ div < s.policy 0x0306 48) ∧
       t.get Fld.LANE_Ln_ERR.SH_ERR n = satAdd Fld.LANE_Ln_ERR.SH_ERR.width (s.get Fld.LANE_Ln_ERR.SH_ERR n) sh ∧
       t.get Fld.LANE_Ln_ERR.BLK_ERR n = satAdd Fld.LANE_Ln_ERR.BLK_ERR.width (s.get Fld.LANE_Ln_ERR.BLK_ERR n) blk ∧
       t.get Fld.LANE_Ln_WIN.WIN_ERR n = (if (s.lane n).windows + 1 = 16896 then 0
         else satAdd Fld.LANE_Ln_WIN.WIN_ERR.width (s.get Fld.LANE_Ln_WIN.WIN_ERR n) (sh + blk)) ∧
       (s.is Fld.LANE_Ln_STAT.FROZEN n = true → t.get Fld.LANE_Ln_EQ.CTLE n = s.get Fld.LANE_Ln_EQ.CTLE n) ∧
       (s.is Fld.LANE_Ln_STAT.FROZEN n = false → t.get Fld.LANE_Ln_EQ.CTLE n = (clampInt 0 15 ctle).toNat) ∧
       t.lnState n = lnACTIVE) ∧
  (∀ (s : State) (p : Nat) (b : Bool) (bytes : List Byte), s.lnState (4 * p) = lnBLIND →
     exec (.leafSyncChange p b) s =
       .next ((s.put Fld.LANE_LFp_STAT.SYNC (b2n b) p).put Fld.LANE_Ln_STAT.BLOCK_LOCK (b2n b) (4 * p)) ∧
     exec (.leafFrame p true bytes) s = .next (s.sat Fld.LANE_LFp_CNT.CRC_CNT 1 p) ∧
     (bytes.length = 79 → crc16 (bytes.take 77) = leAt bytes 77 2 →
       let x : Leaf := { ovl := leAt bytes 2 3, samples := (List.range 24).map fun c => leAt bytes (5 + 3 * c) 3, live := true }
       exec (.leafFrame p false bytes) s =
         .next (((({ s with lanes.leaves := s.lanes.leaves.set p x } : State).wrap Fld.LANE_LFp_CNT.FRAME_CNT 1 p).put
           Fld.LANE_LFp_STAT.SEQ (leAt bytes 0 2) p).put Fld.LANE_LFp_STAT.TIMEOUT 0 p)) ∧
     (bytes.length = 79 → crc16 (bytes.take 77) ≠ leAt bytes 77 2 →
       exec (.leafFrame p false bytes) s = .next (s.sat Fld.LANE_LFp_CNT.CRC_CNT 1 p)) ∧
     exec (.leafTimeout p) s = .next (({ s with lanes.leaves := s.lanes.leaves.set p { s.leaf p with live := false } } : State).put
       Fld.LANE_LFp_STAT.TIMEOUT 1 p))

/-- What a hub does first with an intact frame (R511, R512, R524, R528, R530): one of its own that comes back is removed and
counted; one without an identity is dropped; one at the hop limit is dropped, counted and flagged; any other is accepted,
and forwarded with one more hop where it goes on. Frames that a hub accepts (R394, R448, R511, R518, R521, R648): a STREAM
frame goes to the subscriptions of its hub and stream; a TRIGGER frame and a CLAIM frame seen for the first time from a hub
that is not quarantined are taken; a frame of a reserved type is counted; a probe of another hub goes on, and an own one
comes back. The link layer (R510, R514, R515): an ACK releases every frame below its LSEQ; a NAK of held frames has them
sent again; a SKIP moves the next expected LSEQ on; a timeout sends the oldest held frame again; at the deadline the waiting
frames are dropped. Discovery and HELLO (R522, R524, R529): probes leave on each port that is up for discovery; a probe that
did not come back is sent again; a HELLO leaves on every port with the next number. -/
def Obligations.RingRows : Prop :=
  (∀ (s u : State) (p lseq type : Nat) (fwd : Bool) (f : List Byte), stHeld ≤ s.hubState → type ≠ 6 → type ≠ 7 →
     s.rxLink p lseq type f = (1, u) →
     (fb f 3 = 0xFF → s.receive p lseq type fwd f = (false, u)) ∧
     (fb f 3 ≠ 0xFF → u.returns type f = true →
       s.receive p lseq type fwd f = (false, (u.heardHub (fb f 3)).wrap Fld.RING_Pp_RET.RETURN 1 p)) ∧
     (fb f 3 ≠ 0xFF → u.returns type f = false → u.hopLimit type - 1 ≤ fb f 2 → s.receive p lseq type fwd f =
       (false, ((u.heardHub (fb f 3)).sat Fld.RING_MISC.TTL_CNT).evt Fld.RING_EVT.TTL 104)) ∧
     (fb f 3 ≠ 0xFF → u.returns type f = false → fb f 2 < u.hopLimit type - 1 → s.receive p lseq type fwd f =
       (true, if fwd then (u.heardHub (fb f 3)).forward p f false else u.heardHub (fb f 3)))) ∧
  (∀ (s u : State) (port lseq : Nat) (f : List Byte),
     (s.receive port lseq 1 true f = (true, u) → exec (.streamFrameReceive port lseq false f) s =
       .next ((u.dualMark f).forEach (((u.dualMark f).units cSUBSCRIBE).filter fun w => subHub w == fb f 4 && subStream w == fb f 5)
         fun w s => s.confTake w port f)) ∧
     (s.receive port lseq 2 true f = (true, u) →
       let key : SeenKey := ⟨2, [fb f 3, fb f 4 % 32, leAt f 6 6, leAt f 12 6, leAt f 20 4, leAt f 18 2], leAt f 6 6 + u.kR⟩
       let tx : Int := (((leAt f 12 6 * 1000000000 + leAt f 20 4) * 65536 + leAt f 18 2 : Nat) : Int)
       (u.keyed key).1 = false → (u.keyed key).2.peerQuar (fb f 3) = false →
       exec (.triggerFrameReceive port lseq f) s = .next ((u.keyed key).2.lineEvent (fb f 4 % 32)
         ⟨leAt f 6 6, tx, fb f 5 % 8, fb f 3, true⟩ ((u.keyed key).2.pastDecide (leAt f 6 6 + (u.keyed key).2.kR)))) ∧
     (s.receive port lseq 4 true f = (true, u) → fb f 4 = u.hubId →
       let key : SeenKey := ⟨4, [fb f 3, leAt f 6 2, leAt f 8 6], leAt f 8 6 + fb f 5⟩
       (u.keyed key).1 = false → (u.keyed key).2.peerQuar (fb f 3) = false →
       exec (.claimFrameReceive port lseq f) s = .next ((u.keyed key).2.claimOffer (leAt f 6 2) (fb f 3) (leAt f 8 6) (fb f 5)
         (leAt f 14 2) (leAt f 16 4) ((u.keyed key).2.pastDecide (leAt f 8 6)))) ∧
     (fb f 0 = 0 ∨ 7 < fb f 0 → s.receive port lseq (fb f 0) true f = (true, u) →
       exec (.unknownFrameReceive port lseq f) s = .next ((u.sat Fld.RING_MISC.UNKNOWN_CNT).evt Fld.RING_EVT.UNKNOWN 104)) ∧
     (s.receive port lseq 6 false f = (true, u) → exec (.discFrameReceive port lseq f) s =
       .next (if leAt f 8 8 = u.serial then u.discBack port f else u.discPass port f))) ∧
  (∀ (s : State) (p lseq count : Nat),
     exec (.linkAck p lseq) s = .next (s.setRport p { s.rport p with
       retry := (s.rport p).retry.filter fun e => decide (lseqDiff lseq e.1 = 0) || decide (32768 ≤ lseqDiff lseq e.1) }) ∧
     (s.portUp p = true →
       let u := s.sat Fld.RING_Pp_RETX.NAK_RX 1 p
       let names := (List.range (min 16 count)).map fun i => (lseq + i) % 65536
       let mark := ((u.rport p).retry.head?.map (·.1)).getD (u.rport p).next
       (∀ l ∈ names, lseqDiff mark l = 0 ∨ 32768 ≤ lseqDiff mark l) → exec (.linkNak p lseq count) s =
         .next (u.forEach ((u.rport p).retry.filter fun e => names.contains e.1) fun e s => s.resend p e)) ∧
     (lseqDiff lseq (s.rport p).rxNext = 0 → exec (.linkSkip p lseq) s = .next s) ∧
     (0 < lseqDiff lseq (s.rport p).rxNext → lseqDiff lseq (s.rport p).rxNext < 32768 → (s.rport p).rxGot = [] →
       let high := if lseqDiff lseq (s.rport p).rxHigh < 32768 then lseq else (s.rport p).rxHigh
       exec (.linkSkip p lseq) s =
         .next ((s.setRport p { s.rport p with rxNext := lseq % 65536, rxHigh := high }).sendLink p 0 (lseq % 65536) 0)) ∧
     (∀ e rest, (s.rport p).retry = e :: rest → s.portUp p = true → exec (.retransmitTimeout p) s = .next (s.resend p e)) ∧
     (∀ e rest, (s.rport p).wait = e :: rest →
       let u := (s.setRport p { s.rport p with wait := [] }).sat Fld.RING_Pp_CAP.CAP_DROP (rest.length + 1) p
       let u := u.forEach (e :: rest) fun e s => s.sat Fld.RING_STRs_CNT.CAP_DROP 1 e.1
       exec (.streamFrameDeadline p) s = .next (({ u with ring.capTick := some u.seq.frame } : State).degrade
         Fld.GLB_DEGRADED.STREAM_CAP Fld.GLB_DEGRADED_STICKY.STREAM_CAP true))) ∧
  (∀ (s : State) (p : Nat) (x : Probe), stHeld ≤ s.hubState →
     let sent := fun (change : Bool) =>
       ({ s with ring.owed := false } : State).forEach [0, 1] fun p s => if s.discUp p then s.probe p change else s
     exec (.discProbeSend false) s = .next (sent false).discJudge ∧
     exec (.discProbeSend true) s = .next ((sent true).put Fld.RING_STAT.DISC_DONE 0).discJudge ∧
     (s.ring.probes.getD p none = some x → x.back = none → s.discUp p = true →
       exec (.discProbeTimeout p) s = .next (s.probe p x.change)) ∧
     (let u := { s with ring.hseq := (s.ring.hseq + 1) % 65536 }
      exec .helloSend s = .next (u.sendAll u.helloFrame)))

/-- ADOPT_EFFECT (R644): at FT(F) the pending pair becomes the pair in force, an all-zero digest removes it, and ADOPT is
flagged; before F nothing changes. DIGEST_INHERIT (R645): a hub without a digest takes the one that its neighbours agree on.
HELLO_RECEIVE (R511, R521): the first copy of a HELLO that the port accepts is kept as the last one of its serial and read;
a further copy is only counted. HUB_SILENT (R530): a hub not heard in this tick becomes SILENT, and the loss is recorded and
announced once. -/
def Obligations.AgreementRows : Prop :=
  (∀ (s : State) (p : CDigest) (f : Nat),
     (s.sup.pend = some (p, f) → f ≤ s.seq.frame → ∃ t, exec .adoptEffect s = .next t ∧
       t.sup = { s.sup with
         prev := s.sup.inForce, inForce := if p.digest.all (· == 0) then none else some p, since := f, pend := none } ∧
       t.get Fld.SUP_EVT.ADOPT = 1 ∧ t.get Fld.SUP_QUAR.CDIG_PEND = 0 ∧
       t.get Fld.SUP_QUAR.CDIG_VALID = b2n (!p.digest.all (· == 0)) ∧
       t = { s with regs := t.regs, sup := t.sup } ∧ ∀ a, a < 0x30000 ∨ 0x40000 ≤ a → tabGet t.regs 0 a = tabGet s.regs 0 a) ∧
     (s.sup.pend = some (p, f) → s.seq.frame < f → exec .adoptEffect s = .next s) ∧
     (s.sup.adopted = false → s.sup.inForce = none → s.sup.pend = none → s.inheritable = some p →
       exec .digestInherit s = .next ({ s with sup.pend := some (p, s.seq.frame + 1) } : State).showDigest)) ∧
  (∀ (s u : State) (port lseq : Nat) (bytes : List Byte), s.receive port lseq 7 true bytes = (true, u) →
     let key := [leAt bytes 8 8, leAt bytes 0x5E 2]
     let known := u.ring.seen.any fun e => e.type == 7 && e.key == key
     (known = true → exec (.helloReceive port lseq bytes) s = .next (u.wrap Fld.RING_MISC.DUP_CNT)) ∧
     (known = false → exec (.helloReceive port lseq bytes) s = .next
       (({ u with ring.seen := ⟨7, key, 0⟩ :: u.ring.seen.filter fun e => !(e.type == 7 && e.key.head? == some (leAt bytes 8 8)) }
         : State).helloTake bytes))) ∧
  (∀ (s : State) (hub : Nat), hub < 128 → hub ≠ s.hubId → s.is Fld.RING_Hh.SILENT hub = false →
     tabGet? s.ring.heardAt hub ≠ some s.seq.frame → s.pmu.fetch = none →
     exec (.hubSilent hub) s = .next
       ((((s.put Fld.RING_Hh.SILENT 1 hub).evt Fld.RING_EVT.HUB_LOST 104).stage 0x0A04
         (leBytes 1 hub ++ leBytes 1 (b2n (s.is Fld.RING_STAT.DISC_DONE && !s.is Fld.RING_Hh.PRESENT hub)))).showSilence hub true))


/-! ## Field ports -/
/-- Supply of a field port (R558, R563): power is turned on for a bound-for port that wants it, again after an overcurrent that
is not latched, and after the 500 ms of a power cycle. POD_OVERCURRENT: the port is off and in FAULT, the event is counted,
flagged and recorded. The uplink of a port (R541, R550, R556, R557): sync gained flags ATTACH and starts discovery of a
waiting or lost port; sync lost, two TICK blocks missed and a missing load detach a bound pod; sync lost before binding
sends the port back to waiting. What a lost link leaves (R556): LSTATE LOST, DETACH flagged, nothing outstanding on the
port. -/
def Obligations.FieldPowerAndLinkRows : Prop :=
  (∀ (s : State) (p : Nat),
     (s.wantPower p = true → exec (.podPowerOn p) s = .next
       ((s.put Fld.FLD_Pp_STAT.PWREN 1 p).put Fld.FLD_STAT.POWERED (maskBit (s.get Fld.FLD_STAT.POWERED) p true))) ∧
     (s.lstate p = fpFAULT → (s.fport p).latched = false → (s.toLstate p fpWAIT).wantPower p = true →
       exec (.podOcRetry p) s = .next ((s.toLstate p fpWAIT).setPower p true)) ∧
     ((s.fport p).cycling = true → (s.setFport p { s.fport p with cycling := false }).wantPower p = true →
       exec (.fldPowerCycleEnd p) s = .next ((s.setFport p { s.fport p with cycling := false }).setPower p true))) ∧
  (∀ (s : State) (p : Nat), p < 16 → s.is Fld.FLD_Pp_STAT.PWREN p = true → ∃ t, exec (.podOvercurrent p) s = .next t ∧
     t.get Fld.FLD_Pp_STAT.PWREN p = 0 ∧ t.lstate p = fpFAULT ∧ t.is Fld.FLD_Pp_EVT.OC p = true ∧
     t.get Fld.FLD_Pp_CNT2.OC_CNT p = satAdd Fld.FLD_Pp_CNT2.OC_CNT.width (s.get Fld.FLD_Pp_CNT2.OC_CNT p) 1 ∧
     (t.fport p).cmd = none ∧ (t.fport p).todo = []) ∧
  (∀ (s : State) (p : Nat),
     (s.is Fld.FLD_Pp_STAT.DN_ON p = true → s.is Fld.FLD_Pp_STAT.UP_SYNC p = false →
       let t := ((s.put Fld.FLD_Pp_STAT.UP_SYNC 1 p).fevt Fld.FLD_Pp_EVT.ATTACH p).wrap Fld.FLD_Pp_CNT2.ATTACH_CNT 1 p
       exec (.uplinkSyncGain p) s = .next (if t.lstate p = fpWAIT ∨ t.lstate p = fpLOST then t.discover p else t)) ∧
     (s.is Fld.FLD_Pp_STAT.UP_SYNC p = true →
       let t := s.put Fld.FLD_Pp_STAT.UP_SYNC 0 p
       (t.lstate p = fpBOUND → exec (.uplinkSyncLoss p) s = .next (t.linkLost p 0)) ∧
       (t.lstate p = fpCONFIG → exec (.uplinkSyncLoss p) s = .next
         ((t.setFport p { t.fport p with cmd := none, todo := [], good := false }).toLstate p fpLOST))) ∧
     (s.lstate p = fpBOUND → exec (.podTickMiss p) s = .next (s.linkLost p 1)) ∧
     (∀ u, s.unitAt cPOD_BINDING p = some u → s.lstate p = fpBOUND → bindPower u = true → s.ownPower p = false →
       exec (.podNoload p) s = .next ((s.fevt Fld.FLD_Pp_EVT.NOLOAD p).linkLost p 2))) ∧
  (∀ (s : State) (p cause : Nat), p < 16 → (s.linkLost p cause).lstate p = fpLOST ∧
     (s.linkLost p cause).is Fld.FLD_Pp_EVT.DETACH p = true ∧ ((s.linkLost p cause).fport p).cmd = none ∧
     ((s.linkLost p cause).fport p).todo = [] ∧ ((s.linkLost p cause).fport p).tick = none)

/-- Commands to a pod (R548, R552): a command without a response is sent again up to three times; a good response of another
command than READ_DESC ends it and the next is sent; an ECHO keeps the round trip of an outstanding PING; a CONFIG without
OK by FT(F_b − 1) is sent again; with OK the pod is bound at FT(F_b). POD_BIND (R552): at FT(F_b) a pod whose CONFIG was
answered with OK is BOUND, its delay is shown and the binding recorded. Data blocks of a pod (R541 to R544): a SLICE with a
bad length or CRC is counted as missed, and a good one moves the position on; a TICK block with a bad CRC counts as missed;
an intact one of an unbound pod shows PSTAT. A good SLICE (R541 to R543) without a range event: its position follows the
last, and every channel takes four samples. -/
def Obligations.FieldMessageRows : Prop :=
  (∀ (s : State) (p : Nat) (c : FieldCmd),
     ((s.fport p).cmd = some c → c.tries < 3 →
       let d := { c with tries := c.tries + 1 }
       exec (.podCmdTimeout p) s = .next ((s.setFport p { s.fport p with cmd := some d }).sendFieldCmd p d)) ∧
     ((s.fport p).cmd = some c → c.opc ≠ 1 → c.opc ≠ 2 → ∀ bytes, bytes.length = 5 + fb bytes 2 →
       crc16 (bytes.take (3 + fb bytes 2)) = leAt bytes (3 + fb bytes 2) 2 → fb bytes 0 = c.cseq →
       exec (.podResponse p bytes) s = .next ((s.setFport p { s.fport p with cmd := none }).nextFieldCmd p)) ∧
     ((s.fport p).ping.isSome = true → s.is Fld.FLD_Pp_STAT.UP_SYNC p = true → ∀ rtt,
       exec (.echo p rtt) s = .next (s.setFport p { s.fport p with rtt := some rtt })) ∧
     (∀ f, (s.fport p).fb = some f → s.lstate p = fpCONFIG → (s.fport p).cfgOk = false → f ≤ s.seq.frame + 1 →
       exec (.podConfigResend p) s = .next
         ((s.setFport p { s.fport p with cmd := none }).queueCmds p ((s.fport p).todo ++ [(2, [])])))) ∧
  (∀ (s : State) (p f : Nat) (u : PatUnit), p < 16 → (s.fport p).fb = some f → s.unitAt cPOD_BINDING p = some u →
     s.lstate p = fpCONFIG → (s.fport p).cfgOk = true → f ≤ s.seq.frame →
     ∃ t, exec (.podBind p) s = .next t ∧ t.lstate p = fpBOUND ∧ t.is Fld.FLD_Pp_EVT.BOUND p = true ∧
       t.get Fld.FLD_Pp_TDOWN.TDOWN p = (s.fport p).mean % 2 ^ Fld.FLD_Pp_TDOWN.TDOWN.width ∧
       bit (t.get Fld.FLD_STAT.BOUND) p = true) ∧
  (∀ (s : State) (p m : Nat) (bytes : List Byte),
     (s.lstate p = fpBOUND → (s.fport p).tick = some m → channelsOf s.patUnits p 0 = [] → bytes.length ≠ 3 + sliceBytes 0 →
       exec (.slice p false false bytes) s = .next
         ((s.setFport p { s.fport p with slice := (s.fport p).slice + 1, sawTick := (s.fport p).sawTick }).missSlices p 1)) ∧
     (s.is Fld.FLD_Pp_STAT.UP_SYNC p = true → s.lstate p ≠ fpOFF → (s.fport p).tick = none → bytes.length = 12 →
       crc16 (bytes.take 10) ≠ leAt bytes 10 2 → s.lstate p ≠ fpBOUND →
       exec (.podTickBlock p bytes) s = .next (s.sat Fld.FLD_Pp_CNT.TICK_MISS 1 p)) ∧
     (s.is Fld.FLD_Pp_STAT.UP_SYNC p = true → s.lstate p = fpDISCOVER → (s.fport p).tick = none → (s.fport p).ping = none →
       bytes.length = 12 → crc16 (bytes.take 10) = leAt bytes 10 2 →
       exec (.podTickBlock p bytes) s = .next ((s.put Fld.FLD_Pp_STAT.PSTAT (leAt bytes 2 2) p).setFport p { s.fport p with
         tick := none, sawTick := true, slice := 0, ranges := (List.range 8).map fun q => field (leAt bytes 4 2) (2 * q) 2 }))) ∧
  (∀ (s : State) (p m : Nat) (bytes : List Byte), s.lstate p = fpBOUND → (s.fport p).tick = some m →
     let k := (channelsOf s.patUnits p 0).length
     let x := s.fport p
     bytes.length = 3 + sliceBytes k → crc8 (bytes.take (2 + sliceBytes k)) = fb bytes (2 + sliceBytes k) →
     fb bytes 0 = x.slice → x.slice < 256 → x.slice < s.nPer / 4 →
     ∃ t, exec (.slice p false false bytes) s = .next t ∧ (t.fport p).slice = x.slice + 1 ∧
       t.get Fld.FLD_Pp_CNT.SLICE_MISS p = s.get Fld.FLD_Pp_CNT.SLICE_MISS p ∧
       t = { s with regs := t.regs, chains := t.chains, fieldPorts := t.fieldPorts })


/-! ## Loops, outputs, queues and host data -/
/-- Writes to a loop's registers (R419, R426, R438): a command word waits for the next frame tick; a push enters the FIFO while
it has room and is lost and flagged when it is full; a flush empties it; a gain is staged, and its register shows it. A
remote source of a Sluice that stays silent for PARTNER_TICKS is gone (R455); an output whose pin is off is in FAULT,
flagged and recorded with the DAC code and the measured value (R458). -/
def Obligations.LoopAndSluiceRows : Prop :=
  (∀ (s : State) (k v : Nat), s.mapOpen = true → k < 64 → v < 2 ^ 32 →
     (∃ t, exec (.loopCmdWrite k v) s = .next t ∧ (t.slot k) = { s.slot k with cmd := some v }) ∧
     ((s.slot k).fifo.length < 256 → ∃ t, exec (.loopCmdFifoPush k v) s = .next t ∧
       t.slot k = { s.slot k with fifo := (s.slot k).fifo ++ [v] } ∧ t.get Fld.LOOP_Sn_STAT.CMD_HELD k = 0) ∧
     (256 ≤ (s.slot k).fifo.length → exec (.loopCmdFifoPush k v) s = .next (s.put Fld.LOOP_Sn_EVT.CMD_OVF 1 k)) ∧
     (∃ t, exec (.loopFifoFlush k) s = .next t ∧ t.slot k = { s.slot k with fifo := [] } ∧
       t.get Fld.LOOP_Sn_FIFO.LEVEL k = 0 ∧ t.get Fld.LOOP_Sn_STAT.CMD_HELD k = 1) ∧
     (∀ g, g < 4 → s.hubState ≠ stRun → ∃ t, exec (.loopGainWrite k g v) s = .next t ∧
       tabGet? (t.slot k).staged g = some ([Reg.LOOP_Sn_KP, Reg.LOOP_Sn_KI, Reg.LOOP_Sn_KD, Reg.LOOP_Sn_KFF].map fun r =>
         (writeCodes r false (s.rd r k) (BitVec.ofNat 32 v)).toNat)[g]? ∧ t.get Fld.LOOP_Sn_STAT.GAIN_PEND k = 1 ∧
       (t.slot k).gains = (s.slot k).gains)) ∧
  (∀ (s : State) (o k : Nat) (u : PatUnit),
     (s.hubState = stRun → k ∉ (s.slu o).gone → s.policy 0x0704 64 ≤ (s.slu o).silent.getD k 0 → exec (.partnerTimeout o k) s =
       .next (((s.setSlu o { s.slu o with gone := k :: (s.slu o).gone }).evt Fld.SLU_EVT.PARTNER 105).partnerDegraded)) ∧
     (s.unitAt cOUTPUT o = some u → o < 16 → s.get Fld.SLU_Oo_STAT.STATE o ≠ 6 → exec (.outputFault o) s =
       .next ((((s.put Fld.SLU_Oo_STAT.STATE 6 o).put Fld.SLU_Oo_EVT.FAULT 1 o).uPut Fld.UNIT_STAT.CLASS_EVT 1 u.id).stage 0x0905
         (leBytes 4 o ++ leBytes 4 (unsigned 32 (dacCode (wVal (s.slu o).word))) ++ leBytes 4 (s.get Fld.SLU_Oo_MEAS.MV o)))))

/-- Pops (R572, R575): an active processor queue gives its oldest word and moves its read pointer; an empty queue answers EMPTY
at once on SPI or with WAIT_NS 0 and otherwise holds the pop, which expires with EMPTY; a queue that a processor may not pop
is REFUSED; the path of MGMT gives 0. A queue's other rows (R576, R579): a flush empties it and moves the read pointer to
the write pointer; a stale queue is flagged and counted once. -/
def Obligations.QueueRows : Prop :=
  (∀ (s : State) (p : Path) (q : Nat) (wide : Bool), q < 64 → s.mapOpen = true →
     exec (.queuePop .mgmt q wide false) s = .next { s with host.popData := s.host.popData ++ [(.mgmt, 0, 0)] } ∧
     (p ≠ .mgmt → s.is Fld.QUE_Qq_CFG.ACTIVE q = true → s.is Fld.QUE_Qq_CFG.CONSUMER q = false → s.is Fld.QUE_Qq_CFG.BOUND q = false →
       (∀ y rest, (s.queue q).words = y :: rest → ∃ t, exec (.queuePop p q wide false) s = .next t ∧
         (t.queue q).words = rest ∧ (t.queue q).w = (s.queue q).w ∧ (t.queue q).r = ((s.queue q).r + 1) % 2 ^ (s.qLog q + 1) ∧
         (t.queue q).stale = (if rest = [] then none else some s.silt.opNs) ∧
         t.host.popData = s.host.popData ++
           [(p, (y.seen false).data % 2 ^ 32, if wide then (y.seen false).data / 2 ^ 32 else 0)]) ∧
       ((s.queue q).words = [] → p = .spi ∨ s.get Fld.QUE_STAT.WAIT_NS = 0 →
         exec (.queuePop p q wide false) s = .next (s.popEmpty q p false)) ∧
       ((s.queue q).words = [] → p ≠ .spi → s.get Fld.QUE_STAT.WAIT_NS ≠ 0 → exec (.queuePop p q wide false) s =
         .next (s.setQueue q { s.queue q with pops := (s.queue q).pops ++ [⟨p, wide⟩] }))) ∧
     (p ≠ .mgmt → s.is Fld.QUE_Qq_CFG.ACTIVE q = false ∨ s.is Fld.QUE_Qq_CFG.CONSUMER q = true →
       exec (.queuePop p q wide false) s = .next (s.popEmpty q p true)) ∧
     (∀ w ws, (s.queue q).pops = w :: ws →
       exec (.popWaitExpire q) s = .next ((s.setQueue q { s.queue q with pops := ws }).popEmpty q w.path false))) ∧
  (∀ (s : State) (q : Nat), q < 64 → s.mapOpen = true →
     ((s.queue q).words = [] → exec (.queCtrlFlush q) s = .next s) ∧
     ((s.queue q).words ≠ [] → ∃ t, exec (.queCtrlFlush q) s = .next t ∧
       t.queue q = { s.queue q with words := [], r := (s.queue q).w, stale := none } ∧ t.get Fld.QUE_Qq_LEVEL.LEVEL q = 0) ∧
     (∀ t0, (s.queue q).stale = some t0 → exec (.staleTimeout q) s =
       .next (((s.setQueue q { s.queue q with stale := none }).evt Fld.QUE_Qq_STAT.STALE q q).sat Fld.QUE_Qq_CNT2.STALE_CNT 1 q)))

/-- R578: a watermark is written in every state in which the map responds; a value above 2^SIZE_LOG2 is cut to it; WM_LO never
becomes greater than WM_HI; and the write itself changes the two watermarks only, so a new value acts at the next change of
L. -/
def Obligations.WatermarkWriteRow : Prop :=
  ∀ (s : State) (q v : Nat) (hi : Bool), q < 64 → s.mapOpen = true → ∃ t, exec (.watermarkWrite q hi v) s = .next t ∧
      (hi = true → t.get Fld.QUE_Qq_WM_HI.WM q = min (2 ^ s.qLog q) (v % 2 ^ 19) ∧
        t.get Fld.QUE_Qq_WM_LO.WM q = min (s.get Fld.QUE_Qq_WM_LO.WM q) (min (2 ^ s.qLog q) (v % 2 ^ 19))) ∧
      (hi = false → t.get Fld.QUE_Qq_WM_HI.WM q = s.get Fld.QUE_Qq_WM_HI.WM q ∧
        t.get Fld.QUE_Qq_WM_LO.WM q = min (min (2 ^ s.qLog q) (v % 2 ^ 19)) (s.get Fld.QUE_Qq_WM_HI.WM q)) ∧
      RegsOnly [Reg.QUE_Qq_WM_HI.at q 0, Reg.QUE_Qq_WM_LO.at q 0] s t

/-- Enabling and disabling a DMA ring (R584, R588): an enabled ring runs with HEAD and TAIL 0; enabling an enabled ring changes
nothing; disabling gives back a job in progress and leaves the ring at rest. DMA_TAIL_WRITE (R585): the descriptors up to
TAIL are posted and the ring goes on; a TAIL beyond the ring is flagged and changes nothing else. A descriptor ends (R585 to
R587): a capture-read ring writes the bytes to the host and the descriptor back; a queue ring's words that wait longer than
DMA_FLUSH_US are drained; a host error stops the ring, is flagged, and raises the ring's notice. -/
def Obligations.DmaRows : Prop :=
  (∀ (s : State) (r v : Nat), s.mapOpen = true → bit v 31 = true → 16 ≤ r → r < 32 →
     (s.is Fld.DMA_Rr_CFG.ENABLE r = true → exec (.dmaRingEnable r v) s = .next s) ∧
     (s.is Fld.DMA_Rr_CFG.ENABLE r = false → s.bindOk r (field v 16 2) (field v 0 6) = true →
       ∃ t, exec (.dmaRingEnable r v) s = .next t ∧ t.is Fld.DMA_Rr_CFG.ENABLE r = true ∧ t.get Fld.DMA_Rr_STAT.STATE r = 1 ∧
         t.rd Reg.DMA_Rr_TAIL r = 0 ∧ t.rd Reg.DMA_Rr_HEAD r = 0 ∧ t.dring r = Ring.rest) ∧
     (s.is Fld.DMA_Rr_CFG.ENABLE r = false → s.bindOk r (field v 16 2) (field v 0 6) = false →
       exec (.dmaRingEnable r v) s = .next (s.put Fld.DMA_Rr_STAT.CFG_ERR 1 r)) ∧
     (s.is Fld.DMA_Rr_CFG.ENABLE r = true → (s.dring r).job = none →
       exec (.dmaRingDisable r) s = .next ((s.ringOff r).failRingJobs r))) ∧
  (∀ (s : State) (r tail : Nat) (ds : List Descriptor), s.mapOpen = true → tail < 65536 →
     let n := (tail + 65536 - s.get Fld.DMA_Rr_HEAD.INDEX r) % 65536
     (n ≤ 2 ^ s.get Fld.DMA_Rr_CFG.SIZE_LOG2 r → s.is Fld.DMA_Rr_CFG.ENABLE r = true → (s.dring r).job = none → r < 32 →
       exec (.dmaTailWrite r tail ds) s = .next
         (((s.put Fld.DMA_Rr_TAIL.INDEX tail r).setDring r { s.dring r with posted := ((s.dring r).posted ++ ds).take n }).ringPump r)) ∧
     (2 ^ s.get Fld.DMA_Rr_CFG.SIZE_LOG2 r < n →
       exec (.dmaTailWrite r tail ds) s = .next (s.put Fld.DMA_Rr_STAT.TAIL_ERR 1 r))) ∧
  (∀ (s : State) (r : Nat) (j : RingJob), (s.dring r).job = some j → r < 16 →
     (s.ringRuns r = true → s.ringKind r ≠ 0 → s.descOk r j.desc = true →
       let poison := s.cap.poisoned.any fun b => decide (j.desc.param / 32 ≤ b) && decide (b ≤ (j.desc.param + j.desc.len - 1) / 32)
       exec (.dmaDescriptorComplete r [] []) s = .next (((s.hostData j.desc.addr (s.capRead j.desc.param j.desc.len)).ringWriteBack r
         j.desc j.desc.len 0 poison false).ringPump r)) ∧
     (s.ringRuns r = true → s.ringKind r = 0 → j.words ≠ [] →
       exec (.dmaFlushTimeout r) s = .next ((s.ringDrain r 0 []).ringPump r)) ∧
     (s.get Fld.DMA_Rr_STAT.STATE r = 1 → s.ringKind r ≠ 0 → (s.put Fld.DMA_PCIE_EVT.CPL_ERR 1).ringKind r = s.ringKind r →
       exec (.dmaHostError r) s = .next
         ((((((s.put Fld.DMA_PCIE_EVT.CPL_ERR 1).ringWriteBack r j.desc j.done 2 false false).put Fld.DMA_Rr_STAT.STATE 2 r).raise
           (64 + r)).dmaError r 0 2 0).failRingJobs r)))

/-- The function's own states (R588, R657): Bus Master Enable and D3hot pause and resume the rings; a function level reset stops
and clears every ring; the link's loss and return are shown. A function level reset leaves every ring disabled with HEAD,
TAIL and BASE 0, no MSI-X table entry, no pending message, and Bus Master Enable and MSI-X off (R588). Notice rows (R581,
R582): a write to DMA_NPENDj clears the named pending bits; unmasking a vector sends what the PBA holds for it; a hub that
is no head hub sends its raises in one record to each head hub; a head hub stores another hub's bitmap. -/
def Obligations.PcieAndNoticeRows : Prop :=
  (∀ s : State,
     exec (.dmaPause true) s = .next { s with host.d3hot := true } ∧
     exec (.dmaPause false) s = .next (s.put Fld.DMA_PCIE_STAT.BME 0) ∧
     exec (.dmaResume true) s = .next ({ s with host.d3hot := false } : State).ringsPump ∧
     exec (.dmaResume false) s = .next (s.put Fld.DMA_PCIE_STAT.BME 1).ringsPump ∧
     exec .functionLevelReset s = .next (s.put Fld.DMA_PCIE_EVT.FLR 1).dmaReset ∧
     (s.is Fld.DMA_PCIE_STAT.LINK_UP = true → exec .pcieLinkDown s = .next (s.put Fld.DMA_PCIE_EVT.LINK_DOWN 1).linkGone) ∧
     (∀ w v, exec (.pcieLinkUp w v) s = .next ((((s.put Fld.DMA_PCIE_STAT.LINK_UP 1).put Fld.DMA_PCIE_STAT.WIDTH w).put
       Fld.DMA_PCIE_STAT.SPEED v).headDegraded).ringsPump)) ∧
  (∀ (s : State) (r : Nat), r < 32 → ∃ t, exec .functionLevelReset s = .next t ∧
     t.get Fld.DMA_Rr_CFG.ENABLE r = 0 ∧ t.rd Reg.DMA_Rr_TAIL r = 0 ∧ t.rd Reg.DMA_Rr_HEAD r = 0 ∧ t.rd Reg.DMA_Rr_BASE_LO r = 0 ∧
     t.get Fld.DMA_PCIE_STAT.BME = 0 ∧ t.get Fld.DMA_PCIE_STAT.MSIX_EN = 0 ∧ t.host.msix = [] ∧ t.host.pba = 0 ∧
     t.get Fld.DMA_PCIE_EVT.FLR = 1) ∧
  (∀ (s : State) (j v hub : Nat) (bytes : List Byte) (p : Pattern), s.mapOpen = true →
     exec (.noticePendingClear j v) s = .next (s.writeByCode Reg.DMA_NPENDj v j) ∧
     (v < 64 → exec (.msixUnmask (some v) true) s = .next (s.wrMsix (4 * v + 3) 0)) ∧
     (exec (.msixUnmask none true) s = .next (({ s with host.fnMask := false } : State).put Fld.DMA_PCIE_STAT.MSIX_EN 1).msixSend) ∧
     (s.isHead = true → exec (.noticeRecordReceive hub bytes) s = .next (s.noticeStore hub bytes)) ∧
     (s.host.ringNotice = true → s.isHead = false → s.banks.act = some p → p.cluster.head0 < 128 → 128 ≤ p.cluster.head1 →
       let map := ofWords ((List.range 4).map fun j => s.get Fld.DMA_NPENDj.PEND j)
       let r := responseRecord 0x97 s.hubId 0 s.host.noticeSeq 0 0 s.frameNow 0 0 map
       exec .noticeRingSend s = .next (({ s with
         host.ringNotice := false, host.noticeSeq := (s.host.noticeSeq + 1) % 2 ^ 32 } : State).mgmtSend 1 p.cluster.head0 r)))

/-- Wring jobs (R604, R607 to R609, R618): a job without new words for CLOSE_US is cut; a cut compression job ends with its
wrapped output, a decompression job with its verdict, a memory error with result 0xB; a decompression job starts when its
ring has descriptors; CUT and ABORT act on the job of the context. A job that ends well shows its result, its output size
and its checksum, and the context is free (R608, R609). -/
def Obligations.WringRows : Prop :=
  (∀ (s : State) (j : Nat) (w : WringJob),
     (s.wjob j = some w →
       (w.words ≠ [] → (s.queue w.queue).words = [] → s.get Fld.WRG_Cj_CLOSE_US.CLOSE_US j ≠ 0 →
         exec (.wringCloseTimeout j) s = .next (s.wringCut j)) ∧
       exec (.wringJobEnd j true) s = .next ((s.put Fld.WRG_STAT.MEM_ERR 1).wringFail j 0xB) ∧
       (w.expand = false → w.cut = true → exec (.wringJobEnd j false) s = .next (s.wringCommitOut j w
         (wrapStream w.wrap w.level (s.fdSubfield w) w.covered) (if w.wrap = 1 then adler32 w.covered else crc32 w.covered))) ∧
       (w.expand = true → ∀ k out, w.verdict = some (k, out) → exec (.wringJobEnd j false) s = .next
         (if k = 1 then s.wringCommitOut j w out (streamCheck w.wrap w.bytes out) else s.wringFail j k)) ∧
       (s.mapOpen = true → w.expand = false → exec (.wrgCtrlCut j) s = .next (s.setWjob j { w with cut := true }) ∧
         exec (.wrgCtrlAbort j) s = .next (s.wringEnd j 3 0 0))) ∧
     (∀ u r, s.wjob j = none → s.unitAt cWRING j = some u → s.inputRing j = some r → wrgDir u = 1 → s.ringRuns r = true →
       (s.dring r).posted ≠ [] → exec (.wringDecompressStart j) s = .next (s.wringBegin u))) ∧
  (∀ (s : State) (j out check : Nat) (w : WringJob), j < 16 → s.wjob j = some w → w.orphan = false → out < 2 ^ 32 → check < 2 ^ 32 →
     let t := s.wringEnd j 1 out check
     t.wjob j = none ∧ t.get Fld.WRG_Cj_STAT.RESULT j = 1 ∧ t.is Fld.WRG_Cj_EVT.DONE j = true ∧ t.get Fld.WRG_Cj_OUT.BYTES j = out ∧
       t.get Fld.WRG_Cj_CHECK.CHECK j = check ∧ bit (t.get Fld.WRG_STAT.BUSY) j = false)

/-- The silt log's rows (R624 to R626, R632, R633): a copy ends and the next one or the next event follows; the checkpoint keeps
the operating time; a clear leaves the head at the record LOG_CLEAR and no mark; the cursor and the window's last word load
a snapshot; a read of the operating time latches its high half. -/
def Obligations.SiltRows : Prop :=
  ∀ (s : State) (p : Path) (v corr : Nat) (ue : List (Nat × Nat)) (j : SiltJob),
    (∀ c rest, s.silt.job = some j → j.copies = c :: rest →
      (rest ≠ [] → exec .siltRecordWritten s =
        .next { s.writeCopy j.ev j.seq c with silt.job := some { j with copies := rest } }) ∧
      (rest = [] → c = false → exec .siltRecordWritten s = .next (s.writeCopy j.ev j.seq c).writerNext)) ∧
    exec .optimeCheckpoint s = .next { s with silt.checkpoint := s.opMs } ∧
    (s.silt.clear = none → exec .logClearDone s = .next s) ∧
    (∀ c, s.silt.clear = some c → s.silt.job = none →
      let h := s.get Fld.SLT_SVC_HEAD.HEAD
      let data := leBytes 4 h ++ leBytes 4 (s.get Fld.SLT_DROP.DROP) ++ leBytes 2 c.source ++ leBytes 4 c.request
      let u := ((({ s with silt.mram := clearCommits h s.silt.mram } : State).put Fld.SLT_SVC_HEAD.HEAD 0).put Fld.SLT_STAT.FULL
        0).put Fld.SLT_DROP.DROP 0
      let u := u.recordNow (u.siltEvent 0x0205 data)
      exec .logClearDone s = .next (({ u with silt.clear := none } : State).put Fld.SLT_STAT.CLEARING 0).writerNext) ∧
    (s.mapOpen = true →
      let near := ue.filter fun e => decide (e.1 < 8)
      exec (.sltCursorWrite p v corr ue) s =
        .next (s.loadWindow p (field v 31 1) (field v 16 1) (field v 0 16) corr near) ∧
      (bit (s.bank p).cursor 31 = false → exec (.sltWin15Read p corr ue) s =
        .next { s with host.readData := [s.winWord p 15] }) ∧
      (bit (s.bank p).cursor 31 = true →
        let c := (s.bank p).cursor
        exec (.sltWin15Read p corr ue) s = .next { s.loadWindow p 1 (field c 16 1) (field c 0 16 + 1) corr near with
          host.readData := [s.winWord p 15] }) ∧
      exec (.sltOptRead p) s = .next { s.setBank p { s.bank p with optHi := s.opMs / 2 ^ 32 % 2 ^ 16 } with
        host.readData := [s.opMs % 2 ^ 32] })
end

