-- ==== Sys2Proof/Laws/Regs.lean ====
section
/-! SUPPORT. Register laws: what a read of a register or field gives after a store, and that a store changes nothing but its
register. -/

namespace Sys2Proof.Machine

theorem tabGet_set {α : Type} (t : Tab α) (d : α) (k j : Nat) (v : α) :
    tabGet (tabSet t k v) d j = if j = k then v else tabGet t d j := by
  unfold tabGet
  induction t with
  | nil =>
    by_cases h : j = k
    · simp [tabSet, tabGet?, h]
    · simp [tabSet, tabGet?, h, Ne.symm h]
  | cons e t ih =>
    obtain ⟨i, w⟩ := e
    simp only [tabSet]
    split
    · by_cases h : j = k
      · subst h; simp [tabGet?]
      · simp [tabGet?, h, Ne.symm h]
    · split
      · rename_i h1 h2
        subst h2
        by_cases h : j = k
        · subst h; simp [tabGet?]
        · simp [tabGet?, h, Ne.symm h]
      · rename_i h1 h2
        by_cases h : i = j
        · subst h; simp [tabGet?, Ne.symm h2]
        · simpa [tabGet?, h] using ih

theorem tabGet_erase {α : Type} (t : Tab α) (d : α) (k j : Nat) :
    tabGet (tabErase t k) d j = if j = k then d else tabGet t d j := by
  unfold tabGet
  induction t with
  | nil => simp [tabErase, tabGet?]
  | cons e t ih =>
    obtain ⟨i, w⟩ := e
    simp only [tabErase]
    split
    · rename_i h
      subst h
      rw [ih]
      by_cases h : j = i
      · simp [h]
      · simp [tabGet?, h, Ne.symm h]
    · by_cases h : i = j
      · subst h; rename_i h2; simp [tabGet?, h2]
      · simpa [tabGet?, h] using ih

/-- Registers after a store. -/
theorem State.wr_regs (s : State) (r : RegDef) (v : Word) (i j a : Nat) :
    tabGet (s.wr r v i j).regs 0 a =
      if a = r.at i j ∧ r.has i j then v ^^^ BitVec.ofNat 32 r.reset else tabGet s.regs 0 a := by
  unfold State.wr
  by_cases h : r.has i j = true
  · dsimp only
    rw [if_pos h]
    split
    · rename_i h0
      show tabGet (tabErase s.regs (r.at i j)) 0 a = _
      rw [tabGet_erase, h0]
      simp [h]
    · show tabGet (tabSet s.regs (r.at i j) _) 0 a = _
      rw [tabGet_set]
      simp [h]
  · simp [h]

/-- A store changes the registers only. -/
theorem State.wr_frame (s : State) (r : RegDef) (v : Word) (i j : Nat) :
    s.wr r v i j = { s with regs := (s.wr r v i j).regs } := by
  unfold State.wr
  dsimp only
  split <;> rfl

theorem getLsb_putBits (w : Word) (l n v k : Nat) (hk : k < 32) :
    (putBits w l n v).getLsbD k = if l ≤ k ∧ k < l + n then v.testBit (k - l) else w.getLsbD k := by
  have ho : ∀ q, (ones n).getLsbD q = (decide (q < 32) && decide (q < n)) := by
    intro q
    rw [ones, BitVec.getLsbD_ofNat, Nat.testBit_two_pow_sub_one]
  simp only [putBits, BitVec.getLsbD_or, BitVec.getLsbD_and, BitVec.getLsbD_not, BitVec.getLsbD_shiftLeft, hk,
    decide_true, Bool.true_and, ho, BitVec.getLsbD_ofNat]
  by_cases h1 : k < l
  · simp [h1, Nat.not_le.mpr h1]
  · have h2 : l ≤ k := Nat.le_of_not_lt h1
    by_cases h3 : k < l + n
    · have h4 : k - l < n := by omega
      have h5 : k - l < 32 := by omega
      simp [h1, h2, h3, h4, h5]
    · have h4 : ¬ k - l < n := by omega
      simp [h1, h2, h3, h4]

/-- A field reads what was put into it, cut to its width. -/
theorem getBits_putBits (w : Word) (l n v : Nat) (h : l + n ≤ 32) : getBits (putBits w l n v) l n = v % 2 ^ n := by
  have : (putBits w l n v).extractLsb' l n = BitVec.ofNat n v := by
    apply BitVec.eq_of_getLsbD_eq
    intro i hi
    have hk : l + i < 32 := by omega
    rw [BitVec.getLsbD_extractLsb', getLsb_putBits _ _ _ _ _ hk, BitVec.getLsbD_ofNat]
    simp [hi]
  simp [getBits, this]

/-- A field keeps its value when bits outside it are put. -/
theorem getBits_putBits_ne (w : Word) (l n v l' n' : Nat) (h : l' + n' ≤ l ∨ l + n ≤ l') :
    getBits (putBits w l n v) l' n' = getBits w l' n' := by
  have : (putBits w l n v).extractLsb' l' n' = w.extractLsb' l' n' := by
    apply BitVec.eq_of_getLsbD_eq
    intro i hi
    simp only [BitVec.getLsbD_extractLsb', hi, decide_true, Bool.true_and]
    by_cases hk : l' + i < 32
    · rw [getLsb_putBits _ _ _ _ _ hk, if_neg (by omega)]
    · rw [BitVec.getLsbD_of_ge _ _ (by omega), BitVec.getLsbD_of_ge _ _ (by omega)]
  simp [getBits, this]

theorem State.rd_wr_same (s : State) (r : RegDef) (v : Word) (i j : Nat) (h : r.has i j = true) :
    (s.wr r v i j).rd r i j = v := by
  unfold State.rd
  rw [if_pos h, State.wr_regs, if_pos ⟨rfl, h⟩]
  simp

theorem RegDef.at_le {r : RegDef} {i j : Nat} (h : r.has i j = true) :
    r.base ≤ r.at i j ∧ r.at i j ≤ r.base + r.s1 * (r.n1 - 1) + r.s2 * (r.n2 - 1) := by
  simp [RegDef.has, RegDef.at] at *
  obtain ⟨h1, h2⟩ := h
  have := Nat.mul_le_mul_left r.s1 (Nat.le_sub_one_of_lt h1)
  have := Nat.mul_le_mul_left r.s2 (Nat.le_sub_one_of_lt h2)
  omega

theorem RegDef.disjoint_ne {r q : RegDef} {i j a b : Nat} (h : r.disjoint q = true) (hr : r.has i j = true)
    (hq : q.has a b = true) : q.at a b ≠ r.at i j := by
  have h1 := RegDef.at_le hr
  have h2 := RegDef.at_le hq
  simp only [RegDef.disjoint, Bool.or_eq_true, decide_eq_true_eq, Bool.and_eq_true, beq_iff_eq, bne_iff_ne] at h
  rcases h with (h | h) | ⟨⟨⟨⟨_, h4⟩, h5⟩, h6⟩, h7⟩
  · omega
  · omega
  · intro e
    apply h7
    simp only [RegDef.at, h5, h6, ← h4, Nat.zero_mul, Nat.add_zero] at e
    have e' := congrArg (· % r.s1) e
    simp only [Nat.add_mul_mod_self_left] at e'
    rw [← h4]
    exact e'.symm

/-- A register keeps its value when one of another family is stored. -/
theorem State.rd_wr_disjoint (s : State) {r q : RegDef} (v : Word) (i j a b : Nat) (h : r.disjoint q = true) :
    (s.wr r v i j).rd q a b = s.rd q a b := by
  unfold State.rd
  split
  · rename_i hq
    rw [State.wr_regs]
    have : ¬ (q.at a b = r.at i j ∧ r.has i j = true) := fun e => RegDef.disjoint_ne h e.2 hq e.1
    simp only [this, if_false]
  · rfl

/-- A field keeps its value when an independent one is put. -/
theorem State.get_put_indep (s : State) {f g : Field} (v i j a b : Nat) (h : f.indep g = true) :
    (s.put f v i j).get g a b = s.get g a b := by
  simp only [Field.indep, Bool.or_eq_true, Bool.and_eq_true, beq_iff_eq, decide_eq_true_eq] at h
  rcases h with h | ⟨h1, h2⟩
  · unfold State.get State.put
    rw [State.rd_wr_disjoint _ _ _ _ _ _ h]
  · obtain ⟨r, l, n⟩ := f
    obtain ⟨q, l', n'⟩ := g
    dsimp only at h1 h2
    subst h1
    unfold State.get State.put State.rd
    dsimp only
    split
    · rename_i hq
      rw [State.wr_regs]
      by_cases e : r.at a b = r.at i j ∧ r.has i j = true
      · rw [if_pos e, if_pos e.2, e.1, BitVec.xor_assoc, BitVec.xor_self, BitVec.xor_zero]
        exact getBits_putBits_ne _ _ _ _ _ _ h2
      · rw [if_neg e]
    · rfl

/-- A field reads what was put into it, cut to its width. -/
theorem State.get_put_same (s : State) {f : Field} (v i j : Nat) (h : f.lsb + f.width ≤ 32) (hi : f.reg.has i j = true) :
    (s.put f v i j).get f i j = v % 2 ^ f.width := by
  unfold State.get State.put
  rw [State.rd_wr_same _ _ _ _ _ hi, getBits_putBits _ _ _ _ h]

theorem State.get_wr_disjoint (s : State) {r : RegDef} {g : Field} (v : Word) (i j a b : Nat) (h : r.disjoint g.reg = true) :
    (s.wr r v i j).get g a b = s.get g a b := by
  unfold State.get
  rw [State.rd_wr_disjoint _ _ _ _ _ _ h]

theorem State.rd_put_disjoint (s : State) {f : Field} {q : RegDef} (v i j a b : Nat) (h : f.reg.disjoint q = true) :
    (s.put f v i j).rd q a b = s.rd q a b := State.rd_wr_disjoint _ _ _ _ _ _ h

end Sys2Proof.Machine
end

