-- ==== Sys2Proof/Laws/State.lean ====
section
/-! SUPPORT. What the register operations leave as it was, one lemma per part of the state; and what the setters of one
channel, chain, slot and the like give back. -/

namespace Sys2Proof.Machine

/-- Putting a field changes the registers only. -/
theorem State.put_frame (s : State) (f : Field) (v i j : Nat) : s.put f v i j = { s with regs := (s.put f v i j).regs } :=
  State.wr_frame _ _ _ _ _

/-- Writing a field of a unit's status block changes the registers only. -/
theorem State.uPut_frame (s : State) (f : Field) (v id : Nat) : s.uPut f v id = { s with regs := (s.uPut f v id).regs } := by
  unfold State.uPut
  dsimp only
  split <;> rfl

@[simp] theorem State.wr_seq (s : State) (r : RegDef) (v : Word) (i j : Nat) : (s.wr r v i j).seq = s.seq := by
  rw [State.wr_frame]
@[simp] theorem State.put_seq (s : State) (f : Field) (v i j : Nat) : (s.put f v i j).seq = s.seq := State.wr_seq _ _ _ _ _
@[simp] theorem State.sat_seq (s : State) (f : Field) (k i j : Nat) : (s.sat f k i j).seq = s.seq := State.wr_seq _ _ _ _ _
@[simp] theorem State.wrap_seq (s : State) (f : Field) (k i j : Nat) : (s.wrap f k i j).seq = s.seq := State.wr_seq _ _ _ _ _
@[simp] theorem State.putI_seq (s : State) (f : Field) (v : Int) (i j : Nat) : (s.putI f v i j).seq = s.seq :=
  State.wr_seq _ _ _ _ _
@[simp] theorem State.uPut_seq (s : State) (f : Field) (v id : Nat) : (s.uPut f v id).seq = s.seq := by
  rw [State.uPut_frame]
@[simp] theorem State.wr_bankP (s : State) (r : RegDef) (v : Word) (i j : Nat) : (s.wr r v i j).bankP = s.bankP := by
  rw [State.wr_frame]
@[simp] theorem State.put_bankP (s : State) (f : Field) (v i j : Nat) : (s.put f v i j).bankP = s.bankP := State.wr_bankP _ _ _ _ _
@[simp] theorem State.sat_bankP (s : State) (f : Field) (k i j : Nat) : (s.sat f k i j).bankP = s.bankP := State.wr_bankP _ _ _ _ _
@[simp] theorem State.wrap_bankP (s : State) (f : Field) (k i j : Nat) : (s.wrap f k i j).bankP = s.bankP := State.wr_bankP _ _ _ _ _
@[simp] theorem State.putI_bankP (s : State) (f : Field) (v : Int) (i j : Nat) : (s.putI f v i j).bankP = s.bankP :=
  State.wr_bankP _ _ _ _ _
@[simp] theorem State.uPut_bankP (s : State) (f : Field) (v id : Nat) : (s.uPut f v id).bankP = s.bankP := by
  rw [State.uPut_frame]
@[simp] theorem State.wr_bankS (s : State) (r : RegDef) (v : Word) (i j : Nat) : (s.wr r v i j).bankS = s.bankS := by
  rw [State.wr_frame]
@[simp] theorem State.put_bankS (s : State) (f : Field) (v i j : Nat) : (s.put f v i j).bankS = s.bankS := State.wr_bankS _ _ _ _ _
@[simp] theorem State.sat_bankS (s : State) (f : Field) (k i j : Nat) : (s.sat f k i j).bankS = s.bankS := State.wr_bankS _ _ _ _ _
@[simp] theorem State.wrap_bankS (s : State) (f : Field) (k i j : Nat) : (s.wrap f k i j).bankS = s.bankS := State.wr_bankS _ _ _ _ _
@[simp] theorem State.putI_bankS (s : State) (f : Field) (v : Int) (i j : Nat) : (s.putI f v i j).bankS = s.bankS :=
  State.wr_bankS _ _ _ _ _
@[simp] theorem State.uPut_bankS (s : State) (f : Field) (v id : Nat) : (s.uPut f v id).bankS = s.bankS := by
  rw [State.uPut_frame]
@[simp] theorem State.wr_bankM (s : State) (r : RegDef) (v : Word) (i j : Nat) : (s.wr r v i j).bankM = s.bankM := by
  rw [State.wr_frame]
@[simp] theorem State.put_bankM (s : State) (f : Field) (v i j : Nat) : (s.put f v i j).bankM = s.bankM := State.wr_bankM _ _ _ _ _
@[simp] theorem State.sat_bankM (s : State) (f : Field) (k i j : Nat) : (s.sat f k i j).bankM = s.bankM := State.wr_bankM _ _ _ _ _
@[simp] theorem State.wrap_bankM (s : State) (f : Field) (k i j : Nat) : (s.wrap f k i j).bankM = s.bankM := State.wr_bankM _ _ _ _ _
@[simp] theorem State.putI_bankM (s : State) (f : Field) (v : Int) (i j : Nat) : (s.putI f v i j).bankM = s.bankM :=
  State.wr_bankM _ _ _ _ _
@[simp] theorem State.uPut_bankM (s : State) (f : Field) (v id : Nat) : (s.uPut f v id).bankM = s.bankM := by
  rw [State.uPut_frame]
@[simp] theorem State.wr_banks (s : State) (r : RegDef) (v : Word) (i j : Nat) : (s.wr r v i j).banks = s.banks := by
  rw [State.wr_frame]
@[simp] theorem State.put_banks (s : State) (f : Field) (v i j : Nat) : (s.put f v i j).banks = s.banks := State.wr_banks _ _ _ _ _
@[simp] theorem State.sat_banks (s : State) (f : Field) (k i j : Nat) : (s.sat f k i j).banks = s.banks := State.wr_banks _ _ _ _ _
@[simp] theorem State.wrap_banks (s : State) (f : Field) (k i j : Nat) : (s.wrap f k i j).banks = s.banks := State.wr_banks _ _ _ _ _
@[simp] theorem State.putI_banks (s : State) (f : Field) (v : Int) (i j : Nat) : (s.putI f v i j).banks = s.banks :=
  State.wr_banks _ _ _ _ _
@[simp] theorem State.uPut_banks (s : State) (f : Field) (v id : Nat) : (s.uPut f v id).banks = s.banks := by
  rw [State.uPut_frame]
@[simp] theorem State.wr_host (s : State) (r : RegDef) (v : Word) (i j : Nat) : (s.wr r v i j).host = s.host := by
  rw [State.wr_frame]
@[simp] theorem State.put_host (s : State) (f : Field) (v i j : Nat) : (s.put f v i j).host = s.host := State.wr_host _ _ _ _ _
@[simp] theorem State.sat_host (s : State) (f : Field) (k i j : Nat) : (s.sat f k i j).host = s.host := State.wr_host _ _ _ _ _
@[simp] theorem State.wrap_host (s : State) (f : Field) (k i j : Nat) : (s.wrap f k i j).host = s.host := State.wr_host _ _ _ _ _
@[simp] theorem State.putI_host (s : State) (f : Field) (v : Int) (i j : Nat) : (s.putI f v i j).host = s.host :=
  State.wr_host _ _ _ _ _
@[simp] theorem State.uPut_host (s : State) (f : Field) (v id : Nat) : (s.uPut f v id).host = s.host := by
  rw [State.uPut_frame]
@[simp] theorem State.wr_silt (s : State) (r : RegDef) (v : Word) (i j : Nat) : (s.wr r v i j).silt = s.silt := by
  rw [State.wr_frame]
@[simp] theorem State.put_silt (s : State) (f : Field) (v i j : Nat) : (s.put f v i j).silt = s.silt := State.wr_silt _ _ _ _ _
@[simp] theorem State.sat_silt (s : State) (f : Field) (k i j : Nat) : (s.sat f k i j).silt = s.silt := State.wr_silt _ _ _ _ _
@[simp] theorem State.wrap_silt (s : State) (f : Field) (k i j : Nat) : (s.wrap f k i j).silt = s.silt := State.wr_silt _ _ _ _ _
@[simp] theorem State.putI_silt (s : State) (f : Field) (v : Int) (i j : Nat) : (s.putI f v i j).silt = s.silt :=
  State.wr_silt _ _ _ _ _
@[simp] theorem State.uPut_silt (s : State) (f : Field) (v id : Nat) : (s.uPut f v id).silt = s.silt := by
  rw [State.uPut_frame]
@[simp] theorem State.wr_flow (s : State) (r : RegDef) (v : Word) (i j : Nat) : (s.wr r v i j).flow = s.flow := by
  rw [State.wr_frame]
@[simp] theorem State.put_flow (s : State) (f : Field) (v i j : Nat) : (s.put f v i j).flow = s.flow := State.wr_flow _ _ _ _ _
@[simp] theorem State.sat_flow (s : State) (f : Field) (k i j : Nat) : (s.sat f k i j).flow = s.flow := State.wr_flow _ _ _ _ _
@[simp] theorem State.wrap_flow (s : State) (f : Field) (k i j : Nat) : (s.wrap f k i j).flow = s.flow := State.wr_flow _ _ _ _ _
@[simp] theorem State.putI_flow (s : State) (f : Field) (v : Int) (i j : Nat) : (s.putI f v i j).flow = s.flow :=
  State.wr_flow _ _ _ _ _
@[simp] theorem State.uPut_flow (s : State) (f : Field) (v id : Nat) : (s.uPut f v id).flow = s.flow := by
  rw [State.uPut_frame]
@[simp] theorem State.wr_chans (s : State) (r : RegDef) (v : Word) (i j : Nat) : (s.wr r v i j).chans = s.chans := by
  rw [State.wr_frame]
@[simp] theorem State.put_chans (s : State) (f : Field) (v i j : Nat) : (s.put f v i j).chans = s.chans := State.wr_chans _ _ _ _ _
@[simp] theorem State.sat_chans (s : State) (f : Field) (k i j : Nat) : (s.sat f k i j).chans = s.chans := State.wr_chans _ _ _ _ _
@[simp] theorem State.wrap_chans (s : State) (f : Field) (k i j : Nat) : (s.wrap f k i j).chans = s.chans := State.wr_chans _ _ _ _ _
@[simp] theorem State.putI_chans (s : State) (f : Field) (v : Int) (i j : Nat) : (s.putI f v i j).chans = s.chans :=
  State.wr_chans _ _ _ _ _
@[simp] theorem State.uPut_chans (s : State) (f : Field) (v id : Nat) : (s.uPut f v id).chans = s.chans := by
  rw [State.uPut_frame]
@[simp] theorem State.wr_chains (s : State) (r : RegDef) (v : Word) (i j : Nat) : (s.wr r v i j).chains = s.chains := by
  rw [State.wr_frame]
@[simp] theorem State.put_chains (s : State) (f : Field) (v i j : Nat) : (s.put f v i j).chains = s.chains := State.wr_chains _ _ _ _ _
@[simp] theorem State.sat_chains (s : State) (f : Field) (k i j : Nat) : (s.sat f k i j).chains = s.chains := State.wr_chains _ _ _ _ _
@[simp] theorem State.wrap_chains (s : State) (f : Field) (k i j : Nat) : (s.wrap f k i j).chains = s.chains := State.wr_chains _ _ _ _ _
@[simp] theorem State.putI_chains (s : State) (f : Field) (v : Int) (i j : Nat) : (s.putI f v i j).chains = s.chains :=
  State.wr_chains _ _ _ _ _
@[simp] theorem State.uPut_chains (s : State) (f : Field) (v id : Nat) : (s.uPut f v id).chains = s.chains := by
  rw [State.uPut_frame]
@[simp] theorem State.wr_coef (s : State) (r : RegDef) (v : Word) (i j : Nat) : (s.wr r v i j).coef = s.coef := by
  rw [State.wr_frame]
@[simp] theorem State.put_coef (s : State) (f : Field) (v i j : Nat) : (s.put f v i j).coef = s.coef := State.wr_coef _ _ _ _ _
@[simp] theorem State.sat_coef (s : State) (f : Field) (k i j : Nat) : (s.sat f k i j).coef = s.coef := State.wr_coef _ _ _ _ _
@[simp] theorem State.wrap_coef (s : State) (f : Field) (k i j : Nat) : (s.wrap f k i j).coef = s.coef := State.wr_coef _ _ _ _ _
@[simp] theorem State.putI_coef (s : State) (f : Field) (v : Int) (i j : Nat) : (s.putI f v i j).coef = s.coef :=
  State.wr_coef _ _ _ _ _
@[simp] theorem State.uPut_coef (s : State) (f : Field) (v id : Nat) : (s.uPut f v id).coef = s.coef := by
  rw [State.uPut_frame]
@[simp] theorem State.wr_aux (s : State) (r : RegDef) (v : Word) (i j : Nat) : (s.wr r v i j).aux = s.aux := by
  rw [State.wr_frame]
@[simp] theorem State.put_aux (s : State) (f : Field) (v i j : Nat) : (s.put f v i j).aux = s.aux := State.wr_aux _ _ _ _ _
@[simp] theorem State.sat_aux (s : State) (f : Field) (k i j : Nat) : (s.sat f k i j).aux = s.aux := State.wr_aux _ _ _ _ _
@[simp] theorem State.wrap_aux (s : State) (f : Field) (k i j : Nat) : (s.wrap f k i j).aux = s.aux := State.wr_aux _ _ _ _ _
@[simp] theorem State.putI_aux (s : State) (f : Field) (v : Int) (i j : Nat) : (s.putI f v i j).aux = s.aux :=
  State.wr_aux _ _ _ _ _
@[simp] theorem State.uPut_aux (s : State) (f : Field) (v id : Nat) : (s.uPut f v id).aux = s.aux := by
  rw [State.uPut_frame]
@[simp] theorem State.wr_cal (s : State) (r : RegDef) (v : Word) (i j : Nat) : (s.wr r v i j).cal = s.cal := by
  rw [State.wr_frame]
@[simp] theorem State.put_cal (s : State) (f : Field) (v i j : Nat) : (s.put f v i j).cal = s.cal := State.wr_cal _ _ _ _ _
@[simp] theorem State.sat_cal (s : State) (f : Field) (k i j : Nat) : (s.sat f k i j).cal = s.cal := State.wr_cal _ _ _ _ _
@[simp] theorem State.wrap_cal (s : State) (f : Field) (k i j : Nat) : (s.wrap f k i j).cal = s.cal := State.wr_cal _ _ _ _ _
@[simp] theorem State.putI_cal (s : State) (f : Field) (v : Int) (i j : Nat) : (s.putI f v i j).cal = s.cal :=
  State.wr_cal _ _ _ _ _
@[simp] theorem State.uPut_cal (s : State) (f : Field) (v id : Nat) : (s.uPut f v id).cal = s.cal := by
  rw [State.uPut_frame]
@[simp] theorem State.wr_time (s : State) (r : RegDef) (v : Word) (i j : Nat) : (s.wr r v i j).time = s.time := by
  rw [State.wr_frame]
@[simp] theorem State.put_time (s : State) (f : Field) (v i j : Nat) : (s.put f v i j).time = s.time := State.wr_time _ _ _ _ _
@[simp] theorem State.sat_time (s : State) (f : Field) (k i j : Nat) : (s.sat f k i j).time = s.time := State.wr_time _ _ _ _ _
@[simp] theorem State.wrap_time (s : State) (f : Field) (k i j : Nat) : (s.wrap f k i j).time = s.time := State.wr_time _ _ _ _ _
@[simp] theorem State.putI_time (s : State) (f : Field) (v : Int) (i j : Nat) : (s.putI f v i j).time = s.time :=
  State.wr_time _ _ _ _ _
@[simp] theorem State.uPut_time (s : State) (f : Field) (v id : Nat) : (s.uPut f v id).time = s.time := by
  rw [State.uPut_frame]
@[simp] theorem State.wr_tx (s : State) (r : RegDef) (v : Word) (i j : Nat) : (s.wr r v i j).tx = s.tx := by
  rw [State.wr_frame]
@[simp] theorem State.put_tx (s : State) (f : Field) (v i j : Nat) : (s.put f v i j).tx = s.tx := State.wr_tx _ _ _ _ _
@[simp] theorem State.sat_tx (s : State) (f : Field) (k i j : Nat) : (s.sat f k i j).tx = s.tx := State.wr_tx _ _ _ _ _
@[simp] theorem State.wrap_tx (s : State) (f : Field) (k i j : Nat) : (s.wrap f k i j).tx = s.tx := State.wr_tx _ _ _ _ _
@[simp] theorem State.putI_tx (s : State) (f : Field) (v : Int) (i j : Nat) : (s.putI f v i j).tx = s.tx :=
  State.wr_tx _ _ _ _ _
@[simp] theorem State.uPut_tx (s : State) (f : Field) (v id : Nat) : (s.uPut f v id).tx = s.tx := by
  rw [State.uPut_frame]
@[simp] theorem State.wr_tdc (s : State) (r : RegDef) (v : Word) (i j : Nat) : (s.wr r v i j).tdc = s.tdc := by
  rw [State.wr_frame]
@[simp] theorem State.put_tdc (s : State) (f : Field) (v i j : Nat) : (s.put f v i j).tdc = s.tdc := State.wr_tdc _ _ _ _ _
@[simp] theorem State.sat_tdc (s : State) (f : Field) (k i j : Nat) : (s.sat f k i j).tdc = s.tdc := State.wr_tdc _ _ _ _ _
@[simp] theorem State.wrap_tdc (s : State) (f : Field) (k i j : Nat) : (s.wrap f k i j).tdc = s.tdc := State.wr_tdc _ _ _ _ _
@[simp] theorem State.putI_tdc (s : State) (f : Field) (v : Int) (i j : Nat) : (s.putI f v i j).tdc = s.tdc :=
  State.wr_tdc _ _ _ _ _
@[simp] theorem State.uPut_tdc (s : State) (f : Field) (v id : Nat) : (s.uPut f v id).tdc = s.tdc := by
  rw [State.uPut_frame]
@[simp] theorem State.wr_cap (s : State) (r : RegDef) (v : Word) (i j : Nat) : (s.wr r v i j).cap = s.cap := by
  rw [State.wr_frame]
@[simp] theorem State.put_cap (s : State) (f : Field) (v i j : Nat) : (s.put f v i j).cap = s.cap := State.wr_cap _ _ _ _ _
@[simp] theorem State.sat_cap (s : State) (f : Field) (k i j : Nat) : (s.sat f k i j).cap = s.cap := State.wr_cap _ _ _ _ _
@[simp] theorem State.wrap_cap (s : State) (f : Field) (k i j : Nat) : (s.wrap f k i j).cap = s.cap := State.wr_cap _ _ _ _ _
@[simp] theorem State.putI_cap (s : State) (f : Field) (v : Int) (i j : Nat) : (s.putI f v i j).cap = s.cap :=
  State.wr_cap _ _ _ _ _
@[simp] theorem State.uPut_cap (s : State) (f : Field) (v id : Nat) : (s.uPut f v id).cap = s.cap := by
  rw [State.uPut_frame]
@[simp] theorem State.wr_loop (s : State) (r : RegDef) (v : Word) (i j : Nat) : (s.wr r v i j).loop = s.loop := by
  rw [State.wr_frame]
@[simp] theorem State.put_loop (s : State) (f : Field) (v i j : Nat) : (s.put f v i j).loop = s.loop := State.wr_loop _ _ _ _ _
@[simp] theorem State.sat_loop (s : State) (f : Field) (k i j : Nat) : (s.sat f k i j).loop = s.loop := State.wr_loop _ _ _ _ _
@[simp] theorem State.wrap_loop (s : State) (f : Field) (k i j : Nat) : (s.wrap f k i j).loop = s.loop := State.wr_loop _ _ _ _ _
@[simp] theorem State.putI_loop (s : State) (f : Field) (v : Int) (i j : Nat) : (s.putI f v i j).loop = s.loop :=
  State.wr_loop _ _ _ _ _
@[simp] theorem State.uPut_loop (s : State) (f : Field) (v id : Nat) : (s.uPut f v id).loop = s.loop := by
  rw [State.uPut_frame]
@[simp] theorem State.wr_sluices (s : State) (r : RegDef) (v : Word) (i j : Nat) : (s.wr r v i j).sluices = s.sluices := by
  rw [State.wr_frame]
@[simp] theorem State.put_sluices (s : State) (f : Field) (v i j : Nat) : (s.put f v i j).sluices = s.sluices := State.wr_sluices _ _ _ _ _
@[simp] theorem State.sat_sluices (s : State) (f : Field) (k i j : Nat) : (s.sat f k i j).sluices = s.sluices := State.wr_sluices _ _ _ _ _
@[simp] theorem State.wrap_sluices (s : State) (f : Field) (k i j : Nat) : (s.wrap f k i j).sluices = s.sluices := State.wr_sluices _ _ _ _ _
@[simp] theorem State.putI_sluices (s : State) (f : Field) (v : Int) (i j : Nat) : (s.putI f v i j).sluices = s.sluices :=
  State.wr_sluices _ _ _ _ _
@[simp] theorem State.uPut_sluices (s : State) (f : Field) (v id : Nat) : (s.uPut f v id).sluices = s.sluices := by
  rw [State.uPut_frame]
@[simp] theorem State.wr_lanes (s : State) (r : RegDef) (v : Word) (i j : Nat) : (s.wr r v i j).lanes = s.lanes := by
  rw [State.wr_frame]
@[simp] theorem State.put_lanes (s : State) (f : Field) (v i j : Nat) : (s.put f v i j).lanes = s.lanes := State.wr_lanes _ _ _ _ _
@[simp] theorem State.sat_lanes (s : State) (f : Field) (k i j : Nat) : (s.sat f k i j).lanes = s.lanes := State.wr_lanes _ _ _ _ _
@[simp] theorem State.wrap_lanes (s : State) (f : Field) (k i j : Nat) : (s.wrap f k i j).lanes = s.lanes := State.wr_lanes _ _ _ _ _
@[simp] theorem State.putI_lanes (s : State) (f : Field) (v : Int) (i j : Nat) : (s.putI f v i j).lanes = s.lanes :=
  State.wr_lanes _ _ _ _ _
@[simp] theorem State.uPut_lanes (s : State) (f : Field) (v id : Nat) : (s.uPut f v id).lanes = s.lanes := by
  rw [State.uPut_frame]
@[simp] theorem State.wr_fieldPorts (s : State) (r : RegDef) (v : Word) (i j : Nat) : (s.wr r v i j).fieldPorts = s.fieldPorts := by
  rw [State.wr_frame]
@[simp] theorem State.put_fieldPorts (s : State) (f : Field) (v i j : Nat) : (s.put f v i j).fieldPorts = s.fieldPorts := State.wr_fieldPorts _ _ _ _ _
@[simp] theorem State.sat_fieldPorts (s : State) (f : Field) (k i j : Nat) : (s.sat f k i j).fieldPorts = s.fieldPorts := State.wr_fieldPorts _ _ _ _ _
@[simp] theorem State.wrap_fieldPorts (s : State) (f : Field) (k i j : Nat) : (s.wrap f k i j).fieldPorts = s.fieldPorts := State.wr_fieldPorts _ _ _ _ _
@[simp] theorem State.putI_fieldPorts (s : State) (f : Field) (v : Int) (i j : Nat) : (s.putI f v i j).fieldPorts = s.fieldPorts :=
  State.wr_fieldPorts _ _ _ _ _
@[simp] theorem State.uPut_fieldPorts (s : State) (f : Field) (v id : Nat) : (s.uPut f v id).fieldPorts = s.fieldPorts := by
  rw [State.uPut_frame]
@[simp] theorem State.wr_ring (s : State) (r : RegDef) (v : Word) (i j : Nat) : (s.wr r v i j).ring = s.ring := by
  rw [State.wr_frame]
@[simp] theorem State.put_ring (s : State) (f : Field) (v i j : Nat) : (s.put f v i j).ring = s.ring := State.wr_ring _ _ _ _ _
@[simp] theorem State.sat_ring (s : State) (f : Field) (k i j : Nat) : (s.sat f k i j).ring = s.ring := State.wr_ring _ _ _ _ _
@[simp] theorem State.wrap_ring (s : State) (f : Field) (k i j : Nat) : (s.wrap f k i j).ring = s.ring := State.wr_ring _ _ _ _ _
@[simp] theorem State.putI_ring (s : State) (f : Field) (v : Int) (i j : Nat) : (s.putI f v i j).ring = s.ring :=
  State.wr_ring _ _ _ _ _
@[simp] theorem State.uPut_ring (s : State) (f : Field) (v id : Nat) : (s.uPut f v id).ring = s.ring := by
  rw [State.uPut_frame]
@[simp] theorem State.wr_sup (s : State) (r : RegDef) (v : Word) (i j : Nat) : (s.wr r v i j).sup = s.sup := by
  rw [State.wr_frame]
@[simp] theorem State.put_sup (s : State) (f : Field) (v i j : Nat) : (s.put f v i j).sup = s.sup := State.wr_sup _ _ _ _ _
@[simp] theorem State.sat_sup (s : State) (f : Field) (k i j : Nat) : (s.sat f k i j).sup = s.sup := State.wr_sup _ _ _ _ _
@[simp] theorem State.wrap_sup (s : State) (f : Field) (k i j : Nat) : (s.wrap f k i j).sup = s.sup := State.wr_sup _ _ _ _ _
@[simp] theorem State.putI_sup (s : State) (f : Field) (v : Int) (i j : Nat) : (s.putI f v i j).sup = s.sup :=
  State.wr_sup _ _ _ _ _
@[simp] theorem State.uPut_sup (s : State) (f : Field) (v id : Nat) : (s.uPut f v id).sup = s.sup := by
  rw [State.uPut_frame]
@[simp] theorem State.wr_pmu (s : State) (r : RegDef) (v : Word) (i j : Nat) : (s.wr r v i j).pmu = s.pmu := by
  rw [State.wr_frame]
@[simp] theorem State.put_pmu (s : State) (f : Field) (v i j : Nat) : (s.put f v i j).pmu = s.pmu := State.wr_pmu _ _ _ _ _
@[simp] theorem State.sat_pmu (s : State) (f : Field) (k i j : Nat) : (s.sat f k i j).pmu = s.pmu := State.wr_pmu _ _ _ _ _
@[simp] theorem State.wrap_pmu (s : State) (f : Field) (k i j : Nat) : (s.wrap f k i j).pmu = s.pmu := State.wr_pmu _ _ _ _ _
@[simp] theorem State.putI_pmu (s : State) (f : Field) (v : Int) (i j : Nat) : (s.putI f v i j).pmu = s.pmu :=
  State.wr_pmu _ _ _ _ _
@[simp] theorem State.uPut_pmu (s : State) (f : Field) (v id : Nat) : (s.uPut f v id).pmu = s.pmu := by
  rw [State.uPut_frame]
@[simp] theorem State.wr_free (s : State) (r : RegDef) (v : Word) (i j : Nat) : (s.wr r v i j).free = s.free := by
  rw [State.wr_frame]
@[simp] theorem State.put_free (s : State) (f : Field) (v i j : Nat) : (s.put f v i j).free = s.free := State.wr_free _ _ _ _ _
@[simp] theorem State.sat_free (s : State) (f : Field) (k i j : Nat) : (s.sat f k i j).free = s.free := State.wr_free _ _ _ _ _
@[simp] theorem State.wrap_free (s : State) (f : Field) (k i j : Nat) : (s.wrap f k i j).free = s.free := State.wr_free _ _ _ _ _
@[simp] theorem State.putI_free (s : State) (f : Field) (v : Int) (i j : Nat) : (s.putI f v i j).free = s.free :=
  State.wr_free _ _ _ _ _
@[simp] theorem State.uPut_free (s : State) (f : Field) (v id : Nat) : (s.uPut f v id).free = s.free := by
  rw [State.uPut_frame]
@[simp] theorem State.wr_pending (s : State) (r : RegDef) (v : Word) (i j : Nat) : (s.wr r v i j).pending = s.pending := by
  rw [State.wr_frame]
@[simp] theorem State.put_pending (s : State) (f : Field) (v i j : Nat) : (s.put f v i j).pending = s.pending := State.wr_pending _ _ _ _ _
@[simp] theorem State.sat_pending (s : State) (f : Field) (k i j : Nat) : (s.sat f k i j).pending = s.pending := State.wr_pending _ _ _ _ _
@[simp] theorem State.wrap_pending (s : State) (f : Field) (k i j : Nat) : (s.wrap f k i j).pending = s.pending := State.wr_pending _ _ _ _ _
@[simp] theorem State.putI_pending (s : State) (f : Field) (v : Int) (i j : Nat) : (s.putI f v i j).pending = s.pending :=
  State.wr_pending _ _ _ _ _
@[simp] theorem State.uPut_pending (s : State) (f : Field) (v id : Nat) : (s.uPut f v id).pending = s.pending := by
  rw [State.uPut_frame]

@[simp] theorem State.chan_setChan (s : State) (k n : Nat) (x : Chan) : (s.setChan k x).chan n = if n = k then x else s.chan n :=
  tabGet_set _ _ _ _ _
@[simp] theorem State.chain_setChain (s : State) (k n : Nat) (x : Chain) : (s.setChain k x).chain n = if n = k then x else s.chain n :=
  tabGet_set _ _ _ _ _
@[simp] theorem State.lane_setLane (s : State) (k n : Nat) (x : Lane) : (s.setLane k x).lane n = if n = k then x else s.lane n :=
  tabGet_set _ _ _ _ _
@[simp] theorem State.dring_setDring (s : State) (k n : Nat) (x : Ring) : (s.setDring k x).dring n = if n = k then x else s.dring n :=
  tabGet_set _ _ _ _ _
@[simp] theorem State.fport_setFport (s : State) (k n : Nat) (x : FieldPort) : (s.setFport k x).fport n = if n = k then x else s.fport n :=
  tabGet_set _ _ _ _ _
@[simp] theorem State.tdcIn_setTdc (s : State) (k n : Nat) (x : TdcIn) : (s.setTdc k x).tdcIn n = if n = k then x else s.tdcIn n := by
  simp [State.setTdc, State.tdcIn, tabGet_set]
@[simp] theorem State.trig_setTrig (s : State) (k n : Nat) (x : Trig) : (s.setTrig k x).trig n = if n = k then x else s.trig n := by
  simp [State.setTrig, State.trig, tabGet_set]
@[simp] theorem State.slot_setSlot (s : State) (k n : Nat) (x : LoopSlot) : (s.setSlot k x).slot n = if n = k then x else s.slot n := by
  simp [State.setSlot, State.slot, tabGet_set]
@[simp] theorem State.queue_setQueue (s : State) (k n : Nat) (x : Queue) : (s.setQueue k x).queue n = if n = k then x else s.queue n := by
  simp [State.setQueue, State.queue, tabGet_set]
@[simp] theorem State.slu_setSlu (s : State) (k n : Nat) (x : Sluice) : (s.setSlu k x).slu n = if n = k then x else s.slu n := by
  simp [State.setSlu, State.slu, tabGet_set]

end Sys2Proof.Machine
end

