-- ==== Sys2Proof/Laws/Bus.lean ====
section
/-! SUPPORT. A write of a register through a path reaches that register's rule. -/

namespace Sys2Proof.Machine

/-- A write at the address of a register of the map, while the map responds, is the register's write. -/
theorem State.writeAt_eq {s : State} {p : Path} {r : RegDef} {i v : Nat} (h : s.mapOpen = true) (hi : i < r.n1)
    (hr : regAt (r.at i 0) = some (r, i, 0)) (h4 : r.at i 0 % 4 = 0) (hm : inMbx (r.at i 0) = false)
    (hx : inMsix (r.at i 0) = false) (hu : r.at i 0 < 0x400000) :
    s.writeAt p r i v = s.writeReg p r i 0 (v % 2 ^ 32) := by
  unfold State.writeAt State.busWrite State.responds
  have e1 : (decide (0x400000 ≤ r.at i 0)) = false := by simp; omega
  have e2 : (decide (0x1000000 ≤ r.at i 0)) = false := by simp; omega
  rw [if_pos hi]
  simp only [h, Bool.true_or, Bool.not_true, Bool.false_eq_true, if_false, h4, hm, hx, hr, e1, e2, Bool.false_and, ne_eq, not_true]

/-- The same for a family of one register, whose conditions are decided. -/
theorem State.writeAt_one {s : State} {p : Path} {r : RegDef} {v : Nat} (h : s.mapOpen = true)
    (hr : (decide (0 < r.n1) && regAt (r.at 0 0) == some (r, 0, 0) && r.at 0 0 % 4 == 0 && !inMbx (r.at 0 0) && !inMsix (r.at 0 0)
      && decide (r.at 0 0 < 0x400000)) = true) :
    s.writeAt p r 0 v = s.writeReg p r 0 0 (v % 2 ^ 32) := by
  simp only [Bool.and_eq_true, decide_eq_true_eq, beq_iff_eq, Bool.not_eq_true'] at hr
  obtain ⟨⟨⟨⟨⟨h1, h2⟩, h3⟩, h4⟩, h5⟩, h6⟩ := hr
  exact State.writeAt_eq h h1 h2 h3 h4 h5 h6

end Sys2Proof.Machine
end

