-- ==== Sys2Proof/Laws/Memory.lean ====
section
/-! SUPPORT. The byte memories: a read after a write, and that every write keeps the canonical form. -/

namespace Sys2Proof.Machine

theorem Memory.read_write (m : Memory) (a b : Nat) (v : Byte) :
    Memory.read (Memory.write m a v) b = if b = a then v else Memory.read m b := by
  unfold Memory.read Memory.write
  split
  · rename_i h
    rw [tabGet_erase, h]
  · rw [tabGet_set]

/-- Every key of a sorted table with a listed entry in front is above that entry's key. -/
theorem tabWf_cons {α : Type} (j : Nat) (w : α) (t : Tab α) :
    tabWf ((j, w) :: t) = true ↔ (∀ e ∈ t, j < e.1) ∧ tabWf t = true := by
  induction t generalizing j w with
  | nil => simp [tabWf]
  | cons e t ih =>
    obtain ⟨k, x⟩ := e
    rw [tabWf, Bool.and_eq_true, decide_eq_true_eq, ih]
    constructor
    · rintro ⟨h1, h2, h3⟩
      refine ⟨?_, h2, h3⟩
      intro e he
      rcases List.mem_cons.mp he with rfl | he
      · exact h1
      · exact Nat.lt_trans h1 (h2 e he)
    · rintro ⟨h1, h2, h3⟩
      exact ⟨h1 _ (List.mem_cons_self), h2, h3⟩

theorem mem_tabErase {α : Type} {t : Tab α} {k : Nat} {e : Nat × α} (h : e ∈ tabErase t k) : e ∈ t ∧ e.1 ≠ k := by
  induction t with
  | nil => simp [tabErase] at h
  | cons x t ih =>
    obtain ⟨j, w⟩ := x
    rw [tabErase] at h
    split at h
    · exact ⟨List.mem_cons_of_mem _ (ih h).1, (ih h).2⟩
    · rename_i hj
      rcases List.mem_cons.mp h with rfl | h
      · exact ⟨List.mem_cons_self, hj⟩
      · exact ⟨List.mem_cons_of_mem _ (ih h).1, (ih h).2⟩

theorem tabWf_erase {α : Type} {t : Tab α} (k : Nat) (h : tabWf t = true) : tabWf (tabErase t k) = true := by
  induction t with
  | nil => rfl
  | cons x t ih =>
    obtain ⟨j, w⟩ := x
    rw [tabWf_cons] at h
    rw [tabErase]
    split
    · exact ih h.2
    · rw [tabWf_cons]
      exact ⟨fun e he => h.1 e (mem_tabErase he).1, ih h.2⟩

theorem mem_tabSet {α : Type} {t : Tab α} {k : Nat} {v : α} {e : Nat × α} (h : e ∈ tabSet t k v) : e = (k, v) ∨ e ∈ t := by
  induction t with
  | nil => simpa [tabSet] using h
  | cons x t ih =>
    obtain ⟨j, w⟩ := x
    rw [tabSet] at h
    split at h
    · exact (List.mem_cons.mp h).imp id id
    · split at h
      · exact (List.mem_cons.mp h).imp id (List.mem_cons_of_mem _)
      · rcases List.mem_cons.mp h with rfl | h
        · exact .inr List.mem_cons_self
        · exact (ih h).imp id (List.mem_cons_of_mem _)

theorem tabWf_set {α : Type} {t : Tab α} (k : Nat) (v : α) (h : tabWf t = true) : tabWf (tabSet t k v) = true := by
  induction t with
  | nil => rfl
  | cons x t ih =>
    obtain ⟨j, w⟩ := x
    have h' := (tabWf_cons j w t).mp h
    rw [tabSet]
    split
    · rename_i hk
      rw [tabWf_cons]
      refine ⟨fun e he => ?_, h⟩
      rcases List.mem_cons.mp he with rfl | he
      · exact hk
      · exact Nat.lt_trans hk (h'.1 e he)
    · split
      · rename_i hk
        subst hk
        exact (tabWf_cons _ _ _).mpr h'
      · rename_i h1 h2
        rw [tabWf_cons]
        refine ⟨fun e he => ?_, ih h'.2⟩
        rcases mem_tabSet he with rfl | he
        · show j < k
          omega
        · exact h'.1 e he

/-- Storing a byte keeps the canonical form. -/
theorem Memory.wf_write {m : Memory} (a : Nat) (v : Byte) (h : Memory.wf m = true) : Memory.wf (Memory.write m a v) = true := by
  unfold Memory.wf at *
  rw [Bool.and_eq_true, List.all_eq_true] at *
  unfold Memory.write
  split
  · exact ⟨tabWf_erase a h.1, fun e he => h.2 e (mem_tabErase he).1⟩
  · rename_i hv
    refine ⟨tabWf_set a v h.1, fun e he => ?_⟩
    rcases mem_tabSet he with rfl | he
    · simpa using hv
    · exact h.2 e he

/-- Storing a byte list keeps the canonical form. -/
theorem Memory.wf_writeN {m : Memory} (a : Nat) (bs : List Byte) (h : Memory.wf m = true) :
    Memory.wf (Memory.writeN m a bs) = true := by
  induction bs generalizing m a with
  | nil => exact h
  | cons b bs ih => exact ih (a + 1) (Memory.wf_write a b h)

/-- A byte after a byte list is stored. -/
theorem Memory.read_writeN (m : Memory) (a b : Nat) (bs : List Byte) :
    Memory.read (Memory.writeN m a bs) b = if a ≤ b ∧ b < a + bs.length then bs.getD (b - a) 0 else Memory.read m b := by
  induction bs generalizing m a with
  | nil => simp [Memory.writeN]
  | cons x bs ih =>
    rw [Memory.writeN, ih, Memory.read_write]
    by_cases h : b = a
    · subst h
      simp
    · by_cases h2 : a + 1 ≤ b ∧ b < a + 1 + bs.length
      · have e : b - a = (b - (a + 1)) + 1 := by omega
        rw [if_pos h2, if_pos ⟨by omega, by simp; omega⟩, e, List.getD_cons_succ]
      · rw [if_neg h2, if_neg h, if_neg]
        simp
        omega

theorem Memory.wf_nil : Memory.wf [] = true := rfl

end Sys2Proof.Machine
end

