-- ==== Sys2Proof/Laws/Records.lean ====
section
/-! SUPPORT. Command records: a record that a row's operands build passes R163 and is read back as it was built, and a new
record's command is `State.command` followed by `State.settle`. -/

namespace Sys2Proof.Machine

@[simp] theorem length_leBytes (n x : Nat) : (leBytes n x).length = n := by
  induction n generalizing x with
  | zero => rfl
  | succ n ih => simp [leBytes, ih]

theorem leNat_leBytes (n x : Nat) : leNat (leBytes n x) = x % 256 ^ n := by
  induction n generalizing x with
  | zero => simp [leBytes, leNat, Nat.mod_one]
  | succ n ih =>
    have e : 256 ^ (n + 1) = 256 * 256 ^ n := Nat.pow_succ'
    rw [leBytes, leNat, ih, BitVec.toNat_ofNat, e, Nat.mod_mul (x := x) (a := 256)]

theorem leNat_leBytes_of_lt {n x : Nat} (h : x < 256 ^ n) : leNat (leBytes n x) = x := by
  rw [leNat_leBytes, Nat.mod_eq_of_lt h]

/-- The field at the end of a byte list. -/
theorem leAt_append_right (a b : List Byte) (off len : Nat) (h : a.length ≤ off) :
    leAt (a ++ b) off len = leAt b (off - a.length) len := by
  unfold leAt slice
  rw [List.drop_append, List.drop_eq_nil_of_le h, List.nil_append]

/-- The field at the start of a byte list. -/
theorem leAt_append_self (a b : List Byte) (len : Nat) (h : a.length = len) : leAt (a ++ b) 0 len = leNat a := by
  unfold leAt slice
  rw [List.drop_zero, List.take_append_of_le_length (by omega), List.take_of_length_le (by omega)]

theorem leAt_leBytes (n x : Nat) (b : List Byte) : leAt (leBytes n x ++ b) 0 n = x % 256 ^ n := by
  rw [leAt_append_self _ _ _ (length_leBytes n x), leNat_leBytes]

theorem leAt_leBytes_nil (n x : Nat) : leAt (leBytes n x) 0 n = x % 256 ^ n := by
  have := leAt_leBytes n x []
  rwa [List.append_nil] at this

theorem leAt_skip (n x : Nat) (b : List Byte) (off len : Nat) (h : n ≤ off) :
    leAt (leBytes n x ++ b) off len = leAt b (off - n) len := by
  rw [leAt_append_right _ _ _ _ (by simpa using h), length_leBytes]

theorem drop_commandRecord (op tgt src req flags : Nat) (args : List Byte) :
    (commandRecord op tgt src req flags args).drop 16 = args := by
  unfold commandRecord
  simp [leBytes]

theorem length_commandRecord (op tgt src req flags : Nat) (args : List Byte) :
    (commandRecord op tgt src req flags args).length = 16 + args.length := by
  unfold commandRecord
  simp
  omega

theorem commandRecord_head (op tgt src req flags : Nat) (args : List Byte) :
    let b := commandRecord op tgt src req flags args
    fb b 0 = op % 256 ∧ fb b 1 = tgt % 256 ∧ leAt b 2 2 = src % 65536 ∧ leAt b 8 2 = args.length % 65536
      ∧ leAt b 10 2 = flags % 65536 ∧ leAt b 12 4 = 0 := by
  simp only [commandRecord, leBytes, List.cons_append, List.nil_append, leAt, slice, fb, List.drop_succ_cons, List.drop_zero,
    List.take_succ_cons, List.take_zero, leNat, BitVec.toNat_ofNat, List.getD_cons_zero, List.getD_cons_succ]
  refine ⟨trivial, trivial, ?_, ?_, ?_, trivial⟩ <;> omega

/-- A record with legal SOURCE_ID, TARGET and arguments passes R163. -/
theorem recordOk_command {op tgt src req : Nat} {notify : Bool} {args : List Byte} (hop : op < 256)
    (ht : tgt < 0x80 ∨ tgt = 0xFE ∨ tgt = 0xFF) (hs : 1 ≤ src ∧ src < 0xFFFF) (hl : args.length ≤ 240)
    (h4 : args.length % 4 = 0) (ha : argsOk op args = true) :
    recordOk (commandRecord op tgt src req (b2n notify) args) = true := by
  obtain ⟨h0, h1, h2, h3, h5, h6⟩ := commandRecord_head op tgt src req (b2n notify) args
  unfold recordOk
  simp only [h0, h1, h2, h3, h5, h6, length_commandRecord, drop_commandRecord, Nat.mod_eq_of_lt hop, ha]
  have e1 : tgt % 256 = tgt := by omega
  have e2 : src % 65536 = src := by omega
  have e3 : args.length % 65536 = args.length := by omega
  have e4 : b2n notify % 65536 / 2 = 0 := by cases notify <;> rfl
  rw [e1, e2, e3, e4]
  have a1 : (decide (tgt < 0x80) || decide (0xFE ≤ tgt)) = true := by
    simp
    omega
  have a2 : (src != 0) = true := by
    simp
    omega
  have a3 : (src != 0xFFFF) = true := by
    simp
    omega
  rw [a1, a2, a3]
  simp [hl, h4]

/-- The parts of `State.fresh`. -/
theorem State.fresh_iff (s : State) (o : Origin) :
    s.fresh o = true ↔ (s.mapOpen = true ∧ legalState s.hubState = true) ∧ (1 ≤ o.source ∧ o.source < 0xFFFF) ∧ (o.target < 0x80 ∨ o.target = 0xFE ∨ o.target = 0xFF)
      ∧ s.isRelayed o = false ∧ (s.seq.dup.find? fun e => e.source == o.source && e.request == o.request) = none := by
  simp [State.fresh, and_assoc, or_assoc]

/-- What a command row does with a new record: the command's effect, then the answer (R163, R169, R170). -/
theorem State.runCommand_fresh {s : State} {o : Origin} {op : Nat} {args : List Byte} (h : s.fresh o = true) (hop : op < 256)
    (hl : args.length ≤ 240) (h4 : args.length % 4 = 0) (ha : argsOk op args = true) :
    s.runCommand o op args = (s.command op args o).2.settle o op args s.hubState (s.command op args o).1 := by
  obtain ⟨⟨h1, -⟩, h2, h3, h5, h6⟩ := (State.fresh_iff s o).mp h
  have e := recordOk_command (req := o.request) (notify := o.notify) hop h3 h2 hl h4 ha
  unfold State.runCommand State.runRecord State.execute
  simp only [h1, e, h5, h6, (commandRecord_head op o.target o.source o.request (b2n o.notify) args).1, drop_commandRecord,
    Nat.mod_eq_of_lt hop, Bool.not_true, Bool.false_and, Bool.false_eq_true, if_false]

end Sys2Proof.Machine
end

