-- ==== Sys2Proof/WellFormed.lean ====
section
/-! DEFINITION. The commands whose operands fit what the spec gives each: an index names a register, port, lane or unit that
the hub's address map has, and a value fits its field. The machine answers every command, the others too. -/

namespace Sys2Proof

/-- `v` fits in `n` bits. -/
def fits (n v : Nat) : Bool := decide (v < 2 ^ n)

/-- A command record's header: SOURCE_ID 0x0001 to 0xFFFE, a REQUEST_ID of 32 bits, a TARGET that is not reserved, and a hub
number (R161). -/
def Origin.wf (o : Origin) : Bool :=
  decide (1 ≤ o.source) && decide (o.source < 0xFFFF) && fits 32 o.request && fits 7 o.hub
    && (decide (o.target < 0x80) || o.target == 0xFE || o.target == 0xFF)

/-- A DMA descriptor of 32 bytes: ADDR of 64 bits, LEN, CTL and PARAM (R585). -/
def Descriptor.wf (d : Descriptor) : Bool := fits 64 d.addr && fits 32 d.len && fits 16 d.ctl && fits 64 d.param

/-- A time of day: seconds of 48 bits, nanoseconds below one second, a fraction of 32 bits (R328). -/
def TimeVal.wf (t : TimeVal) : Bool := fits 48 t.s && decide (t.ns < 10 ^ 9) && fits 32 t.frac

/-- A SYNC of domain 0 (A) or 1 (B) whose ORIGIN is a time (R339). -/
def SyncMsg.wf (m : SyncMsg) : Bool := decide (m.domain < 2) && m.origin.wf && fits 8 m.cls

/-- A PD_REQ or PD_RESP whose t1 or t2 is a time (R339). -/
def PdMsg.wf (m : PdMsg) : Bool := m.t.wf && fits 7 m.hub

/-- What a frame tick brings: words of channels 0 to 99 and mend channels, currents of field ports 0 to 15. -/
def TickInput.wf (t : TickInput) : Bool :=
  (match t.overrun with | none => true | some (p, _) => decide (p < 5))
    && t.held.all (fun x => decide (x.1 < 2)) && t.isns.all (fun x => decide (x.1 < 16)) && t.exc.all (fun x => decide (x.ch < 100))

/-- A MGMT, STREAM or other ring frame arrives at port 0 (L) or 1 (R) (R466). -/
def ringPort (p : Nat) : Bool := decide (p < 2)

/-- Field ports are 0 to 15 (R536). -/
def fieldPort (p : Nat) : Bool := decide (p < 16)

/-- Operands that fit the row's fields. -/
def Instr.wf : Instr → Bool
  | .frameTick t => t.wf
  | .conditionPhase _ | .housePhase _ _ => true
  | .decidePhase _ mismatch => mismatch.all fun x => decide (x.1 < 64)
  | .emitPhase _ pins held => pins.all (fun x => decide (x.1 < 80)) && held.all (fun x => ringPort x.1)
  | .stateTransition boot | .resetNAssert boot | .watchdogReset boot | .powerGood boot | .xtalLoss boot
  | .resetNDeassert boot => fits 2 boot
  | .nop o | .arm o | .hold o | .safeEnter o | .recover o | .maintEnter o | .maintExit o | .restart o | .patCancel o
  | .patDiscard o | .timeStepCancel o | .ringDiscover o | .sluReclaim o | .notice o | .sltClearArm o => o.wf
  | .start o f | .stop o f | .patCommit o f => o.wf && fits 64 f
  | .regRead o addr count => o.wf && fits 32 addr && fits 32 count
  | .regWrite o addr words =>
      o.wf && fits 32 addr && decide (words.length ≤ 58) && words.all (fits 32)
  | .reservedOpcode o op args => o.wf && fits 8 op && decide (args.length ≤ 240) && args.length % 4 == 0
  | .patLoad o source addr => o.wf && fits 32 source && fits 32 addr
  | .patKeyInstall o slot key => o.wf && fits 32 slot && key.length == 64
  | .patKeyRevoke o slot => o.wf && fits 32 slot
  | .patternCheckDone _ | .commitIrrevocable | .commitSwitch | .commitComplete | .powerUpCommit => true
  | .calRun o ch | .calAbort o ch => o.wf && fits 32 ch
  | .calPodPoint o chain range point _ => o.wf && fits 32 chain && fits 32 range && fits 32 point
  | .calPodPointDone | .calPodPointTimeout | .calStepEnd _ | .matchTimeout | .calCtrlSuspend _ => true
  | .calCoefWrite chain off v => decide (chain < 612) && decide (off < 0x28) && off % 4 == 0 && fits 32 v
  | .timeSetTod o domain seconds ns => o.wf && fits 32 domain && fits 64 seconds && fits 32 ns
  | .timeStep o f _ _ flags => o.wf && fits 64 f && fits 32 flags
  | .timeSelect o f mode => o.wf && fits 64 f && fits 32 mode
  | .timeStepApply | .timeSelectEffect => true
  | .laneAdmin o lane mode => o.wf && fits 32 lane && fits 32 mode
  | .laneRetrain o lane => o.wf && fits 32 lane
  | .laneTest o lane gen chk loop => o.wf && fits 32 lane && fits 32 gen && fits 32 chk && fits 32 loop
  | .fldPort o port action => o.wf && fits 32 port && fits 32 action
  | .fldAdopt o port => o.wf && fits 32 port
  | .loopIntSet o slot _ | .loopReturn o slot => o.wf && fits 32 slot
  | .sluForcePark o inst on => o.wf && fits 32 inst && fits 32 on
  | .capArm o f mask => o.wf && fits 64 f && fits 32 mask
  | .capAbort o mask => o.wf && fits 32 mask
  | .capForce o unit => o.wf && fits 32 unit
  | .captureArm e | .captureAbortEffect e => decide (e < 16)
  | .triggerHoldoffEnd t => decide (t < 32)
  | .queFlush o q => o.wf && fits 32 q
  | .wrgCut o ctx | .wrgAbort o ctx => o.wf && fits 32 ctx
  | .sltClearConfirm o token => o.wf && fits 32 token
  | .logClearDone | .adoptEffect | .digestInherit => true
  | .adopt o digest compat f => o.wf && digest.length == 32 && fits 32 compat && fits 64 f
  | .quarantine o on => o.wf && fits 32 on
  | .mailboxGo path | .mgmtRelayTimeout path => decide (path ≠ .mgmt)
  | .mgmtFrameReceive port lseq _ | .streamFrameReceive port lseq _ _ | .triggerFrameReceive port lseq _
  | .claimFrameReceive port lseq _ | .helloReceive port lseq _ | .unknownFrameReceive port lseq _
  | .discFrameReceive port lseq _ | .linkAck port lseq | .linkNak port lseq _ | .linkSkip port lseq =>
      ringPort port && fits 16 lseq
  | .noticeRecordReceive hub bytes => fits 7 hub && bytes.length == 16
  | .spiWrite _ => true
  | .spiRead addr _ _ => fits 32 addr
  | .spiStatus | .spiUnknownCommand _ => true
  | .registerWrite _ addr v => addr % 4 == 0 && fits 26 addr && fits 32 v
  | .reservedRead _ _ size => decide (1 ≤ size)
  | .glbFrameLoRead _ | .timLRead _ | .sltOptRead _ => true
  | .loopIntRead _ slot => decide (slot < 64)
  | .queuePop _ q _ _ => decide (q < 64)
  | .popWaitExpire q | .queCtrlFlush q | .queCntClr q | .wmxClear q | .staleTimeout q => decide (q < 64)
  | .watermarkWrite q _ v => decide (q < 64) && fits 32 v
  | .tdcFifoPop _ k => decide (k < 16)
  | .sltWin15Read _ _ ue => ue.all fun x => fits 8 x.1
  | .sltCursorWrite _ v _ _ => fits 32 v
  | .fldIsnsRead _ port => fieldPort port
  | .patWdataWrite v => fits 32 v
  | .standbyWindowWrite _ bytes => decide (1 ≤ bytes.length)
  | .captureMemoryWrite _ => true
  | .signCfgRequireSet _ | .signCfgAntirollbackSet _ => true
  | .unitCntClr id | .unitWorstClr id => fits 14 id
  | .patchStatusClear id v => fits 14 id && fits 32 v
  | .afeExcRetry ch | .afeCntClr ch | .rangeHoldWrite ch _ => decide (ch < 100)
  | .fltSyncReset c | .fltCntClr c => decide (c < 612)
  | .sarScalStart v => fits 32 v
  | .sarScalPointDone | .sarModCntClr | .auxInjectStart => true
  | .sarCoefWrite m _ v => decide (m < 16) && fits 32 v
  | .auxConversionDone code _ => decide (-(2 ^ 17) ≤ code) && decide (code < 2 ^ 18)
  | .timIncWrite d v => decide (d < 2) && fits 40 v
  | .timAdjWrite d v => decide (d < 2) && fits 32 v
  | .timServoTakeover v | .timHostQWrite v | .tdcSrcWrite v => fits 32 v
  | .timIrqRearm => true
  | .tdcFlush k | .tdcCntClr k => decide (k < 16)
  | .capCtrlArm e | .capCtrlAbort e => decide (e < 16)
  | .capPrePostWrite e _ v => decide (e < 16) && fits 32 v
  | .loopCmdWrite slot v | .loopCmdFifoPush slot v => decide (slot < 64) && fits 32 v
  | .loopFifoFlush slot | .loopCntClr slot => decide (slot < 64)
  | .loopGainWrite slot gain v => decide (slot < 64) && decide (gain < 4) && fits 32 v
  | .sluCntClr o => decide (o < 80)
  | .laneCntClr lane | .lanePrbsClr lane => decide (lane < 8)
  | .ringCntClr | .sltCntClr | .supCntClr => true
  | .fldCntClr port => fieldPort port
  | .dmaRingEnable r v => decide (r < 32) && fits 32 v
  | .dmaRingDisable r | .dmaFlushTimeout r | .dmaHostError r => decide (r < 32)
  | .dmaTailWrite r tail descs => decide (r < 32) && fits 32 tail && descs.all Descriptor.wf
  | .dmaDescriptorComplete r _ _ => decide (r < 32)
  | .noticePendingClear j v => decide (j < 4) && fits 32 v
  | .noticeRingSend => true
  | .msixUnmask vec _ => match vec with | none => true | some v => decide (v < 32)
  | .dmaPause _ | .dmaResume _ => true
  | .wrgCtrlCut j | .wrgCtrlAbort j | .wrgCntClr j | .wringDecompressStart j | .wringCloseTimeout j
  | .wringJobEnd j _ => decide (j < 16)
  | .siltRecordWritten | .optimeCheckpoint => true
  | .pmuFwuStart v | .qspiGo v => fits 32 v
  | .fwUpdateDone result _ _ => fits 8 result
  | .qspiSequenceDone bytes => decide (bytes.length ≤ 256)
  | .railLoss rail | .supplyOutOfRange rail => decide (rail < 14)
  | .pfailAssert | .pfailDeassert | .perstAssert | .perstDeassert | .functionLevelReset | .trstAssert
  | .pcieLinkDown | .xtalRestored | .captureMemoryInitDone | .neighbourServerFound | .neighbourFetchResume
  | .thermalLimit | .mclkLockLoss | .mclkLockRegained => true
  | .pcieLinkUp width speed => fits 8 width && fits 8 speed
  | .bootDone _ _ _ => true
  | .qspiImageReadDone _ dir _ => decide (dir.length ≤ 64)
  | .duplicateEntryExpire source request => fits 16 source && fits 32 request
  | .memoryUe area _ => fits 8 area
  | .safeCauseGone b => decide (b < 8)
  | .selfdiagGone code => decide (1 ≤ code) && decide (code ≤ 6)
  | .coefParityError mode d _ _ => decide (mode < 4) && decide (1 ≤ d)
  | .captureEccError block _ => fits 32 block
  | .modulatorRunInEnd ch | .modulatorOverload ch _ _ | .cmOverload ch _ => decide (ch < 104)
  | .excRampEnd ch | .excOvercurrentOff ch | .excRetryTimer ch | .wireBreakConfirm ch | .wireRecover ch =>
      decide (ch < 100)
  | .excObservation _ obs => obs.all fun x => decide (x.ch < 100)
  | .wireCheck _ obs => obs.all fun x => decide (x.ch < 100)
  | .irqNAssert | .tdcRefLoss | .ppsInEdge _ | .ppsLoss | .refinPresenceLoss => true
  | .tinEdge k _ _ | .toutPulse k | .toutPulseEnd k => decide (k < 8)
  | .tdcEdge k _ _ _ _ _ | .tdcStartTimeout k | .tdcFreqTimeout k => decide (k < 16)
  | .refinWindow _ _ _ => true
  | .rootHoldover d | .syncSend d | .domainLoss d => decide (d < 2)
  | .pdReqSend port => ringPort port
  | .pdReq port msg _ _ | .pdResp port msg _ _ => ringPort port && msg.wf
  | .sync port msg _ _ _ => ringPort port && msg.wf
  | .frameCounterStart | .frameCounterAdopt | .rootBTakeover | .helloSend | .discProbeSend _ => true
  | .laneBlockLock lane | .laneNoPeer lane | .trainBlock lane _ | .rateChange lane | .eqTrainDone lane
  | .laneCheckEnd lane _ | .am lane _ _ | .laneErrorLimit lane | .laneLockLoss lane | .laneRetryTimer lane
  | .adaptWindow lane _ _ _ _ _ _ _ | .prbsResync lane => decide (lane < 8)
  | .leafSyncChange port _ | .leafFrame port _ _ | .leafTimeout port | .retransmitTimeout port
  | .discProbeTimeout port | .amSend port | .streamFrameDeadline port => ringPort port
  | .hubSilent hub => fits 7 hub
  | .uplinkSyncGain port | .uplinkSyncLoss port | .slice port _ _ _ | .podTickBlock port _ | .podTickMiss port
  | .echo port _ | .podResponse port _ | .podCmdTimeout port | .podConfigResend port | .podBind port
  | .podNoload port | .podOvercurrent port | .podOcRetry port | .podPowerOn port | .fldPowerCycleEnd port =>
      fieldPort port
  | .partnerTimeout o _ | .outputFault o => decide (o < 80)
  | .tapUpdateIr op => fits 6 op

end Sys2Proof
end

