-- ==== Sys2Proof/Tests/Slice0.lean ====
section
/-! SUPPORT. Tests of the model: ill-formed commands that WellFormed refuses, for every statement of Obligations.lean states
and operands that meet its hypotheses clause by clause, and single commands on small states with results that the spec
states. -/

namespace Sys2Proof.Tests

open Sys2Proof Sys2Proof.Machine

set_option Elab.async false

/-! ## Small states -/

/-- The hub after reset, put into a state of R149. -/
def hub (st : Nat) : State := State.reset.put Fld.GLB_STATE.STATE st

/-- A command record's header: PCI Express, SOURCE_ID 1, REQUEST_ID 7, for the hub that receives it. -/
def me : Origin := { path := .pcie, hub := 0, source := 1, request := 7, target := 0xFF, notify := false }

/-- A unit with UNIT_ID, class, instance and parameter words. -/
def unit (id cls inst : Nat) (params : List Nat) : PatUnit :=
  { id := id, cls := cls, ver := 0, parent := 0xFFFF, inst := inst, flags := 0, params := params }

/-- A Pattern of these units in a cluster without other hubs. -/
def pattern (us : List PatUnit) : Pattern :=
  { digest := [], serial := 5, flags := 0, signed := false, keySlot := 0, fwCompat := 0, hubId := 0, units := us, nets := []
    loopBack := [], policy := [], unknownKeys := 0
    cluster := { ffCode := 0, topology := 0, kR := 4, head0 := 0xFF, head1 := 0xFF, leafE := 0, leafW := 0, clusterId := 1
                 hubs := [], streams := [], duals := [] }
    timing := [], caldata := [], streamSlots := [], remoteDrive := [], budgetW := [], budgetC := [] }

/-- The hub in a state with a Pattern active. -/
def hubP (st : Nat) (p : Pattern) : State := { (hub st).put Fld.PAT_STAT.ACT_VALID 1 with banks.act := some p }

/-- The hub in a state with these units. -/
def hubU (st : Nat) (us : List PatUnit) : State := hubP st (pattern us)

/-- This hub, with hub ID 0, is the root of both domains. -/
def rootHub (st : Nat) : State :=
  (hubP st { pattern [] with policy := [(0x0201, [0]), (0x0202, [0])] }).put Fld.GLB_STATE.HUB_ID 0

/-! ## The machine as a whole -/

theorem witness_EmptyQueueStepIsOneClockEdge : State.reset.pending = [] := by decide

theorem witness_HubStateMovesOnlyAsListed :
    (∃ t, step { hub stRun with pending := [.thermalLimit] } = .next t) ∧ legalState (hub stRun).hubState = true ∧
    legalState (hub 0).hubState = true ∧ legalState (hub 6).hubState = true := ⟨⟨_, rfl⟩, by decide, by decide, by decide⟩

theorem witness_StepKeepsMemoriesCanonical :
    (∃ t, step { hub stHeld with pending := [.standbyWindowWrite 0 [1, 0, 2]] } = .next t) ∧
    ({ hub stHeld with pending := [.standbyWindowWrite 0 [1, 0, 2]] } : State).memOk = true := ⟨⟨_, rfl⟩, by decide⟩

theorem witness_OneTimeValuesNeverGoBack : ∃ t, exec .commitSwitch (hub stHeld) = .next t := ⟨_, rfl⟩

/-! ## Shared operations -/

theorem witness_PutFieldEffectAndFrame :
    Fld.DMA_NSRCi.VECTOR.lsb + Fld.DMA_NSRCi.VECTOR.width ≤ 32 ∧ Reg.DMA_NSRCi.has 127 0 = true ∧
    Fld.GLB_STATE.STATE.indep Fld.GLB_STATE.HUB_ID = true ∧ Fld.GLB_STATE.STATE.indep Fld.PAT_STAT.ACT_VALID = true := by decide

/-- A bit of each access code, and bits at both ends of a word: PAT_STAT.CHECKED is W1C, PAT_SIGN_CFG.REQUIRE W1S,
TDC_CFG.AUTO_RETURN RW and TDC_CFG.SRC RWL; bit 31 of PAT_STAT is read-only. -/
theorem witness_AccessCodesBitByBit :
    (Reg.PAT_STAT.w1c.testBit 8 = true ∧ Reg.PAT_STAT.w1s.testBit 8 = false ∧ Reg.PAT_STAT.rw.testBit 8 = false ∧
      Reg.PAT_STAT.rwl.testBit 8 = false) ∧
    (Reg.PAT_SIGN_CFG.w1s.testBit 0 = true ∧ Reg.PAT_SIGN_CFG.w1c.testBit 0 = false ∧ Reg.PAT_SIGN_CFG.rw.testBit 0 = false ∧
      Reg.PAT_SIGN_CFG.rwl.testBit 0 = false) ∧
    (Reg.TDC_CFG.rw.testBit 7 = true ∧ Reg.TDC_CFG.w1c.testBit 7 = false ∧ Reg.TDC_CFG.w1s.testBit 7 = false) ∧
    (Reg.TDC_CFG.rwl.testBit 0 = true ∧ Reg.TDC_CFG.rw.testBit 0 = false ∧ Reg.TDC_CFG.w1c.testBit 0 = false ∧
      Reg.TDC_CFG.w1s.testBit 0 = false) ∧
    (Reg.PAT_STAT.rw.testBit 31 = false ∧ Reg.PAT_STAT.rwl.testBit 31 = false ∧ Reg.PAT_STAT.w1c.testBit 31 = false ∧
      Reg.PAT_STAT.w1s.testBit 31 = false) := by decide

/-- TDC_CFG has locked fields beside a RW field; AFE_CHn_EXC has locked fields only. -/
theorem witness_LockedFieldWriteInRunIsDropped :
    (hub stRun).hubState = stRun ∧ Reg.TDC_CFG.rwl ≠ 0 ∧ Reg.TDC_CFG.has 0 0 = true ∧
    Reg.TDC_CFG.disjoint Reg.GLB_ACC_STAT = true ∧
    Reg.TDC_CFG.rwl.testBit 0 = true ∧ Reg.TDC_CFG.rw.testBit 0 = false ∧
    Reg.AFE_CHn_EXC.rwl ≠ 0 ∧ Reg.AFE_CHn_EXC.has 99 0 = true ∧ Reg.AFE_CHn_EXC.disjoint Reg.GLB_ACC_STAT = true ∧
    Reg.AFE_CHn_EXC.rw = 0 ∧ Reg.AFE_CHn_EXC.w1c = 0 ∧ Reg.AFE_CHn_EXC.w1s = 0 := by decide

theorem witness_MemoryReadAfterWrite : Memory.wf [] = true ∧ Memory.wf [(3, 1), (4, 2)] = true := by decide

theorem witness_NoticeLogAndSafeCauseEffects :
    (State.raise (hub stRun) 108).pendingBit 108 = true ∧ (hub stRun).is Fld.SLT_STAT.PFAIL = false ∧
    (hub stRun).is Fld.SLT_STAT.FULL = false ∧
    (State.stage (hub stRun) 0x0301 []).silt.job.isSome = true ∧ (State.stage (hub stRun) 0x0301 []).silt.fifo.length < 64 ∧
    (hub stRun).hubState = stRun ∧ (hub stArmed).hubState = stArmed ∧ (hub stHeld).hubState ≠ stRun ∧
    (hub stHeld).hubState ≠ stArmed := by decide

/-! ## Register accesses -/

theorem witness_ClosedMapIgnoresRegisterRows : State.reset.mapOpen = false ∧ (hub stOff).mapOpen = false := by decide

theorem witness_CounterClearRows : (hub stHeld).mapOpen = true ∧
    (unit 9 cSUBSCRIBE 4095 []) ∈ (hubU stHeld [unit 9 cSUBSCRIBE 4095 []]).units cSUBSCRIBE := by decide

theorem witness_UnitBlockRows :
    (hubU stHeld [unit 9 cLOOP 0 []]).mapOpen = true ∧
    (hubU stHeld [unit 9 cLOOP 0 []]).unitId 9 = some (unit 9 cLOOP 0 []) ∧ (unit 9 cLOOP 0 []).cls ≠ cPATCH ∧
    (hubU stHeld [unit 9 cPATCH 0 []]).unitId 9 = some (unit 9 cPATCH 0 []) ∧ (unit 9 cPATCH 0 []).cls = cPATCH := by decide

/-- The hub with its standby bank in a state. -/
def hubB (st : Nat) (b : BankState) : State := { hub st with banks.stbyState := b }

theorem witness_BankAndSignCfgRows :
    (hub stHeld).mapOpen = true ∧ 2 ^ 24 - 1 + [(0 : Byte)].length ≤ 2 ^ 24 ∧
    (hubB stHeld .writing).banks.stbyState = .writing ∧ (hubB stHeld .checked).banks.stbyState = .checked ∧
    (hubB stHeld .checking).banks.stbyState = .checking ∧ 0xEFFFFFFF < (hub stHeld).stbyBase ∧
    (hub stMaint).mapOpen = true ∧ (hub stMaint).hubState = stMaint ∧ (hub stMaint).rd Reg.PAT_SIGN_CFG = 0 ∧
    (let s := (hub stMaint).wr Reg.PAT_SIGN_CFG 3
     s.hubState = stMaint ∧ s.readByCode Reg.PAT_SIGN_CFG ||| 1 = s.readByCode Reg.PAT_SIGN_CFG ∧
     s.readByCode Reg.PAT_SIGN_CFG ||| 2 = s.readByCode Reg.PAT_SIGN_CFG) ∧
    (hub stRun).hubState ≠ stMaint := by decide

/-- The last word of the map before the unit window holds no register (R715). -/
theorem witness_RegisterAccessRows :
    (hub stHeld).mapOpen = true ∧ inMbx 0x3FFFFC = false ∧ inMsix 0x3FFFFC = false ∧ regAt 0x3FFFFC = none ∧
    (hub stOff).hubState = stOff ∧ (hub stHeld).hubState ≠ stOff ∧ 0x84 % 4 = 0 ∧ 0x85 % 4 ≠ 0 := by decide

/-- One TDC result in the FIFO of input 15. -/
def oneTdc : State :=
  State.setTdc (hub stHeld) 15 { TdcIn.rest with
    fifo := [{ result := 5, m := 1, pol := false, base := false, lost := false, step := false, count := 1 }] }

theorem witness_LatchingAndDestructiveReads :
    (hub stHeld).mapOpen = true ∧ (hub stHeld).seq.counter = false ∧
    ({ hub stHeld with seq.counter := true, seq.frame := 2 ^ 48 - 1 } : State).seq.counter = true ∧
    (hub stHeld).fused Reg.LOOP_Sn_INT_LO 63 = false ∧ ((hub stHeld).tdcIn 15).fifo = [] ∧
    (oneTdc.tdcIn 15).fifo ≠ [] ∧ oneTdc.mapOpen = true ∧ (hub stHeld).fused Reg.FLD_Pp_ISNS 15 = false := by decide

/-! ## Front end and converters -/

/-- Channel `ch` with an INPUT unit, excitation and wire-break detection, in ARMED. -/
def wired (ch : Nat) (d : Drive) : State :=
  let s := hubU stArmed [unit 1 cINPUT ch []]
  ((s.put Fld.AFE_CHn_EXC.MODE 1 ch).put Fld.AFE_CHn_CFG.WB_EN 1 ch).setChan ch { s.chan ch with drive := d }

theorem witness_FrontEndRows :
    (hub stHeld).mapOpen = true ∧ (hub stHeld).fused Reg.AFE_CHn_CTRL 99 = false ∧
    ((wired 99 .ocOff).chan 99).drive = .ocOff ∧
    ((wired 99 .ocOff).setChan 99 { (wired 99 .ocOff).chan 99 with ocBreak := false }).excWanted 99 = true ∧
    ((wired 0 .ramping).chan 0).drive = .ramping ∧
    ((hub stArmed).put Fld.SAR_MODn_STAT.RUNNING 1 99).is Fld.SAR_MODn_STAT.RUNNING 99 = true ∧
    (((hub stArmed).put Fld.SAR_MODn_STAT.RUNNING 1 99).chan 99).runIn = false := by decide

/-- A break of channel 95 is confirmed, and `n` clean samples have followed. -/
def broken (n : Nat) : State :=
  let s := (wired 95 .on).put Fld.AFE_CHn_STAT.WB_CONF 1 95
  s.setChan 95 { s.chan 95 with clean := n }

theorem witness_WireAndClockRows :
    (wired 95 .on).wbOn 95 = true ∧ ((wired 95 .on).chan 95).drive = .on ∧ (wired 95 .on).get Fld.AFE_CHn_EXC.MODE 95 = 1 ∧
    (0 : Int).natAbs < (wired 95 .on).get Fld.AFE_GLB_CFG.EXC_OPEN_UA ∧
    ((wired 95 .on).put Fld.AFE_CHn_STAT.EXC_ILIM 1 95).wbOn 95 = true ∧
    (wired 95 .on).is Fld.AFE_CHn_CFG.ADAPT_EN 95 = false ∧ (wired 95 .on).is Fld.AFE_CHn_CFG.SIX_WIRE 95 = false ∧
    (broken 1000).is Fld.AFE_CHn_STAT.WB_CONF 95 = true ∧
    2 * settleLen ((broken 1000).get Fld.FLT_CHc_CFG.MODE 95) ≤ ((broken 1000).chan 95).clean ∧
    tabGet? (hub stRun).coef.lastErr (16 * 3 + 15) = none ∧ 95 ∈ (hubU stRun [unit 1 cFILTER 95 []]).localChains := by decide

/-- A calibration point of input 0 is being averaged, with the words it needs. -/
def scalDue (point : Nat) : State := { hub stArmed with aux.scal := some (0, point), aux.cnt := 1024 }

/-- The auxiliary converter runs two regular entries and an injected sequence. -/
def scanning (a : AuxAct) : State :=
  { hubU stArmed [unit 1 cAUX 0 [2], unit 2 cAUX 1 [1]] with aux.act := a }

theorem witness_ConverterRows :
    (hub stHeld).mapOpen = true ∧ (hub stHeld).fused Reg.FLT_CHc_CTRL 611 = false ∧
    ((hub stArmed).put Fld.FLT_CHc_CFG.ACTIVE 1 611).chainRuns 611 = true ∧
    (scanning .idle).is Fld.SAR_SCAL_STAT.BUSY = false ∧ (scanning .idle).auxRuns = true ∧
    (scanning .idle).get Fld.SAR_SCAL_CTRL.POINT = 0 ∧
    (scanning .idle).inSeq ((scanning .idle).get Fld.SAR_SCAL_CTRL.INPUT) = true ∧
    2 ^ (scalDue 0).get Fld.SAR_SCAL_CTRL.AVG_LOG2 ≤ (scalDue 0).aux.cnt ∧ (scalDue 0).aux.scal = some (0, 0) ∧
    2 ^ (scalDue 1).get Fld.SAR_SCAL_CTRL.AVG_LOG2 ≤ (scalDue 1).aux.cnt ∧ (scalDue 1).aux.scal = some (0, 1) ∧
    (scanning (.regular 0)).aux.act = .regular 0 ∧ 0 + 1 < (scanning (.regular 0)).auxEntries 0 ∧
    ((scanning (.regular 0)).auxRegular (some 0) ((scanning (.regular 0)).auxMux 0 0) 1 false).auxEntries 0 =
      (scanning (.regular 0)).auxEntries 0 ∧
    (scanning (.regular 0)).unitAt cAUX 1 = some (unit 2 cAUX 1 [1]) ∧ (scanning (.injected 0)).auxRuns = true ∧
    (scanning (.injected 0)).aux.act = .injected 0 := by decide

/-- A swap of channel 0 in a phase, with its words complete or its match out of time. -/
def swapping (ph : CalPhase) (applied : Bool) : State :=
  let w : Swap :=
      { ch := 0, forCh := none, force := false, old := ⟨[], [], 0, 0⟩, ranges := [0], rangeIn := 0, step := 0, due := none
        fed := 1000000, sum := 0, ovld := false, ended := none, sums := [], gr := [], ar := [], dfe := 0, rho := 0, diffs := []
        pairs := 0, ticks := 100000, passed := false, second := false, applied := applied, result := 0, standIn := false
        aborting := none }
  { hub stArmed with cal.phase := ph, cal.swap := some w }

/-- A calibration point of pod chain 100, range 3, with this many words. -/
def podPoint (words : Nat) (ovld : Bool) : State :=
  { hub stArmed with
    seq.frame := 1000000
    cal.pod := some { chain := 100, range := 3, point := 0, t := 0, sum := 0, words := words, start := 0, ovld := ovld } }

theorem witness_CalibrationRows :
    (hub stHeld).mapOpen = true ∧ (hub stHeld).inSwap 99 = false ∧ (swapping .matchIn false).inSwap 0 = true ∧
    (swapping .matchIn false).mapOpen = true ∧
    (swapping .measure false).onBus = some 0 ∧
    ((swapping .measure false).cal.swap.map fun w => decide ((swapping .measure false).stepLen w ≤ w.fed)) = some true ∧
    ((swapping .matchIn false).cal.swap.map fun w => !w.passed && w.due.isNone
      && decide ((swapping .matchIn false).matchLimit w.ch ≤ w.ticks)) = some true ∧
    ((swapping .matchBack true).cal.swap.map fun w => w.applied && !w.passed && w.due.isNone) = some true ∧
    (swapping .matchIn false).cal.phase = .matchIn ∧ (swapping .matchBack true).cal.phase = .matchBack ∧
    (let s := wired 95 .on
     let t := s.setChan 95 { s.chan 95 with ocBreak := true }
     t.confirmable 95 = [2] ∧ t.is Fld.AFE_CHn_STAT.WB_CONF 95 = false) ∧
    (podPoint 65536 true).podN ≤ 65536 ∧ (podPoint 65536 false).podN ≤ 65536 ∧ 65535 < (podPoint 65535 false).podN ∧
    tabGet? (podPoint 65536 false).cal.podMeans (podKey 100 3 1) = none ∧
    16 * (podPoint 65535 false).podN ≤ ((podPoint 65535 false).seq.frame - 0) * (podPoint 65535 false).nPer := by decide

/-! ## Time -/

/-- The hub with a TIME_IN pin, a TIME_OUT pin and a TDC input, all of instance 7. -/
def timed (mode : Nat) : State := hubU stArmed [unit 1 cTIME_IN 7 [mode], unit 2 cTIME_OUT 7 [], unit 3 cTDC 7 [8]]

theorem witness_TimeControlAndEdgeRows :
    (hub stHeld).mapOpen = true ∧ ((hub stHeld).put Fld.TIM_SERVO_CTRL.HOST_A 1).is Fld.TIM_SERVO_CTRL.HOST_A = true ∧
    ((hub stHeld).put Fld.TIM_SERVO_CTRL.HOST_B 1).is Fld.TIM_SERVO_CTRL.HOST_B = true ∧
    incClamp ((0x01FFE5EAA9 : Nat) : Int) = 0x01FFE5EAA9 ∧ incClamp ((0x02001A1557 : Nat) : Int) = 0x02001A1557 ∧
    field 0x6030 0 8 = 0x30 ∧ field 0x6030 8 8 = 0x60 ∧ (hub stHeld).hubState ≠ stRun ∧
    (let s := (hub stHeld).put Fld.TDC_STAT.PPS_VALID 1
     field 2 3 2 ≠ 3 ∧ field 2 0 2 ≠ 3 ∧ field 2 0 2 ≠ s.get Fld.TDC_CFG.SRC ∧ s.tdcSrcOk (field 2 0 2) = true) ∧
    ((hub stHeld).put Fld.TIM_IRQ_STAT.FULL 1).is Fld.TIM_IRQ_STAT.FULL = true ∧
    (hub stHeld).is Fld.TIM_IRQ_STAT.FULL = false ∧
    (timed 2).unitAt cTIME_IN 7 = some (unit 1 cTIME_IN 7 [2]) ∧ (unit 1 cTIME_IN 7 [2]).p 0 0 2 = 2 ∧
    (tabGet (timed 2).time.tin ⟨[], none⟩ 7).fifo.length < 16 ∧ (tabGet (timed 2).time.tin ⟨[], none⟩ 7).last = none ∧
    (let s : State := { timed 2 with time.tin := [(7, ⟨List.replicate 16 (⟨0, 0, 0⟩, false), none⟩)] }
     16 ≤ (tabGet s.time.tin ⟨[], none⟩ 7).fifo.length ∧ s.unitAt cTIME_IN 7 = some (unit 1 cTIME_IN 7 [2])) ∧
    (let s : State := { timed 2 with time.tout := [(7, ⟨some ⟨0, 0, 0⟩, false⟩)] }
     s.unitAt cTIME_OUT 7 = some (unit 2 cTIME_OUT 7 []) ∧
     (tabGet s.time.tout ⟨none, false⟩ 7).next = some ⟨0, 0, 0⟩ ∧ tu ⟨0, 0, 0⟩ ≤ tu s.time.l ∧ s.acquires = true ∧
     toutPeriodic (unit 2 cTIME_OUT 7 []) = false) := by decide

/-- A root whose domains are locked. -/
def lockedRoot : State := ((rootHub stHeld).put Fld.TIM_STAT.LOCK_A 1).put Fld.TIM_STAT.LOCK_B 1

/-- The root of domain B only, its domain locked. -/
def rootB : State :=
  ((hubP stHeld { pattern [] with policy := [(0x0201, [1]), (0x0202, [0])] }).put Fld.GLB_STATE.HUB_ID 0).put
    Fld.TIM_STAT.LOCK_B 1

theorem witness_FrameCounterAndTimeChangeRows :
    lockedRoot.seq.counter = false ∧ lockedRoot.isRoot 0 = true ∧ lockedRoot.locked 0 = true ∧
    lockedRoot.time.heardAt = none ∧ lockedRoot.policy 0x020C 0 = 0 ∧
    (let s : State := { rootB with time.takeover := true }
     s.isRoot 0 = false ∧ s.isRoot 1 = true ∧ s.time.takeover = true ∧ s.locked 1 = true ∧ s.time.heardAt = none ∧
     s.policy 0x020C 0 = 0 ∧ s.seq.counter = false) ∧
    (let s : State := { hub stHeld with time.heard := some (5, ⟨0, 0, 0⟩), time.acquired := true }
     s.time.heard = some (5, ⟨0, 0, 0⟩) ∧ s.time.acquired = true ∧ stHeld ≤ s.hubState ∧ s.seq.counter = false) ∧
    (let s : State := { rootB with
       time.doms := [Domain.reset, { Domain.reset with lockedAt := some 0 }], silt.opNs := 10000000000 }
     s.isRoot 1 = true ∧ s.locked 1 = true ∧ (s.dom 1).lockedAt = some 0 ∧ 0 + 10000000000 ≤ s.silt.opNs) ∧
    (hub stHeld).isRoot 1 = false ∧ ((hub stHeld).put Fld.TIM_SEL.CLASS_B 6).cls 1 ≠ 0xFF ∧
    (let s := hubP stHeld { pattern [] with policy := [(0x0201, [0]), (0x0203, [1])] }
     let s := (s.put Fld.GLB_STATE.HUB_ID 0).put Fld.TIM_STAT.LOCK_A 1
     s.isRoot 0 = true ∧ s.srcOf 0 = 1 ∧ (s.dom 0).holdSince = none ∧ s.locked 0 = true) ∧
    (let s : State := { hub stRun with time.step := some { f := 0, delta := -1, lOnly := false } }
     s.time.step = some { f := 0, delta := -1, lOnly := false }) ∧
    (let s : State := { hub stRun with time.select := some (some 1, 2) }
     s.time.select = some (some 1, 2) ∧ s.seq.frame < 1 ∧ 1 ≤ ({ s with seq.frame := 1 } : State).seq.frame) := by decide

/-- A hub with its ring ports up; a delay request 9 is outstanding at the West port. -/
def portsUp : State :=
  let s := ((hub stHeld).put Fld.LANE_Pp_STAT.UP 1 0).put Fld.LANE_Pp_STAT.UP 1 1
  s.setPd 1 { PdPort.reset with seq := 9, sent := some (9, 0) }

/-- A SYNC of domain B and a PD_RESP with these numbers. -/
def syncB : SyncMsg :=
  { domain := 1, seq := 3, origin := ⟨1, 0, 0⟩, correction := 0, hops := 0, bad := false, cls := 6, errNs := 10
    classFrame := 0, counter := none, emit := 2 }

theorem witness_DelayAndSyncRows :
    stHeld ≤ portsUp.hubState ∧ portsUp.portUp 0 = true ∧ portsUp.portUp 1 = true ∧ (portsUp.pd 1).sent = some (9, 0) ∧
    (10000 * 65536 : Int) + 1 > 10000 * 65536 ∧ (portsUp.pd 1).valid = false ∧
    (rootHub stHeld).isRoot 1 = true ∧ (hub stHeld).isRoot 1 = false ∧ syncB.domain < 2 ∧ syncB.bad = false ∧
    (hub stHeld).syncFiltered syncB = false ∧
    (let s := (hub stHeld).setPd 1 { PdPort.reset with vals := List.replicate 16 1000, accepted := 16 }
     (s.pd 1).valid = true ∧ s.isRoot 1 = false ∧ s.syncFiltered syncB = false) := by decide

theorem witness_TdcRows :
    (timed 2).unitAt cTDC 7 = some (unit 3 cTDC 7 [8]) ∧ (timed 2).acquires = true ∧ (unit 3 cTDC 7 [8]).p 0 2 2 = 2 ∧
    (unit 3 cTDC 7 [8]).p 0 0 2 ≠ 1 ∧
    (let s1 := (timed 2).setTdc 7 { (timed 2).tdcIn 7 with n := 1 }
     ((s1.tdcTime 7 0 0).2.tdcIn 7).last = none) ∧
    ((State.setTdc (timed 2) 7 { (timed 2).tdcIn 7 with start := some 5 }).tdcIn 7).start = some 5 ∧
    stHeld ≤ (hub stHeld).hubState ∧ ((hub stHeld).put Fld.TDC_CFG.REFIN_RATE 1).get Fld.TDC_CFG.REFIN_RATE = 1 ∧
    9 ≤ ({ (hub stHeld).put Fld.TDC_CFG.REFIN_RATE 1 with tdc.windows := 9 } : State).tdc.windows ∧
    ((hub stHeld).put Fld.TDC_STAT.BASE 1).get Fld.TDC_STAT.BASE ≠ 0 ∧
    (hub stHeld).isRoot 0 = false ∧ (hub stHeld).isRoot 1 = false ∧
    (let s : State := { hub stHeld with tdc.ppsL := some (-1000000000 * 65536), tdc.ppsRun := 2 }
     s.tdc.ppsL = some (-1000000000 * 65536) ∧
     (s.l16 - 0 - (-1000000000 * 65536) - 1000000000 * 65536).natAbs ≤ 65536000 ∧ s.tdc.ppsRun = 2) := by decide

/-- An edge of input 7 that comes with the one before it: less than 6 ns lie between them. -/
theorem witness_TdcRows_short :
    let t0 := ((timed 2).setTdc 7 { (timed 2).tdcIn 7 with n := 1 }).tdcTime 7 0 0
    let s := (timed 2).setTdc 7 { (timed 2).tdcIn 7 with last := some t0.1 }
    let s1 := s.setTdc 7 { s.tdcIn 7 with n := 1 }
    s.unitAt cTDC 7 = some (unit 3 cTDC 7 [8]) ∧ s.acquires = true ∧ ((s1.tdcTime 7 0 0).2.tdcIn 7).last = some t0.1 ∧
    (s1.tdcTime 7 0 0).1 - t0.1 < 384 := by decide

/-! ## Capture, Pattern, boot -/

/-- A capture unit of one slot with 16 Ki words in one segment. -/
def capUnit : PatUnit := unit 1 cCAPTURE 15 [1, 0x10000, 0, 16]

/-- The hub in RUN with a capture engine in a state, and a trigger unit. -/
def capturing (st : Nat) : State := (hubU stRun [capUnit, unit 2 cTRIGGER 31 [0]]).put Fld.CAP_Ee_STAT.STATE st 15

theorem witness_CaptureRows :
    (let s : State := { State.setTrig (hub stRun) 31 { Trig.rest with holdTo := some 7 } with seq.frame := 8 }
     (s.trig 31).holdTo = some 7 ∧ 7 < s.seq.frame) ∧
    (capturing ceIDLE).unitAt cCAPTURE 15 = some capUnit ∧ (capturing ceIDLE).trigRuns = true ∧
    (let s := (capturing ceWAIT).setEngine capUnit { Engine.rest with armAt := some 0 }
     (s.engine 15).armAt = some 0 ∧ 0 ≤ s.seq.frame ∧ capBoundary capUnit s.seq.frame = s.seq.frame) ∧
    (let s := (capturing ceFILL).setEngine capUnit { Engine.rest with abortAt := some 0 }
     (s.engine 15).abortAt = some 0 ∧ 0 ≤ s.seq.frame ∧ s.ceBusy 15 = true) ∧
    (capturing ceIDLE).ceBusy 15 = false ∧ (capturing ceFILL).ceBusy 15 = true ∧
    ((capturing ceIDLE).put Fld.CAP_Ee_POST.POST 1 15).get Fld.CAP_Ee_POST.POST 15 = 1 ∧
    16382 + 1 < capCs capUnit ∧ (hub stRun).cap.poisoned.contains 0 = false := by decide

/-- The smallest image: one hub without units, a common POLICY without entries, CLUSTER and TIMING (R64 to R87). -/
def smallImage : List Byte := ofWords
  [0x54505a50, 0x800001, 0x9608, 0, 0x108, 0x88, 6, 9, 0xdb613bd1, 0x5ef8981b, 0x4bd34467, 0xaf69c8ee, 0x701fb285,
   0x66567c19, 0xeee008e7, 0x1a8210f3, 0, 0, 0, 0, 0, 0, 0, 0, 0, 0, 0, 0, 0, 0, 0, 0x8bd35c48, 1, 0, 0xa988dff7, 3, 0,
   0xebadd88a, 4, 0, 0xe168d193, 0xff05, 0, 0xbff49b3d, 0xff06, 0x30, 0xfcfee826, 0x1010000, 0xffffffff, 0, 1, 0, 0, 0,
   0, 0, 0x9608, 0, 0, 0xff07, 0x10, 0xf8d8df8f, 0x80004000, 0xe000c000, 0, 0]

/-- The check of the small image is due. -/
def checking : State :=
  { hub stHeld with
    banks.stby := Memory.writeN [] 0 smallImage, banks.wlen := 264, banks.stbyState := .checking }

/-- The hub with a commit of a Pattern at frame 3, irrevocable or not, at power-up or not. -/
def committing (st : Nat) (irr power : Bool) : State :=
  { hub st with
    banks.commitF := some 3, banks.stbyPat := some (pattern []), banks.stbyState := .scheduled
    banks.irrevocable := irr, banks.powerUp := power }

/-- The small image passes every check of R726, and an uncorrectable memory error rejects it. -/
theorem witness_PatternCheckAndCommitRows :
    (checking.banks.qspiCopy = none ∧ checking.banks.stbyState = .checking ∧ checking.banks.powerUp = false ∧
      checking.verdict (some 4) = .error ⟨0xFF, 4, 0, 0⟩ ∧
      (match checking.verdict none with | .ok p => p.serial == 9 && p.units.isEmpty | .error _ => false) = true) ∧
    (committing stHeld false false).banks.commitF = some 3 ∧ bit (pattern []).flags 2 = false ∧
    (committing stHeld true false).banks.switched = false ∧ (committing stHeld true false).banks.irrevocable = true ∧
    (committing stHeld true true).banks.powerUp = true ∧ (committing stHeld true true).hubState = stHeld := by
  refine ⟨⟨rfl, rfl, rfl, rfl, ?_⟩, rfl, by decide, rfl, rfl, rfl, by decide⟩
  decide +kernel

theorem witness_CommitCompleteRow :
    (let s : State := { hub stArmed with banks.act := some (pattern []), banks.switched := true }
     s.banks.act = some (pattern []) ∧ s.banks.switched = true) := by decide

theorem witness_BootRows :
    State.reset.hubState = stBoot ∧ State.reset.pmu.resetLow = false ∧ State.reset.pmu.xtalLost = false ∧
    State.reset.is Fld.GLB_STATE.BOOT_FAIL = false ∧ State.reset.pmu.slotA = some ⟨0, 0⟩ ∧ State.reset.pmu.slotB = none ∧
    State.reset.slotPasses State.reset.pmu.slotA true = true ∧ State.reset.slotPasses State.reset.pmu.slotB false = false ∧
    State.reset.slotPasses State.reset.pmu.slotA false = false := by decide

/-- A hub that boots from the ring hears a server, hub 3 with serial 8, next to it on the East side. -/
def fetching (fstate : Nat) : State :=
  let s := (((hub stHeld).put Fld.PMU_STAT.MODE 3).put Fld.RING_STAT.IDSRC 1).put Fld.PMU_SRV.FSTATE fstate
  let hello : List Byte := List.replicate 32 0 ++ List.replicate 32 1 ++ List.replicate 64 0
  { s with
    ring.result := some (1, [leBytes 8 0 ++ List.replicate 8 0, leBytes 8 8 ++ List.replicate 8 0])
    ring.hellos := [{ serial := 8, hub := 3, ms := 0, bytes := hello }] }

theorem witness_BootRows_fetch :
    (fetching 1).mayFetch = true ∧ (fetching 1).get Fld.PMU_SRV.FSTATE = 1 ∧ (fetching 4).get Fld.PMU_SRV.FSTATE = 4 ∧
    (fetching 1).pickServer none = some (3, List.replicate 32 1) ∧ (fetching 4).mayFetch = true := by decide

theorem witness_ResetRows :
    (hub stRun).hubState ≠ stOff ∧ (hub stRun).pmu.resetLow = false ∧
    (hub stOff).hubState = stOff ∧ (hub stOff).is Fld.PMU_STAT.PG = true ∧
    ((hub stOff).put Fld.PMU_STAT.PG 0).is Fld.PMU_STAT.PG = false ∧ ((hub stOff).put Fld.PMU_STAT.PG 0).hubState = stOff ∧
    ({ hub stOff with pmu.resetLow := true } : State).pmu.resetLow = true ∧
    ({ State.reset with pmu.resetLow := true } : State).hubState = stBoot := by decide

theorem witness_PmuRows :
    (hub stRun).hubState ≠ stOff ∧ (hub stRun).is Fld.PMU_STAT.PFAIL = false ∧
    stHeld ≤ (hub stHeld).hubState ∧ (hub stHeld).is Fld.PMU_QSPI_STAT.BUSY = false ∧ (hub stHeld).pmu.flashBoot = false ∧
    (hub stHeld).banks.qspiCopy = none ∧
    (let s := ((hub stHeld).put Fld.PMU_QSPI_STAT.BUSY 1).put Fld.PMU_QSPI_CTRL.DIR 1
     s.is Fld.PMU_QSPI_STAT.BUSY = true ∧ s.is Fld.PMU_QSPI_CTRL.DIR = true) ∧
    ({ hub stHeld with banks.qspiCopy := some 0 } : State).banks.qspiCopy = some 0 ∧
    (hub stMaint).is Fld.PMU_FWU_STAT.BUSY = false ∧ (hub stMaint).hubState = stMaint ∧
    (hub stMaint).banks.stbyState ≠ .checking ∧ (hub stMaint).banks.stbyState ≠ .scheduled ∧ (hub stHeld).hubState ≠ stMaint ∧
    ((hub stMaint).put Fld.PMU_FWU_STAT.BUSY 1).is Fld.PMU_FWU_STAT.BUSY = true := by decide

/-! ## The tick -/

theorem witness_FrameTickRow : (hub stHeld).mapOpen = true ∧ State.reset.mapOpen = false := by decide

theorem witness_PhaseRows :
    (hub stArmed).acquires = true ∧ (hub stHeld).acquires = false ∧ (hub stHeld).hubState = stHeld ∧
    (hub stMaint).hubState = stMaint ∧ stHeld ≤ (hub stHeld).hubState := by decide

/-- Of a stop and a fault due at the same tick, the fault comes first (R158). -/
theorem witness_StateTransitionRow :
    (let s : State := { (hub stRun).put Fld.GLB_SAFE_CAUSE.CAUSE 4 with
       seq.frame := 9, seq.due := [⟨stArmed, 9, 3⟩, ⟨stSafe, 9, 1⟩] }
     s.dueMove = some ⟨stSafe, 9, 1⟩) ∧
    ({ hub stHeld with seq.frame := 9, seq.due := [⟨stBoot, 9, 0⟩] } : State).dueMove = some ⟨stBoot, 9, 0⟩ := by decide

/-! ## Command records -/

theorem witness_StateCommandRows :
    (hub stHeld).fresh me = true ∧ (hub stHeld).hubState = stHeld ∧ (hub stArmed).fresh me = true ∧ (hub stArmed).hubState = stArmed ∧
    (hub stRun).fresh me = true ∧ (hub stRun).hubState = stRun ∧ (hub stRun).seq.frame + 2 ≤ 2 ^ 48 - 1 ∧
    (hub stSafe).fresh me = true ∧ (hub stSafe).hubState = stSafe ∧ (hub stSafe).is Fld.SLU_WD.SD = false ∧
    (hub stMaint).fresh me = true ∧ (hub stMaint).hubState = stMaint ∧
    (hub stHeld).fresh { me with source := 0xFFFE, target := 0xFE, path := .mgmt } = true := by decide +kernel

theorem witness_RegisterCommandRows :
    (hub stRun).fresh me = true ∧ (0x3FFFF20 + 4 * 56 ≤ 0x4000000) ∧ 0x3FFFF20 % 4 = 0 ∧ 0x3FFFF18 + 4 * 58 ≤ 0x4000000 ∧
    opKnown 0xFF = false ∧ opKnown 0x00 = false ∧ (List.replicate 240 (0 : Byte)).length ≤ 240 := by decide +kernel

/-- The base point of P-256, which is a point of the curve. -/
def somePoint : List Byte :=
  (leBytes 32 0x6B17D1F2E12C4247F8BCE6E563A440F277037D812DEB33A0F4A13945D898C296).reverse ++
    (leBytes 32 0x4FE342E2FE1A7F9B8EE7EB4A7C0F9E162BCE33576B315ECECBB6406837BF51F5).reverse

theorem witness_PatternCommandRows :
    (hub stHeld).fresh me = true ∧ (hub stHeld).banks.stbyState ≠ .checking ∧ (hub stHeld).banks.stbyState ≠ .scheduled ∧
    (let s : State := { hub stHeld with
       banks.stbyPat := some (pattern []), banks.stbyState := .checked, seq.counter := true }
     s.fresh me = true ∧ s.banks.stbyPat = some (pattern []) ∧ s.banks.stbyState = .checked ∧ s.banks.act = none ∧
     s.revertDenied (pattern []) = false ∧ s.seq.counter = true ∧ s.seq.frame + 2 ≤ 2) ∧
    ((committing stHeld false false).fresh me = true ∧ (committing stHeld false false).banks.commitF.isSome = true ∧
     (committing stHeld false false).banks.irrevocable = false) ∧
    ((hub stMaint).fresh me = true ∧ (hub stMaint).hubState = stMaint ∧ somePoint.length = 64 ∧ keyOk somePoint = true ∧
     field ((hub stMaint).get Fld.PAT_KEY_STAT.SLOT) (2 * 7) 2 = 0) ∧
    (let s := (hub stMaint).put Fld.PAT_KEY_STAT.SLOT 0x4000
     s.fresh me = true ∧ s.hubState = stMaint ∧ field (s.get Fld.PAT_KEY_STAT.SLOT) (2 * 7) 2 = 1) := by decide +kernel

theorem witness_CalibrationAndTimeCommandRows :
    (hub stMaint).fresh me = true ∧ (hub stMaint).hubState = stMaint ∧ (hub stMaint).small = false ∧
    (hub stMaint).cal.swap = none ∧
    (hubU stArmed [unit 1 cINPUT 95 []]).fresh me = true ∧ ((hubU stArmed [unit 1 cINPUT 95 []]).unitAt cINPUT 95).isSome = true ∧
    (swapping .shadow false).fresh me = true ∧ (swapping .shadow false).hubState = stArmed ∧
    (swapping .shadow false).cal.phase = .shadow ∧ (swapping .measure false).cal.phase = .measure ∧
    (swapping .measure false).fresh me = true ∧ (swapping .measure false).cal.swap.isSome = true ∧
    (hub stArmed).fresh me = true ∧ (hub stArmed).cal.pod = none ∧ signed 64 (unsigned 64 (-5)) = -5 ∧
    signed 64 (unsigned 64 (2 ^ 63 - 1)) = 2 ^ 63 - 1 ∧
    (rootHub stHeld).fresh me = true ∧ (rootHub stHeld).seq.counter = false ∧ (rootHub stHeld).isRoot 1 = true ∧
    (rootHub stHeld).ppsSrc 1 = false ∧ (999999999 : Nat) < 1000000000 ∧
    (let s : State := { hub stHeld with seq.counter := true }
     s.fresh me = true ∧ s.seq.counter = true ∧ s.time.step = none ∧ s.seq.frame + 2 ≤ 2 ∧
     tu s.time.l + 1 * 1000000000 * 2 ^ 32 < 2 ^ 48 * 1000000000 * 2 ^ 32) ∧
    (let x : TimeStep := { f := 2, delta := 1, lOnly := true }
     let s : State := { hub stHeld with seq.counter := true, time.step := some x }
     s.fresh me = true ∧ s.seq.counter = true ∧ s.time.step = some x ∧ s.seq.frame + 2 ≤ x.f) := by decide +kernel

/-- Lane n in a state, wanted in its port's set. -/
def laneAt (st n lst : Nat) : State :=
  ((hub st).put Fld.LANE_Ln_STAT.STATE lst n).setLane n { (hub st).lane n with want := true }

/-- Field port 15, bound by the Pattern with power, in a state of R550. -/
def fieldAt (st lst : Nat) : State :=
  (hubU st [unit 1 cPOD_BINDING 15 [8]]).put Fld.FLD_Pp_STAT.LSTATE lst 15

theorem witness_LaneRingAndFieldCommandRows :
    (laneAt stHeld 7 lnACTIVE).fresh me = true ∧ (laneAt stHeld 7 lnACTIVE).fusedLane 7 = false ∧
    (laneAt stHeld 7 lnACTIVE).lnState 7 ≠ lnBLIND ∧ (laneAt stHeld 7 lnACTIVE).hubState ≠ stRun ∧
    (laneAt stHeld 7 lnOFF).lnState 7 = lnOFF ∧ (laneAt stHeld 7 lnSPARE).lnState 7 = lnSPARE ∧
    (laneAt stHeld 7 lnACTIVE).lnState 7 = lnACTIVE ∧ ((laneAt stHeld 7 lnACTIVE).lane 7).want = true ∧
    (laneAt stMaint 7 lnTEST).fresh me = true ∧ (laneAt stMaint 7 lnTEST).hubState = stMaint ∧
    (laneAt stMaint 7 lnTEST).lnState 7 ≠ lnACTIVE ∧
    (fieldAt stRun fpBOUND).fresh me = true ∧ (fieldAt stRun fpBOUND).hubState ≠ stHeld ∧ (fieldAt stRun fpBOUND).small = false ∧
    ((fieldAt stRun fpBOUND).unitAt cPOD_BINDING 15).isSome = true ∧
    (let s := (fieldAt stRun fpFOREIGN).put Fld.FLD_Pp_TYPE.REJ 3 15
     s.fresh me = true ∧ s.lstate 15 = fpFOREIGN ∧ s.get Fld.FLD_Pp_TYPE.REJ 15 = 3) := by decide +kernel

/-- The hub in RUN with loop 63, output 79, trigger unit 31, queue 63 and Wring context 15. -/
def working : State :=
  hubU stRun [unit 1 cLOOP 63 [], unit 2 cOUTPUT 79 [], unit 3 cTRIGGER 31 [0], unit 4 cQUEUE 63 [], unit 5 cWRING 15 [128, 0, 16]]

theorem witness_LoopSluiceAndCaptureCommandRows :
    working.fresh me = true ∧ working.hubState = stRun ∧ working.unitAt cLOOP 63 = some (unit 1 cLOOP 63 []) ∧
    (let s := State.setSlot working 63 { LoopSlot.rest with lstate := 2 }
     s.fresh me = true ∧ s.unitAt cLOOP 63 = some (unit 1 cLOOP 63 []) ∧ (s.slot 63).lstate ≠ 1 ∧ (s.slot 63).fb1.bad = false) ∧
    ((working.put Fld.SLU_WD.SD 1).fresh me = true ∧ (working.put Fld.SLU_WD.SD 1).is Fld.SLU_WD.SD = true ∧
     (working.put Fld.SLU_WD.SD 1).get Fld.SUP_SD_STAT.ACTIVE = 0) ∧
    working.unitAt cOUTPUT 79 = some (unit 2 cOUTPUT 79 []) ∧ working.unitAt cTRIGGER 31 = some (unit 3 cTRIGGER 31 [0]) ∧
    (capturing ceIDLE).fresh me = true ∧ (capturing ceIDLE).capMask 0x8000 = [capUnit] ∧
    (capturing ceIDLE).ceBusy capUnit.inst = false ∧ (capturing ceIDLE).seq.frame < 1 ∧
    (capturing cePOST).fresh me = true ∧ (capturing cePOST).capMask 0x8000 = [capUnit] ∧
    (capturing cePOST).ceBusy capUnit.inst = true := by decide +kernel

/-- A Wring job of context 15. -/
def someJob (expand cut : Bool) (words : List QWord) : WringJob :=
  { unit := 5, expand := expand, level := 1, wrap := 1, fd := false, slots := 1, queue := 0, ring := 16, start := 0, limit := 1000
    maxbuf := 0, words := words, bytes := [], verdict := if expand then some (1, [7]) else none, cut := cut, orphan := false }

/-- The hub with that job in progress. -/
def wringing (w : WringJob) : State := State.setWjob working 15 w

theorem witness_QueueLogAndAgreementCommandRows :
    working.fresh me = true ∧ working.unitAt cQUEUE 63 = some (unit 4 cQUEUE 63 []) ∧
    (wringing (someJob false false [])).fresh me = true ∧
    (wringing (someJob false false [])).unitAt cWRING 15 = some (unit 5 cWRING 15 [128, 0, 16]) ∧
    (wringing (someJob false false [])).wjob 15 = some (someJob false false []) ∧
    (hub stMaint).fresh me = true ∧ (hub stMaint).hubState = stMaint ∧ (hub stMaint).silt.clear = none ∧
    (let a : ClearArm := ⟨7, 1, 0⟩
     let s : State := { hub stMaint with silt.arm := some a, silt.opNs := 1000 * 1000000 }
     s.fresh me = true ∧ s.silt.arm = some a ∧ a.token < 2 ^ 32 ∧ s.opMs ≤ a.optime + 1000 ∧ a.source = me.source) ∧
    (let s : State := { hub stHeld with seq.counter := true }
     s.fresh me = true ∧ s.seq.counter = true ∧ s.seq.frame + 2 ≤ 2) := by decide +kernel

theorem witness_IllegalCommandIsStateConflict :
    (hub stRun).fresh me = true ∧ argsOk 0x03 [] = true ∧ opKnown 0x03 = true ∧ (hub stRun).inStates (opStates 0x03) = false ∧
    (hub stHeld).fresh me = true ∧ (hub stHeld).hubState = stHeld ∧ (hub stHeld).is Fld.PAT_STAT.ACT_VALID = false := by decide +kernel

/-- This hub, with ID 5, takes part in a ring. -/
def ringHub (st : Nat) : State := (hub st).put Fld.GLB_STATE.HUB_ID 5

/-- A ring frame of a type: its first 8 bytes as given, zeros, and a good CRC. -/
def ringFrame (b : List Byte) (len : Nat) : List Byte := withCrc (b ++ List.replicate (len - 4 - b.length) 0)

/-- An MGMT command frame from hub 2 to hub 5, a STREAM, a TRIGGER, a CLAIM and a reserved frame, a DISC probe and a HELLO. -/
def mgmtFrame : List Byte := ringFrame [5, 0, 0, 2, 5, 0, 0, 0, 16, 0] 32
def streamFrame : List Byte := ringFrame [1, 0, 0, 2, 2, 3] 40
def trigFrame : List Byte := ringFrame [2, 0, 0, 2, 1, 0] 28
def claimFrame : List Byte := ringFrame [4, 0, 0, 2, 5, 0] 24
def oddFrame : List Byte := ringFrame [9, 0, 0, 2] 24
def discFrame : List Byte := ringFrame [6, 0, 0, 2, 0, 0, 0, 0, 1] 20
def helloFrame : List Byte := ringFrame [7, 0, 0, 2, 0, 0, 0, 0, 1] 132

/-- A record of source 1 and request 7 has been executed: a NOP without arguments, answered OK. -/
def seen : State :=
  let e : DupEntry :=
    { source := 1, request := 7, opcode := 1, argCrc := crc32 [], status := 0, detail := 0, result := [], frame := 0, optime := 0 }
  { hub stHeld with seq.dup := [e] }

theorem witness_CommandTransportAndRepeats :
    (hub stBoot).hubState ≠ stOff ∧ (hub stBoot).mbxBusy .spi = false ∧
    ((hub stHeld).mbxSet .pcie 0x44 1).mbxBusy .pcie = true ∧
    (let s := (hub stHeld).mbxSet .pcie 0x100 0xFF01
     let t := s.mbxSet .pcie 0x44 (s.mbxGet .pcie 0x44 / 4 * 4 + 1)
     let buf := ofWords ((List.range 64).map fun k => t.mbxGet .pcie (0x100 + 4 * k))
     s.mbxBusy .pcie = false ∧ t.isRelayed (originOf .pcie t.hubId (buf.take (16 + min 240 (leAt buf 8 2)))) = false) ∧
    (let x : Relay := { path := .pcie, opcode := 1, target := 3, source := 1, request := 7, notify := false }
     ({ hub stHeld with seq.relays := [x] } : State).seq.relays.find? (fun x => x.path == .pcie && x.target != 0xFE) = some x) ∧
    ((ringHub stHeld).receive 0 0 5 false mgmtFrame).1 = true ∧ fb mgmtFrame 4 = (ringHub stHeld).hubId ∧
    (ringHub stHeld).hubId ≠ 0xFF ∧ bit (fb mgmtFrame 1) 0 = false ∧
    ((ringHub stHeld).receive 0 0 5 false mgmtFrame).2.ring.seen = [] ∧
    seen.mapOpen = true ∧ me.source < 0xFFFF ∧ seen.isRelayed { me with target := 0xFF } = false ∧
    (let s := seen.put Fld.GLB_STATE.HUB_ID 5
     s.isRelayed { me with target := 5 } = false ∧ (s.seq.dup.find? fun e => e.source == me.source && e.request == me.request).isSome = true) ∧
    argsOk 1 [] = true ∧ State.reset.mapOpen = false := by decide +kernel

/-! ## Lanes, ring and agreement -/

theorem witness_LaneBringUpRows :
    (laneAt stHeld 7 lnDETECT).lnState 7 = lnDETECT ∧
    (let s := (laneAt stHeld 7 lnRATE_CHANGE).setLane 7 { Lane.rest with target := some 3 }
     s.lnState 7 = lnRATE_CHANGE ∧ (s.lane 7).target = some 3 ∧
     (s.put Fld.LANE_Ln_STAT.RATE 3 7).get Fld.LANE_Ln_STAT.RATE 7 = 3 ∧ (s.put Fld.LANE_Ln_STAT.RATE 3 7).lnState 7 = lnRATE_CHANGE) ∧
    (laneAt stHeld 7 lnFAILED).lnState 7 = lnFAILED ∧ (laneAt stHeld 7 lnTRAIN_TARGET).lnState 7 = lnTRAIN_TARGET ∧
    markOk 0xA4 [0] = false ∧ markOk 0xA4 ([0xA4, 0, 0, 0, 0, 0, 0] ++ leBytes 1 (crc8 [0xA4, 0, 0, 0, 0, 0, 0])) = true ∧
    (let s := (laneAt stHeld 7 lnRETRAIN).setLane 7 { Lane.rest with checking := true }
     s.lnState 7 = lnRETRAIN ∧ (s.lane 7).want = false ∧ (s.lane 7).checking = true) := by decide +kernel

/-- An intact alignment marker with count 0. -/
def goodMark : List Byte := [0xA3, 0, 0, 0, 0, 0, 0] ++ leBytes 1 (crc8 [0xA3, 0, 0, 0, 0, 0, 0])

theorem witness_LaneMarkerAndMonitoringRows :
    (laneAt stHeld 7 lnACTIVE).lnState 7 = lnACTIVE ∧ ((laneAt stHeld 7 lnACTIVE).lane 7).want = true ∧
    markOk 0xA3 [] = false ∧ markOk 0xA3 goodMark = true ∧ field (fb goodMark 2) 4 4 = 0 ∧
    (let s : State := { laneAt stHeld 7 lnACTIVE with lanes.amNext := [(7, 0)] }
     tabGet? s.lanes.amNext 7 = some (leAt goodMark 3 2) ∧ s.joining 1 = []) ∧
    (hub stHeld).grouped 1 = [] ∧ (laneAt stHeld 7 lnACTIVE).grouped 1 ≠ [] ∧
    (let s := (((laneAt stHeld 7 lnACTIVE).put Fld.LANE_Ln_STAT.STATE lnACTIVE 6).put Fld.LANE_Ln_EVT.LOCK_LOSS 1 7).put
       Fld.LANE_Ln_STAT.BLOCK_LOCK 0 7
     6 ∈ (s.laneDrop 7 0).lanesIn 1 lnACTIVE ∧ ((s.laneDrop 7 0).lane 6).reject = false) ∧
    (laneAt stHeld 7 lnSPARE).lnState 7 = lnSPARE ∧
    ((laneAt stHeld 7 lnSPARE).put Fld.LANE_Ln_EVT.ERR_LIMIT 1 7).lnState 7 = lnSPARE ∧
    (laneAt stHeld 7 lnTRAIN_BASE).lnState 7 = lnTRAIN_BASE ∧ (laneAt stMaint 7 lnTEST).lnState 7 = lnTEST := by decide +kernel

/-- A PZ220 leaf frame of 79 bytes with a good CRC. -/
def leafBytes : List Byte := List.replicate 77 0 ++ leBytes 2 (crc16 (List.replicate 77 0))

theorem witness_AdaptationAndLeafRows :
    (laneAt stHeld 7 lnACTIVE).lnState 7 = lnACTIVE ∧ (laneAt stHeld 7 lnACTIVE).is Fld.LANE_Ln_STAT.FROZEN 7 = false ∧
    ((laneAt stHeld 7 lnACTIVE).put Fld.LANE_Ln_STAT.FROZEN 1 7).is Fld.LANE_Ln_STAT.FROZEN 7 = true ∧
    (laneAt stHeld 4 lnBLIND).lnState (4 * 1) = lnBLIND ∧ leafBytes.length = 79 ∧
    crc16 (leafBytes.take 77) = leAt leafBytes 77 2 ∧ (List.replicate 79 (1 : Byte)).length = 79 ∧
    crc16 ((List.replicate 79 (1 : Byte)).take 77) ≠ leAt (List.replicate 79 1) 77 2 := by decide +kernel

theorem witness_RingRows_receive :
    stHeld ≤ (ringHub stHeld).hubState ∧ ((ringHub stHeld).rxLink 0 0 1 streamFrame).1 = 1 ∧ fb streamFrame 3 ≠ 0xFF ∧
    ((ringHub stHeld).rxLink 0 0 1 streamFrame).2.returns 1 streamFrame = false ∧
    fb streamFrame 2 < ((ringHub stHeld).rxLink 0 0 1 streamFrame).2.hopLimit 1 - 1 ∧
    (let f := ringFrame [1, 0, 127, 2] 40
     ((ringHub stHeld).rxLink 0 0 1 f).1 = 1 ∧ ((ringHub stHeld).rxLink 0 0 1 f).2.hopLimit 1 - 1 ≤ fb f 2 ∧
     ((ringHub stHeld).rxLink 0 0 1 f).2.returns 1 f = false) ∧
    (let f := ringFrame [1, 0, 0, 5] 40
     ((ringHub stHeld).rxLink 0 0 1 f).1 = 1 ∧ ((ringHub stHeld).rxLink 0 0 1 f).2.returns 1 f = true) ∧
    (let f := ringFrame [1, 0, 0, 0xFF] 40
     ((ringHub stHeld).rxLink 0 0 1 f).1 = 1 ∧ fb f 3 = 0xFF) := by decide +kernel

theorem witness_RingRows_frames :
    ((ringHub stHeld).receive 1 0 1 true streamFrame).1 = true ∧
    ((ringHub stHeld).receive 1 0 2 true trigFrame).1 = true ∧
    (let u := ((ringHub stHeld).receive 1 0 2 true trigFrame).2
     u.ring.seen = [] ∧ u.peerQuar (fb trigFrame 3) = false) ∧
    ((ringHub stHeld).receive 1 0 4 true claimFrame).1 = true ∧ fb claimFrame 4 = (ringHub stHeld).hubId ∧
    ((ringHub stHeld).receive 1 0 4 true claimFrame).2.ring.seen = [] ∧
    ((ringHub stHeld).receive 1 0 (fb oddFrame 0) true oddFrame).1 = true ∧ 7 < fb oddFrame 0 ∧
    ((ringHub stHeld).receive 1 0 6 false discFrame).1 = true := by decide +kernel

/-- Ring port 1 with frame 9 in its retry buffer and a frame that waits. -/
def retrying : State :=
  ((hub stHeld).put Fld.LANE_Pp_STAT.UP 1 1).setRport 1
    { RingPort.rest with next := 10, retry := [(9, streamFrame)], wait := [(3, streamFrame)] }

theorem witness_RingRows_links :
    retrying.portUp 1 = true ∧ lseqDiff 9 9 = 0 ∧
    (let u := State.sat retrying Fld.RING_Pp_RETX.NAK_RX 1 1
     ((u.rport 1).retry.head?.map (·.1)).getD (u.rport 1).next = 9) ∧
    lseqDiff 0 (retrying.rport 1).rxNext = 0 ∧ 0 < lseqDiff 32767 (retrying.rport 1).rxNext ∧
    lseqDiff 32767 (retrying.rport 1).rxNext < 32768 ∧ (retrying.rport 1).rxGot = [] ∧
    (retrying.rport 1).retry = [(9, streamFrame)] ∧ (retrying.rport 1).wait = [(3, streamFrame)] ∧
    (let x : Probe := { pseq := 1, change := false, back := none }
     let s : State := { retrying with ring.probes := [none, some x] }
     s.ring.probes.getD 1 none = some x ∧ x.back = none ∧ s.discUp 1 = true ∧ stHeld ≤ s.hubState) := by decide +kernel

theorem witness_AgreementRows :
    (let p : CDigest := ⟨List.replicate 32 1, 2⟩
     let s : State := { hub stHeld with sup.pend := some (p, 0) }
     s.sup.pend = some (p, 0) ∧ 0 ≤ s.seq.frame ∧ s.seq.frame < 1) ∧
    (let hello : List Byte := List.replicate 0x60 0 ++ List.replicate 32 1
     let s : State := { hub stHeld with
       ring.result := some (1, [leBytes 8 0 ++ List.replicate 8 0, leBytes 8 8 ++ List.replicate 8 0])
       ring.hellos := [{ serial := 8, hub := 3, ms := 0, bytes := hello }] }
     s.sup.adopted = false ∧ s.sup.inForce = none ∧ s.sup.pend = none ∧ s.inheritable = some ⟨List.replicate 32 1, 0⟩) ∧
    ((ringHub stHeld).receive 0 0 7 true helloFrame).1 = true ∧
    (127 : Nat) ≠ (ringHub stHeld).hubId ∧ (ringHub stHeld).is Fld.RING_Hh.SILENT 127 = false ∧
    tabGet? (ringHub stHeld).ring.heardAt 127 ≠ some (ringHub stHeld).seq.frame ∧ (ringHub stHeld).pmu.fetch = none := by
  decide +kernel

/-! ## Field ports -/

theorem witness_FieldPowerAndLinkRows :
    (fieldAt stRun fpWAIT).wantPower 15 = true ∧
    (fieldAt stRun fpFAULT).lstate 15 = fpFAULT ∧ ((fieldAt stRun fpFAULT).fport 15).latched = false ∧
    ((fieldAt stRun fpFAULT).toLstate 15 fpWAIT).wantPower 15 = true ∧
    (let s := (fieldAt stRun fpWAIT).setFport 15 { FieldPort.rest with cycling := true }
     (s.fport 15).cycling = true ∧ (s.setFport 15 { s.fport 15 with cycling := false }).wantPower 15 = true) ∧
    ((fieldAt stRun fpBOUND).put Fld.FLD_Pp_STAT.PWREN 1 15).is Fld.FLD_Pp_STAT.PWREN 15 = true ∧
    (let s := (fieldAt stRun fpWAIT).put Fld.FLD_Pp_STAT.DN_ON 1 15
     s.is Fld.FLD_Pp_STAT.DN_ON 15 = true ∧ s.is Fld.FLD_Pp_STAT.UP_SYNC 15 = false) ∧
    (let s := (fieldAt stRun fpBOUND).put Fld.FLD_Pp_STAT.UP_SYNC 1 15
     s.is Fld.FLD_Pp_STAT.UP_SYNC 15 = true ∧ (s.put Fld.FLD_Pp_STAT.UP_SYNC 0 15).lstate 15 = fpBOUND) ∧
    (let s := (fieldAt stRun fpCONFIG).put Fld.FLD_Pp_STAT.UP_SYNC 1 15
     s.is Fld.FLD_Pp_STAT.UP_SYNC 15 = true ∧ (s.put Fld.FLD_Pp_STAT.UP_SYNC 0 15).lstate 15 = fpCONFIG) ∧
    (fieldAt stRun fpBOUND).unitAt cPOD_BINDING 15 = some (unit 1 cPOD_BINDING 15 [8]) ∧
    (fieldAt stRun fpBOUND).lstate 15 = fpBOUND ∧ bindPower (unit 1 cPOD_BINDING 15 [8]) = true ∧
    (fieldAt stRun fpBOUND).ownPower 15 = false := by decide +kernel

/-- Field port 15 with these contents, in a state of R550. -/
def fieldWith (lst : Nat) (x : FieldPort) : State := (fieldAt stRun lst).setFport 15 x

theorem witness_FieldMessageRows :
    (let c : FieldCmd := { cseq := 3, opc := 4, args := [], tries := 2 }
     ((fieldWith fpBOUND { FieldPort.rest with cmd := some c }).fport 15).cmd = some c ∧ c.tries < 3 ∧ c.opc ≠ 1 ∧ c.opc ≠ 2 ∧
     (let b : List Byte := [3, 0, 0] ++ leBytes 2 (crc16 [3, 0, 0])
      b.length = 5 + fb b 2 ∧ crc16 (b.take (3 + fb b 2)) = leAt b (3 + fb b 2) 2 ∧ fb b 0 = c.cseq)) ∧
    (let s := (fieldWith fpBOUND { FieldPort.rest with ping := some 1 }).put Fld.FLD_Pp_STAT.UP_SYNC 1 15
     (s.fport 15).ping.isSome = true ∧ s.is Fld.FLD_Pp_STAT.UP_SYNC 15 = true) ∧
    (let s := fieldWith fpCONFIG { FieldPort.rest with fb := some 1 }
     (s.fport 15).fb = some 1 ∧ s.lstate 15 = fpCONFIG ∧ (s.fport 15).cfgOk = false ∧ 1 ≤ s.seq.frame + 1) ∧
    (let s := fieldWith fpCONFIG { FieldPort.rest with fb := some 0, cfgOk := true }
     (s.fport 15).fb = some 0 ∧ s.unitAt cPOD_BINDING 15 = some (unit 1 cPOD_BINDING 15 [8]) ∧ s.lstate 15 = fpCONFIG ∧
     (s.fport 15).cfgOk = true ∧ 0 ≤ s.seq.frame) ∧
    (let s := fieldWith fpBOUND { FieldPort.rest with tick := some 4 }
     s.lstate 15 = fpBOUND ∧ (s.fport 15).tick = some 4 ∧ channelsOf s.patUnits 15 0 = [] ∧ [(0 : Byte)].length ≠ 3 + sliceBytes 0 ∧
     (let b : List Byte := [0, 0] ++ leBytes 1 (crc8 [0, 0])
      b.length = 3 + sliceBytes 0 ∧ crc8 (b.take (2 + sliceBytes 0)) = fb b (2 + sliceBytes 0) ∧ fb b 0 = (s.fport 15).slice ∧
      (s.fport 15).slice < 256 ∧ (s.fport 15).slice < s.nPer / 4)) ∧
    (let s := (fieldAt stRun fpDISCOVER).put Fld.FLD_Pp_STAT.UP_SYNC 1 15
     s.is Fld.FLD_Pp_STAT.UP_SYNC 15 = true ∧ s.lstate 15 = fpDISCOVER ∧ s.lstate 15 ≠ fpOFF ∧ s.lstate 15 ≠ fpBOUND ∧
     (s.fport 15).tick = none ∧ (s.fport 15).ping = none ∧
     crc16 ((List.replicate 12 (1 : Byte)).take 10) ≠ leAt (List.replicate 12 1) 10 2 ∧
     (let b : List Byte := List.replicate 10 0 ++ leBytes 2 (crc16 (List.replicate 10 0))
      b.length = 12 ∧ crc16 (b.take 10) = leAt b 10 2)) := by decide +kernel

/-! ## Loops, outputs, queues and host data -/

theorem witness_LoopAndSluiceRows :
    working.mapOpen = true ∧ (working.slot 63).fifo.length < 256 ∧
    256 ≤ ((State.setSlot working 63 { LoopSlot.rest with fifo := List.replicate 256 0 }).slot 63).fifo.length ∧
    (hub stArmed).hubState ≠ stRun ∧ (hub stArmed).mapOpen = true ∧
    (let s := State.setSlu working 79 { Sluice.rest with silent := [64] }
     s.hubState = stRun ∧ 0 ∉ (s.slu 79).gone ∧ s.policy 0x0704 64 ≤ (s.slu 79).silent.getD 0 0) ∧
    (hubU stRun [unit 2 cOUTPUT 15 []]).unitAt cOUTPUT 15 = some (unit 2 cOUTPUT 15 []) ∧
    (hubU stRun [unit 2 cOUTPUT 15 []]).get Fld.SLU_Oo_STAT.STATE 15 ≠ 6 := by decide +kernel

/-- Queue 63 active for processor pops, with these contents. -/
def queued (x : Queue) : State := State.setQueue (((working.put Fld.QUE_Qq_CFG.ACTIVE 1 63).put Fld.QUE_Qq_CFG.SIZE_LOG2 4 63)) 63 x

theorem witness_QueueRows :
    (let s := queued { Queue.rest with words := [⟨5, false⟩], w := 1, stale := some 3 }
     s.mapOpen = true ∧ s.is Fld.QUE_Qq_CFG.ACTIVE 63 = true ∧ s.is Fld.QUE_Qq_CFG.CONSUMER 63 = false ∧
     s.is Fld.QUE_Qq_CFG.BOUND 63 = false ∧ (s.queue 63).words = [⟨5, false⟩] ∧ (s.queue 63).words ≠ [] ∧
     (s.queue 63).stale = some 3) ∧
    ((queued Queue.rest).queue 63).words = [] ∧ (queued Queue.rest).get Fld.QUE_STAT.WAIT_NS ≠ 0 ∧
    ((queued Queue.rest).put Fld.QUE_STAT.WAIT_NS 0).get Fld.QUE_STAT.WAIT_NS = 0 ∧
    working.is Fld.QUE_Qq_CFG.ACTIVE 63 = false ∧
    ((queued { Queue.rest with pops := [⟨.pcie, true⟩] }).queue 63).pops = [⟨.pcie, true⟩] := by decide +kernel

theorem witness_WatermarkWriteRow :
    (queued Queue.rest).mapOpen = true := by decide +kernel

/-- DMA ring r runs, bound to a KIND, with a job. -/
def dmaAt (r kind : Nat) (j : Option RingJob) : State :=
  let s := (((working.put Fld.DMA_Rr_CFG.ENABLE 1 r).put Fld.DMA_Rr_CFG.KIND kind r).put Fld.DMA_Rr_STAT.STATE 1 r).put
    Fld.DMA_PCIE_STAT.BME 1
  State.setDring (s.put Fld.DMA_PCIE_STAT.LINK_UP 1) r { Ring.rest with job := j }

theorem witness_DmaRows :
    bit (2 ^ 31) 31 = true ∧ (dmaAt 31 1 none).is Fld.DMA_Rr_CFG.ENABLE 31 = true ∧ (dmaAt 31 1 none).mapOpen = true ∧
    ((dmaAt 31 1 none).dring 31).job = none ∧
    working.is Fld.DMA_Rr_CFG.ENABLE 31 = false ∧ working.bindOk 31 0 0 = true ∧ working.bindOk 31 3 0 = false ∧
    (let s := (dmaAt 31 1 none).put Fld.DMA_Rr_CFG.SIZE_LOG2 4 31
     (16 + 65536 - s.get Fld.DMA_Rr_HEAD.INDEX 31) % 65536 ≤ 2 ^ s.get Fld.DMA_Rr_CFG.SIZE_LOG2 31 ∧
     2 ^ s.get Fld.DMA_Rr_CFG.SIZE_LOG2 31 < (17 + 65536 - s.get Fld.DMA_Rr_HEAD.INDEX 31) % 65536 ∧
     s.is Fld.DMA_Rr_CFG.ENABLE 31 = true ∧ (s.dring 31).job = none) ∧
    (let d : Descriptor := { addr := 0, len := 16, ctl := 0, param := 0 }
     let j : RingJob := { desc := d, words := [⟨1, false⟩], done := 0 }
     ((dmaAt 15 1 (some j)).dring 15).job = some j ∧ (dmaAt 15 1 (some j)).ringRuns 15 = true ∧
     (dmaAt 15 1 (some j)).ringKind 15 ≠ 0 ∧ (dmaAt 15 1 (some j)).descOk 15 d = true ∧
     (dmaAt 15 0 (some j)).ringRuns 15 = true ∧ (dmaAt 15 0 (some j)).ringKind 15 = 0 ∧ j.words ≠ [] ∧
     (dmaAt 15 1 (some j)).get Fld.DMA_Rr_STAT.STATE 15 = 1 ∧
     ((dmaAt 15 1 (some j)).put Fld.DMA_PCIE_EVT.CPL_ERR 1).ringKind 15 = (dmaAt 15 1 (some j)).ringKind 15) := by decide +kernel

theorem witness_PcieAndNoticeRows :
    ((hub stHeld).put Fld.DMA_PCIE_STAT.LINK_UP 1).is Fld.DMA_PCIE_STAT.LINK_UP = true ∧ (hub stHeld).mapOpen = true ∧
    (let p : Pattern := { pattern [] with cluster := { (pattern []).cluster with head0 := 3 } }
     let s : State := { hubP stHeld p with host.ringNotice := true }
     s.host.ringNotice = true ∧ s.isHead = false ∧ s.banks.act = some p ∧ p.cluster.head0 < 128 ∧ 128 ≤ p.cluster.head1 ∧
     (s.put Fld.GLB_STATE.HUB_ID 3).isHead = true) := by decide +kernel

theorem witness_WringRows :
    (let s := (wringing (someJob false true [⟨1, false⟩])).put Fld.WRG_Cj_CLOSE_US.CLOSE_US 1 15
     s.wjob 15 = some (someJob false true [⟨1, false⟩]) ∧ (someJob false true [⟨1, false⟩]).words ≠ [] ∧
     (s.queue 0).words = [] ∧ s.get Fld.WRG_Cj_CLOSE_US.CLOSE_US 15 ≠ 0 ∧ (someJob false true [⟨1, false⟩]).expand = false ∧
     (someJob false true [⟨1, false⟩]).cut = true ∧ s.mapOpen = true ∧ (someJob false true []).orphan = false) ∧
    (wringing (someJob true false [])).wjob 15 = some (someJob true false []) ∧ (someJob true false []).verdict = some (1, [7]) ∧
    (let d : Descriptor := { addr := 0, len := 16, ctl := 0, param := 0 }
     let s := (dmaAt 31 2 none).put Fld.DMA_Rr_CFG.SRC 15 31
     let s := State.setDring s 31 { Ring.rest with posted := [d] }
     s.wjob 15 = none ∧ s.unitAt cWRING 15 = some (unit 5 cWRING 15 [128, 0, 16]) ∧ s.inputRing 15 = some 31 ∧
     wrgDir (unit 5 cWRING 15 [128, 0, 16]) = 1 ∧ s.ringRuns 31 = true ∧ (s.dring 31).posted ≠ []) := by decide +kernel

theorem witness_SiltRows :
    (let s := State.stage (hub stHeld) 0x0301 []
     (s.silt.job.map (·.copies)) = some [true, false] ∧ (s.copyDone.silt.job.map (·.copies)) = some [false]) ∧
    (hub stMaint).silt.clear = none ∧
    (let s : State := { hub stMaint with silt.clear := some ⟨1, 7⟩ }
     s.silt.clear = some ⟨1, 7⟩ ∧ s.silt.job = none) ∧
    (hub stHeld).mapOpen = true ∧ bit ((hub stHeld).bank .pcie).cursor 31 = true ∧
    bit (({ hub stHeld with bankP.cursor := 0 } : State).bank .pcie).cursor 31 = false := by decide +kernel

/-! ## Ill-formed commands, which WellFormed refuses -/

/-- A header with a reserved source. -/
def noSource : Origin := { me with source := 0 }

/-- A header for a reserved target. -/
def noTarget : Origin := { me with target := 0x80 }

theorem test_ill_formed_headers : ([.nop noSource, .arm noTarget, .hold { me with source := 0xFFFF }, .safeEnter noSource,
    .recover { me with request := 2 ^ 32 }, .maintEnter { me with hub := 128 }, .maintExit noSource, .restart noSource,
    .patCancel noTarget, .patDiscard noTarget, .timeStepCancel noTarget, .ringDiscover noTarget, .sluReclaim noTarget,
    .notice noTarget, .sltClearArm noTarget, .laneRetrain noSource 0, .fldAdopt noSource 0, .quarantine noSource 1] : List Instr).all
      (fun c => !c.wf) = true := by decide

theorem test_ill_formed_record_arguments : ([.start me (2 ^ 64), .stop me (2 ^ 64), .patCommit me (2 ^ 64), .regRead me (2 ^ 32) 1,
    .regWrite me 0 (List.replicate 59 0), .reservedOpcode me 256 [], .reservedOpcode me 0xFF [0], .patLoad me (2 ^ 32) 0,
    .patKeyInstall me 0 [], .patKeyRevoke me (2 ^ 32), .calRun me (2 ^ 32), .calAbort me (2 ^ 32), .calPodPoint me (2 ^ 32) 0 0 0,
    .timeSetTod me (2 ^ 32) 0 0, .timeStep me (2 ^ 64) 0 0 0, .timeSelect me 0 (2 ^ 32), .laneAdmin me (2 ^ 32) 0,
    .laneTest me 0 0 0 (2 ^ 32), .fldPort me (2 ^ 32) 0, .loopIntSet me (2 ^ 32) 0, .loopReturn me (2 ^ 32),
    .sluForcePark me (2 ^ 32) 0, .capArm me 0 (2 ^ 32), .capAbort me (2 ^ 32), .capForce me (2 ^ 32), .queFlush me (2 ^ 32),
    .wrgCut me (2 ^ 32), .wrgAbort me (2 ^ 32), .sltClearConfirm me (2 ^ 32), .adopt me [] 0 0] : List Instr).all
      (fun c => !c.wf) = true := by decide

theorem test_ill_formed_indices : ([.captureArm 16, .captureAbortEffect 16, .triggerHoldoffEnd 32, .mailboxGo .mgmt,
    .mgmtRelayTimeout .mgmt, .loopIntRead .pcie 64, .queuePop .pcie 64 false false, .popWaitExpire 64, .queCtrlFlush 64,
    .queCntClr 64, .wmxClear 64, .staleTimeout 64, .watermarkWrite 0 true (2 ^ 32), .tdcFifoPop .pcie 16, .fldIsnsRead .pcie 16,
    .unitCntClr (2 ^ 14), .unitWorstClr (2 ^ 14), .patchStatusClear 0 (2 ^ 32), .afeExcRetry 100, .afeCntClr 100,
    .rangeHoldWrite 100 true, .fltSyncReset 612, .fltCntClr 612, .sarCoefWrite 16 false 0, .timIncWrite 2 0, .timAdjWrite 2 0,
    .tdcFlush 16, .tdcCntClr 16, .capCtrlArm 16, .capCtrlAbort 16, .capPrePostWrite 16 false 0, .loopCmdWrite 64 0,
    .loopCmdFifoPush 64 0, .loopFifoFlush 64, .loopCntClr 64, .loopGainWrite 0 4 0, .sluCntClr 80, .laneCntClr 8, .lanePrbsClr 8,
    .fldCntClr 16, .dmaRingEnable 32 0, .dmaRingDisable 32, .dmaFlushTimeout 32, .dmaHostError 32,
    .dmaTailWrite 0 0 [⟨2 ^ 64, 0, 0, 0⟩], .dmaDescriptorComplete 32 [] [], .noticePendingClear 4 0, .msixUnmask (some 32) true,
    .wrgCtrlCut 16, .wrgCtrlAbort 16, .wrgCntClr 16, .wringDecompressStart 16, .wringCloseTimeout 16, .wringJobEnd 16 false]
      : List Instr).all (fun c => !c.wf) = true := by decide

theorem test_ill_formed_values : ([.calCoefWrite 0 2 0, .calCoefWrite 612 0 0, .spiRead (2 ^ 32) 1 0, .registerWrite .pcie 2 0,
    .registerWrite .pcie (2 ^ 26) 0, .reservedRead .pcie 0 0, .sltCursorWrite .pcie (2 ^ 32) 0 [], .sltWin15Read .pcie 0 [(256, 0)],
    .patWdataWrite (2 ^ 32), .standbyWindowWrite 0 [], .sarScalStart (2 ^ 32), .auxConversionDone (2 ^ 18) false,
    .timServoTakeover (2 ^ 32), .timHostQWrite (2 ^ 32), .tdcSrcWrite (2 ^ 32), .pmuFwuStart (2 ^ 32), .qspiGo (2 ^ 32),
    .fwUpdateDone 256 0 0, .qspiSequenceDone (List.replicate 257 0), .qspiImageReadDone 0 (List.replicate 65 0) [],
    .pcieLinkUp 256 0, .duplicateEntryExpire (2 ^ 16) 0, .memoryUe 256 0, .captureEccError (2 ^ 32) true, .tapUpdateIr 64]
      : List Instr).all (fun c => !c.wf) = true := by decide +kernel

theorem test_ill_formed_events : ([.stateTransition 4, .resetNAssert 4, .watchdogReset 4, .powerGood 4, .xtalLoss 4,
    .resetNDeassert 4, .railLoss 14, .supplyOutOfRange 14, .safeCauseGone 8, .selfdiagGone 7, .selfdiagGone 0,
    .coefParityError 4 1 [] [], .modulatorRunInEnd 104, .modulatorOverload 104 0 false, .cmOverload 104 0, .excRampEnd 100,
    .excOvercurrentOff 100, .excRetryTimer 100, .wireBreakConfirm 100, .wireRecover 100, .excObservation 0 [⟨100, 0, 0, 0, 0, false⟩],
    .wireCheck false [⟨100, 0, 0, false, false, 0, 0, 0, 0⟩], .tinEdge 8 false 0, .toutPulse 8, .toutPulseEnd 8,
    .tdcEdge 16 false 0 0 0 0, .tdcStartTimeout 16, .tdcFreqTimeout 16, .rootHoldover 2, .syncSend 2, .domainLoss 2,
    .decidePhase false [(64, true)], .emitPhase false [(80, 0)] []] : List Instr).all (fun c => !c.wf) = true := by decide

theorem test_ill_formed_ring_and_field : ([.pdReqSend 2, .pdReq 0 ⟨0, ⟨0, 10 ^ 9, 0⟩, 0, false, none⟩ 0 0,
    .pdResp 2 ⟨0, ⟨0, 0, 0⟩, 0, false, none⟩ 0 0, .sync 0 { syncB with domain := 2 } 0 0 true, .laneBlockLock 8, .laneNoPeer 8,
    .trainBlock 8 [], .rateChange 8, .eqTrainDone 8, .laneCheckEnd 8 0, .am 8 0 [], .laneErrorLimit 8, .laneLockLoss 8,
    .laneRetryTimer 8, .adaptWindow 8 0 0 0 0 0 0 [], .prbsResync 8, .leafSyncChange 2 true, .leafFrame 2 false [], .leafTimeout 2,
    .retransmitTimeout 2, .discProbeTimeout 2, .amSend 2, .streamFrameDeadline 2, .mgmtFrameReceive 2 0 [],
    .streamFrameReceive 0 (2 ^ 16) false [], .triggerFrameReceive 2 0 [], .claimFrameReceive 2 0 [], .helloReceive 2 0 [],
    .unknownFrameReceive 2 0 [], .discFrameReceive 2 0 [], .linkAck 2 0, .linkNak 2 0 0, .linkSkip 2 0, .hubSilent 128,
    .noticeRecordReceive 0 [], .uplinkSyncGain 16, .uplinkSyncLoss 16, .slice 16 false false [], .podTickBlock 16 [],
    .podTickMiss 16, .echo 16 0, .podResponse 16 [], .podCmdTimeout 16, .podConfigResend 16, .podBind 16, .podNoload 16,
    .podOvercurrent 16, .podOcRetry 16, .podPowerOn 16, .fldPowerCycleEnd 16, .partnerTimeout 80 0, .outputFault 80]
      : List Instr).all (fun c => !c.wf) = true := by decide

/-- A tick that names a phase, a port, a field port or a channel that the hub has not. -/
theorem test_ill_formed_ticks :
    (let t : TickInput :=
       { overrun := none, held := [], words := [], coarse := 0, isns := [], exc := [], vexcP := 0, vexcN := 0 }
     Instr.wf (.frameTick t) = true ∧ Instr.wf (.frameTick { t with overrun := some (5, []) }) = false ∧
     Instr.wf (.frameTick { t with held := [(2, 0)] }) = false ∧ Instr.wf (.frameTick { t with isns := [(16, 0, 0)] }) = false ∧
     Instr.wf (.frameTick { t with exc := [⟨100, 0, 0, 0, 0⟩] }) = false) := by decide

theorem test_well_formed : ([.nop me, .start me (2 ^ 64 - 1), .regRead me 0x3FFFFFC 1, .patKeyInstall me 7 somePoint,
    .queuePop .spi 63 true false, .linkNak 1 65535 16, .podTickBlock 15 [], .outputFault 79, .tapUpdateIr 63] : List Instr).all
      Instr.wf = true := by decide

/-! ## Single commands and functions, with results that the spec or a named standard states -/

/-- The state after a command. -/
def after (c : Instr) (s : State) : State :=
  match exec c s with
  | .next t => t
  | _ => s

/-- The ASCII bytes "123456789" (R723). -/
def nineDigits : List Byte := [0x31, 0x32, 0x33, 0x34, 0x35, 0x36, 0x37, 0x38, 0x39]

/-- The check values of R723; that of CRC-32 is the one of IEEE 802.3. -/
theorem test_crc_check_values :
    crc16 nineDigits = 0x29B1 ∧ crc8 nineDigits = 0xF4 ∧ crc32 nineDigits = 0xCBF43926 := by decide +kernel

/-- FIPS 180-4: the digest of "abc" begins BA7816BF 8F01CFEA. -/
theorem test_sha256_abc : (sha256 [0x61, 0x62, 0x63]).take 8 = [0xBA, 0x78, 0x16, 0xBF, 0x8F, 0x01, 0xCF, 0xEA] := by
  decide +kernel

/-- The gain word 0x4000_002A is 1.0 (R422). -/
theorem test_gain_word_one : gainVal 0x4000002A = 2 ^ gainScale := by decide

/-- f_F code 0xA is 192 kHz with 64 modulator periods a frame (R28). -/
theorem test_frame_rate_code : ffHz 0xA = 192000 ∧
    (hubP stHeld { pattern [] with cluster := { (pattern []).cluster with ffCode := 0xA } }).nPer = 64 := by decide

/-- ARM is due at the next tick (R175), and there the hub is ARMED. -/
theorem test_arm : ((after (.arm me) (hubU stHeld [])).seq.due.map fun t => (t.target, t.frame)) = [(stArmed, 1)] ∧
    (after (.stateTransition 0) { after (.arm me) (hubU stHeld []) with seq.frame := 1 }).hubState = stArmed := by decide +kernel

/-- START sets RUN_INTENT, STOP clears it (R176). -/
theorem test_start_and_stop : (after (.start me 0) (hub stArmed)).is Fld.GLB_STATE.RUN_INTENT = true ∧
    (after (.stop me 0) ((hub stRun).put Fld.GLB_STATE.RUN_INTENT 1)).is Fld.GLB_STATE.RUN_INTENT = false := by decide +kernel

/-- SAFE_ENTER sets the cause COMMAND, bit 0, and RECOVER clears it (R176, R184). -/
theorem test_safe_enter_and_recover :
    (after (.safeEnter me) (hub stRun)).get Fld.GLB_SAFE_CAUSE.CAUSE = 1 ∧
    (after (.recover me) ((hub stSafe).put Fld.GLB_SAFE_CAUSE.CAUSE 1)).get Fld.GLB_SAFE_CAUSE.CAUSE = 0 := by decide +kernel

/-- A second record with the same source and request is a duplicate: it is counted and its command does not run (R169). -/
theorem test_duplicate_record : (after (.nop me) seen).get Fld.GLB_CMD_CNT.DUP = 1 ∧
    (after (.maintEnter me) seen).seq.due = [] := by decide +kernel

/-- GLB_FRAME_LO reads the low 32 bits of the frame counter (R31, R718). -/
theorem test_glb_frame_read :
    (after (.glbFrameLoRead .pcie) { hub stHeld with seq.counter := true, seq.frame := 0x123456789ABC }).host.readData =
      [0x56789ABC] := by decide +kernel

/-- A write of TDC_CFG in RUN leaves SRC and sets RWL_DROP (R9). -/
theorem test_locked_write_in_run :
    ((hub stRun).writeByCode Reg.TDC_CFG 2).get Fld.TDC_CFG.SRC = 0 ∧
    ((hub stRun).writeByCode Reg.TDC_CFG 2).is Fld.GLB_ACC_STAT.RWL_DROP = true := by decide

/-- The standby window stores bytes, the first write empties and opens the bank, and WLEN covers them (R98, R100). -/
theorem test_standby_window : Memory.readN (after (.standbyWindowWrite 8 [1, 2]) (hub stHeld)).banks.stby 8 3 = [1, 2, 0] ∧
    (after (.standbyWindowWrite 8 [1, 2]) (hub stHeld)).get Fld.PAT_WLEN.WLEN = 10 ∧
    (after (.standbyWindowWrite 8 [1, 2]) (hub stHeld)).banks.stbyState = .writing := by decide +kernel

/-- REQUIRE is set in MAINT only (R97). -/
theorem test_sign_cfg : (after (.signCfgRequireSet .pcie) (hub stMaint)).is Fld.PAT_SIGN_CFG.REQUIRE = true ∧
    (after (.signCfgRequireSet .pcie) (hub stHeld)).is Fld.PAT_SIGN_CFG.REQUIRE = false := by decide +kernel

/-- A watermark above 2^SIZE_LOG2 is clamped (R578). -/
theorem test_watermark_clamp :
    (after (.watermarkWrite 63 true 0x7FFFF) (queued Queue.rest)).get Fld.QUE_Qq_WM_HI.WM 63 =
      2 ^ (queued Queue.rest).qLog 63 := by decide +kernel

/-- A pop returns the oldest word and empties the queue (R572). -/
theorem test_queue_pop :
    (after (.queuePop .pcie 63 false false) (queued { Queue.rest with words := [⟨5, false⟩], w := 1 })).host.popData = [(.pcie, 5, 0)] ∧
    ((after (.queuePop .pcie 63 false false) (queued { Queue.rest with words := [⟨5, false⟩], w := 1 })).queue 63).r = 1 := by
  decide +kernel

/-- PFAIL_N latches the cause POWER, bit 5 (R183, R630). -/
theorem test_power_fail : bit ((after .pfailAssert (hub stRun)).get Fld.GLB_SAFE_CAUSE.CAUSE) 5 = true ∧
    (after .pfailAssert (hub stRun)).is Fld.SLT_STAT.PFAIL = true := by decide +kernel

/-- EXTEST outside reset is captured as BYPASS; IDCODE loads (R704). -/
theorem test_tap : (after (.tapUpdateIr 0x00) (hub stHeld)).pmu.tap = 0x3F ∧ (after (.tapUpdateIr 0x01) (hub stHeld)).pmu.tap = 1 := by
  decide +kernel

/-- RANGE_HOLD takes the written value (R226). -/
theorem test_range_hold : (after (.rangeHoldWrite 99 true) (hub stHeld)).get Fld.AFE_CHn_CTRL.RANGE_HOLD 99 = 1 := by
  decide +kernel

/-- A lane without a peer goes from DETECT to NO_PEER, and its retry timer brings it back (R472). -/
theorem test_lane_retry : (after (.laneNoPeer 7) (laneAt stHeld 7 lnDETECT)).lnState 7 = lnNO_PEER ∧
    (after (.laneRetryTimer 7) (laneAt stHeld 7 lnNO_PEER)).lnState 7 = lnDETECT := by decide +kernel

/-- A pod whose TICK blocks stop is LOST (R556). -/
theorem test_pod_lost : (after (.podTickMiss 15) (fieldAt stRun fpBOUND)).lstate 15 = fpLOST := by decide +kernel

/-- A frame of a reserved type is counted (R511). -/
theorem test_reserved_frame : (after (.unknownFrameReceive 1 0 oddFrame) (ringHub stHeld)).get Fld.RING_MISC.UNKNOWN_CNT = 1 := by
  decide +kernel

/-- Two commands wait: the first runs, the second stays (the model's queue). -/
theorem test_step_takes_the_front :
    (match step { hub stHeld with pending := [.optimeCheckpoint, .thermalLimit] } with
     | .next t => t.pending.length == 1
     | _ => false) = true := by decide +kernel

end Sys2Proof.Tests
end

section
/-! PROOFS. Registers: the field operations, what the access codes leave of a register, and a write by those codes (R4 to
R10). -/

open Sys2Proof Sys2Proof.Machine

namespace Sys2Proof.Machine

/-! ## Frames of register operations -/

/-- Two changes of registers in a row change the registers of both. -/
theorem RegsOnly.trans {l m : List Nat} {s t u : State} (h : RegsOnly l s t) (h' : RegsOnly m t u) :
    RegsOnly (l ++ m) s u := by
  obtain ⟨ht, htr⟩ := h
  obtain ⟨hu, hur⟩ := h'
  constructor
  · rw [hu, ht]
  · intro a ha
    rw [List.mem_append, not_or] at ha
    exact (hur a ha.2).trans (htr a ha.1)

theorem State.wr_regsOnly (s : State) (r : RegDef) (v : Word) (i j : Nat) : RegsOnly [r.at i j] s (s.wr r v i j) := by
  refine ⟨State.wr_frame s r v i j, fun a ha => ?_⟩
  rw [List.mem_singleton] at ha
  rw [State.wr_regs, if_neg fun h => ha h.1]

theorem State.put_regsOnly (s : State) (f : Field) (v i j : Nat) : RegsOnly [f.reg.at i j] s (s.put f v i j) :=
  State.wr_regsOnly s f.reg _ i j

theorem RegDef.disjoint_symm {r q : RegDef} (h : r.disjoint q = true) : q.disjoint r = true := by
  simp only [RegDef.disjoint, Bool.or_eq_true, decide_eq_true_eq, Bool.and_eq_true, beq_iff_eq, bne_iff_ne] at h ⊢
  rcases h with (h | h) | ⟨⟨⟨⟨hpos, hs1⟩, hr2⟩, hq2⟩, hne⟩
  · exact .inl (.inr h)
  · exact .inl (.inl h)
  · exact .inr ⟨⟨⟨⟨hs1 ▸ hpos, hs1.symm⟩, hq2⟩, hr2⟩, hs1 ▸ hne.symm⟩

/-! ## Access codes -/

/-- A bit after a software write: a RW bit, and outside RUN a RWL bit, takes the written value before the W1C and W1S codes act
(R5). -/
theorem getLsbD_writeCodes (r : RegDef) (inRun : Bool) (old v : Word) {k : Nat} (hk : k < 32) :
    (writeCodes r inRun old v).getLsbD k =
      (((if r.rw.testBit k || (!inRun && r.rwl.testBit k) then v.getLsbD k else old.getLsbD k)
          && !(v.getLsbD k && r.w1c.testBit k))
        || (v.getLsbD k && r.w1s.testBit k)) := by
  have hmask : (BitVec.ofNat 32 (if inRun then r.rw else r.rw ||| r.rwl)).getLsbD k
      = (r.rw.testBit k || (!inRun && r.rwl.testBit k)) := by
    cases inRun <;> simp only [BitVec.getLsbD_ofNat, hk, decide_true, Bool.true_and, Bool.false_eq_true, if_true, if_false,
      Nat.testBit_or, Bool.not_true, Bool.not_false, Bool.false_and, Bool.or_false]
  simp only [writeCodes, BitVec.getLsbD_or, BitVec.getLsbD_and, BitVec.getLsbD_not, hmask, BitVec.getLsbD_ofNat, hk,
    decide_true, Bool.true_and]
  cases r.rw.testBit k || (!inRun && r.rwl.testBit k) <;> simp

/-- In RUN a locked bit with no other code that lets software change it stays (R9). -/
theorem getLsbD_writeCodes_locked (r : RegDef) (old v : Word) {k : Nat} (hk : k < 32) (hrw : r.rw.testBit k = false)
    (hc : r.w1c.testBit k = false) (hs : r.w1s.testBit k = false) :
    (writeCodes r true old v).getLsbD k = old.getLsbD k := by
  rw [getLsbD_writeCodes r true old v hk]
  simp [hrw, hc, hs]

/-- In RUN a register of locked and read-only fields keeps its value (R9). -/
theorem writeCodes_locked (r : RegDef) (old v : Word) (hrw : r.rw = 0) (hc : r.w1c = 0) (hs : r.w1s = 0) :
    writeCodes r true old v = old := by
  apply BitVec.eq_of_getLsbD_eq
  intro k hk
  exact getLsbD_writeCodes_locked r old v hk (by simp [hrw]) (by simp [hc]) (by simp [hs])

/-! ## A write by the access codes -/

/-- In RUN a write of a register with locked fields sets RWL_DROP beside what the access codes leave (R9). -/
theorem State.writeByCode_locked {s : State} {r : RegDef} (v i j : Nat) (hrun : s.hubState = stRun) (hrwl : r.rwl ≠ 0) :
    s.writeByCode r v i j =
      (s.wr r (writeCodes r true (s.rd r i j) (BitVec.ofNat 32 v)) i j).put Fld.GLB_ACC_STAT.RWL_DROP 1 := by
  simp [State.writeByCode, State.when, hrun, hrwl]

theorem State.rd_writeByCode_locked {s : State} {r : RegDef} (v : Nat) {i j : Nat} (hrun : s.hubState = stRun)
    (hrwl : r.rwl ≠ 0) (hi : r.has i j = true) (hd : r.disjoint Reg.GLB_ACC_STAT = true) :
    (s.writeByCode r v i j).rd r i j = writeCodes r true (s.rd r i j) (BitVec.ofNat 32 v) := by
  rw [State.writeByCode_locked v i j hrun hrwl, State.rd_put_disjoint _ _ _ _ _ _ (RegDef.disjoint_symm hd),
    State.rd_wr_same _ _ _ _ _ hi]

theorem State.writeByCode_locked_regsOnly {s : State} {r : RegDef} (v i j : Nat) (hrun : s.hubState = stRun)
    (hrwl : r.rwl ≠ 0) : RegsOnly [r.at i j, Reg.GLB_ACC_STAT.base] s (s.writeByCode r v i j) := by
  rw [State.writeByCode_locked v i j hrun hrwl]
  exact (State.wr_regsOnly _ _ _ _ _).trans (State.put_regsOnly _ Fld.GLB_ACC_STAT.RWL_DROP 1 0 0)

/-! ## The statements -/

/-- Settles O9 from the rules of one put: the field itself, an independent field, and the frame of its register. -/
theorem putFieldEffectAndFrame : Obligations.PutFieldEffectAndFrame := by
  intro s f v i j hwidth hi
  exact ⟨State.get_put_same s v i j hwidth hi, fun g a b hind => State.get_put_indep s v i j a b hind,
    State.put_regsOnly s f v i j⟩

/-- Settles O10: each clause is the bit equation of `writeCodes` at the codes that the clause names. -/
theorem accessCodesBitByBit : Obligations.AccessCodesBitByBit := by
  intro r inRun old v k hk
  dsimp only
  rw [getLsbD_writeCodes r inRun old v hk]
  refine ⟨?w1c, ?w1s, ?rw, ?rwl, ?readOnly⟩
  case w1c => intro hc hs hw hl; simp [hc, hs, hw, hl]
  case w1s => intro hs hc hw hl; simp [hc, hs, hw, hl]
  case rw => intro hw hc hs; simp [hc, hs, hw]
  case rwl => intro hl hw hc hs; cases inRun <;> simp [hc, hs, hw, hl]
  case readOnly => intro hw hl hc hs; simp [hc, hs, hw, hl]

/-- Settles O11: the write stores what the access codes leave in RUN, where no locked bit moves, and then puts RWL_DROP, which
stands in another register. -/
theorem lockedFieldWriteInRunIsDropped : Obligations.LockedFieldWriteInRunIsDropped := by
  intro s r v i j hrun hrwl hi hd
  refine ⟨?flag, ?lockedBits, ?wholeRegister, State.writeByCode_locked_regsOnly v i j hrun hrwl⟩
  case flag =>
    rw [State.writeByCode_locked v i j hrun hrwl]
    exact State.get_put_same _ 1 0 0 (by decide) (by decide)
  case lockedBits =>
    intro k hk _ hrw hc hs
    rw [State.rd_writeByCode_locked v hrun hrwl hi hd]
    exact getLsbD_writeCodes_locked r _ _ hk hrw hc hs
  case wholeRegister =>
    intro hrw hc hs
    rw [State.rd_writeByCode_locked v hrun hrwl hi hd]
    exact writeCodes_locked r _ _ hrw hc hs

end Sys2Proof.Machine
end

section
/-! PROOFS. Accesses through a path: the register at an offset, reserved addresses, and SPI transactions (R593, R671, R715,
R720). -/

open Sys2Proof Sys2Proof.Machine

namespace Sys2Proof.Machine

/-! ## Decoding an offset (R715) -/

/-- A family's index of an offset is sound: the register with that index exists and stands at the offset. -/
theorem RegDef.has_at_of_index {r : RegDef} {a i j : Nat} (h : r.index a = some (i, j)) :
    r.has i j = true ∧ r.at i j = a := by
  simp only [RegDef.index, Option.ite_none_left_eq_some, Option.ite_none_right_eq_some, Option.some.injEq, Prod.mk.injEq] at h
  obtain ⟨hbase, hin, hi, hj⟩ := h
  rw [hi] at hin hj
  rw [hj] at hin
  simp only [Bool.and_eq_true, decide_eq_true_eq, beq_iff_eq] at hin
  obtain ⟨⟨hi1, hj1⟩, hoff⟩ := hin
  have hle : r.s1 * i ≤ a - r.base := by
    rw [← hi]
    split
    · simp
    · exact Nat.mul_div_le _ _
  refine ⟨by simp [RegDef.has, hi1, hj1], ?_⟩
  simp only [RegDef.at]
  omega

/-- No register of a family stands above its last one. -/
theorem RegDef.index_above {r : RegDef} {a : Nat} (h : r.base + r.s1 * (r.n1 - 1) + r.s2 * (r.n2 - 1) < a) :
    r.index a = none := by
  cases hx : r.index a with
  | none => rfl
  | some e =>
    obtain ⟨hhas, hat⟩ := RegDef.has_at_of_index (i := e.1) (j := e.2) hx
    have := (RegDef.at_le hhas).2
    omega

/-- The index of a register in a family with one index. -/
theorem RegDef.index_at {r : RegDef} {i : Nat} (hi : r.has i 0 = true) (hs : 0 < r.s1) : r.index (r.at i 0) = some (i, 0) := by
  simp only [RegDef.has, Bool.and_eq_true, decide_eq_true_eq] at hi
  have hd : r.at i 0 - r.base = r.s1 * i := by simp [RegDef.at]
  have hb : ¬ r.at i 0 < r.base := by simp only [RegDef.at]; omega
  simp [RegDef.index, hb, hd, hs.ne', Nat.mul_div_cancel_left _ hs, hi]

/-- The register at an offset, where the families before its own in the block end below its own base. -/
theorem regAt_at {r : RegDef} {pre post : List RegDef} {i : Nat} (hblock : blockAt (r.at i 0) = pre ++ r :: post)
    (hpre : ∀ q ∈ pre, q.base + q.s1 * (q.n1 - 1) + q.s2 * (q.n2 - 1) < r.base) (hi : r.has i 0 = true) (hs : 0 < r.s1) :
    regAt (r.at i 0) = some (r, i, 0) := by
  unfold regAt
  rw [hblock, List.findSome?_eq_some_iff]
  refine ⟨pre, r, post, rfl, ?_, fun q hq => ?_⟩
  · rw [RegDef.index_at hi hs]
    rfl
  · have hbase := (RegDef.at_le hi).1
    rw [RegDef.index_above (Nat.lt_of_lt_of_le (hpre q hq) hbase)]
    rfl

/-- The families that stand before the interrupt sources' configuration words in the DMA block. -/
def dmaBelowNsrc : List RegDef :=
  [Reg.DMA_Rr_BASE_LO, Reg.DMA_Rr_BASE_HI, Reg.DMA_Rr_CFG, Reg.DMA_Rr_TAIL, Reg.DMA_Rr_HEAD, Reg.DMA_Rr_STAT,
   Reg.DMA_Rr_CNT, Reg.DMA_Rr_BYTES, Reg.DMA_PCIE_STAT, Reg.DMA_PCIE_EVT]

theorem blockAt_DMA_NSRCi {i : Nat} (hi : i < 128) :
    blockAt (Reg.DMA_NSRCi.at i 0) =
      dmaBelowNsrc ++ Reg.DMA_NSRCi :: [Reg.DMA_NPENDj, Reg.DMA_RNTF_VALIDj, Reg.DMA_RNTFh_Wk] := by
  have hk : Reg.DMA_NSRCi.at i 0 / 0x10000 = 0x24 := by
    simp only [RegDef.at, Reg.DMA_NSRCi]
    omega
  simp only [blockAt, hk]
  rfl

theorem regAt_DMA_NSRCi {i : Nat} (hi : i < 128) : regAt (Reg.DMA_NSRCi.at i 0) = some (Reg.DMA_NSRCi, i, 0) :=
  regAt_at (blockAt_DMA_NSRCi hi) (by decide) (by simp [RegDef.has, Reg.DMA_NSRCi, hi]) (by decide)

/-! ## What a write of a register does -/

/-- Nothing of the DMA block is fused, and the block gives these words no rule of their own. -/
theorem State.writeReg_DMA_NSRCi (s : State) (p : Path) (i j v : Nat) :
    s.writeReg p Reg.DMA_NSRCi i j v = s.writeByCode Reg.DMA_NSRCi v i j := by
  have hf : s.fused Reg.DMA_NSRCi i = false := Bool.and_false _
  unfold State.writeReg
  rw [hf]
  rfl

theorem State.busWrite_DMA_NSRCi {s : State} (p : Path) {i : Nat} (v : Nat) (h : s.mapOpen = true) (hi : i < 128) :
    (s.busWrite p (Reg.DMA_NSRCi.at i 0) v).2 = s.writeByCode Reg.DMA_NSRCi (v % 2 ^ 32) i := by
  have ha : Reg.DMA_NSRCi.at i 0 = 0x245000 + 4 * i := rfl
  have hwrite : s.writeAt p Reg.DMA_NSRCi i v = s.writeReg p Reg.DMA_NSRCi i 0 (v % 2 ^ 32) :=
    State.writeAt_eq h hi (regAt_DMA_NSRCi hi) (by omega) (by simp [inMbx, ha]; omega) (by simp [inMsix, ha]; omega) (by omega)
  rw [State.writeAt, if_pos (show i < Reg.DMA_NSRCi.n1 from hi)] at hwrite
  rw [hwrite, State.writeReg_DMA_NSRCi]

/-! ## Where the map answers (R671) -/

theorem State.responds_of_mapOpen {s : State} (a : Nat) (h : s.mapOpen = true) : s.responds a = true := by
  simp [State.responds, h]

theorem State.responds_off {s : State} (a : Nat) (h : s.hubState = stOff) : s.responds a = false := by
  simp [State.responds, State.mapOpen, h, stHeld, stOff, stBoot]

theorem State.busRead_silent {s : State} (p : Path) {a : Nat} (h : s.responds a = false) : s.busRead p a = (0, false, s) := by
  simp [State.busRead, h]

theorem State.busWrite_silent {s : State} (p : Path) {a : Nat} (v : Nat) (h : s.responds a = false) :
    s.busWrite p a v = (false, s) := by
  simp [State.busWrite, h]

/-! ## Reserved addresses (R720) -/

/-- The offset is below the unit window and holds no register, no mailbox and no part of the MSI-X table (R715). -/
structure ReservedAddr (a : Nat) : Prop where
  notMbx : inMbx a = false
  notMsix : inMsix a = false
  belowUnits : a < 0x400000
  noRegister : regAt a = none

theorem State.busRead_reserved {s : State} (p : Path) {a : Nat} (h : s.responds a = true) (ha : ReservedAddr a) :
    s.busRead p a = (0, true, s.reservedHit) := by
  obtain ⟨hmbx, hmsix, hlow, hreg⟩ := ha
  have hunit : ¬ 0x400000 ≤ a := by omega
  have hwin : ¬ 0x1000000 ≤ a := by omega
  simp [State.busRead, h, hmbx, hmsix, hunit, hwin, hreg]

theorem State.busWrite_reserved {s : State} (p : Path) {a : Nat} (v : Nat) (h : s.responds a = true) (ha : ReservedAddr a) :
    s.busWrite p a v = (true, s.reservedHit) := by
  obtain ⟨hmbx, hmsix, hlow, hreg⟩ := ha
  have hunit : ¬ 0x400000 ≤ a := by omega
  have hwin : ¬ 0x1000000 ≤ a := by omega
  simp [State.busWrite, h, hmbx, hmsix, hunit, hwin, hreg]

/-- Below the unit window an offset names its own register. -/
theorem State.mirrored_below (s : State) {a : Nat} (h : a < 0x400000) : s.mirrored a = a := by
  have hunit : ¬ 0x400000 ≤ a := by omega
  simp [State.mirrored, hunit]

/-- A read of a reserved address, of whatever size, returns 0 and sets RSVD_ACC (R720). -/
theorem execReservedRead_reserved {s : State} (p : Path) {a : Nat} (size : Nat) (h : s.responds a = true)
    (ha : ReservedAddr a) : execReservedRead p a size s = .next { s.reservedHit with host.readData := [0] } := by
  have hreg : regAt (s.mirrored a) = none := by
    rw [State.mirrored_below s ha.belowUnits, ha.noRegister]
  by_cases hsize : size = 4
  · simp [execReservedRead, hsize, State.readTo, State.busRead_reserved p h ha]
  · simp [execReservedRead, hsize, h, hreg]

/-- Where nothing answers, a read returns 0 and sets no flag (R671). -/
theorem execReservedRead_silent {s : State} (p : Path) {a : Nat} (size : Nat) (h : s.responds a = false) :
    execReservedRead p a size s = .next { s with host.readData := [0] } := by
  by_cases hsize : size = 4
  · simp [execReservedRead, hsize, State.readTo, State.busRead_silent p h]
  · simp [execReservedRead, hsize, h]

/-! ## SPI transactions (R593) -/

theorem State.spiOn_of_ne_off {s : State} (h : s.hubState ≠ stOff) : s.spiOn = true := by
  simp [State.spiOn, h]

/-- The hub after a transaction that shifted out `k` bytes of 0. -/
def State.misoZeros (s : State) (k : Nat) : State := { s with host.miso := List.replicate k 0 }

theorem toWords_leBytes_word {v : Nat} (h : v < 2 ^ 32) : toWords 1 (leBytes 4 v) = [v] := by
  have hv : leAt (leBytes 4 v) 0 4 = v := by rw [leAt_leBytes_nil]; omega
  simp [toWords, List.range_one, hv]

theorem execSpiWrite_short {s : State} {bytes : List Byte} (hon : s.hubState ≠ stOff) (h : bytes.length < 4) :
    execSpiWrite bytes s = .next { s.misoZeros (bytes.length + 1) with host.spiPartial := true } := by
  simp [execSpiWrite, State.spiOn_of_ne_off hon, h, State.misoZeros]

theorem execSpiWrite_unaligned {s : State} {a : Nat} (data : List Byte) (hon : s.hubState ≠ stOff) (ha : a < 2 ^ 32)
    (h : a % 4 ≠ 0) : execSpiWrite (leBytes 4 a ++ data) s =
      .next { (s.misoZeros (data.length + 5)).reservedHit with host.spiAlign := true } := by
  have hadr : leAt (leBytes 4 a ++ data) 0 4 = a := by rw [leAt_leBytes]; omega
  have hlen : (leBytes 4 a ++ data).length + 1 = data.length + 5 := by simp; omega
  have hlong : ¬ (leBytes 4 a ++ data).length < 4 := by omega
  simp only [execSpiWrite, State.spiOn_of_ne_off hon, hadr, hlen, hlong, h, Bool.not_true, Bool.false_eq_true, if_false,
    ne_eq, not_false_eq_true, if_true, State.misoZeros]

/-- An aligned SPI write of one whole word is one write of a register. -/
theorem execSpiWrite_word {s : State} {a v : Nat} (hon : s.hubState ≠ stOff) (ha : a < 2 ^ 32) (hv : v < 2 ^ 32)
    (h : a % 4 = 0) : execSpiWrite (leBytes 4 a ++ leBytes 4 v) s = .next ((s.misoZeros 9).busWrite .spi a v).2 := by
  have hadr : leAt (leBytes 4 a ++ leBytes 4 v) 0 4 = a := by rw [leAt_leBytes]; omega
  have hdata : (leBytes 4 a ++ leBytes 4 v).drop 4 = leBytes 4 v := List.drop_left' (length_leBytes 4 a)
  simp [execSpiWrite, State.spiOn_of_ne_off hon, hadr, hdata, h, toWords_leBytes_word hv, State.writeWords, State.misoZeros]

/-- An aligned SPI read of one word shifts out what the read of the register returns, behind the wait bytes and 0xA5. -/
theorem execSpiRead_word {s : State} {a : Nat} (wait : Nat) (hon : s.hubState ≠ stOff) (h : a % 4 = 0) :
    execSpiRead a 1 wait s = .next { (s.busRead .spi a).2.2 with
      host.miso := List.replicate (5 + wait) 0 ++ [0xA5] ++ leBytes 4 (s.busRead .spi a).1 } := by
  simp [execSpiRead, State.spiOn_of_ne_off hon, h, State.readWords, ofWords]

theorem execSpiRead_unaligned {s : State} {a : Nat} (count wait : Nat) (hon : s.hubState ≠ stOff) (h : a % 4 ≠ 0) :
    execSpiRead a count wait s =
      .next { s.reservedHit with host.spiAlign := true, host.miso := List.replicate 5 0 } := by
  simp [execSpiRead, State.spiOn_of_ne_off hon, h]

theorem execSpiStatus_on {s : State} (hon : s.hubState ≠ stOff) :
    execSpiStatus s = .next { s with
      host.miso := [0] ++ leBytes 1 (b2n s.irqN + 2 * b2n s.host.spiPartial + 4 * b2n s.host.spiAlign)
      host.spiPartial := false, host.spiAlign := false } := by
  simp [execSpiStatus, State.spiOn_of_ne_off hon]

theorem execSpiUnknownCommand_on {s : State} (n : Nat) (hon : s.hubState ≠ stOff) :
    execSpiUnknownCommand n s = .next (s.misoZeros n) := by
  simp [execSpiUnknownCommand, State.spiOn_of_ne_off hon, State.misoZeros]

/-! ## The statement -/

/-- A register without a rule of its own takes what its access codes leave (R5, R715). -/
theorem exec_registerWrite_DMA_NSRCi {s : State} (p : Path) {i v : Nat} (h : s.mapOpen = true) (hi : i < 128)
    (hv : v < 2 ^ 32) :
    exec (.registerWrite p (Reg.DMA_NSRCi.at i 0) v) s = .next (s.writeByCode Reg.DMA_NSRCi v i) := by
  show Host.Outcome.next (s.busWrite p (Reg.DMA_NSRCi.at i 0) v).2 = _
  rw [State.busWrite_DMA_NSRCi p v h hi, Nat.mod_eq_of_lt hv]

theorem exec_registerWrite_reserved {s : State} (p : Path) {a : Nat} (v : Nat) (h : s.responds a = true)
    (ha : ReservedAddr a) : exec (.registerWrite p a v) s = .next (s.put Fld.GLB_ACC_STAT.RSVD_ACC 1) := by
  show Host.Outcome.next (s.busWrite p a v).2 = _
  rw [State.busWrite_reserved p v h ha]
  rfl

theorem exec_registerWrite_silent {s : State} (p : Path) {a : Nat} (v : Nat) (h : s.responds a = false) :
    exec (.registerWrite p a v) s = .next s := by
  show Host.Outcome.next (s.busWrite p a v).2 = _
  rw [State.busWrite_silent p v h]

/-- Settles O18: an ordinary register, reserved addresses with the map open and in OFF, and each form of SPI transaction, by the
lemma above on each. -/
theorem registerAccessRows : Obligations.RegisterAccessRows := by
  refine ⟨?ordinary, ?reserved, ?spi⟩
  case ordinary =>
    intro s p i v hopen hi hv
    exact exec_registerWrite_DMA_NSRCi p hopen (by omega) hv
  case reserved =>
    intro s p a size v hmbx hmsix hlow hreg
    have ha : ReservedAddr a := ⟨hmbx, hmsix, hlow, hreg⟩
    refine ⟨fun hopen _ => ?_, fun hoff => ?_⟩
    · have hresp := State.responds_of_mapOpen a hopen
      exact ⟨execReservedRead_reserved p size hresp ha, exec_registerWrite_reserved p v hresp ha⟩
    · have hresp := State.responds_off a hoff
      exact ⟨execReservedRead_silent p size hresp, exec_registerWrite_silent p v hresp⟩
  case spi =>
    intro s a v n wait hon ha hv
    have hlen : (leBytes 4 v).length + 5 = 9 := by rw [length_leBytes]
    refine ⟨execSpiWrite_word hon ha hv, fun h => ?_, fun bytes h => execSpiWrite_short hon h, execSpiRead_word wait hon,
      execSpiRead_unaligned 1 wait hon, execSpiStatus_on hon, execSpiUnknownCommand_on n hon⟩
    rw [← hlen]
    exact execSpiWrite_unaligned (leBytes 4 v) hon ha h

end Sys2Proof.Machine
end

section
/-! PROOFS. Reads of a register through a path: those that latch further words and those that remove data (R31, R367, R384,
R718, R719). -/

open Sys2Proof Sys2Proof.Machine

namespace Sys2Proof.Machine

/-! ## Decoding an offset in a block whose families interleave (R715) -/

/-- No register of family `q` stands at a first register `r.at i 0`: `q` ends below `r`, or both repeat with one stride at
different places of it. -/
def RegDef.misses (q r : RegDef) : Bool :=
  decide (q.base + q.s1 * (q.n1 - 1) + q.s2 * (q.n2 - 1) < r.base) ||
    (q.s1 == r.s1 && q.s2 == 0 && q.base % r.s1 != r.base % r.s1)

theorem RegDef.index_of_misses {q r : RegDef} {i : Nat} (h : q.misses r = true) (hi : r.has i 0 = true) :
    q.index (r.at i 0) = none := by
  simp only [RegDef.misses, Bool.or_eq_true, Bool.and_eq_true, decide_eq_true_eq, beq_iff_eq, bne_iff_ne] at h
  rcases h with hbelow | ⟨⟨hs1, hs2⟩, hplace⟩
  · exact RegDef.index_above (Nat.lt_of_lt_of_le hbelow (RegDef.at_le hi).1)
  · rw [Option.eq_none_iff_forall_ne_some]
    rintro ⟨a, b⟩ hq
    have hat : q.base + r.s1 * a = r.base + r.s1 * i := by
      have := (RegDef.has_at_of_index hq).2
      simpa [RegDef.at, hs1, hs2] using this
    have hmod := congrArg (· % r.s1) hat
    simp only [Nat.add_mul_mod_self_left] at hmod
    exact hplace hmod

/-- The register at an offset, where the families before its own in the block miss it. -/
theorem regAt_of_misses {r : RegDef} {pre post : List RegDef} {i : Nat} (hblock : blockAt (r.at i 0) = pre ++ r :: post)
    (hpre : ∀ q ∈ pre, q.misses r = true) (hi : r.has i 0 = true) (hs : 0 < r.s1) : regAt (r.at i 0) = some (r, i, 0) := by
  unfold regAt
  rw [hblock, List.findSome?_eq_some_iff]
  refine ⟨pre, r, post, rfl, ?_, fun q hq => ?_⟩
  · rw [RegDef.index_at hi hs]
    rfl
  · rw [RegDef.index_of_misses (hpre q hq) hi]
    rfl

theorem regAt_LOOP_Sn_INT_LO {k : Nat} (hk : k < 64) :
    regAt (Reg.LOOP_Sn_INT_LO.at k 0) = some (Reg.LOOP_Sn_INT_LO, k, 0) := by
  have hblock : blockAt (Reg.LOOP_Sn_INT_LO.at k 0) = Reg.blockLoop := by
    have hb : Reg.LOOP_Sn_INT_LO.at k 0 / 0x10000 = 0x12 := by
      simp only [RegDef.at, Reg.LOOP_Sn_INT_LO]
      omega
    simp only [blockAt, hb]
    rfl
  exact regAt_of_misses (pre := Reg.blockLoop.take 14) (post := Reg.blockLoop.drop 15) hblock (by decide)
    (by simp [RegDef.has, Reg.LOOP_Sn_INT_LO, hk]) (by decide)

theorem regAt_TDC_CHk_FIFO_W0 {k : Nat} (hk : k < 16) :
    regAt (Reg.TDC_CHk_FIFO_Wj.at k 0) = some (Reg.TDC_CHk_FIFO_Wj, k, 0) := by
  have hblock : blockAt (Reg.TDC_CHk_FIFO_Wj.at k 0) = Reg.blockTdc := by
    have hb : Reg.TDC_CHk_FIFO_Wj.at k 0 / 0x10000 = 5 := by
      simp only [RegDef.at, Reg.TDC_CHk_FIFO_Wj]
      omega
    simp only [blockAt, hb]
    rfl
  exact regAt_of_misses (pre := Reg.blockTdc.take 13) (post := []) hblock (by decide)
    (by simp [RegDef.has, Reg.TDC_CHk_FIFO_Wj, hk]) (by decide)

theorem regAt_FLD_Pp_ISNS {k : Nat} (hk : k < 16) : regAt (Reg.FLD_Pp_ISNS.at k 0) = some (Reg.FLD_Pp_ISNS, k, 0) := by
  have hblock : blockAt (Reg.FLD_Pp_ISNS.at k 0) = Reg.blockFld := by
    have hb : Reg.FLD_Pp_ISNS.at k 0 / 0x10000 = 0x1C := by
      simp only [RegDef.at, Reg.FLD_Pp_ISNS]
      omega
    simp only [blockAt, hb]
    rfl
  exact regAt_of_misses (pre := Reg.blockFld.take 7) (post := Reg.blockFld.drop 8) hblock (by decide)
    (by simp [RegDef.has, Reg.FLD_Pp_ISNS, hk]) (by decide)

/-! ## A read at the address of a register (R671, R715) -/

/-- The offset is aligned, below the unit window, and no part of the mailboxes or the MSI-X table. -/
def plainOffset (a : Nat) : Bool := a % 4 == 0 && !inMbx a && !inMsix a && decide (a < 0x400000)

/-- A read at the address of a register of the map, while the map responds, returns what the register's read gives. -/
theorem State.readTo_register {s : State} (p : Path) {r : RegDef} {i j a : Nat} (h : s.mapOpen = true)
    (hr : regAt a = some (r, i, j)) (ha : plainOffset a = true) :
    s.readTo p a = { (s.readReg p r i j).2 with host.readData := [(s.readReg p r i j).1] } := by
  simp only [plainOffset, Bool.and_eq_true, beq_iff_eq, Bool.not_eq_true', decide_eq_true_eq] at ha
  obtain ⟨⟨⟨haligned, hmbx⟩, hmsix⟩, hlow⟩ := ha
  have hunit : ¬ 0x400000 ≤ a := by omega
  have hwin : ¬ 0x1000000 ≤ a := by omega
  simp [State.readTo, State.busRead, State.responds_of_mapOpen a h, haligned, hmbx, hmsix, hunit, hwin, hr]

theorem plainOffset_LOOP_Sn_INT_LO {k : Nat} (hk : k < 64) : plainOffset (Reg.LOOP_Sn_INT_LO.at k 0) = true := by
  simp [plainOffset, RegDef.at, Reg.LOOP_Sn_INT_LO, inMbx, inMsix]
  omega

theorem plainOffset_TDC_CHk_FIFO_W0 {k : Nat} (hk : k < 16) : plainOffset (Reg.TDC_CHk_FIFO_Wj.at k 0) = true := by
  simp [plainOffset, RegDef.at, Reg.TDC_CHk_FIFO_Wj, inMbx, inMsix]
  omega

theorem plainOffset_FLD_Pp_ISNS {k : Nat} (hk : k < 16) : plainOffset (Reg.FLD_Pp_ISNS.at k 0) = true := by
  simp [plainOffset, RegDef.at, Reg.FLD_Pp_ISNS, inMbx, inMsix]
  omega

/-! ## What the read of each register gives (R718, R719) -/

theorem State.readReg_GLB_FRAME_LO (s : State) (p : Path) : s.readReg p Reg.GLB_FRAME_LO 0 0 =
    (s.frameNow % 2 ^ 32, s.setBank p { s.bank p with frameHi := s.frameNow / 2 ^ 32 % 2 ^ 16 }) := by
  have hf : s.fused Reg.GLB_FRAME_LO 0 = false := Bool.and_false _
  simp only [State.readReg, hf]
  rfl

theorem State.readReg_TIM_L_S_LO (s : State) (p : Path) : s.readReg p Reg.TIM_L_S_LO 0 0 =
    (s.time.l.s % 2 ^ 32, s.setBank p { s.bank p with timL := s.time.l, timA := (s.dom 0).t, timB := (s.dom 1).t }) := by
  have hf : s.fused Reg.TIM_L_S_LO 0 = false := Bool.and_false _
  have hread : s.readReg p Reg.TIM_L_S_LO 0 0 = s.readTime p Reg.TIM_L_S_LO := by
    simp only [State.readReg, hf]
    rfl
  rw [hread]
  cases p <;> rfl

theorem State.readReg_LOOP_Sn_INT_LO (s : State) (p : Path) (k : Nat) (hf : s.fused Reg.LOOP_Sn_INT_LO k = false) :
    s.readReg p Reg.LOOP_Sn_INT_LO k 0 = s.readInt p k := by
  simp only [State.readReg, hf]
  rfl

/-- Nothing of the TDC is fused. -/
theorem State.readReg_TDC_CHk_FIFO_W0 (s : State) (p : Path) (k : Nat) :
    s.readReg p Reg.TDC_CHk_FIFO_Wj k 0 = s.readTdcFifo p k := by
  have hf : s.fused Reg.TDC_CHk_FIFO_Wj k = false := Bool.and_false _
  simp only [State.readReg, hf]
  rfl

theorem State.readReg_FLD_Pp_ISNS (s : State) (p : Path) (k : Nat) (hf : s.fused Reg.FLD_Pp_ISNS k = false) :
    s.readReg p Reg.FLD_Pp_ISNS k 0 = s.readIsns k := by
  simp only [State.readReg, hf]
  rfl

/-! ## What each row gives -/

/-- Without a counter GLB_FRAME_LO and what it latches read 0 (R31). -/
theorem exec_glbFrameLoRead {s : State} (p : Path) (h : s.mapOpen = true) : exec (.glbFrameLoRead p) s = .next
    { s.setBank p { s.bank p with frameHi := s.frameNow / 2 ^ 32 % 2 ^ 16 } with
      host.readData := [s.frameNow % 2 ^ 32] } := by
  show Host.Outcome.next (s.readTo p Reg.GLB_FRAME_LO.base) = _
  rw [State.readTo_register p h (show regAt Reg.GLB_FRAME_LO.base = some (Reg.GLB_FRAME_LO, 0, 0) by decide) (by decide),
    State.readReg_GLB_FRAME_LO]

theorem exec_timLRead {s : State} (p : Path) (h : s.mapOpen = true) : exec (.timLRead p) s = .next
    { s.setBank p { s.bank p with timL := s.time.l, timA := (s.dom 0).t, timB := (s.dom 1).t } with
      host.readData := [s.time.l.s % 2 ^ 32] } := by
  show Host.Outcome.next (s.readTo p Reg.TIM_L_S_LO.base) = _
  rw [State.readTo_register p h (show regAt Reg.TIM_L_S_LO.base = some (Reg.TIM_L_S_LO, 0, 0) by decide) (by decide),
    State.readReg_TIM_L_S_LO]

theorem exec_loopIntRead {s : State} (p : Path) {k : Nat} (h : s.mapOpen = true) (hk : k < 64)
    (hf : s.fused Reg.LOOP_Sn_INT_LO k = false) :
    exec (.loopIntRead p k) s = .next { (s.readInt p k).2 with host.readData := [(s.readInt p k).1] } := by
  show Host.Outcome.next (if k < 64 then s.readTo p (Reg.LOOP_Sn_INT_LO.at k 0) else s) = _
  rw [if_pos hk, State.readTo_register p h (regAt_LOOP_Sn_INT_LO hk) (plainOffset_LOOP_Sn_INT_LO hk),
    State.readReg_LOOP_Sn_INT_LO s p k hf]

theorem exec_tdcFifoPop {s : State} (p : Path) {k : Nat} (h : s.mapOpen = true) (hk : k < 16) :
    exec (.tdcFifoPop p k) s = .next { (s.readTdcFifo p k).2 with host.readData := [(s.readTdcFifo p k).1] } := by
  show Host.Outcome.next (if k < 16 then s.readTo p (Reg.TDC_CHk_FIFO_Wj.at k 0) else s) = _
  rw [if_pos hk, State.readTo_register p h (regAt_TDC_CHk_FIFO_W0 hk) (plainOffset_TDC_CHk_FIFO_W0 hk),
    State.readReg_TDC_CHk_FIFO_W0]

theorem exec_fldIsnsRead {s : State} (p : Path) {k : Nat} (h : s.mapOpen = true) (hk : k < 16)
    (hf : s.fused Reg.FLD_Pp_ISNS k = false) : exec (.fldIsnsRead p k) s = .next
      { s.put Fld.FLD_Pp_ISNS.PEAK 0 k with host.readData := [s.readByCode Reg.FLD_Pp_ISNS k] } := by
  show Host.Outcome.next (if k < 16 then s.readTo p (Reg.FLD_Pp_ISNS.at k 0) else s) = _
  rw [if_pos hk, State.readTo_register p h (regAt_FLD_Pp_ISNS hk) (plainOffset_FLD_Pp_ISNS hk),
    State.readReg_FLD_Pp_ISNS s p k hf]
  rfl

/-- The last word of a TDC entry: VALID, the four flags and the edge count (R383). -/
def TdcEntry.flagWord (e : TdcEntry) : Nat :=
  2 ^ 31 + b2n e.pol * 2 ^ 30 + b2n e.base * 2 ^ 29 + b2n e.lost * 2 ^ 28 + b2n e.step * 2 ^ 27 + e.count % 2 ^ 24

theorem b2n_le_one (b : Bool) : b2n b ≤ 1 := by cases b <;> decide

theorem TdcEntry.flagWord_count (e : TdcEntry) : e.flagWord % 2 ^ 24 = e.count % 2 ^ 24 := by
  unfold TdcEntry.flagWord
  omega

theorem TdcEntry.flagWord_valid (e : TdcEntry) : bit e.flagWord 31 = true := by
  have hpol := b2n_le_one e.pol
  have hbase := b2n_le_one e.base
  have hlost := b2n_le_one e.lost
  have hstep := b2n_le_one e.step
  rw [bit, Nat.testBit_eq_decide_div_mod_eq, decide_eq_true_eq, TdcEntry.flagWord]
  omega

theorem TdcEntry.flagWord_pol (e : TdcEntry) : bit e.flagWord 30 = e.pol := by
  have hbase := b2n_le_one e.base
  have hlost := b2n_le_one e.lost
  have hstep := b2n_le_one e.step
  have hbit : e.flagWord / 2 ^ 30 % 2 = b2n e.pol := by
    have hpol := b2n_le_one e.pol
    unfold TdcEntry.flagWord
    omega
  rw [bit, Nat.testBit_eq_decide_div_mod_eq, hbit]
  cases e.pol <;> rfl

theorem exec_tdcFifoPop_empty {s : State} (p : Path) {k : Nat} (h : s.mapOpen = true) (hk : k < 16)
    (hempty : (s.tdcIn k).fifo = []) : exec (.tdcFifoPop p k) s = .next
      { s.setBank p { s.bank p with tdcW := tabSet (s.bank p).tdcW k [0, 0, 0] } with host.readData := [0] } := by
  rw [exec_tdcFifoPop p h hk]
  simp [State.readTdcFifo, State.tdcPop, hempty]

/-- The state after a pop of a TDC FIFO with the oldest entry `e` (R384, R719). -/
def State.tdcPopped (s : State) (p : Path) (k : Nat) (e : TdcEntry) (rest : List TdcEntry) : State :=
  let t := s.setTdc k { s.tdcIn k with fifo := rest }
  let ws := [e.result / 2 ^ 32 % 2 ^ 32, e.m % 2 ^ 32, e.flagWord]
  { t.setBank p { t.bank p with tdcW := tabSet (t.bank p).tdcW k ws } with host.readData := [e.result % 2 ^ 32] }

theorem State.tdcPopped_fifo (s : State) (p : Path) (k : Nat) (e : TdcEntry) (rest : List TdcEntry) :
    ((s.tdcPopped p k e rest).tdcIn k).fifo = rest := by
  have hpop : (s.tdcPopped p k e rest).tdcIn k = (s.setTdc k { s.tdcIn k with fifo := rest }).tdcIn k := by
    cases p <;> rfl
  simp [hpop]

theorem State.tdcPopped_latched (s : State) (p : Path) (k : Nat) (e : TdcEntry) (rest : List TdcEntry) :
    tabGet ((s.tdcPopped p k e rest).bank p).tdcW [] k = [e.result / 2 ^ 32 % 2 ^ 32, e.m % 2 ^ 32, e.flagWord] := by
  cases p <;> simp [State.tdcPopped, State.setBank, State.bank, tabGet_set]

theorem exec_tdcFifoPop_cons {s : State} (p : Path) {k : Nat} {e : TdcEntry} {rest : List TdcEntry} (h : s.mapOpen = true)
    (hk : k < 16) (hcons : (s.tdcIn k).fifo = e :: rest) :
    exec (.tdcFifoPop p k) s = .next (s.tdcPopped p k e rest) := by
  rw [exec_tdcFifoPop p h hk]
  simp [State.readTdcFifo, State.tdcPop, hcons, State.tdcPopped, TdcEntry.flagWord]

/-! ## The statement -/

/-- Settles O19: each read reaches its register's rule by `State.readTo_register`; a pop of a TDC FIFO splits on the FIFO. -/
theorem latchingAndDestructiveReads : Obligations.LatchingAndDestructiveReads := by
  refine ⟨fun s p h => ⟨fun hc => ?counter, fun hc => ?noCounter, exec_timLRead p h⟩,
    fun s p k h hk hf => exec_loopIntRead p h hk hf,
    fun s p k h hk => ⟨fun hempty => exec_tdcFifoPop_empty p h hk hempty, fun e rest hcons => ?entry, exec_fldIsnsRead p h hk⟩⟩
  case counter => simp [exec_glbFrameLoRead p h, State.frameNow, hc]
  case noCounter => simp [exec_glbFrameLoRead p h, State.frameNow, hc]
  case entry =>
    have hpop := exec_tdcFifoPop_cons p h hk hcons
    exact ⟨_, _, _, _, hpop, s.tdcPopped_fifo p k e rest, rfl, s.tdcPopped_latched p k e rest, rfl, rfl,
      e.flagWord_count, e.flagWord_valid, e.flagWord_pol⟩

end Sys2Proof.Machine
end

section
/-! PROOFS. The frame tick and the clock of the hub (R31, R150): the frame counter, whether the hub keeps it, and the state code.
Every operation that a tick calls keeps the clock, by one lemma per operation: the operation is unfolded once, there, and the
`simp` set holds the lemmas of the operations it calls. Only `State.nextFrame` moves the clock. -/

open Sys2Proof Sys2Proof.Machine

namespace Sys2Proof.Machine

/-! ## The clock -/

/-- The hub's state code in a table of registers (R149). -/
def stateCodeIn (m : Tab Word) : Nat :=
  let f := Fld.GLB_STATE.STATE
  getBits (tabGet m 0 f.reg.base ^^^ BitVec.ofNat 32 f.reg.reset) f.lsb f.width

/-- The clock that a table of registers and the two parts of the frame counter make. -/
def clockOf (m : Tab Word) (n : Nat) (b : Bool) : Nat × Bool × Nat := (n, b, stateCodeIn m)

/-- The clock of the hub. It unfolds to `clockOf`, so that a change of another part of the state drops out of it. -/
@[simp] abbrev State.clock (s : State) : Nat × Bool × Nat := clockOf s.regs s.seq.frame s.seq.counter

theorem State.clock_eq (s : State) : s.clock = (s.seq.frame, s.seq.counter, s.hubState) := rfl

/-- The one phase of a tick that moves the clock (R31). -/
theorem State.clock_nextFrame (s : State) : s.nextFrame.clock = (s.clock.1 + 1, s.clock.2) := rfl

/-! ## Stores of registers: any field but GLB_STATE.STATE keeps the clock -/

section
variable (s : State) (i j n : Nat) (b : Bool)

@[simp] theorem clockOf_wr {r : RegDef} (v : Word) (h : r.disjoint Reg.GLB_STATE = true) :
    clockOf (s.wr r v i j).regs n b = clockOf s.regs n b :=
  congrArg (fun c => (n, b, c)) (State.get_wr_disjoint s (g := Fld.GLB_STATE.STATE) v i j 0 0 h)

@[simp] theorem clockOf_put {f : Field} (v : Nat) (h : f.indep Fld.GLB_STATE.STATE = true) :
    clockOf (s.put f v i j).regs n b = clockOf s.regs n b :=
  congrArg (fun c => (n, b, c)) (State.get_put_indep s v i j 0 0 h)

@[simp] theorem clockOf_putI {f : Field} (v : Int) (h : f.indep Fld.GLB_STATE.STATE = true) :
    clockOf (s.putI f v i j).regs n b = clockOf s.regs n b := clockOf_put s i j n b _ h

@[simp] theorem clockOf_sat {f : Field} (k : Nat) (h : f.indep Fld.GLB_STATE.STATE = true) :
    clockOf (s.sat f k i j).regs n b = clockOf s.regs n b := clockOf_put s i j n b _ h

@[simp] theorem clockOf_wrap {f : Field} (k : Nat) (h : f.indep Fld.GLB_STATE.STATE = true) :
    clockOf (s.wrap f k i j).regs n b = clockOf s.regs n b := clockOf_put s i j n b _ h

/-- The status blocks of the units stand above every register of the GLB block. -/
@[simp] theorem clockOf_uPut {f : Field} (v id : Nat) (h : 0x400000 ≤ f.reg.base) :
    clockOf (s.uPut f v id).regs n b = clockOf s.regs n b := by
  have hne : Fld.GLB_STATE.STATE.reg.base ≠ f.reg.base + unitBlock id := by
    have : Fld.GLB_STATE.STATE.reg.base < 0x400000 := by decide
    omega
  have hcode : stateCodeIn (s.uPut f v id).regs = stateCodeIn s.regs := by
    unfold stateCodeIn State.uPut
    dsimp only
    split_ifs <;> simp [tabGet_erase, tabGet_set, hne]
  simp [clockOf, hcode]

end

/-! ## Control -/

@[simp] theorem State.clock_ite (c : Prop) [Decidable c] (s t : State) :
    (if c then s else t).clock = if c then s.clock else t.clock :=
  apply_ite State.clock c s t

@[simp] theorem State.clock_when (s : State) (c : Bool) (f : State → State) (h : ∀ t : State, (f t).clock = t.clock) :
    (s.when c f).clock = s.clock := by
  cases c
  · rfl
  · exact h s

@[simp] theorem State.clock_forEach {α : Type} (s : State) (l : List α) (f : α → State → State)
    (h : ∀ a (t : State), (f a t).clock = t.clock) : (s.forEach l f).clock = s.clock := by
  unfold State.forEach
  induction l generalizing s with
  | nil => rfl
  | cons a l ih => exact (ih _).trans (h a s)

/-! ## Notices and degraded causes (R183, R581) -/

@[simp] theorem State.clock_formDegraded (s : State) : s.formDegraded.clock = s.clock := by
  simp +decide [State.formDegraded]

@[simp] theorem State.clock_raise (s : State) (i : Nat) : (s.raise i).clock = s.clock := by
  simp +decide [State.raise]

@[simp] theorem State.clock_evt (s : State) {f : Field} (src i j : Nat) (h : f.indep Fld.GLB_STATE.STATE = true) :
    (s.evt f src i j).clock = s.clock := by
  unfold State.evt
  split_ifs <;> simp [h]

@[simp] theorem State.clock_degrade (s : State) {live sticky : Field} (on : Bool)
    (hl : live.indep Fld.GLB_STATE.STATE = true) (hs : sticky.indep Fld.GLB_STATE.STATE = true) :
    (s.degrade live sticky on).clock = s.clock := by
  cases on <;> simp [State.degrade, hl, hs]

/-! ## The silt log's staging (R622 to R628) -/

@[simp] theorem State.clock_suppress (s : State) (cls t : Nat) : (s.suppress cls t).clock = s.clock := by
  simp +decide [State.suppress]

@[simp] theorem State.clock_setJob (s : State) (e : SiltEvent) (copies : List Bool) : (s.setJob e copies).clock = s.clock := by
  simp +decide [State.setJob, State.takeSeq]

@[simp] theorem State.clock_startLogFull (s : State) : s.startLogFull.clock = s.clock := by
  simp [State.startLogFull]

@[simp] theorem State.clock_startRecord (s : State) (e : SiltEvent) : (s.startRecord e).clock = s.clock := by
  simp +decide [State.startRecord]

@[simp] theorem State.clock_fifoLevel (s : State) : s.fifoLevel.clock = s.clock := by
  simp +decide [State.fifoLevel]

@[simp] theorem State.clock_stage (s : State) (code : Nat) (data : List Byte) : (s.stage code data).clock = s.clock := by
  simp +decide [State.stage]

/-! ## Units: last tick, outputs, events, loop slots -/

@[simp] theorem State.clock_ran (s : State) (id : Nat) : (s.ran id).clock = s.clock := by
  simp +decide [State.ran]

@[simp] theorem State.clock_setOutput (s : State) (u : PatUnit) (word : Nat) : (s.setOutput u word).clock = s.clock := by
  simp +decide [State.setOutput]

@[simp] theorem State.clock_setSlot (s : State) (k : Nat) (x : LoopSlot) : (s.setSlot k x).clock = s.clock := by
  simp +decide [State.setSlot]

@[simp] theorem State.clock_assertEvt (s : State) (unit port : Nat) : (s.assertEvt unit port).clock = s.clock := by
  simp [State.assertEvt]

@[simp] theorem State.clock_countEvt (s : State) (id : Nat) : (s.countEvt id).clock = s.clock := by
  simp +decide [State.countEvt]

/-! ## Streams on the ring ports (R507 to R510, R528) -/

@[simp] theorem State.clock_setRport (s : State) (p : Nat) (x : RingPort) : (s.setRport p x).clock = s.clock := by
  simp +decide [State.setRport]

@[simp] theorem State.clock_sendLink (s : State) (p kind lseq count : Nat) :
    (s.sendLink p kind lseq count).clock = s.clock := by
  simp [State.sendLink]

@[simp] theorem State.clock_portSend (s : State) (p : Nat) (f : List Byte) : (s.portSend p f).clock = s.clock := by
  simp +decide [State.portSend]

@[simp] theorem State.clock_streamSend (s : State) (u : PatUnit) (f : List Byte) (n : Nat) (held : List (Nat × Nat)) :
    (s.streamSend u f n held).clock = s.clock := by
  simp +decide [State.streamSend]

@[simp] theorem State.clock_streamEmit (s : State) (held : List (Nat × Nat)) : (s.streamEmit held).clock = s.clock := by
  simp [State.streamEmit]

/-! ## The tick that ends (R147, R179, R181) -/

@[simp] theorem State.clock_spoil (s : State) (u : PatUnit) : (s.spoil u).clock = s.clock := by
  simp +decide [State.spoil]

@[simp] theorem State.clock_overrun (s : State) (k : Nat) (ids : List Nat) (held : List (Nat × Nat)) :
    (s.overrun k ids held).clock = s.clock := by
  simp +decide [State.overrun]

@[simp] theorem State.clock_endTick (s : State) (t : TickInput) : (s.endTick t).clock = s.clock := by
  unfold State.endTick
  split <;> simp +decide

@[simp] theorem State.clock_measureTick (s : State) : s.measureTick.clock = s.clock := by
  unfold State.measureTick
  extract_lets +onlyGivenNames phase 
  have hphase : phase.clock = s.clock := by
    unfold phase
    split_ifs
    · simp +decide [State.draw]
    · rfl
  split
  · extract_lets +onlyGivenNames n costs fir
    have hcosts : costs.clock = phase.clock := State.clock_forEach _ _ _ fun u t => by
      split
      · split_ifs <;> simp +decide [State.draw]
      · rfl
    simpa +decide using hcosts.trans hphase
  · exact hphase

@[simp] theorem State.clock_safeCause (s : State) (b : Nat) : (s.safeCause b).clock = s.clock := by
  simp +decide [State.safeCause]

@[simp] theorem State.clock_overrunAfter (s : State) : s.overrunAfter.clock = s.clock := by
  unfold State.overrunAfter
  extract_lets +onlyGivenNames lim safe
  have hsafe : safe.clock = s.clock := by simp [safe]
  split
  · split_ifs
    · exact (State.clock_degrade _ false (by decide) (by decide)).trans hsafe
    · exact hsafe
  · exact hsafe

/-! ## Time domains (R332 to R336, R347 to R350) -/

@[simp] theorem State.clock_timeDegraded (s : State) : s.timeDegraded.clock = s.clock := by
  simp +decide [State.timeDegraded]

@[simp] theorem State.clock_setDom (s : State) (d : Nat) (x : Domain) : (s.setDom d x).clock = s.clock := by
  simp [State.setDom]

@[simp] theorem State.clock_setCls (s : State) (d c : Nat) : (s.setCls d c).clock = s.clock := by
  have hfield : (ab d Fld.TIM_SEL.CLASS_A Fld.TIM_SEL.CLASS_B).indep Fld.GLB_STATE.STATE = true := by
    unfold ab
    split <;> decide
  simp [State.setCls, hfield]

@[simp] theorem State.clock_setChain (s : State) (c : Nat) (x : Chain) : (s.setChain c x).clock = s.clock := by
  simp [State.setChain]

@[simp] theorem State.clock_resetNext (s : State) (c cause : Nat) : (s.resetNext c cause).clock = s.clock := by
  simp [State.resetNext]

@[simp] theorem State.clock_timeTick (s : State) : s.timeTick.clock = s.clock := by
  unfold State.timeTick
  extract_lets +onlyGivenNames classes _ follow acquired
  have hclasses : classes.clock = s.clock := State.clock_forEach _ _ _ fun d t => by
    split
    · split_ifs <;> simp
    · rfl
  have hacquired : acquired.clock = classes.clock := by
    unfold acquired
    split_ifs
    · rfl
    · split
      · rfl
      · simp +decide [follow]
  exact hacquired.trans hclasses

/-! ## Words that enter the chains (R231, R267, R277) -/

@[simp] theorem State.clock_feedFrom (s : State) (c k0 left : Nat) (word : Nat → Option Nat) :
    (s.feedFrom c k0 left word).clock = s.clock := by
  simp +decide [State.feedFrom]

@[simp] theorem State.clock_feedChain (s : State) (c : Nat) (word : Nat → Option Nat) :
    (s.feedChain c word).clock = s.clock := by
  simp [State.feedChain]

@[simp] theorem State.clock_feedSamples (s : State) (c left m : Nat) : (s.feedSamples c left m).clock = s.clock := by
  induction left generalizing s m with
  | zero => rfl
  | succ left ih =>
    unfold State.feedSamples
    dsimp only
    rw [ih]
    split <;> simp +decide

@[simp] theorem State.clock_feedPod1 (s : State) (c : Nat) : (s.feedPod1 c).clock = s.clock := by
  simp [State.feedPod1]

@[simp] theorem State.clock_feedPod (s : State) (c : Nat) : (s.feedPod c).clock = s.clock := by
  simp [State.feedPod]

@[simp] theorem State.clock_calPodFeed (s : State) (c : Nat) : (s.calPodFeed c).clock = s.clock := by
  unfold State.calPodFeed
  split
  · rfl
  · simp

@[simp] theorem State.clock_calFeed (s : State) (word : Nat → Nat → Option Nat) : (s.calFeed word).clock = s.clock := by
  unfold State.calFeed
  split <;> rfl

@[simp] theorem State.clock_tickFeed (s : State) (word : Nat → Nat → Option Nat) : (s.tickFeed word).clock = s.clock := by
  simp [State.tickFeed]

/-! ## Alignment and resets of the chains (R270 to R281) -/

@[simp] theorem State.clock_takeTau (s : State) (c : Nat) (tau : Int) : (s.takeTau c tau).clock = s.clock := by
  simp +decide [State.takeTau]

@[simp] theorem State.clock_alignFails (s : State) (c : Nat) : (s.alignFails c).clock = s.clock := by
  simp +decide [State.alignFails]

@[simp] theorem State.clock_alignEval (s : State) (c : Nat) (take : Bool) : (s.alignEval c take).clock = s.clock := by
  simp +decide [State.alignEval]

@[simp] theorem State.clock_alignDfe (s : State) (l : List Nat) : (s.alignDfe l).clock = s.clock := by
  simp [State.alignDfe]

@[simp] theorem State.clock_slewTau (s : State) (c : Nat) : (s.slewTau c).clock = s.clock := by
  simp +decide [State.slewTau]

@[simp] theorem State.clock_showSettling (s : State) (c : Nat) (on : Bool) : (s.showSettling c on).clock = s.clock := by
  simp +decide [State.showSettling]

@[simp] theorem State.clock_syncReset (s : State) (c cause : Nat) : (s.syncReset c cause).clock = s.clock := by
  simp +decide [State.syncReset]

@[simp] theorem State.clock_takeResets (s : State) (c : Nat) : (s.takeResets c).clock = s.clock := by
  unfold State.takeResets
  split
  · rfl
  · simp

@[simp] theorem State.clock_countSettled (s : State) (c : Nat) : (s.countSettled c).clock = s.clock := by
  simp +decide [State.countSettled]

/-! ## The front end -/

@[simp] theorem State.clock_setChan (s : State) (n : Nat) (c : Chan) : (s.setChan n c).clock = s.clock := by
  simp [State.setChan]

@[simp] theorem State.clock_switchAt (s : State) (n : Nat) (pos : Int) (range : Nat) :
    (s.switchAt n pos range).clock = s.clock := by
  simp [State.switchAt]

@[simp] theorem State.clock_downRange (s : State) (n : Nat) : (s.downRange n).clock = s.clock := by
  simp +decide [State.downRange]

@[simp] theorem State.clock_frontLive (s : State) (n : Nat) : (s.frontLive n).clock = s.clock := by
  simp +decide [State.frontLive]

@[simp] theorem State.clock_recoverSample (s : State) (n : Nat) : (s.recoverSample n).clock = s.clock := by
  simp +decide [State.recoverSample]

@[simp] theorem State.clock_dwell (s : State) (n : Nat) (rtr : Bool) (peak : Nat) : (s.dwell n rtr peak).clock = s.clock := by
  simp +decide [State.dwell]

@[simp] theorem State.clock_ownSample (s : State) (c : Nat) : (s.ownSample c).2.clock = s.clock := by
  simp +decide [State.ownSample, apply_ite Prod.snd]

/-! ## Calibration -/

@[simp] theorem State.clock_applyCoef (s : State) (key : Nat) (v : Word) : (s.applyCoef key v).clock = s.clock := by
  simp +decide [State.applyCoef]

@[simp] theorem State.clock_setRef (s : State) (c : Nat) (rho : Int) : (s.setRef c rho).clock = s.clock := by
  simp +decide [State.setRef]

@[simp] theorem State.clock_applyStaged (s : State) : s.applyStaged.clock = s.clock := by
  unfold State.applyStaged
  extract_lets +onlyGivenNames l v _ t u
  have hu : u.clock = t.clock := State.clock_forEach t l (fun e s => s.applyCoef e.1 e.2) fun e t => by simp
  simpa using hu

@[simp] theorem State.clock_mendFollow (s : State) (c : Nat) : (s.mendFollow c).clock = s.clock := by
  simp +decide [State.mendFollow]

@[simp] theorem State.clock_forceCoefs (s : State) (c : Nat) (k : Coefs) : (s.forceCoefs c k).clock = s.clock := by
  simp +decide [State.forceCoefs]

@[simp] theorem State.clock_reconnect (s : State) (w : Swap) (k : Coefs) : (s.reconnect w k).clock = s.clock := by
  simp +decide [State.reconnect]

@[simp] theorem State.clock_calResult (s : State) (c result source : Nat) (rho : Int) (record : Bool) :
    (s.calResult c result source rho record).clock = s.clock := by
  simp +decide [State.calResult]

@[simp] theorem State.clock_calShow (s : State) : s.calShow.clock = s.clock := by
  simp +decide [State.calShow]

@[simp] theorem State.clock_calGo (s : State) (p : CalPhase) (w : Option Swap) : (s.calGo p w).clock = s.clock := by
  simp [State.calGo]

@[simp] theorem State.clock_calRest (s : State) (c : Nat) : (s.calRest c).clock = s.clock := by
  simp +decide [State.calRest]

@[simp] theorem State.clock_abortNow (s : State) (w : Swap) (code : Nat) : (s.abortNow w code).clock = s.clock := by
  simp [State.abortNow]

@[simp] theorem State.clock_stepBegin (s : State) (w : Swap) : (s.stepBegin w).clock = s.clock := by
  simp +decide [State.stepBegin]

@[simp] theorem State.clock_shadowBegin (s : State) (w : Swap) : (s.shadowBegin w).clock = s.clock := by
  simp +decide [State.shadowBegin]

@[simp] theorem State.clock_swapIn (s : State) (w : Swap) : (s.swapIn w).clock = s.clock := by
  simp +decide [State.swapIn]

@[simp] theorem State.clock_reconnectBegin (s : State) (w : Swap) : (s.reconnectBegin w).clock = s.clock := by
  simp [State.reconnectBegin]

@[simp] theorem State.clock_revert (s : State) (w : Swap) : (s.revert w).clock = s.clock := by
  simp [State.revert]

@[simp] theorem State.clock_swapBack (s : State) (w : Swap) : (s.swapBack w).clock = s.clock := by
  simp +decide [State.swapBack]

@[simp] theorem State.clock_calTick (s : State) : s.calTick.clock = s.clock := by
  unfold State.calTick
  extract_lets +onlyGivenNames t
  have ht : t.clock = s.clock := State.clock_applyStaged s
  split
  · exact ht
  · next w _ =>
    extract_lets +onlyGivenNames u
    have hu : u.clock = s.clock := by
      unfold u
      split <;> simpa using ht
    rw [← hu]
    split
    · rfl
    · cases w.aborting with
      | some code => simp
      | none => cases u.cal.phase <;> simp

@[simp] theorem State.clock_matchPair (s : State) (w : Swap) (own mend : Nat) : (s.matchPair w own mend).clock = s.clock := by
  simp +decide [State.matchPair]

@[simp] theorem State.clock_calMatch (s : State) (own mend : Nat) : (s.calMatch own mend).clock = s.clock := by
  unfold State.calMatch
  split
  · rfl
  · extract_lets +onlyGivenNames go
    have hgo : ∀ t : State, (go t).clock = t.clock := by
      intro t
      unfold go
      split <;> simp
    clear_value go
    cases s.cal.phase <;> simp [hgo]

/-! ## The auxiliary converter -/

@[simp] theorem State.clock_auxShow (s : State) : s.auxShow.clock = s.clock := by
  simp +decide [State.auxShow]

@[simp] theorem State.clock_auxGo (s : State) (a : AuxAct) : (s.auxGo a).clock = s.clock := by
  simp [State.auxGo]

@[simp] theorem State.clock_startScan (s : State) : s.startScan.clock = s.clock := by
  simp [State.startScan]

@[simp] theorem State.clock_auxTick (s : State) : s.auxTick.clock = s.clock := by
  unfold State.auxTick
  dsimp only
  split_ifs
  · rfl
  · split <;> simp

@[simp] theorem State.clock_auxDeliver (s : State) : s.auxDeliver.clock = s.clock := by
  unfold State.auxDeliver
  extract_lets +onlyGivenNames a b outs
  have ha : a.clock = s.clock := State.clock_forEach _ _ _ fun _ _ => rfl
  have hb : b.clock = a.clock := State.clock_forEach _ _ _ fun _ _ => rfl
  have houts : ∀ (t : State) (inst off : Nat), (outs t inst off).clock = t.clock := by
    intro t inst off
    unfold outs
    split
    · exact State.clock_forEach _ _ _ fun _ _ => rfl
    · rfl
  exact (houts _ _ _).trans ((houts _ _ _).trans (hb.trans ha))

/-! ## The samples of a tick (R177) -/

@[simp] theorem State.clock_tickSample (s : State) (u : PatUnit) : (s.tickSample u).clock = s.clock := by
  unfold State.tickSample
  dsimp only
  split
  · rfl
  · split
    · simp
    · split
      · simp [apply_ite Prod.snd]
      · simp

@[simp] theorem State.clock_sluSlots (s : State) : s.sluSlots.clock = s.clock := by
  simp [State.sluSlots]

@[simp] theorem State.clock_leafSlots (s : State) : s.leafSlots.clock = s.clock := by
  simp [State.leafSlots]

@[simp] theorem State.clock_toutLate (s : State) (k : Nat) : (s.toutLate k).clock = s.clock := by
  simp +decide [State.toutLate]

@[simp] theorem State.clock_toutPlan (s : State) (u : PatUnit) (start lim : Int) :
    (s.toutPlan u start lim).clock = s.clock := by
  simp [State.toutPlan]

@[simp] theorem State.clock_toutDeliver (s : State) : s.toutDeliver.clock = s.clock :=
  State.clock_forEach _ _ _ fun u t => by
    split
    · rfl
    · split <;> simp

@[simp] theorem State.clock_tinDeliver (s : State) : s.tinDeliver.clock = s.clock :=
  State.clock_forEach _ _ _ fun u t => by
    dsimp only
    split <;> simp +decide

@[simp] theorem State.clock_tickSamples (s : State) : s.tickSamples.clock = s.clock := by
  simp [State.tickSamples]

/-! ## Capture and edge timing -/

@[simp] theorem State.clock_setEngine (s : State) (u : PatUnit) (x : Engine) : (s.setEngine u x).clock = s.clock := by
  simp +decide [State.setEngine]

@[simp] theorem State.clock_capNextSeg (s : State) (u : PatUnit) : (s.capNextSeg u).clock = s.clock := by
  unfold State.capNextSeg
  dsimp only
  split
  · split_ifs <;> simp +decide
  · rfl

@[simp] theorem State.clock_setTdc (s : State) (k : Nat) (x : TdcIn) : (s.setTdc k x).clock = s.clock := by
  simp +decide [State.setTdc]

@[simp] theorem State.clock_tdcPush (s : State) (k : Nat) (e : TdcEntry) : (s.tdcPush k e).clock = s.clock := by
  unfold State.tdcPush
  dsimp only
  split_ifs
  · split <;> simp
  · simp +decide

@[simp] theorem State.clock_tdcSample (s : State) (u : PatUnit) (span : Int) (step : Bool) :
    (s.tdcSample u span step).2.2.clock = s.clock := by
  unfold State.tdcSample
  dsimp only
  split
  · split <;> simp
  · split <;> simp
  · split <;> simp [apply_ite Prod.snd]

@[simp] theorem State.clock_tdcRebase (s : State) (base : Nat) (fallback : Bool) :
    (s.tdcRebase base fallback).clock = s.clock := by
  simp +decide [State.tdcRebase]

@[simp] theorem State.clock_tdcReturn (s : State) : s.tdcReturn.clock = s.clock := by
  simp +decide [State.tdcReturn]

@[simp] theorem State.clock_tdcTick (s : State) (c : Int) (step : Bool) : (s.tdcTick c step).clock = s.clock := by
  simp +decide [State.tdcTick]

/-! ## Ring, loops, field ports and excitation -/

@[simp] theorem State.clock_showSilence (s : State) (h : Nat) (on : Bool) : (s.showSilence h on).clock = s.clock := by
  simp +decide [State.showSilence]

@[simp] theorem State.clock_dropKeys (s : State) : s.dropKeys.clock = s.clock := by
  simp [State.dropKeys]

@[simp] theorem State.clock_ringTick (s : State) : s.ringTick.clock = s.clock := by
  unfold State.ringTick
  extract_lets +onlyGivenNames heard _ cap peers
  have hheard : heard.clock = s.clock := State.clock_forEach _ _ _ fun e t => by
    dsimp only
    split_ifs <;> simp +decide
  have hcap : cap.clock = heard.clock := by
    unfold cap
    split
    · split_ifs <;> simp +decide
    · rfl
  have hpeers : peers.clock = cap.clock := State.clock_forEach _ _ _ fun e t => by simp +decide
  simpa using hpeers.trans (hcap.trans hheard)

@[simp] theorem State.clock_loopTick (s : State) : s.loopTick.clock = s.clock :=
  State.clock_forEach _ _ _ fun u t => by
    dsimp only
    split <;> simp +decide

@[simp] theorem State.clock_fieldCurrents (s : State) (l : List (Nat × Nat × Nat)) : (s.fieldCurrents l).clock = s.clock := by
  simp +decide [State.fieldCurrents]

@[simp] theorem State.clock_podSend (s : State) (p start : Nat) (body : List Byte) :
    (s.podSend p start body).clock = s.clock := by
  simp [State.podSend]

@[simp] theorem State.clock_setFport (s : State) (p : Nat) (x : FieldPort) : (s.setFport p x).clock = s.clock := by
  simp [State.setFport]

@[simp] theorem State.clock_fieldTick (s : State) : s.fieldTick.clock = s.clock := by
  simp [State.fieldTick]

@[simp] theorem State.clock_tickExc (s : State) (t : TickInput) : (s.tickExc t).clock = s.clock := by
  simp +decide [State.tickExc]

/-! ## The statement -/

/-- From HELD on a tick moves the frame counter by one and leaves the rest of the clock: everything before and after
`State.nextFrame` keeps it. -/
theorem execFrameTick_clock {s : State} (x : TickInput) (h : s.mapOpen = true) :
    ∃ t : State, execFrameTick x s = .next t ∧ t.clock = (s.clock.1 + 1, s.clock.2) := by
  have hopen : ¬ s.hubState < stHeld := by simpa [State.mapOpen] using h
  have hbefore : (s.endTick x).measureTick.clock = s.clock := by simp
  have hnext : (s.endTick x).measureTick.nextFrame.clock = (s.clock.1 + 1, s.clock.2) := by
    rw [State.clock_nextFrame, hbefore]
  unfold execFrameTick
  rw [if_neg hopen]
  refine ⟨_, rfl, Eq.trans ?after hnext⟩
  case after => simp

/-- Below HELD there are no ticks (R150). -/
theorem execFrameTick_closed {s : State} (x : TickInput) (h : s.mapOpen = false) : execFrameTick x s = .next s := by
  have hclosed : s.hubState < stHeld := by simpa [State.mapOpen] using h
  simp [execFrameTick, hclosed]

/-- Settles O34: the parts of the clock after a tick, from the equation of the whole clock. -/
theorem frameTickRow : Obligations.FrameTickRow := by
  intro s x
  refine ⟨fun hopen => ?_, execFrameTick_closed x⟩
  obtain ⟨t, ht, hclock⟩ := execFrameTick_clock x hopen
  simp only [State.clock_eq, Prod.mk.injEq] at hclock
  obtain ⟨hframe, hcounter, hstate⟩ := hclock
  exact ⟨t, ht, hframe, hcounter, hstate⟩

end Sys2Proof.Machine
end

section
/-! PROOFS. What the functions of the model leave of PAT_SIGN_CFG, PAT_MIN_SERIAL and the byte memories (R96, R97, R98, R409,
R619). Nearly every function leaves all of them as they are: `State.kept_f` says so of the function `f`, in the order of the
model, and the lemma of a function rests on those of the functions it calls. (Those that hold by definition are proved `by rfl`,
which makes them rules of `simp` alone: as rules of `dsimp` they would rewrite inside the function of a `State.when`.) -/

open Sys2Proof Sys2Proof.Machine

namespace Sys2Proof.Machine

/-! ## The kept parts and the operations on registers -/

/-- A register of which no word is PAT_SIGN_CFG or PAT_MIN_SERIAL. -/
def RegDef.oneTimeFree (r : RegDef) : Bool := r.disjoint Reg.PAT_SIGN_CFG && r.disjoint Reg.PAT_MIN_SERIAL

/-- The parts of a state that few functions touch: the two one-time registers (R96, R97) and the byte memories. -/
structure KeptParts where
  sign : Word
  serial : Word
  stby : Memory
  actBytes : Memory
  mram : Memory
  capMem : Memory

/-- The kept parts of a register file and four memories. -/
def keptOf (m : Tab Word) (stby act mram cap : Memory) : KeptParts :=
  ⟨tabGet m 0 Reg.PAT_SIGN_CFG.base, tabGet m 0 Reg.PAT_MIN_SERIAL.base, stby, act, mram, cap⟩

/-- The kept parts of a state. It unfolds to `keptOf`, so that a change of another part of the state drops out of it. -/
@[simp] abbrev State.kept (s : State) : KeptParts :=
  keptOf s.regs s.banks.stby s.banks.actBytes s.silt.mram s.cap.mem

section
variable (s : State) (i j : Nat) (stby act mram cap : Memory)

@[simp] theorem keptOf_wr {r : RegDef} (v : Word) (h : r.oneTimeFree = true) :
    keptOf (s.wr r v i j).regs stby act mram cap = keptOf s.regs stby act mram cap := by
  rw [RegDef.oneTimeFree, Bool.and_eq_true] at h
  have hsign : ¬ (Reg.PAT_SIGN_CFG.base = r.at i j ∧ r.has i j = true) := fun e =>
    RegDef.disjoint_ne (i := i) (j := j) (a := 0) (b := 0) h.1 e.2 (by decide) e.1
  have hserial : ¬ (Reg.PAT_MIN_SERIAL.base = r.at i j ∧ r.has i j = true) := fun e =>
    RegDef.disjoint_ne (i := i) (j := j) (a := 0) (b := 0) h.2 e.2 (by decide) e.1
  simp only [keptOf, State.wr_regs, if_neg hsign, if_neg hserial]

@[simp] theorem keptOf_put {f : Field} (v : Nat) (h : f.reg.oneTimeFree = true) :
    keptOf (s.put f v i j).regs stby act mram cap = keptOf s.regs stby act mram cap := keptOf_wr s i j _ _ _ _ _ h

@[simp] theorem keptOf_putI {f : Field} (v : Int) (h : f.reg.oneTimeFree = true) :
    keptOf (s.putI f v i j).regs stby act mram cap = keptOf s.regs stby act mram cap := keptOf_put s i j _ _ _ _ _ h

@[simp] theorem keptOf_sat {f : Field} (k : Nat) (h : f.reg.oneTimeFree = true) :
    keptOf (s.sat f k i j).regs stby act mram cap = keptOf s.regs stby act mram cap := keptOf_put s i j _ _ _ _ _ h

@[simp] theorem keptOf_wrap {f : Field} (k : Nat) (h : f.reg.oneTimeFree = true) :
    keptOf (s.wrap f k i j).regs stby act mram cap = keptOf s.regs stby act mram cap := keptOf_put s i j _ _ _ _ _ h

@[simp] theorem keptOf_uPut {f : Field} (v id : Nat) (h : 0x400000 ≤ f.reg.base) :
    keptOf (s.uPut f v id).regs stby act mram cap = keptOf s.regs stby act mram cap := by
  have hsign : Reg.PAT_SIGN_CFG.base ≠ f.reg.base + unitBlock id := by
    have : Reg.PAT_SIGN_CFG.base < 0x400000 := by decide
    omega
  have hserial : Reg.PAT_MIN_SERIAL.base ≠ f.reg.base + unitBlock id := by
    have : Reg.PAT_MIN_SERIAL.base < 0x400000 := by decide
    omega
  unfold keptOf State.uPut
  dsimp only
  split_ifs <;> simp [tabGet_erase, tabGet_set, hsign, hserial]

end

@[simp] theorem State.kept_ite (c : Prop) [Decidable c] (s t : State) :
    (if c then s else t).kept = if c then s.kept else t.kept :=
  apply_ite State.kept c s t

@[simp] theorem State.kept_snd_ite {α : Type} (c : Prop) [Decidable c] (x y : α × State) :
    (if c then x else y).2.kept = if c then x.2.kept else y.2.kept :=
  apply_ite (fun z : α × State => z.2.kept) c x y

@[simp] theorem State.kept_when (s : State) (c : Bool) (f : State → State) (h : ∀ t : State, (f t).kept = t.kept) :
    (s.when c f).kept = s.kept := by
  cases c
  · rfl
  · exact h s

theorem State.kept_forEach_mem {α : Type} (s : State) (l : List α) (f : α → State → State)
    (h : ∀ a ∈ l, ∀ t : State, (f a t).kept = t.kept) : (s.forEach l f).kept = s.kept := by
  unfold State.forEach
  induction l generalizing s with
  | nil => rfl
  | cons a l ih =>
    exact (ih _ fun b hb => h b (List.mem_cons_of_mem a hb)).trans (h a List.mem_cons_self s)

@[simp] theorem State.kept_forEach {α : Type} (s : State) (l : List α) (f : α → State → State)
    (h : ∀ a (t : State), (f a t).kept = t.kept) : (s.forEach l f).kept = s.kept :=
  State.kept_forEach_mem s l f fun a _ => h a

theorem tabGet_filter {α : Type} {d : α} {k : Nat} (t : Tab α) (f : Nat × α → Bool) (h : ∀ v, f (k, v) = true) :
    tabGet (t.filter f) d k = tabGet t d k := by
  unfold tabGet
  induction t with
  | nil => rfl
  | cons e t ih =>
    obtain ⟨j, w⟩ := e
    by_cases hj : j = k
    · subst hj
      simp [h, tabGet?]
    · rw [List.filter_cons]
      split <;> simpa [tabGet?, hj] using ih

@[simp] theorem State.kept_writeByCode (s : State) {r : RegDef} (v i j : Nat) (h : r.oneTimeFree = true) :
    (s.writeByCode r v i j).kept = s.kept := by
  unfold State.writeByCode
  simp +decide [h]

theorem Field.oneTimeFree_ab {f g : Field} (d : Nat) (hf : f.reg.oneTimeFree = true) (hg : g.reg.oneTimeFree = true) :
    (ab d f g).reg.oneTimeFree = true := by
  unfold ab
  split
  · exact hf
  · exact hg

@[simp] theorem keptOf_put_ab (s : State) {f g : Field} (d v i j : Nat) (stby act mram cap : Memory)
    (hf : f.reg.oneTimeFree = true) (hg : g.reg.oneTimeFree = true) :
    keptOf (s.put (ab d f g) v i j).regs stby act mram cap = keptOf s.regs stby act mram cap :=
  keptOf_put s i j _ _ _ _ v (Field.oneTimeFree_ab d hf hg)

@[simp] theorem keptOf_putI_ab (s : State) {f g : Field} (d : Nat) (v : Int) (i j : Nat) (stby act mram cap : Memory)
    (hf : f.reg.oneTimeFree = true) (hg : g.reg.oneTimeFree = true) :
    keptOf (s.putI (ab d f g) v i j).regs stby act mram cap = keptOf s.regs stby act mram cap :=
  keptOf_putI s i j _ _ _ _ v (Field.oneTimeFree_ab d hf hg)

theorem RegDef.oneTimeFree_of_lt {r : RegDef} (h : 0x20074 < r.base) : r.oneTimeFree = true := by
  unfold RegDef.oneTimeFree RegDef.disjoint
  simp [Reg.PAT_SIGN_CFG, Reg.PAT_MIN_SERIAL]
  omega

/-- What an outcome holds of the kept parts. -/
def keptAfter : Host.Outcome State Fault Refusal → Option KeptParts
  | .next t => some t.kept
  | _ => none

@[simp] theorem State.kept_pmu (s : State) (p : Pmu) : ({ s with pmu := p } : State).kept = s.kept := rfl

@[simp] theorem keptAfter_next (t : State) : keptAfter (.next t) = some t.kept := rfl

@[simp] theorem keptAfter_ite (c : Prop) [Decidable c] (o p : Host.Outcome State Fault Refusal) :
    keptAfter (if c then o else p) = if c then keptAfter o else keptAfter p := apply_ite keptAfter c o p

/-! ## Shared operations -/

@[simp] theorem State.kept_raise (s : State) (i : Nat) : (s.raise i).kept = s.kept := by simp +decide [State.raise]

@[simp] theorem State.kept_evt (s : State) (f : Field) (src : Nat) (i : Nat) (j : Nat) (hf : f.reg.oneTimeFree = true) :
    (s.evt f src i j).kept = s.kept := by
  simp [State.evt, hf]

@[simp] theorem State.kept_takeSeq (s : State) : s.takeSeq.2.kept = s.kept := by simp +decide [State.takeSeq]

@[simp] theorem State.kept_setJob (s : State) (e : SiltEvent) (copies : List Bool) : (s.setJob e copies).kept = s.kept := by
  simp +decide [State.setJob]

@[simp] theorem State.kept_startLogFull (s : State) : s.startLogFull.kept = s.kept := by simp [State.startLogFull]

@[simp] theorem State.kept_startRecord (s : State) (e : SiltEvent) : (s.startRecord e).kept = s.kept := by
  simp +decide [State.startRecord]

@[simp] theorem State.kept_suppress (s : State) (cls t : Nat) : (s.suppress cls t).kept = s.kept := by
  simp +decide [State.suppress]

@[simp] theorem State.kept_fifoLevel (s : State) : s.fifoLevel.kept = s.kept := by simp +decide [State.fifoLevel]

@[simp] theorem State.kept_stage (s : State) (code : Nat) (data : List Byte) : (s.stage code data).kept = s.kept := by
  simp +decide [State.stage]

@[simp] theorem State.kept_startSuppressed (s : State) (c : Nat) : (s.startSuppressed c).kept = s.kept := by
  simp +decide [State.startSuppressed]

@[simp] theorem State.kept_writerNext (s : State) : s.writerNext.kept = s.kept := by
  unfold State.writerNext
  dsimp only
  repeat' split
  all_goals simp +decide

@[simp] theorem State.kept_formDegraded (s : State) : s.formDegraded.kept = s.kept := by simp +decide [State.formDegraded]

@[simp] theorem State.kept_degrade (s : State) (live sticky : Field) (on : Bool) (hlive : live.reg.oneTimeFree = true)
    (hsticky : sticky.reg.oneTimeFree = true) :
    (s.degrade live sticky on).kept = s.kept := by
  simp [State.degrade, hlive, hsticky]

@[simp] theorem State.kept_safeCause (s : State) (b : Nat) : (s.safeCause b).kept = s.kept := by
  simp +decide [State.safeCause]

@[simp] theorem State.kept_assertEvt (s : State) (unit port : Nat) : (s.assertEvt unit port).kept = s.kept := by
  simp [State.assertEvt]

@[simp] theorem State.kept_assertNext (s : State) (unit port : Nat) : (s.assertNext unit port).kept = s.kept := by
  simp [State.assertNext]

@[simp] theorem State.kept_classEvt (s : State) (id : Nat) : (s.classEvt id).kept = s.kept := by
  simp +decide [State.classEvt]

@[simp] theorem State.kept_countEvt (s : State) (id : Nat) : (s.countEvt id).kept = s.kept := by
  simp +decide [State.countEvt]

@[simp] theorem State.kept_ran (s : State) (id : Nat) : (s.ran id).kept = s.kept := by simp +decide [State.ran]

@[simp] theorem State.kept_sawWords (s : State) (id : Nat) (ws : List Nat) : (s.sawWords id ws).kept = s.kept := by
  simp +decide [State.sawWords]

/-! ## Faults of words -/

@[simp] theorem State.kept_sdWithdraw (s : State) : s.sdWithdraw.kept = s.kept := by simp +decide [State.sdWithdraw]

@[simp] theorem State.kept_selfDiag (s : State) (code : Nat) : (s.selfDiag code).kept = s.kept := by
  unfold State.selfDiag
  split <;> simp +decide

@[simp] theorem State.kept_selfDiagGone (s : State) (code : Nat) : (s.selfDiagGone code).kept = s.kept := by
  simp +decide [State.selfDiagGone]

@[simp] theorem State.kept_causeGone (s : State) (b : Nat) : (s.causeGone b).kept = s.kept := by rfl

/-! ## Front end -/

@[simp] theorem State.kept_setChan (s : State) (n : Nat) (c : Chan) : (s.setChan n c).kept = s.kept := by rfl
@[simp] theorem State.kept_setChain (s : State) (c : Nat) (x : Chain) : (s.setChain c x).kept = s.kept := by rfl
@[simp] theorem State.kept_resetNext (s : State) (c cause : Nat) : (s.resetNext c cause).kept = s.kept := by rfl

@[simp] theorem State.kept_cancelDown (s : State) (n : Nat) : (s.cancelDown n).kept = s.kept := by
  simp +decide [State.cancelDown]

@[simp] theorem State.kept_switchAt (s : State) (n : Nat) (pos : Int) (range : Nat) :
    (s.switchAt n pos range).kept = s.kept := by rfl

@[simp] theorem State.kept_upRange (s : State) (n k : Nat) : (s.upRange n k).kept = s.kept := by simp +decide [State.upRange]
@[simp] theorem State.kept_markOvl (s : State) (c k : Nat) : (s.markOvl c k).kept = s.kept := by simp [State.markOvl]

@[simp] theorem State.kept_overload (s : State) (n k : Nat) (clamp : Bool) : (s.overload n k clamp).kept = s.kept := by
  simp +decide [State.overload]

@[simp] theorem keptAfter_execModulatorOverload (ch j : Nat) (clamp : Bool) (s : State) :
    keptAfter (execModulatorOverload ch j clamp s) = some s.kept := by
  simp [execModulatorOverload]

@[simp] theorem keptAfter_execCmOverload (ch j : Nat) (s : State) : keptAfter (execCmOverload ch j s) = some s.kept := by
  simp +decide [execCmOverload]

@[simp] theorem State.kept_frontLive (s : State) (n : Nat) : (s.frontLive n).kept = s.kept := by
  simp +decide [State.frontLive]

@[simp] theorem State.kept_downRange (s : State) (n : Nat) : (s.downRange n).kept = s.kept := by
  simp +decide [State.downRange]

@[simp] theorem State.kept_dwell (s : State) (n : Nat) (rtr : Bool) (peak : Nat) : (s.dwell n rtr peak).kept = s.kept := by
  simp +decide [State.dwell]

@[simp] theorem State.kept_excRamp (s : State) (n : Nat) : (s.excRamp n).kept = s.kept := by simp +decide [State.excRamp]
@[simp] theorem State.kept_excOff (s : State) (n : Nat) : (s.excOff n).kept = s.kept := by simp +decide [State.excOff]

@[simp] theorem State.kept_excUpdate (s : State) (changed : List Nat) : (s.excUpdate changed).kept = s.kept := by
  simp +decide [State.excUpdate]

@[simp] theorem keptAfter_execExcRampEnd (ch : Nat) (s : State) : keptAfter (execExcRampEnd ch s) = some s.kept := by
  simp [execExcRampEnd]

@[simp] theorem State.kept_observe (s : State) (n d : Nat) (pos : Nat) (cond : Bool) :
    (s.observe n d pos cond).kept = s.kept := by
  simp [State.observe]

@[simp] theorem State.kept_excObserve (s : State) (k : Nat) (o : ExcObs) : (s.excObserve k o).kept = s.kept := by
  simp +decide [State.excObserve]

@[simp] theorem keptAfter_execExcObservation (k : Nat) (obs : List ExcObs) (s : State) :
    keptAfter (execExcObservation k obs s) = some s.kept := by
  simp [execExcObservation]

@[simp] theorem State.kept_wireCheck (s : State) (half : Bool) (o : WireObs) : (s.wireCheck half o).kept = s.kept := by
  simp +decide [State.wireCheck]

@[simp] theorem keptAfter_execWireCheck (half : Bool) (obs : List WireObs) (s : State) :
    keptAfter (execWireCheck half obs s) = some s.kept := by
  simp [execWireCheck]

@[simp] theorem State.kept_confirmBreak (s : State) (n cause : Nat) : (s.confirmBreak n cause).kept = s.kept := by
  unfold State.confirmBreak
  dsimp only
  split <;> simp +decide

@[simp] theorem State.kept_wireBreak (s : State) (n : Nat) : (s.wireBreak n).kept = s.kept := by
  unfold State.wireBreak
  split <;> simp

@[simp] theorem State.kept_recoverSample (s : State) (n : Nat) : (s.recoverSample n).kept = s.kept := by
  simp +decide [State.recoverSample]

@[simp] theorem keptAfter_execWireRecover (ch : Nat) (s : State) : keptAfter (execWireRecover ch s) = some s.kept := by
  simp +decide [execWireRecover]

@[simp] theorem keptAfter_execExcOvercurrentOff (ch : Nat) (s : State) :
    keptAfter (execExcOvercurrentOff ch s) = some s.kept := by
  simp +decide [execExcOvercurrentOff]

@[simp] theorem State.kept_excRetry (s : State) (n : Nat) : (s.excRetry n).kept = s.kept := by simp [State.excRetry]

@[simp] theorem keptAfter_execExcRetryTimer (ch : Nat) (s : State) : keptAfter (execExcRetryTimer ch s) = some s.kept := by
  simp [execExcRetryTimer]

@[simp] theorem State.kept_wrAfeCfg (s : State) (n v : Nat) : (s.wrAfeCfg n v).kept = s.kept := by
  simp +decide [State.wrAfeCfg]

@[simp] theorem State.kept_wrAfeExc (s : State) (n v : Nat) : (s.wrAfeExc n v).kept = s.kept := by
  simp +decide [State.wrAfeExc]

@[simp] theorem State.kept_wrAfeCtrl (s : State) (n v : Nat) : (s.wrAfeCtrl n v).kept = s.kept := by
  simp +decide [State.wrAfeCtrl]

@[simp] theorem State.kept_wrAfeGlb (s : State) (v : Nat) : (s.wrAfeGlb v).kept = s.kept := by simp +decide [State.wrAfeGlb]

@[simp] theorem keptAfter_execModulatorRunInEnd (ch : Nat) (s : State) :
    keptAfter (execModulatorRunInEnd ch s) = some s.kept := by
  simp [execModulatorRunInEnd]

@[simp] theorem State.kept_modStart (s : State) (n : Nat) : (s.modStart n).kept = s.kept := by simp +decide [State.modStart]
@[simp] theorem State.kept_modStop (s : State) (n : Nat) : (s.modStop n).kept = s.kept := by simp +decide [State.modStop]

@[simp] theorem keptAfter_execMclkLockLoss (s : State) : keptAfter (execMclkLockLoss s) = some s.kept := by
  simp +decide [execMclkLockLoss]

@[simp] theorem keptAfter_execMclkLockRegained (s : State) : keptAfter (execMclkLockRegained s) = some s.kept := by
  simp +decide [execMclkLockRegained]

/-! ## Converters -/

@[simp] theorem State.kept_draw (s : State) : (s.draw).2.kept = s.kept := by rfl
@[simp] theorem State.kept_auxShow (s : State) : s.auxShow.kept = s.kept := by simp +decide [State.auxShow]
@[simp] theorem State.kept_auxGo (s : State) (a : AuxAct) : (s.auxGo a).kept = s.kept := by simp [State.auxGo]
@[simp] theorem State.kept_startScan (s : State) : s.startScan.kept = s.kept := by simp [State.startScan]

@[simp] theorem State.kept_auxTick (s : State) : s.auxTick.kept = s.kept := by
  unfold State.auxTick
  dsimp only
  repeat' split
  all_goals simp

@[simp] theorem State.kept_scanEnd (s : State) (regular : Bool) : (s.scanEnd regular).kept = s.kept := by
  unfold State.scanEnd
  rw [State.kept_auxGo]
  refine State.kept_when _ _ _ fun t => ?_
  dsimp only
  split <;> simp +decide

@[simp] theorem State.kept_auxStore (s : State) (injected : Option Nat) (m : Nat) (x : Int) (parity : Bool) :
    (s.auxStore injected m x parity).2.kept = s.kept := by
  unfold State.auxStore
  dsimp only
  repeat' split
  all_goals simp +decide

@[simp] theorem State.kept_scalAdd (s : State) (m : Nat) (x : Int) (parity : Bool) :
    (s.scalAdd m x parity).kept = s.kept := by
  unfold State.scalAdd
  split <;> simp

@[simp] theorem State.kept_auxRegular (s : State) (entry : Option Nat) (m : Nat) (x : Int) (parity : Bool) :
    (s.auxRegular entry m x parity).kept = s.kept := by
  unfold State.auxRegular
  dsimp only
  split <;> simp

@[simp] theorem State.kept_injectEnd (s : State) : s.injectEnd.kept = s.kept := by
  unfold State.injectEnd
  dsimp only
  split <;> simp +decide

@[simp] theorem keptAfter_execAuxConversionDone (code : Int) (parity : Bool) (s : State) :
    keptAfter (execAuxConversionDone code parity s) = some s.kept := by
  unfold execAuxConversionDone
  split <;> simp

@[simp] theorem keptAfter_execAuxInjectStart (s : State) : keptAfter (execAuxInjectStart s) = some s.kept := by
  unfold execAuxInjectStart
  repeat' split
  all_goals simp +decide

@[simp] theorem State.kept_auxDeliver (s : State) : s.auxDeliver.kept = s.kept := by
  unfold State.auxDeliver
  dsimp only
  repeat' split
  all_goals simp

@[simp] theorem State.kept_auxCommit (s : State) (carried0 carried1 : Bool) :
    (s.auxCommit carried0 carried1).kept = s.kept := by
  unfold State.auxCommit
  dsimp only
  repeat' split
  all_goals simp +decide

@[simp] theorem State.kept_scalResult (s : State) (m result : Nat) : (s.scalResult m result).kept = s.kept := by
  simp +decide [State.scalResult]

@[simp] theorem State.kept_scalStart (s : State) : s.scalStart.kept = s.kept := by simp +decide [State.scalStart]

@[simp] theorem State.kept_wrScalCtrl (s : State) (v : Nat) : (s.wrScalCtrl v).kept = s.kept := by
  simp +decide [State.wrScalCtrl]

@[simp] theorem keptAfter_execSarScalPointDone (s : State) : keptAfter (execSarScalPointDone s) = some s.kept := by
  unfold execSarScalPointDone
  split <;> simp +decide

@[simp] theorem State.kept_scalHouse (s : State) : s.scalHouse.kept = s.kept := by simp +decide [State.scalHouse]

@[simp] theorem State.kept_scalCommit (s : State) : s.scalCommit.kept = s.kept := by
  unfold State.scalCommit
  split <;> simp

@[simp] theorem State.kept_wrExcsel (s : State) (v : Nat) : (s.wrExcsel v).kept = s.kept := by simp +decide [State.wrExcsel]

@[simp] theorem State.kept_wrModCtrl (s : State) (v : Nat) : (s.wrModCtrl v).kept = s.kept := by
  simp +decide [State.wrModCtrl, State.when]

/-! ## Filters -/

@[simp] theorem State.kept_feedFrom (s : State) (c k0 left : Nat) (word : Nat → Option Nat) :
    (s.feedFrom c k0 left word).kept = s.kept := by
  simp +decide [State.feedFrom]

@[simp] theorem State.kept_feedChain (s : State) (c : Nat) (word : Nat → Option Nat) :
    (s.feedChain c word).kept = s.kept := by
  simp [State.feedChain]

@[simp] theorem State.kept_feedPod (s : State) (c : Nat) : (s.feedPod c).kept = s.kept := by simp [State.feedPod]

@[simp] theorem State.kept_feedSamples (s : State) (c : Nat) (left : Nat) (m : Nat) :
    (s.feedSamples c left m).kept = s.kept := by
  induction left generalizing s m with
  | zero => rfl
  | succ left ih =>
    unfold State.feedSamples
    dsimp only
    rw [ih]
    split <;> simp +decide

@[simp] theorem State.kept_feedPod1 (s : State) (c : Nat) : (s.feedPod1 c).kept = s.kept := by simp [State.feedPod1]

@[simp] theorem State.kept_takeTau (s : State) (c : Nat) (tau : Int) : (s.takeTau c tau).kept = s.kept := by
  simp +decide [State.takeTau]

@[simp] theorem State.kept_alignFails (s : State) (c : Nat) : (s.alignFails c).kept = s.kept := by
  simp +decide [State.alignFails]

@[simp] theorem State.kept_alignEval (s : State) (c : Nat) (take : Bool) : (s.alignEval c take).kept = s.kept := by
  simp +decide [State.alignEval]

@[simp] theorem State.kept_slewTau (s : State) (c : Nat) : (s.slewTau c).kept = s.kept := by simp +decide [State.slewTau]

@[simp] theorem State.kept_showSettling (s : State) (c : Nat) (on : Bool) : (s.showSettling c on).kept = s.kept := by
  simp +decide [State.showSettling]

@[simp] theorem State.kept_syncReset (s : State) (c cause : Nat) : (s.syncReset c cause).kept = s.kept := by
  simp +decide [State.syncReset]

@[simp] theorem State.kept_takeResets (s : State) (c : Nat) : (s.takeResets c).kept = s.kept := by
  unfold State.takeResets
  split <;> simp

@[simp] theorem State.kept_countSettled (s : State) (c : Nat) : (s.countSettled c).kept = s.kept := by
  simp +decide [State.countSettled]

@[simp] theorem State.kept_ownSample (s : State) (c : Nat) : (s.ownSample c).2.kept = s.kept := by
  simp +decide [State.ownSample, apply_ite Prod.snd]

@[simp] theorem State.kept_setOutput (s : State) (u : PatUnit) (word : Nat) : (s.setOutput u word).kept = s.kept := by
  simp +decide [State.setOutput]

@[simp] theorem keptAfter_execCoefParityError (mode d : Nat) (running next : List Nat) (s : State) :
    keptAfter (execCoefParityError mode d running next s) = some s.kept := by
  unfold execCoefParityError
  extract_lets +onlyGivenNames flagged poisoned key again
  have hpoisoned : poisoned.kept = flagged.kept := State.kept_forEach _ _ _ fun c t => by
    split
    · dsimp only
      split <;> simp
    · rfl
  have hflagged : flagged.kept = s.kept := by simp +decide [flagged]
  simp [hpoisoned, hflagged]

@[simp] theorem State.kept_wrFltCtrl (s : State) (c v : Nat) : (s.wrFltCtrl c v).kept = s.kept := by
  simp +decide [State.wrFltCtrl]

/-! ## Conditioning -/

@[simp] theorem State.kept_linTemp (s : State) (u : PatUnit) : (s.linTemp u).2.kept = s.kept := by
  unfold State.linTemp
  split <;> simp +decide

@[simp] theorem State.kept_linearise (s : State) (u : PatUnit) : (s.linearise u).kept = s.kept := by
  unfold State.linearise
  dsimp only
  repeat' split
  all_goals simp +decide

@[simp] theorem State.kept_thrKeep (s : State) (u : PatUnit) (v : Option Int) : (s.thrKeep u v).kept = s.kept := by rfl
@[simp] theorem State.kept_thrMark (s : State) (u : PatUnit) : (s.thrMark u).kept = s.kept := by rfl

@[simp] theorem State.kept_thrSet (s : State) (u : PatUnit) (on : Bool) : (s.thrSet u on).kept = s.kept := by
  simp +decide [State.thrSet]

@[simp] theorem State.kept_threshold (s : State) (u : PatUnit) : (s.threshold u).kept = s.kept := by simp [State.threshold]

@[simp] theorem State.kept_enterPhase (s : State) (k : Nat) (late : Bool) : (s.enterPhase k late).kept = s.kept := by
  simp +decide [State.enterPhase]

@[simp] theorem keptAfter_execConditionPhase (late : Bool) (s : State) :
    keptAfter (execConditionPhase late s) = some s.kept := by
  simp [execConditionPhase]

/-! ## Calibration -/

@[simp] theorem State.kept_applyCoef (s : State) (key : Nat) (v : Word) : (s.applyCoef key v).kept = s.kept := by
  simp +decide [State.applyCoef]

@[simp] theorem State.kept_stageCoef (s : State) (c off v : Nat) : (s.stageCoef c off v).kept = s.kept := by rfl

@[simp] theorem State.kept_setRef (s : State) (c : Nat) (rho : Int) : (s.setRef c rho).kept = s.kept := by
  simp +decide [State.setRef]

@[simp] theorem State.kept_applyStaged (s : State) : s.applyStaged.kept = s.kept := by
  unfold State.applyStaged
  extract_lets +onlyGivenNames l v _ t u
  have hu : u.kept = t.kept := State.kept_forEach t l (fun e s => s.applyCoef e.1 e.2) fun e t => by simp
  simpa using hu

@[simp] theorem State.kept_alignDfe (s : State) (l : List Nat) : (s.alignDfe l).kept = s.kept := by simp [State.alignDfe]

@[simp] theorem State.kept_wrCoef (s : State) (c off v source : Nat) : (s.wrCoef c off v source).kept = s.kept := by
  simp +decide [State.wrCoef]

@[simp] theorem keptAfter_execCalCoefWrite (chain off v : Nat) (s : State) :
    keptAfter (execCalCoefWrite chain off v s) = some s.kept := by
  simp [execCalCoefWrite]

@[simp] theorem State.kept_wrCalCtrl (s : State) (v : Nat) : (s.wrCalCtrl v).kept = s.kept := by
  simp +decide [State.wrCalCtrl]

@[simp] theorem keptAfter_execCalCtrlSuspend (on : Bool) (s : State) :
    keptAfter (execCalCtrlSuspend on s) = some s.kept := by
  simp [execCalCtrlSuspend]

@[simp] theorem State.kept_calShow (s : State) : s.calShow.kept = s.kept := by simp +decide [State.calShow]

@[simp] theorem State.kept_calGo (s : State) (p : CalPhase) (w : Option Swap) : (s.calGo p w).kept = s.kept := by
  simp [State.calGo]

@[simp] theorem State.kept_mendDegraded (s : State) : s.mendDegraded.kept = s.kept := by simp +decide [State.mendDegraded]

@[simp] theorem State.kept_calResult (s : State) (c result source : Nat) (rho : Int) (record : Bool) :
    (s.calResult c result source rho record).kept = s.kept := by
  simp +decide [State.calResult]

@[simp] theorem State.kept_mendResult (s : State) (m result : Nat) (rho : Int) (source : Nat) :
    (s.mendResult m result rho source).kept = s.kept := by
  simp +decide [State.mendResult]

@[simp] theorem State.kept_calRest (s : State) (c : Nat) : (s.calRest c).kept = s.kept := by simp +decide [State.calRest]

@[simp] theorem State.kept_stepBegin (s : State) (w : Swap) : (s.stepBegin w).kept = s.kept := by
  simp +decide [State.stepBegin]

@[simp] theorem State.kept_calFeed (s : State) (word : Nat → Nat → Option Nat) : (s.calFeed word).kept = s.kept := by
  unfold State.calFeed
  split <;> simp

@[simp] theorem keptAfter_execCalStepEnd (edge : Int) (s : State) : keptAfter (execCalStepEnd edge s) = some s.kept := by
  unfold execCalStepEnd
  split <;> simp

@[simp] theorem State.kept_measured (s : State) (w : Swap) (result : Nat) : (s.measured w result).kept = s.kept := by
  unfold State.measured
  repeat' split
  all_goals simp

@[simp] theorem State.kept_stepEval (s : State) : s.stepEval.kept = s.kept := by
  unfold State.stepEval
  repeat' split
  all_goals simp

@[simp] theorem State.kept_mendFollow (s : State) (c : Nat) : (s.mendFollow c).kept = s.kept := by
  simp +decide [State.mendFollow]

@[simp] theorem State.kept_shadowBegin (s : State) (w : Swap) : (s.shadowBegin w).kept = s.kept := by
  simp +decide [State.shadowBegin]

@[simp] theorem State.kept_swapIn (s : State) (w : Swap) : (s.swapIn w).kept = s.kept := by simp +decide [State.swapIn]

@[simp] theorem State.kept_forceCoefs (s : State) (c : Nat) (k : Coefs) : (s.forceCoefs c k).kept = s.kept := by
  simp +decide [State.forceCoefs]

@[simp] theorem State.kept_reconnect (s : State) (w : Swap) (k : Coefs) : (s.reconnect w k).kept = s.kept := by
  simp +decide [State.reconnect]

@[simp] theorem State.kept_reconnectBegin (s : State) (w : Swap) : (s.reconnectBegin w).kept = s.kept := by
  simp [State.reconnectBegin]

@[simp] theorem State.kept_revert (s : State) (w : Swap) : (s.revert w).kept = s.kept := by simp [State.revert]
@[simp] theorem State.kept_swapBack (s : State) (w : Swap) : (s.swapBack w).kept = s.kept := by simp +decide [State.swapBack]

@[simp] theorem State.kept_abortNow (s : State) (w : Swap) (code : Nat) : (s.abortNow w code).kept = s.kept := by
  unfold State.abortNow
  split_ifs <;> simp +decide

@[simp] theorem State.kept_abortAt (s : State) (w : Swap) (code : Nat) : (s.abortAt w code).kept = s.kept := by
  simp [State.abortAt]

@[simp] theorem State.kept_calTick (s : State) : s.calTick.kept = s.kept := by
  unfold State.calTick
  extract_lets +onlyGivenNames t
  have ht : t.kept = s.kept := State.kept_applyStaged s
  split
  · exact ht
  · next w _ =>
    extract_lets +onlyGivenNames u
    have hu : u.kept = s.kept := by
      unfold u
      split <;> simpa using ht
    rw [← hu]
    split
    · rfl
    · cases w.aborting with
      | some code => simp
      | none => cases u.cal.phase <;> simp

@[simp] theorem State.kept_matchPair (s : State) (w : Swap) (own mend : Nat) : (s.matchPair w own mend).kept = s.kept := by
  simp +decide [State.matchPair]

@[simp] theorem State.kept_calMatch (s : State) (own mend : Nat) : (s.calMatch own mend).kept = s.kept := by
  unfold State.calMatch
  dsimp only
  repeat' split
  all_goals simp

@[simp] theorem State.kept_mendFails (s : State) (m : Nat) (second : Bool) (result : Nat) :
    (s.mendFails m second result).kept = s.kept := by
  simp +decide [State.mendFails]

@[simp] theorem keptAfter_execMatchTimeout (s : State) : keptAfter (execMatchTimeout s) = some s.kept := by
  unfold execMatchTimeout
  repeat' split
  all_goals simp

@[simp] theorem State.kept_calWireBreak (s : State) (n : Nat) : (s.calWireBreak n).kept = s.kept := by
  unfold State.calWireBreak
  split <;> simp

@[simp] theorem State.kept_calEnd (s : State) (code : Nat) : (s.calEnd code).kept = s.kept := by
  unfold State.calEnd
  repeat' split
  all_goals simp

@[simp] theorem keptAfter_execWireBreakConfirm (ch : Nat) (s : State) :
    keptAfter (execWireBreakConfirm ch s) = some s.kept := by
  simp [execWireBreakConfirm]

@[simp] theorem State.kept_calStart (s : State) (c : Nat) (force : Bool) : (s.calStart c force).kept = s.kept := by
  simp [State.calStart]

@[simp] theorem State.kept_calSchedule (s : State) : s.calSchedule.kept = s.kept := by
  unfold State.calSchedule
  repeat' split
  all_goals simp

@[simp] theorem State.kept_calHouse (s : State) : s.calHouse.kept = s.kept := by
  unfold State.calHouse
  extract_lets +onlyGivenNames t ages
  have hages : ages.kept = t.kept := State.kept_forEach _ _ _ fun m u => by
    split <;> simp +decide
  simpa +decide [t] using hages

@[simp] theorem State.kept_calPodFeed (s : State) (c : Nat) : (s.calPodFeed c).kept = s.kept := by
  unfold State.calPodFeed
  split <;> simp

@[simp] theorem State.kept_podResult (s : State) (c result : Nat) : (s.podResult c result).kept = s.kept := by
  simp [State.podResult]

@[simp] theorem keptAfter_execCalPodPointDone (s : State) : keptAfter (execCalPodPointDone s) = some s.kept := by
  unfold execCalPodPointDone
  dsimp only
  repeat' split
  all_goals simp

@[simp] theorem keptAfter_execCalPodPointTimeout (s : State) : keptAfter (execCalPodPointTimeout s) = some s.kept := by
  unfold execCalPodPointTimeout
  split <;> simp

@[simp] theorem State.kept_podBlocks (s : State) (p : Nat) : (s.podBlocks p).kept = s.kept := by
  unfold State.podBlocks
  extract_lets +onlyGivenNames lo hi t
  have ht : t.kept = s.kept := State.kept_forEach _ _ _ fun k u => by
    simp +decide
  split_ifs
  · rfl
  · rfl
  · simpa +decide using ht

/-! ## Latency of the path -/

@[simp] theorem State.kept_krMargin (s : State) (p delay : Nat) : (s.krMargin p delay).kept = s.kept := by
  unfold State.krMargin
  split <;> simp +decide

/-! ## Timeline -/

@[simp] theorem State.kept_movePeriods (s : State) (d k : Int) : (s.movePeriods d k).kept = s.kept := by rfl
@[simp] theorem State.kept_moveTicks (s : State) (d : Int) : (s.moveTicks d).kept = s.kept := by rfl

/-! ## Time -/

@[simp] theorem State.kept_setDom (s : State) (d : Nat) (x : Domain) : (s.setDom d x).kept = s.kept := by rfl
@[simp] theorem State.kept_setPd (s : State) (p : Nat) (x : PdPort) : (s.setPd p x).kept = s.kept := by rfl

@[simp] theorem State.kept_showInc (s : State) (d inc : Nat) : (s.showInc d inc).kept = s.kept := by
  simp +decide [State.showInc]

@[simp] theorem State.kept_setInc (s : State) (d inc : Nat) : (s.setInc d inc).kept = s.kept := by simp [State.setInc]

@[simp] theorem State.kept_setLock (s : State) (d : Nat) (on : Bool) : (s.setLock d on).kept = s.kept := by
  simp +decide [State.setLock]

@[simp] theorem State.kept_timeDegraded (s : State) : s.timeDegraded.kept = s.kept := by simp +decide [State.timeDegraded]
@[simp] theorem State.kept_setCls (s : State) (d c : Nat) : (s.setCls d c).kept = s.kept := by simp +decide [State.setCls]
@[simp] theorem State.kept_rootClass (s : State) (d : Nat) : (s.rootClass d).kept = s.kept := by simp [State.rootClass]

@[simp] theorem State.kept_hear (s : State) (m : Option (Nat × TimeVal)) (hub : Nat) : (s.hear m hub).kept = s.kept := by
  unfold State.hear
  split <;> simp +decide

@[simp] theorem State.kept_showLock (s : State) : s.showLock.kept = s.kept := by simp +decide [State.showLock]
@[simp] theorem State.kept_setCounter (s : State) (n : Nat) : (s.setCounter n).kept = s.kept := by simp [State.setCounter]

@[simp] theorem keptAfter_execFrameCounterStart (s : State) : keptAfter (execFrameCounterStart s) = some s.kept := by
  unfold execFrameCounterStart
  dsimp only
  split <;> simp

@[simp] theorem keptAfter_execFrameCounterAdopt (s : State) : keptAfter (execFrameCounterAdopt s) = some s.kept := by
  unfold execFrameCounterAdopt
  split <;> simp

@[simp] theorem keptAfter_execRootBTakeover (s : State) : keptAfter (execRootBTakeover s) = some s.kept := by
  simp [execRootBTakeover]

@[simp] theorem State.kept_showPd (s : State) (p : Nat) : (s.showPd p).kept = s.kept := by
  unfold State.showPd
  split <;> simp +decide

@[simp] theorem State.kept_pdRestart (s : State) (p : Nat) : (s.pdRestart p).kept = s.kept := by simp [State.pdRestart]

@[simp] theorem keptAfter_execPdReqSend (port : Nat) (s : State) : keptAfter (execPdReqSend port s) = some s.kept := by
  simp [execPdReqSend]

@[simp] theorem keptAfter_execPdReq (port : Nat) (msg : PdMsg) (ago turn : Int) (s : State) :
    keptAfter (execPdReq port msg ago turn s) = some s.kept := by
  unfold execPdReq
  split_ifs <;> simp +decide

@[simp] theorem State.kept_judgeTun (s : State) : s.judgeTun.kept = s.kept := by simp +decide [State.judgeTun]
@[simp] theorem State.kept_pdValue (s : State) (p : Nat) (d : Int) : (s.pdValue p d).kept = s.kept := by simp [State.pdValue]

@[simp] theorem keptAfter_execPdResp (port : Nat) (msg : PdMsg) (turn ago : Int) (s : State) :
    keptAfter (execPdResp port msg turn ago s) = some s.kept := by
  unfold execPdResp
  dsimp only
  repeat' split
  all_goals simp +decide

@[simp] theorem State.kept_judgeLock (s : State) (d : Nat) (theta : Int) : (s.judgeLock d theta).kept = s.kept := by
  simp [State.judgeLock]

@[simp] theorem State.kept_servo (s : State) (d : Nat) (theta : Int) : (s.servo d theta).kept = s.kept := by
  simp [State.servo]

@[simp] theorem State.kept_showTheta (s : State) (d : Nat) (theta : Int) : (s.showTheta d theta).kept = s.kept := by
  simp +decide [State.showTheta]

@[simp] theorem State.kept_counterAgree (s : State) (m : SyncMsg) : (s.counterAgree m).kept = s.kept := by
  unfold State.counterAgree
  split <;> simp +decide

@[simp] theorem State.kept_useSync (s : State) (h : HeldSync) : (s.useSync h).kept = s.kept := by
  unfold State.useSync
  dsimp only
  split_ifs <;> simp +decide [Field.oneTimeFree_ab]

@[simp] theorem State.kept_settleSync (s : State) (d : Nat) : (s.settleSync d).kept = s.kept := by
  unfold State.settleSync
  split <;> simp

@[simp] theorem State.kept_offerSync (s : State) (port : Nat) (m : SyncMsg) (theta : Int) :
    (s.offerSync port m theta).kept = s.kept := by
  unfold State.offerSync
  dsimp only
  repeat' split
  all_goals simp

@[simp] theorem keptAfter_execSync (port : Nat) (msg : SyncMsg) (ago res : Int) (crcOk : Bool) (s : State) :
    keptAfter (execSync port msg ago res crcOk s) = some s.kept := by
  simp +decide [execSync]

@[simp] theorem keptAfter_execSyncSend (domain : Nat) (s : State) : keptAfter (execSyncSend domain s) = some s.kept := by
  simp [execSyncSend]

@[simp] theorem keptAfter_execDomainLoss (domain : Nat) (s : State) : keptAfter (execDomainLoss domain s) = some s.kept := by
  unfold execDomainLoss
  split_ifs
  · rfl
  · simp +decide [Field.oneTimeFree_ab]

@[simp] theorem State.kept_ppsRoot (s : State) (d : Nat) (ago : Int) : (s.ppsRoot d ago).kept = s.kept := by
  simp +decide [State.ppsRoot]

@[simp] theorem keptAfter_execRootHoldover (domain : Nat) (s : State) :
    keptAfter (execRootHoldover domain s) = some s.kept := by
  simp [execRootHoldover]

@[simp] theorem State.kept_takeDomain (s : State) (d : Nat) : (s.takeDomain d).kept = s.kept := by
  simp +decide [State.takeDomain]

@[simp] theorem State.kept_judgeHoldover (s : State) : s.judgeHoldover.kept = s.kept := by
  unfold State.judgeHoldover
  extract_lets +onlyGivenNames on was t notice follow
  have ht : t.kept = s.kept := by simp +decide [t]
  have hnotice : notice.kept = t.kept := by
    simp +decide [notice, State.when]
  have hfollow : follow.kept = notice.kept := State.kept_when _ _ _ fun u => by
    split <;> simp +decide
  simpa using hfollow.trans (hnotice.trans ht)

@[simp] theorem State.kept_rootLock (s : State) (d : Nat) : (s.rootLock d).kept = s.kept := by
  unfold State.rootLock
  repeat' split
  all_goals simp

@[simp] theorem State.kept_timeHouse (s : State) : s.timeHouse.kept = s.kept := by
  unfold State.timeHouse
  dsimp only
  repeat' split
  all_goals simp +decide

@[simp] theorem State.kept_timeTick (s : State) : s.timeTick.kept = s.kept := by
  unfold State.timeTick
  extract_lets +onlyGivenNames classes _ follow acquired
  have hclasses : classes.kept = s.kept := State.kept_forEach _ _ _ fun d t => by
    split
    · split_ifs <;> simp
    · rfl
  have hacquired : acquired.kept = classes.kept := by
    unfold acquired
    split_ifs
    · rfl
    · split
      · rfl
      · simp +decide [follow]
  exact hacquired.trans hclasses

@[simp] theorem State.kept_clockEdge (s : State) : s.clockEdge.kept = s.kept := by simp +decide [State.clockEdge]
@[simp] theorem State.kept_toutLate (s : State) (k : Nat) : (s.toutLate k).kept = s.kept := by simp +decide [State.toutLate]

@[simp] theorem State.kept_toutPlan (s : State) (u : PatUnit) (start lim : Int) :
    (s.toutPlan u start lim).kept = s.kept := by
  simp [State.toutPlan]

@[simp] theorem State.kept_toutStep (s : State) : s.toutStep.kept = s.kept := by
  refine State.kept_forEach _ _ _ fun u t => ?_
  split <;> simp

@[simp] theorem keptAfter_execTimeStepApply (s : State) : keptAfter (execTimeStepApply s) = some s.kept := by
  unfold execTimeStepApply
  split <;> simp +decide

@[simp] theorem keptAfter_execTimeSelectEffect (s : State) : keptAfter (execTimeSelectEffect s) = some s.kept := by
  unfold execTimeSelectEffect
  split <;> simp +decide

@[simp] theorem State.kept_putTime (s : State) (lo : Field) (hi : Field) (ns frac : Field) (valid : Field) (t : TimeVal)
    (k : Nat) (hlo : lo.reg.oneTimeFree = true) (hhi : hi.reg.oneTimeFree = true) (hns : ns.reg.oneTimeFree = true)
    (hfrac : frac.reg.oneTimeFree = true) (hvalid : valid.reg.oneTimeFree = true) :
    (s.putTime lo hi ns frac valid t k).kept = s.kept := by
  simp +decide [State.putTime, *]

@[simp] theorem State.kept_irqCapture (s : State) : s.irqCapture.kept = s.kept := by simp +decide [State.irqCapture]
@[simp] theorem keptAfter_execIrqNAssert (s : State) : keptAfter (execIrqNAssert s) = some s.kept := by simp [execIrqNAssert]

@[simp] theorem keptAfter_execTinEdge (k : Nat) (falling : Bool) (ago : Nat) (s : State) :
    keptAfter (execTinEdge k falling ago s) = some s.kept := by
  unfold execTinEdge
  split <;> simp +decide

@[simp] theorem State.kept_tinDeliver (s : State) : s.tinDeliver.kept = s.kept := by
  refine State.kept_forEach _ _ _ fun u t => ?_
  dsimp only
  split <;> simp +decide

@[simp] theorem State.kept_toutDeliver (s : State) : s.toutDeliver.kept = s.kept := by
  refine State.kept_forEach _ _ _ fun u t => ?_
  split
  · rfl
  · split <;> simp

@[simp] theorem keptAfter_execToutPulse (k : Nat) (s : State) : keptAfter (execToutPulse k s) = some s.kept := by
  unfold execToutPulse
  dsimp only
  repeat' split
  all_goals simp +decide

@[simp] theorem keptAfter_execToutPulseEnd (k : Nat) (s : State) : keptAfter (execToutPulseEnd k s) = some s.kept := by
  simp +decide [execToutPulseEnd]

@[simp] theorem State.kept_toutRest (s : State) : s.toutRest.kept = s.kept := by simp +decide [State.toutRest]

@[simp] theorem State.kept_wrInc (s : State) (d : Nat) (hi : Bool) (v : Nat) : (s.wrInc d hi v).kept = s.kept := by
  simp +decide [State.wrInc]

@[simp] theorem State.kept_wrAdj (s : State) (d v : Nat) : (s.wrAdj d v).kept = s.kept := by simp [State.wrAdj]
@[simp] theorem State.kept_wrHostQ (s : State) (v : Nat) : (s.wrHostQ v).kept = s.kept := by simp +decide [State.wrHostQ]

@[simp] theorem State.kept_wrAsym (s : State) (p v : Nat) : (s.wrAsym p v).kept = s.kept := by
  unfold State.wrAsym
  split <;> simp +decide

@[simp] theorem State.kept_wrIrqCtrl (s : State) (v : Nat) : (s.wrIrqCtrl v).kept = s.kept := by
  simp +decide [State.wrIrqCtrl]

/-! ## Edge timing -/

@[simp] theorem State.kept_setTdc (s : State) (k : Nat) (x : TdcIn) : (s.setTdc k x).kept = s.kept := by
  simp +decide [State.setTdc]

@[simp] theorem State.kept_tdcStart (s : State) (k : Nat) : (s.tdcStart k).kept = s.kept := by simp +decide [State.tdcStart]

@[simp] theorem State.kept_tdcPush (s : State) (k : Nat) (e : TdcEntry) : (s.tdcPush k e).kept = s.kept := by
  unfold State.tdcPush
  dsimp only
  repeat' split
  all_goals simp +decide

@[simp] theorem State.kept_tdcTime (s : State) (k c raw : Nat) : (s.tdcTime k c raw).2.kept = s.kept := by
  unfold State.tdcTime
  dsimp only
  split <;> simp

@[simp] theorem State.kept_tdcStarts (s : State) (k : Nat) (t : Int) : (s.tdcStarts k t).kept = s.kept := by
  simp [State.tdcStarts]

@[simp] theorem State.kept_tdcStop (s : State) (k : Nat) (t : Int) (falling : Bool) :
    (s.tdcStop k t falling).kept = s.kept := by
  unfold State.tdcStop
  dsimp only
  split <;> simp

@[simp] theorem keptAfter_execTdcEdge (k : Nat) (falling : Bool) (c raw raw1 raw2 : Nat) (s : State) :
    keptAfter (execTdcEdge k falling c raw raw1 raw2 s) = some s.kept := by
  unfold execTdcEdge
  split <;> simp +decide

@[simp] theorem keptAfter_execTdcStartTimeout (k : Nat) (s : State) : keptAfter (execTdcStartTimeout k s) = some s.kept := by
  simp +decide [execTdcStartTimeout]

@[simp] theorem keptAfter_execTdcFreqTimeout (k : Nat) (s : State) : keptAfter (execTdcFreqTimeout k s) = some s.kept := by
  simp [execTdcFreqTimeout]

@[simp] theorem State.kept_tdcSample (s : State) (u : PatUnit) (span : Int) (step : Bool) :
    (s.tdcSample u span step).2.2.kept = s.kept := by
  unfold State.tdcSample
  dsimp only
  repeat' split
  all_goals simp

@[simp] theorem State.kept_tdcRebase (s : State) (base : Nat) (fallback : Bool) :
    (s.tdcRebase base fallback).kept = s.kept := by
  simp +decide [State.tdcRebase]

@[simp] theorem State.kept_tdcReturn (s : State) : s.tdcReturn.kept = s.kept := by simp +decide [State.tdcReturn]

@[simp] theorem State.kept_tdcTick (s : State) (c : Int) (step : Bool) : (s.tdcTick c step).kept = s.kept := by
  simp +decide [State.tdcTick]

@[simp] theorem State.kept_tdcPop (s : State) (k : Nat) : (s.tdcPop k).2.kept = s.kept := by
  unfold State.tdcPop
  dsimp only
  split <;> simp

@[simp] theorem keptAfter_execRefinWindow (present : Bool) (rate : Nat) (pll : Bool) (s : State) :
    keptAfter (execRefinWindow present rate pll s) = some s.kept := by
  simp +decide [execRefinWindow]

@[simp] theorem keptAfter_execRefinPresenceLoss (s : State) : keptAfter (execRefinPresenceLoss s) = some s.kept := by
  simp +decide [execRefinPresenceLoss]

@[simp] theorem keptAfter_execTdcRefLoss (s : State) : keptAfter (execTdcRefLoss s) = some s.kept := by
  simp +decide [execTdcRefLoss]

@[simp] theorem keptAfter_execPpsInEdge (ago : Int) (s : State) : keptAfter (execPpsInEdge ago s) = some s.kept := by
  unfold execPpsInEdge
  repeat' split
  all_goals simp +decide

@[simp] theorem keptAfter_execPpsLoss (s : State) : keptAfter (execPpsLoss s) = some s.kept := by simp +decide [execPpsLoss]
@[simp] theorem State.kept_wrTdcCfg (s : State) (v : Nat) : (s.wrTdcCfg v).kept = s.kept := by simp +decide [State.wrTdcCfg]

@[simp] theorem State.kept_wrTdcChCfg (s : State) (k v : Nat) : (s.wrTdcChCfg k v).kept = s.kept := by
  simp +decide [State.wrTdcChCfg]

@[simp] theorem State.kept_wrTdcCtrl (s : State) (k v : Nat) : (s.wrTdcCtrl k v).kept = s.kept := by
  simp +decide [State.wrTdcCtrl]

/-! ## Capture -/

@[simp] theorem State.kept_setTrig (s : State) (t : Nat) (x : Trig) : (s.setTrig t x).kept = s.kept := by
  simp +decide [State.setTrig]

@[simp] theorem State.kept_trigEvent (s : State) (u : PatUnit) (port : Nat) : (s.trigEvent u port).2.kept = s.kept := by
  unfold State.trigEvent
  dsimp only
  repeat' split
  all_goals simp

@[simp] theorem State.kept_trigFire (s : State) (u : PatUnit) (e : TrigEvent) : (s.trigFire u e).kept = s.kept := by
  simp +decide [State.trigFire]

@[simp] theorem State.kept_trigEval (s : State) (u : PatUnit) : (s.trigEval u).kept = s.kept := by
  unfold State.trigEval
  dsimp only
  repeat' split
  all_goals simp +decide

@[simp] theorem State.kept_trigDecide (s : State) : s.trigDecide.kept = s.kept := by simp +decide [State.trigDecide]

@[simp] theorem State.kept_lineEvent (s : State) (t : Nat) (e : TrigEvent) (late : Bool) :
    (s.lineEvent t e late).kept = s.kept := by
  unfold State.lineEvent
  split <;> simp +decide

@[simp] theorem keptAfter_execTriggerHoldoffEnd (t : Nat) (s : State) :
    keptAfter (execTriggerHoldoffEnd t s) = some s.kept := by
  simp +decide [execTriggerHoldoffEnd]

@[simp] theorem State.kept_trigStart (s : State) (u : PatUnit) : (s.trigStart u).kept = s.kept := by
  simp +decide [State.trigStart]

@[simp] theorem State.kept_trigEnd (s : State) (t : Nat) : (s.trigEnd t).kept = s.kept := by simp +decide [State.trigEnd]

@[simp] theorem State.kept_setEngine (s : State) (u : PatUnit) (x : Engine) : (s.setEngine u x).kept = s.kept := by
  simp +decide [State.setEngine]

@[simp] theorem State.kept_segDone (s : State) (u : PatUnit) : (s.segDone u).kept = s.kept := by simp +decide [State.segDone]

@[simp] theorem State.kept_capNextSeg (s : State) (u : PatUnit) : (s.capNextSeg u).kept = s.kept := by
  unfold State.capNextSeg
  dsimp only
  split <;> simp +decide

@[simp] theorem State.kept_capAbort (s : State) (u : PatUnit) : (s.capAbort u).kept = s.kept := by
  simp +decide [State.capAbort]

@[simp] theorem keptAfter_execCaptureArm (e : Nat) (s : State) : keptAfter (execCaptureArm e s) = some s.kept := by
  unfold execCaptureArm
  split <;> simp +decide

@[simp] theorem keptAfter_execCaptureAbortEffect (e : Nat) (s : State) :
    keptAfter (execCaptureAbortEffect e s) = some s.kept := by
  unfold execCaptureAbortEffect
  split <;> simp +decide

@[simp] theorem State.kept_capArm (s : State) (f mask : Nat) : (s.capArm f mask).2.kept = s.kept := by
  simp +decide [State.capArm]

@[simp] theorem State.kept_capAbortCmd (s : State) (mask : Nat) : (s.capAbortCmd mask).2.kept = s.kept := by
  simp [State.capAbortCmd]

@[simp] theorem State.kept_capForce (s : State) (unit : Nat) : (s.capForce unit).2.kept = s.kept := by
  unfold State.capForce
  split <;> simp

@[simp] theorem keptAfter_execCapCtrlArm (e : Nat) (s : State) : keptAfter (execCapCtrlArm e s) = some s.kept := by
  unfold execCapCtrlArm
  repeat' split
  all_goals simp +decide

@[simp] theorem keptAfter_execCapCtrlAbort (e : Nat) (s : State) : keptAfter (execCapCtrlAbort e s) = some s.kept := by
  unfold execCapCtrlAbort
  repeat' split
  all_goals simp +decide

@[simp] theorem State.kept_wrCapCtrl (s : State) (e v : Nat) : (s.wrCapCtrl e v).kept = s.kept := by
  unfold State.wrCapCtrl
  extract_lets +onlyGivenNames run t
  have harm : t.kept = s.kept := by
    have h := keptAfter_execCapCtrlArm e s
    unfold t run
    split_ifs
    · cases ho : execCapCtrlArm e s with
      | next u => rw [ho] at h; exact Option.some.inj h
      | fault _ => rfl
      | refused _ => rfl
    · rfl
  have habort := keptAfter_execCapCtrlAbort e t
  rw [← harm]
  split_ifs
  · cases ho : execCapCtrlAbort e t with
    | next u => rw [ho] at habort; exact Option.some.inj habort
    | fault _ => rfl
    | refused _ => rfl
  · rfl

@[simp] theorem State.kept_capRun (s : State) : s.capRun.kept = s.kept := by simp [State.capRun]
@[simp] theorem State.kept_capLeave (s : State) : s.capLeave.kept = s.kept := by simp +decide [State.capLeave]

@[simp] theorem State.kept_tpos (s : State) (u : PatUnit) (tx : Int) (label : Nat) :
    (s.tpos u tx label).2.kept = s.kept := by
  unfold State.tpos
  split <;> simp

@[simp] theorem State.kept_capTake (s : State) (u : PatUnit) (trec inst : Nat) (ev : TrigEvent) (bitmap : Nat) :
    (s.capTake u trec inst ev bitmap).kept = s.kept := by
  simp +decide [State.capTake]

@[simp] theorem State.kept_capIgnore (s : State) (u : PatUnit) : (s.capIgnore u).kept = s.kept := by
  simp +decide [State.capIgnore]

@[simp] theorem State.kept_capDecide (s : State) (u : PatUnit) : (s.capDecide u).kept = s.kept := by
  unfold State.capDecide
  repeat' split
  all_goals simp +decide

@[simp] theorem State.kept_clampPre (s : State) (u : PatUnit) : (s.clampPre u).kept = s.kept := by
  simp +decide [State.clampPre]

@[simp] theorem State.kept_wrPrePost (s : State) (e : Nat) (post : Bool) (v : Nat) :
    (s.wrPrePost e post v).kept = s.kept := by
  unfold State.wrPrePost
  split <;> simp +decide

@[simp] theorem keptAfter_execCapPrePostWrite (e : Nat) (post : Bool) (v : Nat) (s : State) :
    keptAfter (execCapPrePostWrite e post v s) = some s.kept := by
  simp [execCapPrePostWrite]

@[simp] theorem State.kept_wrDsel (s : State) (e v : Nat) : (s.wrDsel e v).kept = s.kept := by simp +decide [State.wrDsel]

@[simp] theorem State.kept_capStart (s : State) (u : PatUnit) : (s.capStart u).kept = s.kept := by
  simp +decide [State.capStart]

@[simp] theorem State.kept_capEnd (s : State) (e : Nat) : (s.capEnd e).kept = s.kept := by simp +decide [State.capEnd]

@[simp] theorem keptAfter_execCaptureEccError (block : Nat) (corrected : Bool) (s : State) :
    keptAfter (execCaptureEccError block corrected s) = some s.kept := by
  simp +decide [execCaptureEccError]

/-! ## Loops -/

@[simp] theorem State.kept_setSlot (s : State) (k : Nat) (x : LoopSlot) : (s.setSlot k x).kept = s.kept := by
  simp +decide [State.setSlot]

@[simp] theorem State.kept_loopEvent (s : State) (u : PatUnit) (cause input lstate word : Nat) :
    (s.loopEvent u cause input lstate word).kept = s.kept := by
  unfold State.loopEvent
  split <;> simp +decide

@[simp] theorem State.kept_onsets (s : State) (u : PatUnit) (input lstate : Nat) (old new : LoopFb) :
    (s.onsets u input lstate old new).kept = s.kept := by
  simp [State.onsets]

@[simp] theorem State.kept_loopCommand (s : State) (u : PatUnit) : (s.loopCommand u).2.kept = s.kept := by
  unfold State.loopCommand
  dsimp only
  repeat' split
  all_goals simp +decide

@[simp] theorem State.kept_compute (s : State) (u : PatUnit) (c v : Int) (w : Nat) (switch frozen held0 : Bool)
    (preset : Option Int) :
    (s.compute u c v w switch frozen held0 preset).2.kept = s.kept := by
  simp +decide [State.compute]

@[simp] theorem State.kept_loopV (s : State) (u : PatUnit) (c : Int) : (s.loopV u c).2.kept = s.kept := by
  unfold State.loopV
  dsimp only
  repeat' split
  all_goals simp +decide

@[simp] theorem State.kept_setLstate (s : State) (u : PatUnit) (st : Nat) : (s.setLstate u st).kept = s.kept := by
  simp +decide [State.setLstate]

@[simp] theorem State.kept_loopReturn (s : State) (u : PatUnit) (input st : Nat) (c v up : Int) (w : Nat) :
    (s.loopReturn u input st c v up w).2.kept = s.kept := by
  simp [State.loopReturn]

@[simp] theorem State.kept_loopRunStep (s : State) (u : PatUnit) (c v : Int) : (s.loopRunStep u c v).2.kept = s.kept := by
  unfold State.loopRunStep
  dsimp only
  split_ifs <;> simp +decide

@[simp] theorem State.kept_loopReceive (s : State) (u : PatUnit) : (s.loopReceive u).kept = s.kept := by
  simp +decide [State.loopReceive]

@[simp] theorem State.kept_loopSend (s : State) (u : PatUnit) (o : LoopOut) : (s.loopSend u o).kept = s.kept := by
  simp +decide [State.loopSend]

@[simp] theorem State.kept_loopCompute (s : State) (u : PatUnit) : (s.loopCompute u).kept = s.kept := by
  simp +decide [State.loopCompute]

@[simp] theorem State.kept_lockstep (s : State) (u : PatUnit) (agrees : Bool) : (s.lockstep u agrees).2.kept = s.kept := by
  unfold State.lockstep
  dsimp only
  split_ifs <;> simp +decide

@[simp] theorem State.kept_loopDue (s : State) (mismatch : List (Nat × Bool)) (u : PatUnit) :
    (s.loopDue mismatch u).kept = s.kept := by
  unfold State.loopDue
  split <;> simp

@[simp] theorem State.kept_loopDecide (s : State) (mismatch : List (Nat × Bool)) :
    (s.loopDecide mismatch).kept = s.kept := by
  simp +decide [State.loopDecide]

@[simp] theorem State.kept_loopTick (s : State) : s.loopTick.kept = s.kept := by
  refine State.kept_forEach _ _ _ fun u t => ?_
  dsimp only
  split <;> simp +decide

@[simp] theorem State.kept_loopRun (s : State) : s.loopRun.kept = s.kept := by simp +decide [State.loopRun]
@[simp] theorem State.kept_loopLeave (s : State) : s.loopLeave.kept = s.kept := by simp +decide [State.loopLeave]

@[simp] theorem State.kept_loopWires (s : State) (u : PatUnit) : (s.loopWires u).kept = s.kept := by
  simp +decide [State.loopWires]

@[simp] theorem State.kept_loopStart (s : State) (u : PatUnit) : (s.loopStart u).kept = s.kept := by
  simp +decide [State.loopStart]

@[simp] theorem State.kept_loopEnd (s : State) (k : Nat) : (s.loopEnd k).kept = s.kept := by simp +decide [State.loopEnd]

@[simp] theorem State.kept_loopIntSet (s : State) (slot : Nat) (value : Int) :
    (s.loopIntSet slot value).2.kept = s.kept := by
  unfold State.loopIntSet
  split <;> simp

@[simp] theorem State.kept_loopRet (s : State) (slot : Nat) : (s.loopRet slot).2.kept = s.kept := by
  unfold State.loopRet
  dsimp only
  repeat' split
  all_goals simp

@[simp] theorem keptAfter_execLoopCmdWrite (slot v : Nat) (s : State) :
    keptAfter (execLoopCmdWrite slot v s) = some s.kept := by
  simp [execLoopCmdWrite]

@[simp] theorem keptAfter_execLoopCmdFifoPush (slot v : Nat) (s : State) :
    keptAfter (execLoopCmdFifoPush slot v s) = some s.kept := by
  simp +decide [execLoopCmdFifoPush]

@[simp] theorem keptAfter_execLoopFifoFlush (slot : Nat) (s : State) :
    keptAfter (execLoopFifoFlush slot s) = some s.kept := by
  simp +decide [execLoopFifoFlush]

@[simp] theorem keptAfter_execLoopCntClr (slot : Nat) (s : State) : keptAfter (execLoopCntClr slot s) = some s.kept := by
  simp +decide [execLoopCntClr]

@[simp] theorem keptAfter_execLoopGainWrite (slot gain v : Nat) (s : State) :
    keptAfter (execLoopGainWrite slot gain v s) = some s.kept := by
  unfold execLoopGainWrite
  repeat' split
  all_goals simp +decide

/-! ## Sluices -/

@[simp] theorem State.kept_setSlu (s : State) (o : Nat) (x : Sluice) : (s.setSlu o x).kept = s.kept := by
  simp +decide [State.setSlu]

@[simp] theorem State.kept_showClaiming (s : State) : s.showClaiming.kept = s.kept := by simp +decide [State.showClaiming]
@[simp] theorem State.kept_healthHouse (s : State) : s.healthHouse.kept = s.kept := by simp +decide [State.healthHouse]
@[simp] theorem State.kept_healthEmit (s : State) : s.healthEmit.kept = s.kept := by simp +decide [State.healthEmit]

@[simp] theorem State.kept_addCand (s : State) (o : Nat) (c : Cand) : (s.addCand o c).kept = s.kept := by
  simp [State.addCand]

@[simp] theorem State.kept_takeSetpoints (s : State) : s.takeSetpoints.kept = s.kept := by
  refine State.kept_forEach _ _ _ fun u t => State.kept_forEach _ _ _ fun k t => ?_
  repeat' split
  all_goals simp

@[simp] theorem State.kept_claimOffer (s : State) (id hub label stand claim word : Nat) (late : Bool) :
    (s.claimOffer id hub label stand claim word late).kept = s.kept := by
  unfold State.claimOffer
  repeat' split
  all_goals simp +decide

@[simp] theorem State.kept_partnerDegraded (s : State) : s.partnerDegraded.kept = s.kept := by
  simp +decide [State.partnerDegraded]

@[simp] theorem State.kept_partnerCount (s : State) (u : PatUnit) : (s.partnerCount u).kept = s.kept := by
  simp [State.partnerCount]

@[simp] theorem keptAfter_execPartnerTimeout (o index : Nat) (s : State) :
    keptAfter (execPartnerTimeout o index s) = some s.kept := by
  simp +decide [execPartnerTimeout]

@[simp] theorem State.kept_sluForce (s : State) (o : Nat) : (s.sluForce o).kept = s.kept := by
  unfold State.sluForce
  dsimp only
  split <;> simp +decide

@[simp] theorem State.kept_sluNext (s : State) (u : PatUnit) (word state : Nat) :
    (s.sluNext u word state).kept = s.kept := by
  simp +decide [State.sluNext]

@[simp] theorem State.kept_arbitrate (s : State) (u : PatUnit) : (s.arbitrate u).kept = s.kept := by
  unfold State.arbitrate
  split <;> simp +decide

@[simp] theorem State.kept_podChoose (s : State) (u : PatUnit) : (s.podChoose u).kept = s.kept := by simp [State.podChoose]
@[simp] theorem State.kept_sluDecide (s : State) : s.sluDecide.kept = s.kept := by simp [State.sluDecide]

@[simp] theorem State.kept_sluEmit (s : State) (pins : List (Nat × Int)) : (s.sluEmit pins).kept = s.kept := by
  simp +decide [State.sluEmit, State.when]

@[simp] theorem State.kept_sluPark (s : State) : s.sluPark.kept = s.kept := by simp +decide [State.sluPark]
@[simp] theorem State.kept_sluRun (s : State) : s.sluRun.kept = s.kept := by simp [State.sluRun]
@[simp] theorem State.kept_sluSlots (s : State) : s.sluSlots.kept = s.kept := by simp [State.sluSlots]

@[simp] theorem State.kept_sluStart (s : State) (u : PatUnit) : (s.sluStart u).kept = s.kept := by
  simp +decide [State.sluStart]

@[simp] theorem State.kept_sluEnd (s : State) (o : Nat) : (s.sluEnd o).kept = s.kept := by simp +decide [State.sluEnd]

@[simp] theorem keptAfter_execOutputFault (o : Nat) (s : State) : keptAfter (execOutputFault o s) = some s.kept := by
  unfold execOutputFault
  split <;> simp +decide

@[simp] theorem State.kept_sluReclaim (s : State) : (s.sluReclaim).2.kept = s.kept := by
  unfold State.sluReclaim
  split_ifs <;> simp +decide

@[simp] theorem State.kept_sluForceCmd (s : State) (inst on : Nat) : (s.sluForceCmd inst on).2.kept = s.kept := by
  unfold State.sluForceCmd
  repeat' split
  all_goals simp

@[simp] theorem keptAfter_execSluCntClr (o : Nat) (s : State) : keptAfter (execSluCntClr o s) = some s.kept := by
  simp +decide [execSluCntClr]

/-! ## Ring -/

@[simp] theorem State.kept_setRport (s : State) (p : Nat) (x : RingPort) : (s.setRport p x).kept = s.kept := by
  simp +decide [State.setRport]

@[simp] theorem State.kept_sendLink (s : State) (p kind lseq count : Nat) :
    (s.sendLink p kind lseq count).kept = s.kept := by rfl

@[simp] theorem State.kept_portSend (s : State) (p : Nat) (f : List Byte) : (s.portSend p f).kept = s.kept := by
  simp +decide [State.portSend]

@[simp] theorem State.kept_sendAll (s : State) (f : List Byte) : (s.sendAll f).kept = s.kept := by simp [State.sendAll]

@[simp] theorem State.kept_ringPort (s : State) (p : Nat) (up : Bool) : (s.ringPort p up).kept = s.kept := by
  unfold State.ringPort
  split_ifs <;> simp +decide

@[simp] theorem State.kept_rxMark (s : State) (p lseq : Nat) : (s.rxMark p lseq).kept = s.kept := by simp [State.rxMark]

@[simp] theorem State.kept_sendNaks (s : State) (p : Nat) (fuel : Nat) (lseq : Nat) (count : Nat) :
    (s.sendNaks p fuel lseq count).kept = s.kept := by
  induction fuel generalizing s lseq count with
  | zero => rfl
  | succ fuel ih =>
    unfold State.sendNaks
    split_ifs
    · rfl
    · simp +decide [ih]

@[simp] theorem State.kept_rxLink (s : State) (p lseq type : Nat) (f : List Byte) :
    (s.rxLink p lseq type f).2.kept = s.kept := by
  unfold State.rxLink
  dsimp only
  split_ifs <;> simp +decide

@[simp] theorem State.kept_heardHub (s : State) (h : Nat) : (s.heardHub h).kept = s.kept := by simp +decide [State.heardHub]

@[simp] theorem State.kept_forward (s : State) (p : Nat) (f : List Byte) (stomp : Bool) :
    (s.forward p f stomp).kept = s.kept := by
  simp [State.forward]

@[simp] theorem State.kept_receive (s : State) (p lseq type : Nat) (fwd : Bool) (f : List Byte) :
    (s.receive p lseq type fwd f).2.kept = s.kept := by
  unfold State.receive
  dsimp only
  split_ifs <;> simp +decide

@[simp] theorem State.kept_keyed (s : State) (k : SeenKey) : (s.keyed k).2.kept = s.kept := by
  unfold State.keyed
  split <;> simp +decide

@[simp] theorem State.kept_dropKeys (s : State) : s.dropKeys.kept = s.kept := by rfl

@[simp] theorem State.kept_setConf (s : State) (k : Nat) (x : Conf) : (s.setConf k x).kept = s.kept := by
  simp +decide [State.setConf]

@[simp] theorem State.kept_confTake (s : State) (u : PatUnit) (p : Nat) (f : List Byte) :
    (s.confTake u p f).kept = s.kept := by
  unfold State.confTake
  split <;> simp +decide

@[simp] theorem State.kept_dualMark (s : State) (f : List Byte) : (s.dualMark f).kept = s.kept := by
  unfold State.dualMark
  split <;> simp

@[simp] theorem keptAfter_execStreamFrameReceive (port lseq : Nat) (full : Bool) (bytes : List Byte) (s : State) :
    keptAfter (execStreamFrameReceive port lseq full bytes s) = some s.kept := by
  simp +decide [execStreamFrameReceive]

@[simp] theorem State.kept_confDeliver (s : State) (u : PatUnit) : (s.confDeliver u).kept = s.kept := by
  unfold State.confDeliver
  dsimp only
  split <;> simp +decide

@[simp] theorem State.kept_ringDecide (s : State) : s.ringDecide.kept = s.kept := by simp [State.ringDecide]

@[simp] theorem State.kept_streamSend (s : State) (u : PatUnit) (f : List Byte) (n : Nat) (held : List (Nat × Nat)) :
    (s.streamSend u f n held).kept = s.kept := by
  simp +decide [State.streamSend]

@[simp] theorem State.kept_streamEmit (s : State) (held : List (Nat × Nat)) : (s.streamEmit held).kept = s.kept := by
  simp [State.streamEmit]

@[simp] theorem keptAfter_execStreamFrameDeadline (port : Nat) (s : State) :
    keptAfter (execStreamFrameDeadline port s) = some s.kept := by
  simp +decide [execStreamFrameDeadline]

@[simp] theorem State.kept_trigEmit (s : State) : s.trigEmit.kept = s.kept := by simp +decide [State.trigEmit]

@[simp] theorem keptAfter_execTriggerFrameReceive (port lseq : Nat) (bytes : List Byte) (s : State) :
    keptAfter (execTriggerFrameReceive port lseq bytes s) = some s.kept := by
  simp [execTriggerFrameReceive]

@[simp] theorem State.kept_claimEmit (s : State) : s.claimEmit.kept = s.kept := by simp +decide [State.claimEmit]

@[simp] theorem keptAfter_execClaimFrameReceive (port lseq : Nat) (bytes : List Byte) (s : State) :
    keptAfter (execClaimFrameReceive port lseq bytes s) = some s.kept := by
  simp [execClaimFrameReceive]

@[simp] theorem keptAfter_execUnknownFrameReceive (port lseq : Nat) (bytes : List Byte) (s : State) :
    keptAfter (execUnknownFrameReceive port lseq bytes s) = some s.kept := by
  simp +decide [execUnknownFrameReceive]

@[simp] theorem keptAfter_execLinkAck (port lseq : Nat) (s : State) : keptAfter (execLinkAck port lseq s) = some s.kept := by
  simp [execLinkAck]

@[simp] theorem State.kept_resend (s : State) (p : Nat) (e : Nat × List Byte) : (s.resend p e).kept = s.kept := by
  simp +decide [State.resend]

@[simp] theorem keptAfter_execLinkNak (port lseq count : Nat) (s : State) :
    keptAfter (execLinkNak port lseq count s) = some s.kept := by
  simp +decide [execLinkNak]

@[simp] theorem keptAfter_execLinkSkip (port lseq : Nat) (s : State) :
    keptAfter (execLinkSkip port lseq s) = some s.kept := by
  simp [execLinkSkip]

@[simp] theorem keptAfter_execRetransmitTimeout (port : Nat) (s : State) :
    keptAfter (execRetransmitTimeout port s) = some s.kept := by
  unfold execRetransmitTimeout
  split <;> simp

@[simp] theorem State.kept_probe (s : State) (p : Nat) (change : Bool) : (s.probe p change).kept = s.kept := by
  simp [State.probe]

@[simp] theorem State.kept_setId (s : State) (id src : Nat) : (s.setId id src).kept = s.kept := by simp +decide [State.setId]

@[simp] theorem State.kept_discJudge (s : State) : s.discJudge.kept = s.kept := by
  unfold State.discJudge
  split <;> simp +decide

@[simp] theorem keptAfter_execDiscProbeSend (change : Bool) (s : State) :
    keptAfter (execDiscProbeSend change s) = some s.kept := by
  simp +decide [execDiscProbeSend]

@[simp] theorem State.kept_ringDiscover (s : State) : (s.ringDiscover).2.kept = s.kept := by simp [State.ringDiscover]

@[simp] theorem keptAfter_execDiscProbeTimeout (port : Nat) (s : State) :
    keptAfter (execDiscProbeTimeout port s) = some s.kept := by
  unfold execDiscProbeTimeout
  split <;> simp

@[simp] theorem State.kept_discPass (s : State) (p : Nat) (f : List Byte) : (s.discPass p f).kept = s.kept := by
  simp +decide [State.discPass]

@[simp] theorem State.kept_discBack (s : State) (p : Nat) (f : List Byte) : (s.discBack p f).kept = s.kept := by
  unfold State.discBack
  dsimp only
  split <;> simp

@[simp] theorem keptAfter_execDiscFrameReceive (port lseq : Nat) (bytes : List Byte) (s : State) :
    keptAfter (execDiscFrameReceive port lseq bytes s) = some s.kept := by
  simp [execDiscFrameReceive]

@[simp] theorem keptAfter_execHelloSend (s : State) : keptAfter (execHelloSend s) = some s.kept := by simp [execHelloSend]

@[simp] theorem State.kept_showSilence (s : State) (h : Nat) (on : Bool) : (s.showSilence h on).kept = s.kept := by
  simp +decide [State.showSilence]

@[simp] theorem State.kept_hubSilent (s : State) (hub : Nat) : (s.hubSilent hub).kept = s.kept := by
  simp +decide [State.hubSilent]

@[simp] theorem State.kept_ringTick (s : State) : s.ringTick.kept = s.kept := by
  unfold State.ringTick
  extract_lets +onlyGivenNames heard _ cap peers
  have hheard : heard.kept = s.kept := State.kept_forEach _ _ _ fun e t => by
    dsimp only
    split_ifs <;> simp +decide
  have hcap : cap.kept = heard.kept := by
    unfold cap
    split
    · split_ifs <;> simp +decide
    · rfl
  have hpeers : peers.kept = cap.kept := State.kept_forEach _ _ _ fun e t => by simp +decide
  simpa using hpeers.trans (hcap.trans hheard)

@[simp] theorem State.kept_subStart (s : State) (u : PatUnit) : (s.subStart u).kept = s.kept := by
  simp +decide [State.subStart]

@[simp] theorem State.kept_subEnd (s : State) (k : Nat) : (s.subEnd k).kept = s.kept := by simp +decide [State.subEnd]

@[simp] theorem keptAfter_execRingCntClr (s : State) : keptAfter (execRingCntClr s) = some s.kept := by
  simp +decide [execRingCntClr]

/-! ## Lanes -/

@[simp] theorem State.kept_setLane (s : State) (n : Nat) (x : Lane) : (s.setLane n x).kept = s.kept := by rfl
@[simp] theorem State.kept_laneTo (s : State) (n st : Nat) : (s.laneTo n st).kept = s.kept := by simp +decide [State.laneTo]

@[simp] theorem State.kept_detect (s : State) (n rate : Nat) : (s.detect n rate).kept = s.kept := by
  simp +decide [State.detect]

@[simp] theorem State.kept_laneOff (s : State) (n : Nat) : (s.laneOff n).kept = s.kept := by simp +decide [State.laneOff]

@[simp] theorem State.kept_laneBlind (s : State) (n : Nat) : (s.laneBlind n).kept = s.kept := by
  simp +decide [State.laneBlind]

@[simp] theorem State.kept_laneRestart (s : State) (n rate : Nat) : (s.laneRestart n rate).kept = s.kept := by
  simp [State.laneRestart]

@[simp] theorem State.kept_laneDegraded (s : State) : s.laneDegraded.kept = s.kept := by simp +decide [State.laneDegraded]

@[simp] theorem State.kept_portRestart (s : State) (p : Nat) : (s.portRestart p).kept = s.kept := by
  simp +decide [State.portRestart]

@[simp] theorem State.kept_setActive (s : State) (p : Nat) (set : List Nat) : (s.setActive p set).kept = s.kept := by
  simp +decide [State.setActive]

@[simp] theorem State.kept_laneDrop (s : State) (n cause : Nat) : (s.laneDrop n cause).kept = s.kept := by
  unfold State.laneDrop
  dsimp only
  split <;> simp +decide

@[simp] theorem State.kept_laneRetrain (s : State) (n : Nat) : (s.laneRetrain n).kept = s.kept := by
  simp +decide [State.laneRetrain]

@[simp] theorem State.kept_laneLeft (s : State) (n : Nat) : (s.laneLeft n).kept = s.kept := by simp [State.laneLeft]

@[simp] theorem keptAfter_execLaneBlockLock (lane : Nat) (s : State) :
    keptAfter (execLaneBlockLock lane s) = some s.kept := by
  simp +decide [execLaneBlockLock]

@[simp] theorem keptAfter_execLaneNoPeer (lane : Nat) (s : State) : keptAfter (execLaneNoPeer lane s) = some s.kept := by
  simp [execLaneNoPeer]

@[simp] theorem keptAfter_execLaneRetryTimer (lane : Nat) (s : State) :
    keptAfter (execLaneRetryTimer lane s) = some s.kept := by
  simp [execLaneRetryTimer]

@[simp] theorem State.kept_ffeRequest (s : State) (n req : Nat) : (s.ffeRequest n req).kept = s.kept := by
  simp +decide [State.ffeRequest]

@[simp] theorem State.kept_blkErr (s : State) (n k : Nat) : (s.blkErr n k).kept = s.kept := by simp +decide [State.blkErr]

@[simp] theorem State.kept_peerFields (s : State) (n b1 : Nat) : (s.peerFields n b1).kept = s.kept := by
  simp +decide [State.peerFields]

@[simp] theorem keptAfter_execTrainBlock (lane : Nat) (block : List Byte) (s : State) :
    keptAfter (execTrainBlock lane block s) = some s.kept := by
  simp [execTrainBlock]

@[simp] theorem keptAfter_execRateChange (lane : Nat) (s : State) : keptAfter (execRateChange lane s) = some s.kept := by
  unfold execRateChange
  split <;> simp +decide

@[simp] theorem keptAfter_execEqTrainDone (lane : Nat) (s : State) : keptAfter (execEqTrainDone lane s) = some s.kept := by
  simp [execEqTrainDone]

@[simp] theorem State.kept_lanePass (s : State) (n : Nat) (keepSpare : Bool) : (s.lanePass n keepSpare).kept = s.kept := by
  simp [State.lanePass]

@[simp] theorem State.kept_laneFail (s : State) (n : Nat) : (s.laneFail n).kept = s.kept := by simp +decide [State.laneFail]

@[simp] theorem State.kept_portJudge (s : State) (p : Nat) : (s.portJudge p).kept = s.kept := by
  simp +decide [State.portJudge]

@[simp] theorem State.kept_checkEnd (s : State) (n : Nat) (pass : Bool) : (s.checkEnd n pass).kept = s.kept := by
  simp [State.checkEnd]

@[simp] theorem keptAfter_execLaneCheckEnd (lane errors : Nat) (s : State) :
    keptAfter (execLaneCheckEnd lane errors s) = some s.kept := by
  simp +decide [execLaneCheckEnd]

@[simp] theorem State.kept_laneJoin (s : State) (ns : List Nat) : (s.laneJoin ns).kept = s.kept := by
  simp +decide [State.laneJoin]

@[simp] theorem keptAfter_execAm (lane skew : Nat) (block : List Byte) (s : State) :
    keptAfter (execAm lane skew block s) = some s.kept := by
  unfold execAm
  repeat' split
  all_goals simp +decide

@[simp] theorem keptAfter_execAmSend (port : Nat) (s : State) : keptAfter (execAmSend port s) = some s.kept := by
  simp [execAmSend]

@[simp] theorem State.kept_laneTrouble (s : State) (n cause : Nat) : (s.laneTrouble n cause).kept = s.kept := by
  simp [State.laneTrouble]

@[simp] theorem keptAfter_execLaneErrorLimit (lane : Nat) (s : State) :
    keptAfter (execLaneErrorLimit lane s) = some s.kept := by
  simp +decide [execLaneErrorLimit]

@[simp] theorem keptAfter_execLaneLockLoss (lane : Nat) (s : State) : keptAfter (execLaneLockLoss lane s) = some s.kept := by
  simp +decide [execLaneLockLoss]

@[simp] theorem keptAfter_execAdaptWindow (lane td div shErr blkErr bitErr : Nat) (ctle : Int) (taps : List Int)
    (s : State) :
    keptAfter (execAdaptWindow lane td div shErr blkErr bitErr ctle taps s) = some s.kept := by
  unfold execAdaptWindow
  extract_lets +onlyGivenNames st
  split
  · rfl
  · extract_lets +onlyGivenNames frozen move moved low shown froze counted
    have hmove : ∀ (t : State) (f : Field) (lo hi v : Int), f.reg.oneTimeFree = true →
        (move t f lo hi v).kept = t.kept := by
      intro t f lo hi v hf
      simp +decide [move, hf]
    have hmoved : moved.kept = s.kept := by
      have htaps : ∀ e ∈ dfeTaps, e.1.reg.oneTimeFree = true := by decide
      have hall : ((move s Fld.LANE_Ln_EQ.CTLE 0 15 ctle).forEach (dfeTaps.zip taps) fun e t =>
          move t e.1.1 (-e.1.2) e.1.2 e.2).kept = s.kept :=
        (State.kept_forEach_mem _ _ _ fun e he t => hmove t _ _ _ _ (htaps e.1 (List.of_mem_zip he).1)).trans
          (hmove s _ _ _ _ (by decide))
      unfold moved
      split
      · rfl
      · exact hall
    have hcounted : counted.kept = s.kept := by simp +decide [counted, froze, shown, hmoved]
    have hfroze : froze.kept = s.kept := by simp +decide [froze, shown, hmoved]
    clear_value froze counted
    repeat' split
    all_goals simp +decide [hcounted, hfroze]

@[simp] theorem keptAfter_execPrbsResync (lane : Nat) (s : State) : keptAfter (execPrbsResync lane s) = some s.kept := by
  simp +decide [execPrbsResync]

@[simp] theorem keptAfter_execLaneCntClr (lane : Nat) (s : State) : keptAfter (execLaneCntClr lane s) = some s.kept := by
  simp +decide [execLaneCntClr]

@[simp] theorem keptAfter_execLanePrbsClr (lane : Nat) (s : State) : keptAfter (execLanePrbsClr lane s) = some s.kept := by
  simp +decide [execLanePrbsClr]

@[simp] theorem State.kept_laneOut (s : State) (n : Nat) : (s.laneOut n).kept = s.kept := by simp [State.laneOut]
@[simp] theorem State.kept_testEnd (s : State) (n : Nat) : (s.testEnd n).kept = s.kept := by simp +decide [State.testEnd]

@[simp] theorem State.kept_laneAdmin (s : State) (n mode : Nat) : (s.laneAdmin n mode).2.kept = s.kept := by
  unfold State.laneAdmin
  dsimp only
  split_ifs <;> simp +decide

@[simp] theorem State.kept_laneRetrainCmd (s : State) (n : Nat) : (s.laneRetrainCmd n).2.kept = s.kept := by
  unfold State.laneRetrainCmd
  split_ifs <;> simp

@[simp] theorem State.kept_laneTest (s : State) (n gen chk loop : Nat) : (s.laneTest n gen chk loop).2.kept = s.kept := by
  unfold State.laneTest
  dsimp only
  split_ifs <;> simp +decide

@[simp] theorem keptAfter_execLeafSyncChange (port : Nat) (sync : Bool) (s : State) :
    keptAfter (execLeafSyncChange port sync s) = some s.kept := by
  simp +decide [execLeafSyncChange]

@[simp] theorem keptAfter_execLeafFrame (port : Nat) (violation : Bool) (bytes : List Byte) (s : State) :
    keptAfter (execLeafFrame port violation bytes s) = some s.kept := by
  simp +decide [execLeafFrame]

@[simp] theorem keptAfter_execLeafTimeout (port : Nat) (s : State) : keptAfter (execLeafTimeout port s) = some s.kept := by
  simp +decide [execLeafTimeout]

@[simp] theorem State.kept_leafSlots (s : State) : s.leafSlots.kept = s.kept := by simp [State.leafSlots]
@[simp] theorem State.kept_lanesOff (s : State) : s.lanesOff.kept = s.kept := by simp [State.lanesOff]
@[simp] theorem State.kept_lanesStart (s : State) : s.lanesStart.kept = s.kept := by simp [State.lanesStart]
@[simp] theorem State.kept_lanePol (s : State) : s.lanePol.kept = s.kept := by simp +decide [State.lanePol]

@[simp] theorem State.kept_laneCommit (s : State) (before : List ((Nat × Nat) × Bool)) :
    (s.laneCommit before).kept = s.kept := by
  simp +decide [State.laneCommit]

/-! ## Field ports -/

@[simp] theorem State.kept_setFport (s : State) (p : Nat) (x : FieldPort) : (s.setFport p x).kept = s.kept := by rfl

@[simp] theorem State.kept_toLstate (s : State) (p st : Nat) : (s.toLstate p st).kept = s.kept := by
  simp +decide [State.toLstate]

@[simp] theorem State.kept_fevt (s : State) (f : Field) (p : Nat) (hf : f.reg.oneTimeFree = true) :
    (s.fevt f p).kept = s.kept := by
  simp [State.fevt, hf]

@[simp] theorem State.kept_setPower (s : State) (p : Nat) (on : Bool) : (s.setPower p on).kept = s.kept := by
  simp +decide [State.setPower]

@[simp] theorem State.kept_dropPower (s : State) (p : Nat) : (s.dropPower p).kept = s.kept := by simp [State.dropPower]

@[simp] theorem keptAfter_execPodPowerOn (port : Nat) (s : State) : keptAfter (execPodPowerOn port s) = some s.kept := by
  simp [execPodPowerOn]

@[simp] theorem State.kept_podSend (s : State) (p start : Nat) (body : List Byte) :
    (s.podSend p start body).kept = s.kept := by rfl

@[simp] theorem State.kept_sendFieldCmd (s : State) (p : Nat) (c : FieldCmd) : (s.sendFieldCmd p c).kept = s.kept := by rfl

@[simp] theorem State.kept_nextFieldCmd (s : State) (p : Nat) : (s.nextFieldCmd p).kept = s.kept := by
  unfold State.nextFieldCmd
  dsimp only
  split <;> simp

@[simp] theorem State.kept_queueCmds (s : State) (p : Nat) (l : List (Nat × List Byte)) :
    (s.queueCmds p l).kept = s.kept := by
  simp [State.queueCmds]

@[simp] theorem State.kept_discover (s : State) (p : Nat) : (s.discover p).kept = s.kept := by simp +decide [State.discover]

@[simp] theorem State.kept_fieldAdvance (s : State) (p : Nat) : (s.fieldAdvance p).kept = s.kept := by
  simp [State.fieldAdvance]

@[simp] theorem State.kept_foreign (s : State) (p code : Nat) : (s.foreign p code).kept = s.kept := by
  simp +decide [State.foreign]

@[simp] theorem State.kept_judgePod (s : State) (p : Nat) : (s.judgePod p).kept = s.kept := by simp +decide [State.judgePod]

@[simp] theorem State.kept_startChain (s : State) (c cause : Nat) : (s.startChain c cause).kept = s.kept := by
  unfold State.startChain
  dsimp only
  repeat' split
  all_goals simp

@[simp] theorem State.kept_applyLayout (s : State) (p : Nat) : (s.applyLayout p).kept = s.kept := by
  simp +decide [State.applyLayout]

@[simp] theorem State.kept_podLinkDegraded (s : State) : s.podLinkDegraded.kept = s.kept := by
  simp +decide [State.podLinkDegraded]

@[simp] theorem keptAfter_execPodBind (port : Nat) (s : State) : keptAfter (execPodBind port s) = some s.kept := by
  unfold execPodBind
  dsimp only
  split <;> simp +decide

@[simp] theorem keptAfter_execPodConfigResend (port : Nat) (s : State) :
    keptAfter (execPodConfigResend port s) = some s.kept := by
  unfold execPodConfigResend
  dsimp only
  split <;> simp

@[simp] theorem keptAfter_execUplinkSyncGain (port : Nat) (s : State) :
    keptAfter (execUplinkSyncGain port s) = some s.kept := by
  simp +decide [execUplinkSyncGain]

@[simp] theorem State.kept_linkLost (s : State) (p cause : Nat) : (s.linkLost p cause).kept = s.kept := by
  unfold State.linkLost
  dsimp only
  split <;> simp +decide

@[simp] theorem keptAfter_execUplinkSyncLoss (port : Nat) (s : State) :
    keptAfter (execUplinkSyncLoss port s) = some s.kept := by
  simp +decide [execUplinkSyncLoss]

@[simp] theorem keptAfter_execPodTickMiss (port : Nat) (s : State) : keptAfter (execPodTickMiss port s) = some s.kept := by
  simp [execPodTickMiss]

@[simp] theorem keptAfter_execPodNoload (port : Nat) (s : State) : keptAfter (execPodNoload port s) = some s.kept := by
  unfold execPodNoload
  split <;> simp +decide

@[simp] theorem keptAfter_execPodCmdTimeout (port : Nat) (s : State) :
    keptAfter (execPodCmdTimeout port s) = some s.kept := by
  unfold execPodCmdTimeout
  dsimp only
  split <;> simp +decide

@[simp] theorem keptAfter_execPodResponse (port : Nat) (bytes : List Byte) (s : State) :
    keptAfter (execPodResponse port bytes s) = some s.kept := by
  unfold execPodResponse
  dsimp only
  split <;> simp +decide

@[simp] theorem keptAfter_execEcho (port rtt : Nat) (s : State) : keptAfter (execEcho port rtt s) = some s.kept := by
  simp [execEcho]

@[simp] theorem State.kept_pingResult (s : State) (p : Nat) (v : Option Int) : (s.pingResult p v).kept = s.kept := by
  unfold State.pingResult
  dsimp only
  split <;> simp +decide

@[simp] theorem State.kept_fieldHouse (s : State) : s.fieldHouse.kept = s.kept := by
  simp +decide [State.fieldHouse, State.when]

@[simp] theorem State.kept_missSlices (s : State) (p n : Nat) : (s.missSlices p n).kept = s.kept := by
  simp +decide [State.missSlices]

@[simp] theorem State.kept_slicePos (s : State) (p q k0 whole ovl : Nat) (rev : Option Nat) :
    (s.slicePos p q k0 whole ovl rev).kept = s.kept := by
  unfold State.slicePos
  dsimp only
  split <;> simp

@[simp] theorem keptAfter_execSlice (port : Nat) (first event : Bool) (bytes : List Byte) (s : State) :
    keptAfter (execSlice port first event bytes s) = some s.kept := by
  unfold execSlice
  dsimp only
  repeat' split
  all_goals simp

@[simp] theorem State.kept_podOutput (s : State) (u : PatUnit) (b : List Byte) : (s.podOutput u b).kept = s.kept := by
  unfold State.podOutput
  dsimp only
  repeat' split
  all_goals simp +decide

@[simp] theorem keptAfter_execPodTickBlock (port : Nat) (bytes : List Byte) (s : State) :
    keptAfter (execPodTickBlock port bytes s) = some s.kept := by
  unfold execPodTickBlock
  dsimp only
  repeat' split
  all_goals simp +decide

@[simp] theorem State.kept_fieldTick (s : State) : s.fieldTick.kept = s.kept := by simp [State.fieldTick]

@[simp] theorem State.kept_fieldEmit (s : State) : s.fieldEmit.kept = s.kept := by
  refine State.kept_forEach _ _ _ fun u t => ?_
  dsimp only
  split_ifs
  · rfl
  · refine State.kept_forEach _ _ _ fun v t => ?_
    split_ifs
    · simp
    · split <;> simp

@[simp] theorem keptAfter_execPodOvercurrent (port : Nat) (s : State) :
    keptAfter (execPodOvercurrent port s) = some s.kept := by
  simp +decide [execPodOvercurrent]

@[simp] theorem keptAfter_execPodOcRetry (port : Nat) (s : State) : keptAfter (execPodOcRetry port s) = some s.kept := by
  simp [execPodOcRetry]

@[simp] theorem State.kept_fieldStart (s : State) (p : Nat) : (s.fieldStart p).kept = s.kept := by
  simp +decide [State.fieldStart]

@[simp] theorem State.kept_fieldStop (s : State) (p : Nat) : (s.fieldStop p).kept = s.kept := by
  simp +decide [State.fieldStop]

@[simp] theorem State.kept_fieldPortCmd (s : State) (p action : Nat) : (s.fieldPortCmd p action).2.kept = s.kept := by
  simp [State.fieldPortCmd]

@[simp] theorem keptAfter_execFldPowerCycleEnd (port : Nat) (s : State) :
    keptAfter (execFldPowerCycleEnd port s) = some s.kept := by
  simp [execFldPowerCycleEnd]

@[simp] theorem State.kept_fieldAdopt (s : State) (p : Nat) : (s.fieldAdopt p).2.kept = s.kept := by simp [State.fieldAdopt]

@[simp] theorem keptAfter_execFldCntClr (port : Nat) (s : State) : keptAfter (execFldCntClr port s) = some s.kept := by
  simp +decide [execFldCntClr]

@[simp] theorem State.kept_fieldCurrents (s : State) (l : List (Nat × Nat × Nat)) : (s.fieldCurrents l).kept = s.kept := by
  simp +decide [State.fieldCurrents]

@[simp] theorem State.kept_fieldStates (s : State) : s.fieldStates.kept = s.kept := by simp [State.fieldStates]

@[simp] theorem State.kept_fieldSchedule (s : State) (us : List PatUnit) (n f : Nat) :
    (s.fieldSchedule us n f).kept = s.kept := by
  simp [State.fieldSchedule]

@[simp] theorem State.kept_fieldCancel (s : State) : s.fieldCancel.kept = s.kept := by
  refine State.kept_forEach _ _ _ fun u t => ?_
  dsimp only
  split
  · split_ifs <;> simp
  · rfl

@[simp] theorem State.kept_fieldCommit (s : State) (old : List PatUnit) : (s.fieldCommit old).kept = s.kept := by
  unfold State.fieldCommit
  rw [State.kept_fieldStates]
  refine State.kept_forEach _ _ _ fun p t => ?_
  split
  · rfl
  · simp
  · simp
  · simp +decide

/-! ## Pattern banks -/

@[simp] theorem State.kept_bankTo (s : State) (b : BankState) : (s.bankTo b).kept = s.kept := by simp +decide [State.bankTo]

@[simp] theorem keptAfter_execCaptureMemoryWrite (addr : Nat) (s : State) :
    keptAfter (execCaptureMemoryWrite addr s) = some s.kept := by
  simp +decide [execCaptureMemoryWrite]

/-! ## Queues -/

@[simp] theorem State.kept_setQueue (s : State) (q : Nat) (x : Queue) : (s.setQueue q x).kept = s.kept := by
  simp +decide [State.setQueue]

@[simp] theorem State.kept_qCross (s : State) (q : Nat) : (s.qCross q).kept = s.kept := by
  unfold State.qCross
  dsimp only
  repeat' split
  all_goals simp +decide

@[simp] theorem State.kept_qPoison (s : State) (q n : Nat) : (s.qPoison q n).kept = s.kept := by simp +decide [State.qPoison]

@[simp] theorem State.kept_qTake (s : State) (q : Nat) : (s.qTake q).2.kept = s.kept := by
  unfold State.qTake
  dsimp only
  split <;> simp

@[simp] theorem State.kept_setDring (s : State) (r : Nat) (x : Ring) : (s.setDring r x).kept = s.kept := by rfl

@[simp] theorem State.kept_ringNext (s : State) (r : Nat) : (s.ringNext r).kept = s.kept := by
  unfold State.ringNext
  dsimp only
  split <;> simp

@[simp] theorem State.kept_ringFill (s : State) (r q : Nat) (fuel : Nat) : (s.ringFill r q fuel).kept = s.kept := by
  induction fuel generalizing s with
  | zero => rfl
  | succ fuel ih =>
    have htake : (s.qTake q).2.kept = s.kept := State.kept_qTake s q
    unfold State.ringFill
    dsimp only
    split
    · rfl
    · split_ifs
      · rfl
      · split
        · next w t h => rw [ih]; simpa [h] using htake
        · next t h => simpa [h] using htake

@[simp] theorem State.kept_ringPump (s : State) (r : Nat) : (s.ringPump r).kept = s.kept := by simp [State.ringPump]

@[simp] theorem State.kept_ringWriteBack (s : State) (r : Nat) (d : Descriptor) (done status : Nat) (poison gap : Bool) :
    (s.ringWriteBack r d done status poison gap).kept = s.kept := by
  simp +decide [State.ringWriteBack]

@[simp] theorem State.kept_hostData (s : State) (addr : Nat) (bytes : List Byte) :
    (s.hostData addr bytes).kept = s.kept := by
  simp [State.hostData]

@[simp] theorem State.kept_ringDrain (s : State) (r status : Nat) (bad : List Nat) :
    (s.ringDrain r status bad).kept = s.kept := by
  unfold State.ringDrain
  split <;> simp

@[simp] theorem State.kept_dmaError (s : State) (r kind status lost : Nat) :
    (s.dmaError r kind status lost).kept = s.kept := by
  simp [State.dmaError]

@[simp] theorem State.kept_setBank (s : State) (p : Path) (b : PathBank) : (s.setBank p b).kept = s.kept := by
  unfold State.setBank
  split <;> simp

@[simp] theorem State.kept_latchPop (s : State) (p : Path) (q hi marker poison : Nat) :
    (s.latchPop p q hi marker poison).kept = s.kept := by
  simp +decide [State.latchPop]

@[simp] theorem State.kept_popServe (s : State) (q : Nat) : (s.popServe q).kept = s.kept := by
  unfold State.popServe
  dsimp only
  split <;> simp

@[simp] theorem State.kept_qPut (s : State) (q : Nat) (y : QWord) : (s.qPut q y).kept = s.kept := by simp [State.qPut]

@[simp] theorem State.kept_qItem (s : State) (u : PatUnit) (item : List QWord) : (s.qItem u item).kept = s.kept := by
  unfold State.qItem
  dsimp only
  repeat' split
  all_goals simp +decide

@[simp] theorem State.kept_queueEmitOne (s : State) (u : PatUnit) : (s.queueEmitOne u).kept = s.kept := by
  unfold State.queueEmitOne
  dsimp only
  repeat' split
  all_goals simp

@[simp] theorem State.kept_queueEmit (s : State) : s.queueEmit.kept = s.kept := by simp [State.queueEmit]

@[simp] theorem State.kept_popEmpty (s : State) (q : Nat) (path : Path) (refused : Bool) :
    (s.popEmpty q path refused).kept = s.kept := by
  simp +decide [State.popEmpty]

@[simp] theorem State.kept_queuePop (s : State) (path : Path) (q : Nat) (wide bad : Bool) :
    (s.queuePop path q wide bad).kept = s.kept := by
  have htake : (s.qTake q).2.kept = s.kept := State.kept_qTake s q
  unfold State.queuePop
  split
  · rfl
  · split
    · simp
    · split
      · next y t h => simpa [h] using htake
      · next t h =>
        have ht : t.kept = s.kept := by simpa [h] using htake
        split_ifs <;> simp [ht]

@[simp] theorem keptAfter_execQueuePop (path : Path) (q : Nat) (wide bad : Bool) (s : State) :
    keptAfter (execQueuePop path q wide bad s) = some s.kept := by
  simp [execQueuePop]

@[simp] theorem keptAfter_execPopWaitExpire (q : Nat) (s : State) : keptAfter (execPopWaitExpire q s) = some s.kept := by
  unfold execPopWaitExpire
  dsimp only
  split <;> simp

@[simp] theorem State.kept_queueFlush (s : State) (q : Nat) : (s.queueFlush q).kept = s.kept := by simp [State.queueFlush]

@[simp] theorem State.kept_queueFlushCmd (s : State) (q : Nat) : (s.queueFlushCmd q).2.kept = s.kept := by
  simp [State.queueFlushCmd]

@[simp] theorem keptAfter_execQueCtrlFlush (q : Nat) (s : State) : keptAfter (execQueCtrlFlush q s) = some s.kept := by
  simp [execQueCtrlFlush]

@[simp] theorem keptAfter_execQueCntClr (q : Nat) (s : State) : keptAfter (execQueCntClr q s) = some s.kept := by
  simp +decide [execQueCntClr]

@[simp] theorem keptAfter_execWmxClear (q : Nat) (s : State) : keptAfter (execWmxClear q s) = some s.kept := by
  simp +decide [execWmxClear]

@[simp] theorem keptAfter_execWatermarkWrite (q : Nat) (hi : Bool) (v : Nat) (s : State) :
    keptAfter (execWatermarkWrite q hi v s) = some s.kept := by
  unfold execWatermarkWrite
  split_ifs <;> simp +decide

@[simp] theorem State.kept_wrStale (s : State) (q v : Nat) : (s.wrStale q v).kept = s.kept := by simp +decide [State.wrStale]

@[simp] theorem keptAfter_execStaleTimeout (q : Nat) (s : State) : keptAfter (execStaleTimeout q s) = some s.kept := by
  simp +decide [execStaleTimeout]

@[simp] theorem State.kept_queuePlaces (s : State) : s.queuePlaces.kept = s.kept := by simp +decide [State.queuePlaces]

@[simp] theorem State.kept_queueStart (s : State) (u : PatUnit) : (s.queueStart u).kept = s.kept := by
  simp +decide [State.queueStart]

@[simp] theorem State.kept_queueEnd (s : State) (q : Nat) : (s.queueEnd q).kept = s.kept := by
  unfold State.queueEnd
  dsimp only
  split <;> simp +decide

/-! ## Wrings -/

@[simp] theorem State.kept_setWjob (s : State) (j : Nat) (w : WringJob) : (s.setWjob j w).kept = s.kept := by
  simp +decide [State.setWjob]

@[simp] theorem State.kept_wringBegin (s : State) (u : PatUnit) : (s.wringBegin u).kept = s.kept := by
  simp +decide [State.wringBegin]

@[simp] theorem State.kept_qTakeN (s : State) (q : Nat) (n : Nat) : (s.qTakeN q n).2.kept = s.kept := by
  induction n generalizing s with
  | zero => rfl
  | succ n ih =>
    have htake : (s.qTake q).2.kept = s.kept := State.kept_qTake s q
    unfold State.qTakeN
    split
    · next t h => simpa [h] using htake
    · next y t h => simpa [h, ih] using htake

@[simp] theorem State.kept_wringRead (s : State) (j : Nat) (fuel : Nat) : (s.wringRead j fuel).kept = s.kept := by
  induction fuel generalizing s with
  | zero => rfl
  | succ fuel ih =>
    unfold State.wringRead
    split
    · rfl
    · split_ifs
      · rfl
      · split
        · rfl
        · simp [ih]

@[simp] theorem State.kept_wringFeed (s : State) (j : Nat) : (s.wringFeed j).kept = s.kept := by
  unfold State.wringFeed
  split <;> simp +decide

@[simp] theorem State.kept_wringCut (s : State) (j : Nat) : (s.wringCut j).kept = s.kept := by
  unfold State.wringCut
  split <;> simp

@[simp] theorem State.kept_wringEmit (s : State) : s.wringEmit.kept = s.kept := by
  refine State.kept_forEach _ _ _ fun u t => ?_
  split
  · split_ifs <;> simp
  · rfl

@[simp] theorem State.kept_wringHouse (s : State) : s.wringHouse.kept = s.kept := by simp [State.wringHouse]

@[simp] theorem keptAfter_execWringCloseTimeout (j : Nat) (s : State) :
    keptAfter (execWringCloseTimeout j s) = some s.kept := by
  unfold execWringCloseTimeout
  split <;> simp

@[simp] theorem State.kept_wringEnd (s : State) (j result out check : Nat) :
    (s.wringEnd j result out check).kept = s.kept := by
  unfold State.wringEnd
  split <;> simp +decide

@[simp] theorem State.kept_unpost (s : State) (r : Nat) : (s.unpost r).kept = s.kept := by rfl

@[simp] theorem State.kept_skipBad (s : State) (r : Nat) (fuel : Nat) : (s.skipBad r fuel).kept = s.kept := by
  induction fuel generalizing s with
  | zero => rfl
  | succ fuel ih =>
    unfold State.skipBad
    split
    · rfl
    · split_ifs
      · rfl
      · simp [ih]

@[simp] theorem State.kept_wringCommitOut (s : State) (j : Nat) (w : WringJob) (out : List Byte) (check : Nat) :
    (s.wringCommitOut j w out check).kept = s.kept := by
  unfold State.wringCommitOut
  dsimp only
  repeat' split
  all_goals simp +decide

@[simp] theorem State.kept_refuseInput (s : State) (j : Nat) : (s.refuseInput j).kept = s.kept := by
  unfold State.refuseInput
  split <;> simp

@[simp] theorem State.kept_wringFail (s : State) (j result : Nat) : (s.wringFail j result).kept = s.kept := by
  unfold State.wringFail
  split <;> simp

@[simp] theorem keptAfter_execWringJobEnd (j : Nat) (memErr : Bool) (s : State) :
    keptAfter (execWringJobEnd j memErr s) = some s.kept := by
  unfold execWringJobEnd
  repeat' split
  all_goals simp +decide

@[simp] theorem keptAfter_execWringDecompressStart (j : Nat) (s : State) :
    keptAfter (execWringDecompressStart j s) = some s.kept := by
  unfold execWringDecompressStart
  split <;> simp

@[simp] theorem State.kept_wringInput (s : State) (r : Nat) (bytes : List Byte) : (s.wringInput r bytes).kept = s.kept := by
  unfold State.wringInput
  dsimp only
  repeat' split
  all_goals simp

@[simp] theorem State.kept_wringCutCmd (s : State) (j : Nat) : (s.wringCutCmd j).2.kept = s.kept := by
  unfold State.wringCutCmd
  repeat' split
  all_goals simp

@[simp] theorem State.kept_wringAbortCmd (s : State) (j : Nat) : (s.wringAbortCmd j).2.kept = s.kept := by
  unfold State.wringAbortCmd
  split_ifs <;> simp

@[simp] theorem keptAfter_execWrgCtrlCut (j : Nat) (s : State) : keptAfter (execWrgCtrlCut j s) = some s.kept := by
  simp [execWrgCtrlCut]

@[simp] theorem keptAfter_execWrgCtrlAbort (j : Nat) (s : State) : keptAfter (execWrgCtrlAbort j s) = some s.kept := by
  simp [execWrgCtrlAbort]

@[simp] theorem keptAfter_execWrgCntClr (j : Nat) (s : State) : keptAfter (execWrgCntClr j s) = some s.kept := by
  simp +decide [execWrgCntClr]

@[simp] theorem State.kept_wrWrgLimit (s : State) (j v : Nat) : (s.wrWrgLimit j v).kept = s.kept := by
  simp +decide [State.wrWrgLimit]

@[simp] theorem State.kept_wrWrgClose (s : State) (j v : Nat) : (s.wrWrgClose j v).kept = s.kept := by
  simp +decide [State.wrWrgClose]

@[simp] theorem State.kept_wrWrgMaxbuf (s : State) (j v : Nat) : (s.wrWrgMaxbuf j v).kept = s.kept := by
  simp +decide [State.wrWrgMaxbuf]

@[simp] theorem State.kept_wringUnitEnd (s : State) (j : Nat) : (s.wringUnitEnd j).kept = s.kept := by
  unfold State.wringUnitEnd
  split <;> simp +decide

@[simp] theorem State.kept_wringUnitStart (s : State) (u : PatUnit) : (s.wringUnitStart u).kept = s.kept := by
  simp +decide [State.wringUnitStart]

/-! ## DMA and notices -/

@[simp] theorem State.kept_headDegraded (s : State) : s.headDegraded.kept = s.kept := by simp +decide [State.headDegraded]

@[simp] theorem State.kept_setRingCfg (s : State) (r v : Nat) : (s.setRingCfg r v).kept = s.kept := by
  simp +decide [State.setRingCfg]

@[simp] theorem State.kept_failRingJobs (s : State) (r : Nat) : (s.failRingJobs r).kept = s.kept := by
  unfold State.failRingJobs
  refine State.kept_forEach _ _ _ fun k t => ?_
  split
  · split_ifs <;> simp
  · rfl

@[simp] theorem State.kept_ringOff (s : State) (r : Nat) : (s.ringOff r).kept = s.kept := by simp +decide [State.ringOff]

@[simp] theorem State.kept_ringDisable (s : State) (r : Nat) : (s.ringDisable r).kept = s.kept := by
  unfold State.ringDisable
  repeat' split
  all_goals simp

@[simp] theorem State.kept_wrDmaCfg (s : State) (r v : Nat) : (s.wrDmaCfg r v).kept = s.kept := by
  simp +decide [State.wrDmaCfg]

@[simp] theorem keptAfter_execDmaRingEnable (r v : Nat) (s : State) : keptAfter (execDmaRingEnable r v s) = some s.kept := by
  simp [execDmaRingEnable]

@[simp] theorem keptAfter_execDmaRingDisable (r : Nat) (s : State) : keptAfter (execDmaRingDisable r s) = some s.kept := by
  simp [execDmaRingDisable]

@[simp] theorem keptAfter_execDmaTailWrite (r tail : Nat) (descs : List Descriptor) (s : State) :
    keptAfter (execDmaTailWrite r tail descs s) = some s.kept := by
  unfold execDmaTailWrite
  extract_lets +onlyGivenNames head n t x u
  have ht : t.kept = s.kept := by simp +decide [t]
  have hu : u.kept = s.kept := by simpa [u] using ht
  clear_value n t u
  split_ifs <;> simp +decide [ht, hu]

@[simp] theorem State.kept_loopPush (s : State) (slot : Nat) (ws : List Nat) : (s.loopPush slot ws).2.kept = s.kept := by
  induction ws generalizing s with
  | nil => rfl
  | cons w ws ih =>
    simp +decide [State.loopPush, ih]

@[simp] theorem keptAfter_execDmaFlushTimeout (r : Nat) (s : State) : keptAfter (execDmaFlushTimeout r s) = some s.kept := by
  unfold execDmaFlushTimeout
  split <;> simp

@[simp] theorem keptAfter_execDmaHostError (r : Nat) (s : State) : keptAfter (execDmaHostError r s) = some s.kept := by
  unfold execDmaHostError
  dsimp only
  repeat' split
  all_goals simp +decide

@[simp] theorem State.kept_ringsPump (s : State) : s.ringsPump.kept = s.kept := by simp [State.ringsPump]

@[simp] theorem keptAfter_execDmaPause (d3 : Bool) (s : State) : keptAfter (execDmaPause d3 s) = some s.kept := by
  simp +decide [execDmaPause]

@[simp] theorem keptAfter_execDmaResume (d3 : Bool) (s : State) : keptAfter (execDmaResume d3 s) = some s.kept := by
  simp +decide [execDmaResume]

@[simp] theorem State.kept_dmaReset (s : State) : s.dmaReset.kept = s.kept := by simp +decide [State.dmaReset]

@[simp] theorem keptAfter_execFunctionLevelReset (s : State) : keptAfter (execFunctionLevelReset s) = some s.kept := by
  simp +decide [execFunctionLevelReset]

@[simp] theorem State.kept_linkGone (s : State) : s.linkGone.kept = s.kept := by simp +decide [State.linkGone]

@[simp] theorem keptAfter_execPcieLinkDown (s : State) : keptAfter (execPcieLinkDown s) = some s.kept := by
  simp +decide [execPcieLinkDown]

@[simp] theorem keptAfter_execPcieLinkUp (width speed : Nat) (s : State) :
    keptAfter (execPcieLinkUp width speed s) = some s.kept := by
  simp +decide [execPcieLinkUp]

@[simp] theorem keptAfter_execNoticePendingClear (j v : Nat) (s : State) :
    keptAfter (execNoticePendingClear j v s) = some s.kept := by
  simp +decide [execNoticePendingClear]

@[simp] theorem State.kept_msixSend (s : State) : s.msixSend.kept = s.kept := by simp [State.msixSend]
@[simp] theorem State.kept_wrMsix (s : State) (i v : Nat) : (s.wrMsix i v).kept = s.kept := by simp [State.wrMsix]

@[simp] theorem keptAfter_execMsixUnmask (vec : Option Nat) (enable : Bool) (s : State) :
    keptAfter (execMsixUnmask vec enable s) = some s.kept := by
  unfold execMsixUnmask
  split <;> simp +decide

@[simp] theorem State.kept_noticeStore (s : State) (h : Nat) (bytes : List Byte) :
    (s.noticeStore h bytes).kept = s.kept := by
  simp +decide [State.noticeStore]

@[simp] theorem keptAfter_execNoticeRecordReceive (hub : Nat) (bytes : List Byte) (s : State) :
    keptAfter (execNoticeRecordReceive hub bytes s) = some s.kept := by
  simp [execNoticeRecordReceive]

@[simp] theorem State.kept_wringBind (s : State) (u : PatUnit) : (s.wringBind u).kept = s.kept := by
  simp +decide [State.wringBind]

/-! ## Silt log -/

@[simp] theorem State.kept_opCheckpoint (s : State) : s.opCheckpoint.kept = s.kept := by rfl
@[simp] theorem keptAfter_execOptimeCheckpoint (s : State) : keptAfter (execOptimeCheckpoint s) = some s.kept := by rfl
@[simp] theorem State.kept_siltResume (s : State) : s.siltResume.kept = s.kept := by simp +decide [State.siltResume]
@[simp] theorem State.kept_siltDisarm (s : State) : s.siltDisarm.kept = s.kept := by simp +decide [State.siltDisarm]

@[simp] theorem State.kept_clearArm (s : State) (source : Nat) : (s.clearArm source).2.kept = s.kept := by
  unfold State.clearArm
  split <;> simp +decide

@[simp] theorem State.kept_clearConfirm (s : State) (source request token : Nat) :
    (s.clearConfirm source request token).2.kept = s.kept := by
  unfold State.clearConfirm
  dsimp only
  repeat' split
  all_goals simp +decide

@[simp] theorem State.kept_siltHouse (s : State) : s.siltHouse.kept = s.kept := by
  unfold State.siltHouse
  split <;> simp

@[simp] theorem State.kept_siltScan (s : State) : s.siltScan.kept = s.kept := by simp +decide [State.siltScan]
@[simp] theorem State.kept_siltPowerUp (s : State) : s.siltPowerUp.kept = s.kept := by rfl

@[simp] theorem State.kept_loadWindow (s : State) (p : Path) (auto area slot corr : Nat) (ue : List (Nat × Nat)) :
    (s.loadWindow p auto area slot corr ue).kept = s.kept := by
  simp +decide [State.loadWindow]

@[simp] theorem State.kept_cursorWrite (s : State) (p : Path) (v corr : Nat) (ue : List (Nat × Nat)) :
    (s.cursorWrite p v corr ue).kept = s.kept := by
  simp [State.cursorWrite]

@[simp] theorem keptAfter_execSltCursorWrite (path : Path) (v corr : Nat) (ue : List (Nat × Nat)) (s : State) :
    keptAfter (execSltCursorWrite path v corr ue s) = some s.kept := by
  simp [execSltCursorWrite]

@[simp] theorem State.kept_win15Read (s : State) (p : Path) (corr : Nat) (ue : List (Nat × Nat)) :
    (s.win15Read p corr ue).2.kept = s.kept := by
  unfold State.win15Read
  dsimp only
  split <;> simp

@[simp] theorem keptAfter_execSltWin15Read (path : Path) (corr : Nat) (ue : List (Nat × Nat)) (s : State) :
    keptAfter (execSltWin15Read path corr ue s) = some s.kept := by
  simp [execSltWin15Read]

@[simp] theorem State.kept_optRead (s : State) (p : Path) : (s.optRead p).2.kept = s.kept := by simp [State.optRead]

@[simp] theorem keptAfter_execSltOptRead (path : Path) (s : State) : keptAfter (execSltOptRead path s) = some s.kept := by
  simp [execSltOptRead]

@[simp] theorem keptAfter_execSltCntClr (s : State) : keptAfter (execSltCntClr s) = some s.kept := by
  simp +decide [execSltCntClr]

/-! ## Agreement -/

@[simp] theorem State.kept_showDigest (s : State) : s.showDigest.kept = s.kept := by simp +decide [State.showDigest]

@[simp] theorem State.kept_digestTake (s : State) (p : CDigest) (f : Nat) : (s.digestTake p f).kept = s.kept := by
  simp +decide [State.digestTake]

@[simp] theorem keptAfter_execAdoptEffect (s : State) : keptAfter (execAdoptEffect s) = some s.kept := by
  unfold execAdoptEffect
  split <;> simp

@[simp] theorem State.kept_adopt (s : State) (digest : List Byte) (compat f : Nat) :
    (s.adopt digest compat f).2.kept = s.kept := by
  unfold State.adopt
  split <;> simp

@[simp] theorem keptAfter_execDigestInherit (s : State) : keptAfter (execDigestInherit s) = some s.kept := by
  unfold execDigestInherit
  repeat' split
  all_goals simp

@[simp] theorem State.kept_stateRecord (s : State) (prev new : Nat) : (s.stateRecord prev new).kept = s.kept := by
  simp [State.stateRecord]

@[simp] theorem State.kept_quarantineHouse (s : State) : s.quarantineHouse.kept = s.kept := by
  simp +decide [State.quarantineHouse]

@[simp] theorem State.kept_quarantineCmd (s : State) (on : Nat) : (s.quarantineCmd on).2.kept = s.kept := by
  unfold State.quarantineCmd
  split <;> simp +decide

@[simp] theorem State.kept_collisionWith (s : State) (b : List Byte) : (s.collisionWith b).kept = s.kept := by
  simp +decide [State.collisionWith]

@[simp] theorem State.kept_helloTake (s : State) (b : List Byte) : (s.helloTake b).kept = s.kept := by
  simp +decide [State.helloTake]

@[simp] theorem keptAfter_execHelloReceive (port lseq : Nat) (bytes : List Byte) (s : State) :
    keptAfter (execHelloReceive port lseq bytes s) = some s.kept := by
  simp +decide [execHelloReceive]

@[simp] theorem keptAfter_execSupCntClr (s : State) : keptAfter (execSupCntClr s) = some s.kept := by
  simp +decide [execSupCntClr]

/-! ## Hub states -/

@[simp] theorem State.kept_changeState (s : State) (st : Nat) : (s.changeState st).kept = s.kept := by
  simp +decide [State.changeState]

@[simp] theorem State.kept_chainsStart (s : State) : s.chainsStart.kept = s.kept := by simp [State.chainsStart]

@[simp] theorem State.kept_enterState (s : State) (st : Nat) : (s.enterState st).kept = s.kept := by
  simp +decide [State.enterState]

@[simp] theorem State.kept_readyHouse (s : State) : s.readyHouse.kept = s.kept := by simp +decide [State.readyHouse]
@[simp] theorem State.kept_joinHouse (s : State) : s.joinHouse.kept = s.kept := by simp [State.joinHouse]

/-! ## Power management -/

@[simp] theorem State.kept_pdEval (s : State) : s.pdEval.kept = s.kept := by simp +decide [State.pdEval]

@[simp] theorem State.kept_enterBoot (s : State) (cause boot : Nat) : (s.enterBoot cause boot).kept = s.kept := by
  simp +decide [State.enterBoot]

@[simp] theorem State.kept_powerBoot (s : State) (boot : Nat) : (s.powerBoot boot).kept = s.kept := by
  have hboot : ((s.wrap Fld.SLT_PCC.PCC).enterBoot 0 boot).kept = s.kept := by simp +decide
  unfold State.powerBoot
  generalize (s.wrap Fld.SLT_PCC.PCC).enterBoot 0 boot = t at hboot ⊢
  exact (State.kept_pmu _ _).trans ((State.kept_siltPowerUp t).trans hboot)

@[simp] theorem keptAfter_execPowerGood (boot : Nat) (s : State) : keptAfter (execPowerGood boot s) = some s.kept := by
  simp +decide [execPowerGood]

@[simp] theorem keptAfter_execResetNDeassert (boot : Nat) (s : State) :
    keptAfter (execResetNDeassert boot s) = some s.kept := by
  simp +decide [execResetNDeassert]

@[simp] theorem keptAfter_execXtalRestored (s : State) : keptAfter (execXtalRestored s) = some s.kept := by
  simp +decide [execXtalRestored]

@[simp] theorem keptAfter_execPfailDeassert (s : State) : keptAfter (execPfailDeassert s) = some s.kept := by
  simp +decide [execPfailDeassert]

@[simp] theorem keptAfter_execPerstAssert (s : State) : keptAfter (execPerstAssert s) = some s.kept := by
  simp +decide [execPerstAssert]

@[simp] theorem keptAfter_execPerstDeassert (s : State) : keptAfter (execPerstDeassert s) = some s.kept := by
  simp [execPerstDeassert]

@[simp] theorem keptAfter_execTrstAssert (s : State) : keptAfter (execTrstAssert s) = some s.kept := by rfl
@[simp] theorem keptAfter_execTapUpdateIr (op : Nat) (s : State) : keptAfter (execTapUpdateIr op s) = some s.kept := by rfl

@[simp] theorem keptAfter_execSupplyOutOfRange (rail : Nat) (s : State) :
    keptAfter (execSupplyOutOfRange rail s) = some s.kept := by
  simp +decide [execSupplyOutOfRange]

@[simp] theorem keptAfter_execThermalLimit (s : State) : keptAfter (execThermalLimit s) = some s.kept := by
  simp [execThermalLimit]

@[simp] theorem keptAfter_execMemoryUe (area block : Nat) (s : State) :
    keptAfter (execMemoryUe area block s) = some s.kept := by
  simp [execMemoryUe]

@[simp] theorem State.kept_suppliesBack (s : State) : s.suppliesBack.kept = s.kept := by simp +decide [State.suppliesBack]

@[simp] theorem keptAfter_execSafeCauseGone (b : Nat) (s : State) : keptAfter (execSafeCauseGone b s) = some s.kept := by
  simp [execSafeCauseGone]

@[simp] theorem keptAfter_execSelfdiagGone (code : Nat) (s : State) : keptAfter (execSelfdiagGone code s) = some s.kept := by
  simp [execSelfdiagGone]

@[simp] theorem keptAfter_execCaptureMemoryInitDone (s : State) : keptAfter (execCaptureMemoryInitDone s) = some s.kept := by
  simp [execCaptureMemoryInitDone]

@[simp] theorem State.kept_checkBegin (s : State) (powerUp : Bool) : (s.checkBegin powerUp).kept = s.kept := by
  simp [State.checkBegin]

@[simp] theorem State.kept_wrQspi (s : State) (v : Nat) : (s.wrQspi v).kept = s.kept := by simp +decide [State.wrQspi]
@[simp] theorem keptAfter_execQspiGo (v : Nat) (s : State) : keptAfter (execQspiGo v s) = some s.kept := by simp [execQspiGo]

@[simp] theorem keptAfter_execQspiSequenceDone (bytes : List Byte) (s : State) :
    keptAfter (execQspiSequenceDone bytes s) = some s.kept := by
  simp +decide [execQspiSequenceDone]

@[simp] theorem State.kept_wrFwu (s : State) (v : Nat) : (s.wrFwu v).kept = s.kept := by simp +decide [State.wrFwu]

@[simp] theorem keptAfter_execPmuFwuStart (v : Nat) (s : State) : keptAfter (execPmuFwuStart v s) = some s.kept := by
  simp [execPmuFwuStart]

/-! ## Boot -/

@[simp] theorem State.kept_runSlot (s : State) (b : Bool) (f : FwSlot) : (s.runSlot b f).kept = s.kept := by
  simp +decide [State.runSlot]

@[simp] theorem State.kept_newFirmware (s : State) (f : FwSlot) : (s.newFirmware f).kept = s.kept := by
  simp +decide [State.newFirmware]

@[simp] theorem State.kept_mgmtSend (s : State) (flags dest : Nat) (record : List Byte) :
    (s.mgmtSend flags dest record).kept = s.kept := by
  simp [State.mgmtSend]

@[simp] theorem State.kept_chunkAsk (s : State) (server c : Nat) : (s.chunkAsk server c).kept = s.kept := by
  simp [State.chunkAsk]

@[simp] theorem State.kept_fetchPump (s : State) : s.fetchPump.kept = s.kept := by
  unfold State.fetchPump
  extract_lets +onlyGivenNames asked
  have hasked : asked.kept = s.kept := State.kept_forEach _ _ _ fun _ t => by
    split
    · split_ifs <;> simp
    · rfl
  rw [← hasked]
  split
  · split_ifs <;> simp
  · rfl

@[simp] theorem State.kept_fetchStop (s : State) (fstate : Nat) : (s.fetchStop fstate).kept = s.kept := by
  simp +decide [State.fetchStop]

@[simp] theorem State.kept_fetchAgain (s : State) : s.fetchAgain.kept = s.kept := by
  unfold State.fetchAgain
  split <;> simp

/-! ## Loader -/

@[simp] theorem State.kept_showCheck (s : State) (r : Reject) : (s.showCheck r).kept = s.kept := by
  simp +decide [State.showCheck]

@[simp] theorem State.kept_showDigestIn (s : State) (r : RegDef) (d : List Byte) (hr : r.oneTimeFree = true) :
    (s.showDigestIn r d).kept = s.kept := by
  simp [State.showDigestIn, hr]

@[simp] theorem State.kept_patEvent (s : State) (f : Field) (hf : f.reg.oneTimeFree = true) :
    (s.patEvent f).kept = s.kept := by
  simp [State.patEvent, hf]

@[simp] theorem State.kept_commitAt (s : State) (f : Nat) : (s.commitAt f).kept = s.kept := by
  unfold State.commitAt
  split <;> simp +decide

@[simp] theorem keptAfter_execPatternCheckDone (ue : Option Nat) (s : State) :
    keptAfter (execPatternCheckDone ue s) = some s.kept := by
  unfold execPatternCheckDone
  repeat' split
  all_goals simp +decide

/-! ## Commit -/

@[simp] theorem State.kept_wipe (s : State) (rs : List RegDef) (i : Nat) (hr : ∀ r ∈ rs, r.oneTimeFree = true) :
    (s.wipe rs i).kept = s.kept := by
  refine State.kept_forEach_mem _ _ _ fun r h t => ?_
  simp [hr r h]

@[simp] theorem State.kept_filterEnd (s : State) (c : Nat) : (s.filterEnd c).kept = s.kept := by
  simp +decide [State.filterEnd]

@[simp] theorem State.kept_thrEnd (s : State) (i : Nat) : (s.thrEnd i).kept = s.kept := by simp +decide [State.thrEnd]
@[simp] theorem State.kept_tdcEnd (s : State) (k : Nat) : (s.tdcEnd k).kept = s.kept := by simp +decide [State.tdcEnd]
@[simp] theorem State.kept_tinEnd (s : State) (k : Nat) : (s.tinEnd k).kept = s.kept := by simp +decide [State.tinEnd]
@[simp] theorem State.kept_toutEnd (s : State) (k : Nat) : (s.toutEnd k).kept = s.kept := by simp +decide [State.toutEnd]

@[simp] theorem State.kept_loopGone (s : State) (k : Nat) : (s.loopGone k).kept = s.kept := by
  unfold State.loopGone
  rw [State.kept_loopEnd]
  refine State.kept_forEach _ _ _ fun r t => ?_
  split <;> simp

@[simp] theorem State.kept_endUnit (s : State) (new : List PatUnit) (u : PatUnit) : (s.endUnit new u).kept = s.kept := by
  unfold State.endUnit
  split <;> simp +decide

@[simp] theorem State.kept_filterSettings (s : State) (u : PatUnit) : (s.filterSettings u).kept = s.kept := by
  simp +decide [State.filterSettings]

@[simp] theorem State.kept_filterStart (s : State) (u : PatUnit) : (s.filterStart u).kept = s.kept := by
  simp [State.filterStart]

@[simp] theorem State.kept_tdcUnitStart (s : State) (u : PatUnit) : (s.tdcUnitStart u).kept = s.kept := by
  simp +decide [State.tdcUnitStart]

@[simp] theorem State.kept_toutUnitStart (s : State) (u : PatUnit) : (s.toutUnitStart u).kept = s.kept := by
  simp +decide [State.toutUnitStart]

@[simp] theorem State.kept_startUnit (s : State) (u : PatUnit) : (s.startUnit u).kept = s.kept := by
  unfold State.startUnit
  split <;> simp +decide

@[simp] theorem State.kept_channelReset (s : State) (n : Nat) : (s.channelReset n).kept = s.kept := by
  simp +decide [State.channelReset]

@[simp] theorem State.kept_channelCommit (s : State) (carried : Bool) (n : Nat) :
    (s.channelCommit carried n).kept = s.kept := by
  simp +decide [State.channelCommit]

@[simp] theorem State.kept_uWord (s : State) (r : RegDef) (id v : Nat) (hr : 0x400000 ≤ r.base) :
    (s.uWord r id v).kept = s.kept := by
  have hsign : Reg.PAT_SIGN_CFG.base ≠ r.base + unitBlock id := by
    have : Reg.PAT_SIGN_CFG.base < 0x400000 := by decide
    omega
  have hserial : Reg.PAT_MIN_SERIAL.base ≠ r.base + unitBlock id := by
    have : Reg.PAT_MIN_SERIAL.base < 0x400000 := by decide
    omega
  unfold State.uWord
  dsimp only [State.kept, keptOf]
  split_ifs <;> simp [tabGet_erase, tabGet_set, hsign, hserial]

@[simp] theorem State.kept_unitBlockCommit (s : State) (p : Pattern) (carried : Bool) (u : PatUnit) :
    (s.unitBlockCommit p carried u).kept = s.kept := by
  simp +decide [State.unitBlockCommit]

@[simp] theorem State.kept_blocksCommit (s : State) (p : Pattern) (kept : List PatUnit) :
    (s.blocksCommit p kept).kept = s.kept := by
  unfold State.blocksCommit
  extract_lets +onlyGivenNames ids window cleared
  have hcleared : cleared.kept = s.kept := by
    have hsign := tabGet_filter (d := 0) (k := Reg.PAT_SIGN_CFG.base) s.regs
      (fun e => !window e.1 || ids.contains ((e.1 - 0x400000) / 256)) fun w => by simp +decide [window]
    have hserial := tabGet_filter (d := 0) (k := Reg.PAT_MIN_SERIAL.base) s.regs
      (fun e => !window e.1 || ids.contains ((e.1 - 0x400000) / 256)) fun w => by simp +decide [window]
    simp only [State.kept, keptOf, cleared, hsign, hserial]
  rw [← hcleared]
  exact State.kept_forEach _ _ _ fun u t => by simp

@[simp] theorem State.kept_flowCommit (s : State) (kept : List PatUnit) : (s.flowCommit kept).kept = s.kept := by rfl
@[simp] theorem State.kept_policyCommit (s : State) : s.policyCommit.kept = s.kept := by simp +decide [State.policyCommit]

@[simp] theorem State.kept_orderCommit (s : State) : s.orderCommit.kept = s.kept := by
  unfold State.orderCommit
  split <;> simp +decide

@[simp] theorem State.kept_subsCommit (s : State) (old : Option Pattern) (olds : List (Nat × Nat × Conf)) :
    (s.subsCommit old olds).kept = s.kept := by
  refine State.kept_forEach _ _ _ fun u t => ?_
  split <;> simp

@[simp] theorem State.kept_chainCommit (s : State) (c : Nat) : (s.chainCommit c).kept = s.kept := by
  simp +decide [State.chainCommit]

@[simp] theorem State.kept_swapCommit (s : State) (kept : List PatUnit) : (s.swapCommit kept).kept = s.kept := by
  unfold State.swapCommit
  split <;> simp

@[simp] theorem State.kept_commitSwitch (s : State) (p : Pattern) : (s.commitSwitch p).kept = s.kept := by
  simp +decide [State.commitSwitch]

@[simp] theorem keptAfter_execCommitIrrevocable (s : State) : keptAfter (execCommitIrrevocable s) = some s.kept := by
  unfold execCommitIrrevocable
  split <;> simp

@[simp] theorem State.kept_commitDue (s : State) : s.commitDue.kept = s.kept := by
  unfold State.commitDue
  split <;> simp

@[simp] theorem keptAfter_execCommitSwitch (s : State) : keptAfter (execCommitSwitch s) = some s.kept := by
  simp [execCommitSwitch]

@[simp] theorem keptAfter_execPowerUpCommit (s : State) : keptAfter (execPowerUpCommit s) = some s.kept := by
  unfold execPowerUpCommit
  repeat' split
  all_goals simp

@[simp] theorem State.kept_patLoad (s : State) (source addr : Nat) : (s.patLoad source addr).2.kept = s.kept := by
  unfold State.patLoad
  repeat' split
  all_goals simp

@[simp] theorem State.kept_patCommit (s : State) (f : Nat) : (s.patCommit f).2.kept = s.kept := by
  unfold State.patCommit
  dsimp only
  repeat' split
  all_goals simp

@[simp] theorem State.kept_patCancel (s : State) : (s.patCancel).2.kept = s.kept := by
  unfold State.patCancel
  split <;> simp +decide

@[simp] theorem State.kept_keySlotTo (s : State) (slot code : Nat) : (s.keySlotTo slot code).kept = s.kept := by
  simp +decide [State.keySlotTo]

@[simp] theorem State.kept_keyInstall (s : State) (slot : Nat) (key : List Byte) :
    (s.keyInstall slot key).2.kept = s.kept := by
  unfold State.keyInstall
  split_ifs <;> simp

@[simp] theorem State.kept_keyRevoke (s : State) (slot : Nat) : (s.keyRevoke slot).2.kept = s.kept := by
  unfold State.keyRevoke
  split_ifs <;> simp

/-! ## Mailboxes -/

@[simp] theorem State.kept_mbxSet (s : State) (p : Path) (off v : Nat) : (s.mbxSet p off v).kept = s.kept := by
  simp [State.mbxSet]

@[simp] theorem State.kept_mbxDrop (s : State) (p : Path) : (s.mbxDrop p).kept = s.kept := by simp [State.mbxDrop]

@[simp] theorem State.kept_mbxStore (s : State) (p : Path) (r : List Byte) (notify : Bool) :
    (s.mbxStore p r notify).kept = s.kept := by
  simp [State.mbxStore]

@[simp] theorem State.kept_respond (s : State) (o : Origin) (r : List Byte) : (s.respond o r).kept = s.kept := by
  unfold State.respond
  split <;> simp

@[simp] theorem State.kept_answerNow (s : State) (o : Origin) (opcode : Nat) (a : Answer) :
    (s.answerNow o opcode a).kept = s.kept := by
  simp [State.answerNow]

@[simp] theorem State.kept_relay (s : State) (o : Origin) (b : List Byte) : (s.relay o b).kept = s.kept := by
  simp +decide [State.relay]

@[simp] theorem State.kept_relayStep (s : State) (o : Origin) (b : List Byte) : (s.relayStep o b).2.kept = s.kept := by
  simp [State.relayStep]

@[simp] theorem State.kept_relayBack (s : State) (hub : Nat) (r : List Byte) : (s.relayBack hub r).kept = s.kept := by
  unfold State.relayBack
  split <;> simp +decide

@[simp] theorem keptAfter_execMgmtRelayTimeout (path : Path) (s : State) :
    keptAfter (execMgmtRelayTimeout path s) = some s.kept := by
  unfold execMgmtRelayTimeout
  repeat' split
  all_goals simp +decide

@[simp] theorem State.kept_wait (s : State) (o : Origin) (b : List Byte) : (s.wait o b).kept = s.kept := by rfl
@[simp] theorem State.kept_mbxGo (s : State) (p : Path) : (s.mbxGo p).kept = s.kept := by simp [State.mbxGo]

@[simp] theorem keptAfter_execMailboxGo (path : Path) (s : State) : keptAfter (execMailboxGo path s) = some s.kept := by
  simp [execMailboxGo]

@[simp] theorem State.kept_mgmtCommand (s : State) (hub : Nat) (b : List Byte) : (s.mgmtCommand hub b).kept = s.kept := by
  simp [State.mgmtCommand]

@[simp] theorem State.kept_dropMgmtKeys (s : State) (emit : Nat) : (s.dropMgmtKeys emit).kept = s.kept := by rfl

@[simp] theorem keptAfter_execNoticeRingSend (s : State) : keptAfter (execNoticeRingSend s) = some s.kept := by
  unfold execNoticeRingSend
  dsimp only
  repeat' split
  all_goals simp

@[simp] theorem State.kept_dupEnter (s : State) (e : DupEntry) : (s.dupEnter e).kept = s.kept := by
  simp +decide [State.dupEnter]

@[simp] theorem keptAfter_execDuplicateEntryExpire (source request : Nat) (s : State) :
    keptAfter (execDuplicateEntryExpire source request s) = some s.kept := by rfl

/-! ## Accesses through a path -/

@[simp] theorem State.kept_readTime (s : State) (p : Path) (r : RegDef) : (s.readTime p r).2.kept = s.kept := by
  simp [State.readTime]

@[simp] theorem State.kept_readInt (s : State) (p : Path) (k : Nat) : (s.readInt p k).2.kept = s.kept := by
  simp [State.readInt]

@[simp] theorem State.kept_readTdcFifo (s : State) (p : Path) (k : Nat) : (s.readTdcFifo p k).2.kept = s.kept := by
  simp [State.readTdcFifo]

@[simp] theorem State.kept_readPop (s : State) (p : Path) (q : Nat) : (s.readPop p q).2.kept = s.kept := by
  unfold State.readPop
  dsimp only
  repeat' split
  all_goals simp

@[simp] theorem State.kept_readIsns (s : State) (p : Nat) : (s.readIsns p).2.kept = s.kept := by
  simp +decide [State.readIsns]

@[simp] theorem State.kept_readReg (s : State) (p : Path) (r : RegDef) (i j : Nat) :
    (s.readReg p r i j).2.kept = s.kept := by
  simp [State.readReg]

@[simp] theorem State.kept_readUnit (s : State) (p : Path) (id off : Nat) : (s.readUnit p id off).2.kept = s.kept := by
  unfold State.readUnit
  repeat' split
  all_goals simp

@[simp] theorem State.kept_reservedHit (s : State) : s.reservedHit.kept = s.kept := by simp +decide [State.reservedHit]

@[simp] theorem State.kept_busRead (s : State) (p : Path) (a : Nat) : (s.busRead p a).2.2.kept = s.kept := by
  unfold State.busRead
  dsimp only
  repeat' split
  all_goals simp

@[simp] theorem State.kept_did (s : State) (o : Host.Outcome State Fault Refusal) (h : keptAfter o = some s.kept) :
    (s.did o).kept = s.kept := by
  cases o with
  | next t => exact Option.some.inj h
  | fault _ => rfl
  | refused _ => rfl

@[simp] theorem State.kept_writeTime (s : State) (r : RegDef) (i j v : Nat) (hr : 0x40000 ≤ r.base) :
    (s.writeTime r i j v).kept = s.kept := by
  have hfree : r.oneTimeFree = true := RegDef.oneTimeFree_of_lt (by omega)
  simp [State.writeTime, hfree]

@[simp] theorem State.kept_writeFront (s : State) (r : RegDef) (i j v : Nat) (hr : 0x40000 ≤ r.base) :
    (s.writeFront r i j v).kept = s.kept := by
  have hfree : r.oneTimeFree = true := RegDef.oneTimeFree_of_lt (by omega)
  simp [State.writeFront, hfree]

@[simp] theorem State.kept_wrLoopCtrl (s : State) (k v : Nat) : (s.wrLoopCtrl k v).kept = s.kept := by
  simp +decide [State.wrLoopCtrl]

@[simp] theorem State.kept_writeEngines (s : State) (r : RegDef) (i j v : Nat) (hr : 0x40000 ≤ r.base) :
    (s.writeEngines r i j v).kept = s.kept := by
  have hfree : r.oneTimeFree = true := RegDef.oneTimeFree_of_lt (by omega)
  simp [State.writeEngines, hfree]

@[simp] theorem State.kept_writeLinks (s : State) (r : RegDef) (i j v : Nat) (hr : 0x40000 ≤ r.base) :
    (s.writeLinks r i j v).kept = s.kept := by
  have hfree : r.oneTimeFree = true := RegDef.oneTimeFree_of_lt (by omega)
  simp [State.writeLinks, hfree]

@[simp] theorem State.kept_drawDescs (s : State) (n : Nat) : (s.drawDescs n).2.kept = s.kept := by
  induction n generalizing s with
  | zero => rfl
  | succ n ih => simp [State.drawDescs, ih]

@[simp] theorem State.kept_wrTail (s : State) (r v : Nat) : (s.wrTail r v).kept = s.kept := by simp [State.wrTail]
@[simp] theorem State.kept_wrWrgCtrl (s : State) (j v : Nat) : (s.wrWrgCtrl j v).kept = s.kept := by simp [State.wrWrgCtrl]
@[simp] theorem State.kept_wrQueCtrl (s : State) (q v : Nat) : (s.wrQueCtrl q v).kept = s.kept := by simp [State.wrQueCtrl]

@[simp] theorem State.kept_writeHost (s : State) (p : Path) (r : RegDef) (i j v : Nat) (hr : 0x40000 ≤ r.base) :
    (s.writeHost p r i j v).kept = s.kept := by
  have hfree : r.oneTimeFree = true := RegDef.oneTimeFree_of_lt (by omega)
  simp [State.writeHost, hfree]

@[simp] theorem State.kept_wrUnitStat (s : State) (id v : Nat) : (s.wrUnitStat id v).kept = s.kept := by
  simp +decide [State.wrUnitStat]

@[simp] theorem State.kept_wrUnitCtrl (s : State) (id v : Nat) : (s.wrUnitCtrl id v).kept = s.kept := by
  simp +decide [State.wrUnitCtrl, State.when]

@[simp] theorem State.kept_writeMbx (s : State) (p : Path) (a v : Nat) : (s.writeMbx p a v).kept = s.kept := by
  simp [State.writeMbx]

@[simp] theorem State.kept_readTo (s : State) (p : Path) (a : Nat) : (s.readTo p a).kept = s.kept := by simp [State.readTo]

@[simp] theorem keptAfter_execReservedRead (path : Path) (addr size : Nat) (s : State) :
    keptAfter (execReservedRead path addr size s) = some s.kept := by
  unfold execReservedRead
  repeat' split
  all_goals simp

@[simp] theorem keptAfter_execGlbFrameLoRead (path : Path) (s : State) :
    keptAfter (execGlbFrameLoRead path s) = some s.kept := by
  simp [execGlbFrameLoRead]

@[simp] theorem keptAfter_execTimLRead (path : Path) (s : State) : keptAfter (execTimLRead path s) = some s.kept := by
  simp [execTimLRead]

@[simp] theorem keptAfter_execLoopIntRead (path : Path) (slot : Nat) (s : State) :
    keptAfter (execLoopIntRead path slot s) = some s.kept := by
  simp [execLoopIntRead]

@[simp] theorem keptAfter_execTdcFifoPop (path : Path) (k : Nat) (s : State) :
    keptAfter (execTdcFifoPop path k s) = some s.kept := by
  simp [execTdcFifoPop]

@[simp] theorem keptAfter_execFldIsnsRead (path : Path) (port : Nat) (s : State) :
    keptAfter (execFldIsnsRead path port s) = some s.kept := by
  simp [execFldIsnsRead]

@[simp] theorem keptAfter_execUnitCntClr (id : Nat) (s : State) : keptAfter (execUnitCntClr id s) = some s.kept := by
  simp [execUnitCntClr]

@[simp] theorem keptAfter_execUnitWorstClr (id : Nat) (s : State) : keptAfter (execUnitWorstClr id s) = some s.kept := by
  simp [execUnitWorstClr]

@[simp] theorem keptAfter_execPatchStatusClear (id v : Nat) (s : State) :
    keptAfter (execPatchStatusClear id v s) = some s.kept := by
  simp [execPatchStatusClear]

@[simp] theorem State.kept_readWords (s : State) (p : Path) (a : Nat) (n : Nat) : (s.readWords p a n).2.2.kept = s.kept := by
  induction n generalizing s a with
  | zero => rfl
  | succ n ih => simp [State.readWords, ih]

@[simp] theorem keptAfter_execSpiRead (addr count wait : Nat) (s : State) :
    keptAfter (execSpiRead addr count wait s) = some s.kept := by
  simp [execSpiRead]

@[simp] theorem keptAfter_execSpiStatus (s : State) : keptAfter (execSpiStatus s) = some s.kept := by simp [execSpiStatus]

@[simp] theorem keptAfter_execSpiUnknownCommand (n : Nat) (s : State) :
    keptAfter (execSpiUnknownCommand n s) = some s.kept := by
  simp [execSpiUnknownCommand]

/-! ## Command records -/

@[simp] theorem State.kept_goNext (s : State) (st rank : Nat) : (s.goNext st rank).kept = s.kept := by rfl

@[simp] theorem State.kept_startCmd (s : State) (f : Nat) : (s.startCmd f).2.kept = s.kept := by
  simp +decide [State.startCmd]

@[simp] theorem State.kept_stopCmd (s : State) (f : Nat) : (s.stopCmd f).2.kept = s.kept := by simp +decide [State.stopCmd]
@[simp] theorem State.kept_recoverCmd (s : State) : (s.recoverCmd).2.kept = s.kept := by simp +decide [State.recoverCmd]

@[simp] theorem State.kept_regRead (s : State) (a n : Nat) : (s.regRead a n).2.kept = s.kept := by
  unfold State.regRead
  split <;> simp

@[simp] theorem State.kept_calRunCmd (s : State) (v : Nat) : (s.calRunCmd v).2.kept = s.kept := by simp [State.calRunCmd]

@[simp] theorem State.kept_calAbortCmd (s : State) (ch : Nat) : (s.calAbortCmd ch).2.kept = s.kept := by
  unfold State.calAbortCmd
  repeat' split
  all_goals simp

@[simp] theorem State.kept_calPodCmd (s : State) (chain range point : Nat) (t : Int) :
    (s.calPodCmd chain range point t).2.kept = s.kept := by
  simp [State.calPodCmd]

@[simp] theorem State.kept_todCmd (s : State) (d sec ns : Nat) : (s.todCmd d sec ns).2.kept = s.kept := by
  simp [State.todCmd]

@[simp] theorem State.kept_stepCmd (s : State) (f : Nat) (dS dNs : Int) (flags : Nat) :
    (s.stepCmd f dS dNs flags).2.kept = s.kept := by
  simp +decide [State.stepCmd]

@[simp] theorem State.kept_selectCmd (s : State) (f mode : Nat) : (s.selectCmd f mode).2.kept = s.kept := by
  simp [State.selectCmd]

@[simp] theorem State.kept_stepCancelCmd (s : State) : (s.stepCancelCmd).2.kept = s.kept := by
  unfold State.stepCancelCmd
  split <;> simp +decide

@[simp] theorem State.kept_adoptCmd (s : State) (a : List Byte) : (s.adoptCmd a).2.kept = s.kept := by simp [State.adoptCmd]

@[simp] theorem State.kept_capMaskCmd (s : State) (arm : Bool) (f mask : Nat) :
    (s.capMaskCmd arm f mask).2.kept = s.kept := by
  simp [State.capMaskCmd]

@[simp] theorem State.kept_commandMid (s : State) (op : Nat) (a : List Byte) : (s.commandMid op a).2.kept = s.kept := by
  simp [State.commandMid]

@[simp] theorem State.kept_commandHigh (s : State) (op : Nat) (a : List Byte) (o : Origin) :
    (s.commandHigh op a o).2.kept = s.kept := by
  simp [State.commandHigh]

@[simp] theorem State.kept_conflict (s : State) (op st source : Nat) : (s.conflict op st source).kept = s.kept := by
  simp +decide [State.conflict]

@[simp] theorem State.kept_settle (s : State) (o : Origin) (op : Nat) (args : List Byte) (st : Nat) (a : Answer) :
    (s.settle o op args st a).kept = s.kept := by
  simp [State.settle]

/-! ## Phases and ticks -/

@[simp] theorem State.kept_spoil (s : State) (u : PatUnit) : (s.spoil u).kept = s.kept := by simp +decide [State.spoil]

@[simp] theorem State.kept_overrun (s : State) (k : Nat) (ids : List Nat) (held : List (Nat × Nat)) :
    (s.overrun k ids held).kept = s.kept := by
  simp +decide [State.overrun]

@[simp] theorem State.kept_endTick (s : State) (t : TickInput) : (s.endTick t).kept = s.kept := by
  unfold State.endTick
  split <;> simp +decide

@[simp] theorem State.kept_measureTick (s : State) : s.measureTick.kept = s.kept := by
  unfold State.measureTick
  extract_lets +onlyGivenNames phase
  have hphase : phase.kept = s.kept := by
    unfold phase
    split_ifs
    · simp +decide [State.draw]
    · rfl
  split
  · extract_lets +onlyGivenNames n costs fir
    have hcosts : costs.kept = phase.kept := State.kept_forEach _ _ _ fun u t => by
      split
      · split_ifs <;> simp +decide [State.draw]
      · rfl
    simpa +decide using hcosts.trans hphase
  · exact hphase

@[simp] theorem State.kept_overrunAfter (s : State) : s.overrunAfter.kept = s.kept := by
  unfold State.overrunAfter
  dsimp only
  split <;> simp +decide

@[simp] theorem State.kept_tickFeed (s : State) (word : Nat → Nat → Option Nat) : (s.tickFeed word).kept = s.kept := by
  simp [State.tickFeed]

@[simp] theorem State.kept_tickSample (s : State) (u : PatUnit) : (s.tickSample u).kept = s.kept := by
  unfold State.tickSample
  dsimp only
  repeat' split
  all_goals simp

@[simp] theorem State.kept_tickSamples (s : State) : s.tickSamples.kept = s.kept := by simp [State.tickSamples]

@[simp] theorem State.kept_tickExc (s : State) (t : TickInput) : (s.tickExc t).kept = s.kept := by
  simp +decide [State.tickExc]

@[simp] theorem State.kept_nextFrame (s : State) : s.nextFrame.kept = s.kept := by rfl

@[simp] theorem keptAfter_execFrameTick (t : TickInput) (s : State) : keptAfter (execFrameTick t s) = some s.kept := by
  simp [execFrameTick]

@[simp] theorem keptAfter_execDecidePhase (late : Bool) (mismatch : List (Nat × Bool)) (s : State) :
    keptAfter (execDecidePhase late mismatch s) = some s.kept := by
  simp [execDecidePhase]

@[simp] theorem State.kept_faultHouse (s : State) : s.faultHouse.kept = s.kept := by simp [State.faultHouse]

@[simp] theorem State.kept_houseUnfinished (s : State) : s.houseUnfinished.kept = s.kept := by
  simp +decide [State.houseUnfinished]

@[simp] theorem State.kept_alignHouse (s : State) : s.alignHouse.kept = s.kept := by simp [State.alignHouse]

end Sys2Proof.Machine
end

section
/-! PROOFS. The functions that store in a byte memory or write a one-time register, and the invariants that every command and
every step keeps: memories stay canonical, bits of PAT_SIGN_CFG stay set, PAT_MIN_SERIAL never falls (R96, R97, R98, R409,
R619). -/

open Sys2Proof Sys2Proof.Machine

namespace Sys2Proof.Machine

/-! ## What may become of the kept parts -/

/-- The four memories are in canonical form. -/
def KeptParts.memOk (k : KeptParts) : Bool :=
  Memory.wf k.stby && Memory.wf k.actBytes && Memory.wf k.mram && Memory.wf k.capMem

/-- What a command may do to the kept parts: memories stay canonical, bits of PAT_SIGN_CFG stay set, and the serial rises. -/
structure KeptParts.le (k l : KeptParts) : Prop where
  mem : k.memOk = true → l.memOk = true
  sign : ∀ n, k.sign.getLsbD n = true → l.sign.getLsbD n = true
  serial : k.serial.toNat ≤ l.serial.toNat

@[simp] theorem KeptParts.le_refl (k : KeptParts) : k.le k := ⟨id, fun _ => id, Nat.le_refl _⟩

theorem KeptParts.le.trans {k l m : KeptParts} (h : k.le l) (h' : l.le m) : k.le m :=
  ⟨h'.mem ∘ h.mem, fun n => h'.sign n ∘ h.sign n, Nat.le_trans h.serial h'.serial⟩

@[simp] theorem KeptParts.le_ite (c : Prop) [Decidable c] (k l m : KeptParts) :
    k.le (if c then l else m) ↔ if c then k.le l else k.le m := by
  split <;> rfl

/-- A change of state that the invariants of R96 to R98 allow. -/
@[simp] abbrev State.Keeps (s t : State) : Prop := s.kept.le t.kept

theorem State.Keeps.of_eq {s t : State} (h : t.kept = s.kept) : s.Keeps t := by
  rw [State.Keeps, h]
  exact KeptParts.le_refl _

theorem State.Keeps.trans {s t u : State} (h : s.Keeps t) (h' : t.Keeps u) : s.Keeps u := KeptParts.le.trans h h'

theorem State.Keeps.after {s t u : State} (h : t.Keeps u) (ht : t.kept = s.kept) : s.Keeps u := by
  rwa [State.Keeps, ← ht]

theorem State.Keeps.before {s t u : State} (h : s.Keeps t) (hu : u.kept = t.kept) : s.Keeps u := by
  rwa [State.Keeps, hu]

@[simp] theorem State.keeps_forEach {α : Type} (s : State) (l : List α) (f : α → State → State)
    (h : ∀ a (t : State), t.Keeps (f a t)) : s.Keeps (s.forEach l f) := by
  unfold State.forEach
  induction l generalizing s with
  | nil => exact KeptParts.le_refl _
  | cons a l ih => exact (h a s).trans (ih _)

theorem State.rd_signCfg (s : State) : s.rd Reg.PAT_SIGN_CFG = s.kept.sign := by
  simp [State.rd, keptOf, Reg.PAT_SIGN_CFG, RegDef.has, RegDef.at]

theorem State.rd_minSerial (s : State) : s.rd Reg.PAT_MIN_SERIAL = s.kept.serial := by
  simp [State.rd, keptOf, Reg.PAT_MIN_SERIAL, RegDef.has, RegDef.at]

@[simp] theorem keptOf_wr_signCfg (s : State) (v : Word) (stby act mram cap : Memory) :
    keptOf (s.wr Reg.PAT_SIGN_CFG v).regs stby act mram cap = { keptOf s.regs stby act mram cap with sign := v } := by
  have hown : Reg.PAT_SIGN_CFG.base = Reg.PAT_SIGN_CFG.at 0 0 ∧ Reg.PAT_SIGN_CFG.has 0 0 = true := by decide
  have hother : ¬ (Reg.PAT_MIN_SERIAL.base = Reg.PAT_SIGN_CFG.at 0 0 ∧ Reg.PAT_SIGN_CFG.has 0 0 = true) := by decide
  simp only [keptOf, State.wr_regs, if_neg hother, if_pos hown]
  simp [Reg.PAT_SIGN_CFG]

@[simp] theorem keptOf_wr_minSerial (s : State) (v : Word) (stby act mram cap : Memory) :
    keptOf (s.wr Reg.PAT_MIN_SERIAL v).regs stby act mram cap = { keptOf s.regs stby act mram cap with serial := v } := by
  have hown : Reg.PAT_MIN_SERIAL.base = Reg.PAT_MIN_SERIAL.at 0 0 ∧ Reg.PAT_MIN_SERIAL.has 0 0 = true := by decide
  have hother : ¬ (Reg.PAT_SIGN_CFG.base = Reg.PAT_MIN_SERIAL.at 0 0 ∧ Reg.PAT_MIN_SERIAL.has 0 0 = true) := by decide
  simp only [keptOf, State.wr_regs, if_neg hother, if_pos hown]
  simp [Reg.PAT_MIN_SERIAL]

theorem keptOf_le (m : Tab Word) {stby act mram cap stby' act' mram' cap' : Memory}
    (h : Memory.wf stby = true → Memory.wf act = true → Memory.wf mram = true → Memory.wf cap = true →
      Memory.wf stby' = true ∧ Memory.wf act' = true ∧ Memory.wf mram' = true ∧ Memory.wf cap' = true) :
    (keptOf m stby act mram cap).le (keptOf m stby' act' mram' cap') := by
  refine ⟨fun hk => ?_, fun _ => id, Nat.le_refl _⟩
  simp only [KeptParts.memOk, keptOf, Bool.and_eq_true, and_assoc] at hk ⊢
  obtain ⟨hstby, hact, hmram, hcap⟩ := hk
  exact h hstby hact hmram hcap

/-! ## Capture memory -/

theorem State.keeps_capStore (s : State) (addr : Nat) (ws : List Nat) : s.Keeps (s.capStore addr ws) :=
  keptOf_le _ fun hstby hact hmram hcap => ⟨hstby, hact, hmram, Memory.wf_writeN _ _ hcap⟩

theorem State.keeps_capWrite (s : State) (u : PatUnit) (label : Nat) (ws : List Nat) :
    s.Keeps (s.capWrite u label ws) := by
  have hstore := State.keeps_capStore s
  unfold State.capWrite
  dsimp only
  split_ifs <;> simp +decide [hstore]

theorem State.keeps_capEmit (s : State) (u : PatUnit) : s.Keeps (s.capEmit u) := by
  unfold State.capEmit
  extract_lets +onlyGivenNames e n k x own y t
  have ht : t.kept = s.kept := by simp [t]
  split
  · simp
  · split
    · split
      · simp [ht]
      · dsimp only
        split
        · simp [ht]
        · exact (State.keeps_capWrite _ u _ _).after (by simp [ht])
    · simp [ht]

/-! ## The standby bank -/

theorem State.keeps_banks (s : State) (b : Banks)
    (h : Memory.wf s.banks.stby = true → Memory.wf s.banks.actBytes = true →
      Memory.wf b.stby = true ∧ Memory.wf b.actBytes = true) : s.Keeps { s with banks := b } :=
  keptOf_le _ fun hstby hact hmram hcap => ⟨(h hstby hact).1, (h hstby hact).2, hmram, hcap⟩

theorem State.keeps_stbyEmpty (s : State) : s.Keeps s.stbyEmpty :=
  (s.keeps_banks { s.banks with stby := [], wlen := 0, stbyPat := none } fun _ hact => ⟨Memory.wf_nil, hact⟩).before
    (by simp +decide [State.stbyEmpty])

theorem State.keeps_stbyFill (s : State) (bytes : List Byte) : s.Keeps (s.stbyFill bytes) :=
  (s.keeps_banks { s.banks with stby := Memory.writeN [] 0 bytes, wlen := bytes.length, stbyPat := none } fun _ hact =>
    ⟨Memory.wf_writeN _ _ Memory.wf_nil, hact⟩).before (by simp +decide [State.stbyFill])

theorem State.keeps_stbyWrite (s : State) (a : Nat) (bs : List Byte) : s.Keeps (s.stbyWrite a bs).2 := by
  unfold State.stbyWrite
  split
  · exact .of_eq (by simp +decide)
  · exact .of_eq (by simp +decide)
  · split
    · exact (s.keeps_banks { s.banks with stby := Memory.writeN s.banks.stby a bs } fun hstby hact =>
        ⟨Memory.wf_writeN _ _ hstby, hact⟩).before (by simp +decide)
    · exact (s.keeps_banks { s.banks with stby := Memory.writeN [] a bs } fun _ hact =>
        ⟨Memory.wf_writeN _ _ Memory.wf_nil, hact⟩).before (by simp +decide [State.bankTo])

theorem State.keeps_patDiscard (s : State) : s.Keeps s.patDiscard.2 := by
  unfold State.patDiscard
  split
  · exact KeptParts.le_refl _
  · exact KeptParts.le_refl _
  · exact State.keeps_stbyEmpty s

/-! ## The log's memory -/

theorem State.keeps_silt (s : State) (l : Silt) (h : Memory.wf s.silt.mram = true → Memory.wf l.mram = true) :
    s.Keeps { s with silt := l } :=
  keptOf_le _ fun hstby hact hmram hcap => ⟨hstby, hact, h hmram, hcap⟩

theorem State.keeps_writeCopy (s : State) (e : SiltEvent) (seq : Nat) (life : Bool) : s.Keeps (s.writeCopy e seq life) := by
  have hstore : ∀ a bs, s.Keeps { s with silt.mram := Memory.writeN s.silt.mram a bs } := fun a bs =>
    s.keeps_silt { s.silt with mram := Memory.writeN s.silt.mram a bs } (Memory.wf_writeN a bs)
  unfold State.writeCopy
  dsimp only
  split
  · split
    · exact KeptParts.le_refl _
    · exact (hstore (slotAddr 0 (s.get Fld.SLT_LIFE_HEAD.HEAD)) (recordBytes e seq true)).before (by simp +decide)
  · split
    · exact KeptParts.le_refl _
    · exact (hstore (slotAddr 1 (s.get Fld.SLT_SVC_HEAD.HEAD)) (recordBytes e seq false)).before
        (by simp +decide [State.when])

theorem State.keeps_copyDone (s : State) : s.Keeps s.copyDone := by
  unfold State.copyDone
  split
  · exact KeptParts.le_refl _
  · next j _ =>
    split
    · exact .of_eq (by simp)
    · next c rest _ =>
      refine (s.keeps_writeCopy j.ev j.seq c).before ?_
      dsimp only
      split_ifs <;> simp +decide

theorem State.keeps_recordNow (s : State) (e : SiltEvent) : s.Keeps (s.recordNow e) := by
  unfold State.recordNow
  extract_lets +onlyGivenNames src t u
  have hu : t.Keeps u := State.keeps_forEach _ _ _ fun _ v => by
    split
    · next j _ =>
      split
      · next c rest _ =>
        refine (v.keeps_writeCopy j.ev j.seq c).before ?_
        dsimp only
        split_ifs <;> simp +decide
      · exact .of_eq rfl
    · exact KeptParts.le_refl _
  exact (hu.after (by simp [t, src])).before (by simp +decide)

theorem wf_clearCommits {n : Nat} {m : Memory} (h : Memory.wf m = true) : Memory.wf (clearCommits n m) = true := by
  induction n generalizing m with
  | zero => exact h
  | succ n ih => exact ih (Memory.wf_write _ _ (Memory.wf_write _ _ h))

theorem State.keeps_siltPfail (s : State) : s.Keeps s.siltPfail := by
  unfold State.siltPfail
  split
  · exact KeptParts.le_refl _
  · extract_lets +onlyGivenNames cut t counted src u v total w x
    have ht : s.Keeps t := by
      unfold t
      split
      · split
        · exact State.keeps_writeCopy _ _ _ _
        · exact KeptParts.le_refl _
      · exact KeptParts.le_refl _
    have hw : w.kept = t.kept := by simp +decide [w, v, u, src]
    have hx : w.Keeps x := by
      unfold x
      split
      · exact KeptParts.le_refl _
      · exact State.keeps_recordNow _ _
    exact ((ht.before hw).trans hx).before (by simp)

theorem State.keeps_clearDone (s : State) : s.Keeps s.clearDone := by
  unfold State.clearDone
  split
  · exact KeptParts.le_refl _
  · extract_lets +onlyGivenNames t h data src u v w
    have ht : s.Keeps t := by
      unfold t
      split
      · exact State.keeps_forEach _ _ _ fun c x => State.keeps_writeCopy _ _ _ _
      · exact KeptParts.le_refl _
    have hu : t.Keeps u := t.keeps_silt { t.silt with mram := clearCommits h t.silt.mram } wf_clearCommits
    have hw : v.Keeps w := State.keeps_recordNow _ _
    exact ((ht.trans hu).trans (hw.after (by simp +decide [v]))).before (by simp +decide)

theorem State.keeps_bootFail (s : State) (kind item : Nat) : s.Keeps (s.bootFail kind item) :=
  State.Keeps.after (t := s.put Fld.GLB_STATE.BOOT_FAIL 1)
    (State.Keeps.trans (State.keeps_clearDone _) (State.keeps_recordNow _ _)) (by simp +decide)

theorem State.keeps_bootHeld (s : State) (f : FwSlot) : s.Keeps (s.bootHeld f) := by
  unfold State.bootHeld
  extract_lets +onlyGivenNames ms t
  have ht : s.Keeps t := (State.keeps_clearDone _).after (by simp)
  refine ht.before ?_
  dsimp only
  split_ifs <;> simp +decide

/-! ## Resets -/

theorem State.kept_volatileGone (s : State) :
    s.volatileGone.kept = { s.kept with stby := [], actBytes := [], capMem := [] } := by
  have hrest : ∀ r ∈ keptRegs.drop 2, r.oneTimeFree = true := by decide
  have hkept := fun t : State => State.kept_forEach_mem t (keptRegs.drop 2) (fun r t => t.wr r (s.rd r)) fun r hr t => by
    simp [hrest r hr]
  refine (hkept _).trans ?_
  simp [State.rd_signCfg, State.rd_minSerial, State.reset, Banks.reset]
  exact ⟨rfl, rfl, rfl, rfl⟩

theorem State.keeps_volatileGone (s : State) : s.Keeps s.volatileGone := by
  rw [State.Keeps, State.kept_volatileGone]
  refine ⟨fun h => ?_, fun _ => id, Nat.le_refl _⟩
  simp only [KeptParts.memOk, Bool.and_eq_true, and_assoc] at h ⊢
  exact ⟨Memory.wf_nil, Memory.wf_nil, h.2.2.1, Memory.wf_nil⟩

theorem State.keeps_hubReset (s : State) (cause boot : Nat) : s.Keeps (s.hubReset cause boot) := by
  refine (State.keeps_volatileGone s).before ?_
  simp +decide [State.hubReset]

/-! ## The image of a neighbour -/

theorem State.keeps_fetchBegin (s : State) (x : Nat × List Byte) : s.Keeps (s.fetchBegin x) := by
  unfold State.fetchBegin
  extract_lets +onlyGivenNames f _ t u
  have ht : s.Keeps t := State.Keeps.after (State.keeps_stbyEmpty _) (by rfl)
  exact ht.before (by simp +decide [u])

theorem State.keeps_fetchRestart (s : State) : s.Keeps s.fetchRestart := by
  unfold State.fetchRestart
  extract_lets +onlyGivenNames _ t
  have ht : t.kept = s.kept := by simp +decide [t]
  split
  · exact .of_eq (by simp [ht])
  · split
    · split
      · split
        · exact (State.keeps_fetchBegin _ _).after ht
        · exact .of_eq (by simp [ht])
      · exact (State.keeps_fetchBegin _ _).after ht
    · exact .of_eq ht

theorem State.keeps_chunkTake (s : State) (f : Fetch) (c : Nat) (data : List Byte) : s.Keeps (s.chunkTake f c data) := by
  unfold State.chunkTake
  extract_lets +onlyGivenNames put
  have hput : ∀ (t : State) (len : Nat), t.Keeps (put t len) := fun t len =>
    (t.keeps_stbyWrite (224 * c) (data.take (min 224 (len - 224 * c)))).before (by simp +decide [put])
  have hpump : ∀ (p : Pmu) (len : Nat), s.Keeps (put { s with pmu := p } len).fetchPump := fun p len =>
    State.Keeps.before ((hput _ len).after (State.kept_pmu s p)) (State.kept_fetchPump _)
  clear_value put
  split
  · dsimp only
    split
    · exact .of_eq (by simp)
    · exact State.keeps_fetchRestart s
  · split
    · exact hpump _ _
    · exact hpump _ _

theorem State.keeps_fetchResponse (s : State) (r : List Byte) : s.Keeps (s.fetchResponse r) := by
  unfold State.fetchResponse
  split
  · exact KeptParts.le_refl _
  · dsimp only
    split_ifs
    · exact KeptParts.le_refl _
    · exact .of_eq (by simp)
    · exact .of_eq (by simp)
    · exact State.keeps_chunkTake _ _ _ _
    · exact KeptParts.le_refl _

theorem State.keeps_fetchSilent (s : State) (hub : Nat) : s.Keeps (s.fetchSilent hub) := by
  unfold State.fetchSilent
  split
  · exact KeptParts.le_refl _
  · split
    · exact KeptParts.le_refl _
    · split
      · exact .of_eq (by simp +decide)
      · exact State.keeps_fetchRestart s

theorem State.keeps_mgmtResponse (s : State) (hub : Nat) (r : List Byte) : s.Keeps (s.mgmtResponse hub r) := by
  unfold State.mgmtResponse
  split_ifs
  · exact .of_eq (by simp)
  · exact KeptParts.le_refl _
  · exact State.keeps_fetchResponse s r
  · exact .of_eq (by simp)

/-! ## DMA -/

theorem State.keeps_ringComplete (s : State) (r : Nat) (bytes : List Byte) (bad : List Nat) :
    s.Keeps (s.ringComplete r bytes bad) := by
  unfold State.ringComplete
  split
  · exact .of_eq (by simp)
  · next j _ =>
    have hstore := State.keeps_stbyWrite s j.desc.param (padTo j.desc.len bytes)
    extract_lets +onlyGivenNames d kind poison slot
    split
    · exact .of_eq (by simp)
    · split
      · exact .of_eq (by simp)
      · split
        · exact .of_eq (by simp)
        · split
          · refine hstore.before ?_
            dsimp only
            split_ifs <;> simp [d]
          · dsimp only
            refine .of_eq ?_
            split_ifs <;> simp

/-! ## Writes through a path -/

theorem State.readByCode_signCfg (s : State) : s.readByCode Reg.PAT_SIGN_CFG = s.kept.sign.toNat := by
  have hwo : ~~~BitVec.ofNat 32 Reg.PAT_SIGN_CFG.wo = BitVec.allOnes 32 := by decide
  rw [State.readByCode, hwo, BitVec.and_allOnes, State.rd_signCfg]

theorem State.keeps_wrSignCfg (s : State) (v : Nat) : s.Keeps (s.wrSignCfg v) := by
  unfold State.wrSignCfg
  extract_lets +onlyGivenNames w old t
  have hold : s.kept.sign = BitVec.ofNat 32 old := by
    rw [show old = s.kept.sign.toNat from State.readByCode_signCfg s, BitVec.ofNat_toNat, BitVec.setWidth_eq]
  have ht : s.Keeps t := by
    refine ⟨?_, ?_, ?_⟩
    · simp [t, KeptParts.memOk]
    · intro n hn
      rw [hold] at hn
      simp [t, BitVec.ofNat_or, hn]
    · simp [t]
  split_ifs
  · exact KeptParts.le_refl _
  · exact .of_eq (by simp +decide)
  · exact KeptParts.le_refl _
  · exact ht.before (by simp)

/-- A register that the map can hold: above PAT_MIN_SERIAL, or one of the two, or apart from both. -/
def RegDef.listed (r : RegDef) : Bool :=
  decide (Reg.PAT_MIN_SERIAL.base < r.base) || r == Reg.PAT_SIGN_CFG || r == Reg.PAT_MIN_SERIAL || r.oneTimeFree

/-- The register blocks of the address map (R715). -/
def regBlocks : List (List RegDef) :=
  [Reg.blockGlb, Reg.blockPmu, Reg.blockPat, Reg.blockSup, Reg.blockTim, Reg.blockTdc, Reg.blockSar, Reg.blockAfe,
   Reg.blockCal, Reg.blockFlt, Reg.blockCap, Reg.blockLoop, Reg.blockSlu, Reg.blockLane, Reg.blockRing, Reg.blockFld,
   Reg.blockQue, Reg.blockDma, Reg.blockWrg, Reg.blockSlt, []]

theorem getD_nil_mem {α : Type} (l : List (List α)) (k : Nat) : l.getD k [] ∈ l ++ [[]] := by
  rw [List.getD_eq_getElem?_getD]
  cases h : l[k]? with
  | none => simp
  | some b => simp [List.mem_of_getElem? h]

theorem blockAt_mem_regBlocks (a : Nat) : blockAt a ∈ regBlocks := by
  have hgetD : ∀ (l : List (List RegDef)) (k : Nat), (∀ b ∈ l ++ [[]], b ∈ regBlocks) → l.getD k [] ∈ regBlocks :=
    fun l k h => h _ (getD_nil_mem l k)
  unfold blockAt
  extract_lets k
  split
  · exact hgetD _ _ (by simp [regBlocks])
  split
  · exact hgetD _ _ (by simp [regBlocks])
  split
  · split <;> simp [regBlocks]
  split
  · simp [regBlocks]
  split
  · exact hgetD _ _ (by simp [regBlocks])
  split
  · split <;> simp [regBlocks]
  split
  · simp [regBlocks]
  split
  · split <;> simp [regBlocks]
  split <;> simp [regBlocks]

theorem listed_of_mem_regBlocks : ∀ b ∈ regBlocks, ∀ r ∈ b, r.listed = true := by decide +kernel

theorem listed_of_regAt {a i j : Nat} {r : RegDef} (h : regAt a = some (r, i, j)) : r.listed = true := by
  obtain ⟨q, hq, e⟩ := List.exists_of_findSome?_eq_some h
  obtain ⟨x, -, hx⟩ := Option.map_eq_some_iff.mp e
  obtain rfl : q = r := congrArg Prod.fst hx
  exact listed_of_mem_regBlocks _ (blockAt_mem_regBlocks a) q hq

theorem State.wr_rd_regs (s : State) (r : RegDef) (i j a : Nat) :
    tabGet (s.wr r (s.rd r i j) i j).regs 0 a = tabGet s.regs 0 a := by
  rw [State.wr_regs]
  split
  · next h =>
    rw [State.rd, if_pos h.2, h.1, BitVec.xor_assoc, BitVec.xor_self, BitVec.xor_zero]
  · rfl

theorem State.kept_writeByCode_minSerial (s : State) (v i j : Nat) :
    (s.writeByCode Reg.PAT_MIN_SERIAL v i j).kept = s.kept := by
  have hcodes : ∀ inRun old w, writeCodes Reg.PAT_MIN_SERIAL inRun old w = old := by
    intro inRun old w
    apply BitVec.eq_of_getLsbD_eq
    intro k hk
    rw [getLsbD_writeCodes _ _ _ _ hk]
    simp [Reg.PAT_MIN_SERIAL]
  have hrwl : (Reg.PAT_MIN_SERIAL.rwl != 0) = false := by decide
  simp only [State.writeByCode, State.when, hcodes, hrwl, Bool.and_false, Bool.false_eq_true, if_false]
  simp only [State.kept, keptOf, State.wr_rd_regs, State.wr_banks, State.wr_silt, State.wr_cap]

/-- The state that an outcome goes on with, if any, keeps the invariants. -/
def KeepsNext (s : State) (o : Host.Outcome State Fault Refusal) : Prop := ∀ t, o = .next t → s.Keeps t

theorem KeepsNext.next {s t : State} (h : s.Keeps t) : KeepsNext s (.next t) := by
  rintro u ⟨⟩
  exact h

theorem KeepsNext.of_eq {s : State} {o : Host.Outcome State Fault Refusal} (h : keptAfter o = some s.kept) :
    KeepsNext s o := by
  rintro t rfl
  exact .of_eq (Option.some.inj h)

theorem KeepsNext.did {s : State} {o : Host.Outcome State Fault Refusal} (h : KeepsNext s o) : s.Keeps (s.did o) := by
  cases o with
  | next t => exact h t rfl
  | fault _ => exact KeptParts.le_refl _
  | refused _ => exact KeptParts.le_refl _

theorem keepsNext_execPatWdataWrite (v : Nat) (s : State) : KeepsNext s (execPatWdataWrite v s) := by
  unfold execPatWdataWrite
  split
  · exact .of_eq rfl
  · have h := s.keeps_stbyWrite (4 * s.get Fld.PAT_WADDR.ADDR) (leBytes 4 v)
    dsimp only
    generalize s.stbyWrite _ _ = r at h ⊢
    exact .next (h.before (by simp +decide))

theorem State.keeps_writeSys (s : State) {r : RegDef} (i j v : Nat) (hr : r.listed = true) :
    s.Keeps (s.writeSys r i j v) := by
  unfold State.writeSys
  split
  · exact .of_eq (by simp)
  split
  · exact .of_eq (by simp)
  split
  · exact (keepsNext_execPatWdataWrite v s).did
  split
  · exact s.keeps_wrSignCfg v
  next hsign =>
  split
  · exact .of_eq (by simp [State.when])
  refine .of_eq ?_
  simp only [RegDef.listed, Bool.or_eq_true, decide_eq_true_eq, beq_iff_eq] at hr
  rcases hr with ((habove | heq) | rfl) | hfree
  · exact State.kept_writeByCode s v i j (RegDef.oneTimeFree_of_lt habove)
  · exact absurd heq hsign
  · exact State.kept_writeByCode_minSerial s v i j
  · exact State.kept_writeByCode s v i j hfree

theorem State.keeps_writeReg (s : State) (p : Path) {r : RegDef} (i j v : Nat) (hr : r.listed = true) :
    s.Keeps (s.writeReg p r i j v) := by
  unfold State.writeReg
  extract_lets a
  split
  · exact KeptParts.le_refl _
  split
  · exact s.keeps_writeSys i j v hr
  split
  · exact .of_eq (State.kept_writeTime s r i j v (by omega))
  split
  · exact .of_eq (State.kept_writeFront s r i j v (by omega))
  split
  · exact .of_eq (State.kept_writeEngines s r i j v (by omega))
  split
  · exact .of_eq (State.kept_writeLinks s r i j v (by omega))
  · exact .of_eq (State.kept_writeHost s p r i j v (by omega))

theorem State.keeps_writeUnit (s : State) (p : Path) (id off v : Nat) : s.Keeps (s.writeUnit p id off v) := by
  unfold State.writeUnit
  split
  · exact KeptParts.le_refl _
  split
  · exact .of_eq (by simp)
  split
  · exact .of_eq (by simp)
  split
  · exact KeptParts.le_refl _
  split
  · next r i j h =>
    obtain ⟨b, -, hb⟩ := Option.bind_eq_some_iff.mp h
    exact s.keeps_writeReg p i j v (listed_of_regAt hb)
  · exact KeptParts.le_refl _

theorem State.keeps_busWrite (s : State) (p : Path) (a v : Nat) : s.Keeps (s.busWrite p a v).2 := by
  unfold State.busWrite
  extract_lets w
  split
  · exact KeptParts.le_refl _
  split
  · exact .of_eq (by simp)
  split
  · split
    · exact .of_eq (by simp)
    · exact .of_eq (by simp)
  split
  · exact .of_eq (by simp)
  split
  · exact s.keeps_writeUnit p _ _ _
  split
  · exact KeptParts.le_refl _
  split
  · next r i j h => exact s.keeps_writeReg p i j w (listed_of_regAt h)
  · exact .of_eq (by simp)

theorem State.keeps_writeAt (s : State) (p : Path) (r : RegDef) (i v : Nat) : s.Keeps (s.writeAt p r i v) := by
  unfold State.writeAt
  split
  · exact s.keeps_busWrite p _ v
  · exact KeptParts.le_refl _

theorem State.keeps_writeWords (s : State) (p : Path) (a : Nat) (ws : List Nat) : s.Keeps (s.writeWords p a ws) := by
  induction ws generalizing s a with
  | nil => exact KeptParts.le_refl _
  | cons w ws ih => exact (s.keeps_busWrite p a w).trans (ih _ _)

theorem State.keeps_writeCount (s : State) (p : Path) (a : Nat) (ws : List Nat) : s.Keeps (s.writeCount p a ws).2 := by
  induction ws generalizing s a with
  | nil => exact KeptParts.le_refl _
  | cons w ws ih => exact (s.keeps_busWrite p a w).trans (ih _ _)

/-! ## Command records -/

theorem State.keeps_regWrite (s : State) (a n : Nat) (ws : List Nat) : s.Keeps (s.regWrite a n ws).2 := by
  unfold State.regWrite
  split
  · exact KeptParts.le_refl _
  · exact s.keeps_writeCount .mgmt a ws

theorem State.keeps_commandLow (s : State) (op : Nat) (a : List Byte) : s.Keeps (s.commandLow op a).2 := by
  simp [State.commandLow, s.keeps_regWrite, s.keeps_patDiscard]

theorem State.keeps_command (s : State) (op : Nat) (a : List Byte) (o : Origin) : s.Keeps (s.command op a o).2 := by
  unfold State.command
  split
  · exact KeptParts.le_refl _
  split
  · exact KeptParts.le_refl _
  split
  · exact s.keeps_commandLow op a
  split
  · exact .of_eq (by simp)
  · exact .of_eq (by simp)

theorem State.keeps_execute (s : State) (o : Origin) (b : List Byte) : s.Keeps (s.execute o b) := by
  unfold State.execute
  dsimp only
  split
  · split
    · exact .of_eq (by simp +decide)
    · exact .of_eq (by simp)
  · split
    · exact .of_eq (by simp)
    · exact (s.keeps_command (fb b 0) (b.drop 16) o).before (by simp)

theorem State.keeps_runRecord (s : State) (o : Origin) (b : List Byte) : s.Keeps (s.runRecord o b) := by
  unfold State.runRecord
  split
  · exact .of_eq (by simp)
  split
  · dsimp only
    split
    · exact (State.keeps_execute _ _ b).after (by simp)
    · exact .of_eq (by simp)
  · exact s.keeps_execute o b

theorem State.keeps_runCommand (s : State) (o : Origin) (op : Nat) (args : List Byte) :
    s.Keeps (s.runCommand o op args) := by
  unfold State.runCommand
  split
  · exact KeptParts.le_refl _
  · exact s.keeps_runRecord o _

theorem State.keeps_houseCommands (s : State) : s.Keeps s.houseCommands := by
  unfold State.houseCommands
  exact State.Keeps.after (State.keeps_forEach _ _ _ fun w t => t.keeps_runRecord w.origin w.bytes) rfl

/-! ## The rows -/

theorem keepsNext_execStandbyWindowWrite (off : Nat) (bytes : List Byte) (s : State) :
    KeepsNext s (execStandbyWindowWrite off bytes s) := by
  unfold execStandbyWindowWrite
  split
  · exact .of_eq rfl
  · refine .next ?_
    split
    · exact s.keeps_stbyWrite off bytes
    · exact KeptParts.le_refl _

theorem keepsNext_execDmaDescriptorComplete (r : Nat) (bytes : List Byte) (bad : List Nat) (s : State) :
    KeepsNext s (execDmaDescriptorComplete r bytes bad s) := by
  refine .next ?_
  split
  · exact (s.keeps_ringComplete r bytes bad).before (by simp)
  · exact KeptParts.le_refl _

theorem keepsNext_execEmitPhase (late : Bool) (pins : List (Nat × Int)) (held : List (Nat × Nat)) (s : State) :
    KeepsNext s (execEmitPhase late pins held s) := by
  unfold execEmitPhase
  split
  · exact .of_eq (by simp)
  split
  · exact .of_eq rfl
  · extract_lets +onlyGivenNames t u
    have hu : t.Keeps u := State.keeps_forEach _ _ _ fun w v => v.keeps_capEmit w
    exact .next ((hu.after (by simp [t])).before (by simp))

theorem keepsNext_execHousePhase (late unfinished : Bool) (s : State) : KeepsNext s (execHousePhase late unfinished s) := by
  unfold execHousePhase
  split
  · exact .of_eq rfl
  · extract_lets +onlyGivenNames t
    have ht : t.kept = s.kept := by simp [t]
    extract_lets +onlyGivenNames q u v
    have hu : s.Keeps u := by
      unfold u
      split
      · exact .of_eq (by simp [ht])
      · exact (State.keeps_houseCommands _).after ht
    exact .next (hu.before (by simp [v]))

theorem keepsNext_execStateTransition (boot : Nat) (s : State) : KeepsNext s (execStateTransition boot s) := by
  unfold execStateTransition
  dsimp only
  split
  · exact .of_eq rfl
  · refine .next ?_
    split
    · exact State.Keeps.after (State.keeps_hubReset _ 3 boot) rfl
    · exact .of_eq (by simp)

theorem State.keeps_wr_minSerial (s : State) (v : Word) (h : s.kept.serial.toNat ≤ v.toNat) :
    s.Keeps (s.wr Reg.PAT_MIN_SERIAL v) := by
  refine ⟨?_, ?_, ?_⟩ <;> simp only [keptOf_wr_minSerial, State.wr_banks, State.wr_silt, State.wr_cap]
  · exact id
  · exact fun _ => id
  · exact h

theorem keepsNext_execCommitComplete (s : State) : KeepsNext s (execCommitComplete s) := by
  unfold execCommitComplete
  split
  · exact .of_eq rfl
  next p _ =>
  split
  · exact .of_eq rfl
  extract_lets +onlyGivenNames old src b swapped pend valid shown serialShown standby budgets serial risen staged
  have hswap : s.Keeps swapped :=
    (s.keeps_banks b fun hstby hact => ⟨hact, hstby⟩).before (State.kept_bankTo _ _)
  have hstandby : standby.kept = swapped.kept := by
    unfold standby
    cases old <;> simp +decide [serialShown, shown, valid, pend]
  have hbudgets : budgets.kept = standby.kept := by simp +decide [budgets]
  have hrisen : budgets.Keeps risen := by
    unfold risen
    split_ifs with h
    · simp only [Bool.and_eq_true, decide_eq_true_eq, State.rd_minSerial] at h
      exact State.keeps_wr_minSerial _ _ (Nat.le_of_lt h.2)
    · exact KeptParts.le_refl _
  exact .next ((hswap.trans (hrisen.after (hbudgets.trans hstandby))).before (by simp +decide [staged]))

theorem keepsNext_execRegisterWrite (p : Path) (a v : Nat) (s : State) : KeepsNext s (execRegisterWrite p a v s) :=
  .next (s.keeps_busWrite p a v)

theorem keepsNext_execLogClearDone (s : State) : KeepsNext s (execLogClearDone s) := .next s.keeps_clearDone

theorem keepsNext_execSiltRecordWritten (s : State) : KeepsNext s (execSiltRecordWritten s) := .next s.keeps_copyDone

theorem keepsNext_execHubSilent (hub : Nat) (s : State) : KeepsNext s (execHubSilent hub s) :=
  .next ((State.keeps_fetchSilent _ hub).after (by simp))

theorem keepsNext_execMgmtFrameReceive (port lseq : Nat) (bytes : List Byte) (s : State) :
    KeepsNext s (execMgmtFrameReceive port lseq bytes s) := by
  unfold execMgmtFrameReceive
  dsimp only
  split
  · exact .of_eq (by simp)
  split
  · exact .of_eq (by simp)
  · refine .next ?_
    split
    · exact (State.keeps_mgmtResponse _ _ _).after (by simp)
    · exact .of_eq (by simp)

theorem keepsNext_execSpiWrite (bytes : List Byte) (s : State) : KeepsNext s (execSpiWrite bytes s) := by
  unfold execSpiWrite
  dsimp only
  split
  · exact .of_eq rfl
  split
  · exact .of_eq rfl
  split
  · exact .of_eq (by simp)
  · have h := State.keeps_writeWords { s with host.miso := List.replicate (bytes.length + 1) 0 } .spi (leAt bytes 0 4)
      (toWords ((bytes.drop 4).length / 4) (bytes.drop 4))
    refine .next ?_
    split
    · exact h.after rfl
    · exact (h.after rfl).before rfl

theorem keepsNext_execTimIncWrite (d v : Nat) (s : State) : KeepsNext s (execTimIncWrite d v s) :=
  .next ((s.keeps_writeAt _ _ _ _).trans (State.keeps_writeAt _ _ _ _ _))

theorem keepsNext_execFwUpdateDone (result ver svn : Nat) (s : State) : KeepsNext s (execFwUpdateDone result ver svn s) := by
  unfold execFwUpdateDone
  split
  · exact .of_eq rfl
  · refine .next ((State.keeps_stbyEmpty _).after ?_)
    dsimp only
    split_ifs <;> simp +decide

theorem keepsNext_execResetNAssert (boot : Nat) (s : State) : KeepsNext s (execResetNAssert boot s) := by
  unfold execResetNAssert
  split
  · exact .of_eq rfl
  · refine .next ?_
    dsimp only
    split
    · exact .of_eq rfl
    · exact State.Keeps.after (State.keeps_hubReset _ 1 boot) rfl

theorem keepsNext_execWatchdogReset (boot : Nat) (s : State) : KeepsNext s (execWatchdogReset boot s) := by
  refine .next ?_
  split
  · exact .of_eq rfl
  · exact s.keeps_hubReset 2 boot

theorem keepsNext_execXtalLoss (boot : Nat) (s : State) : KeepsNext s (execXtalLoss boot s) := by
  refine .next ?_
  split
  · exact .of_eq rfl
  · exact State.Keeps.after (State.keeps_hubReset _ 2 boot) rfl

theorem keepsNext_execRailLoss (rail : Nat) (s : State) : KeepsNext s (execRailLoss rail s) := by
  unfold execRailLoss
  split
  · exact .of_eq rfl
  · exact .next (State.Keeps.before (State.Keeps.after (t := { s with pmu.xtalLost := false })
      (State.keeps_volatileGone _) rfl) (by simp +decide))

theorem keepsNext_execPfailAssert (s : State) : KeepsNext s (execPfailAssert s) := by
  unfold execPfailAssert
  split
  · exact .of_eq rfl
  · exact .next (State.Keeps.before ((State.keeps_siltPfail _).after (by simp +decide)) (State.kept_safeCause _ _))

theorem keepsNext_execBootDone (aOk bOk : Bool) (selfTest : Option Nat) (s : State) :
    KeepsNext s (execBootDone aOk bOk selfTest s) := by
  unfold execBootDone
  split
  · exact .of_eq rfl
  · extract_lets +onlyGivenNames a b bFirst pass show_ slot first shown
    have hshow : ∀ (k : Bool) (t : State), (show_ k t).kept = t.kept := by
      intro k t
      cases k <;> simp +decide [show_]
    extract_lets +onlyGivenNames both run
    have hboth : both.kept = s.kept := by
      unfold both shown
      split <;> simp [hshow]
    split
    · exact .next ((State.keeps_bootFail _ _ _).after (by simp [hboth]))
    · dsimp only
      split
      · exact .next ((State.keeps_bootFail _ _ _).after (by simp +decide [hboth]))
      · exact .next ((State.keeps_bootHeld _ _).after (by simp +decide [hboth]))

theorem keepsNext_execQspiImageReadDone (info : Nat) (dir bytes : List Byte) (s : State) :
    KeepsNext s (execQspiImageReadDone info dir bytes s) := by
  unfold execQspiImageReadDone
  split
  · exact .of_eq rfl
  · extract_lets +onlyGivenNames t
    have ht : t.kept = s.kept := by simp +decide [t]
    split
    · exact .next (((State.keeps_stbyFill t _).after ht).before rfl)
    · have hw : ({ t with pmu.flashBoot := false } : State).kept = s.kept := ht
      dsimp only
      split
      · exact .next (.of_eq hw)
      · split
        · exact .next (((State.keeps_stbyFill _ _).after hw).before (State.kept_checkBegin _ _))
        · exact .next (.of_eq hw)

theorem keepsNext_execNeighbourServerFound (s : State) : KeepsNext s (execNeighbourServerFound s) := by
  unfold execNeighbourServerFound
  split
  · exact .of_eq rfl
  · split
    · exact .next (s.keeps_fetchBegin _)
    · exact .of_eq rfl

theorem keepsNext_execNeighbourFetchResume (s : State) : KeepsNext s (execNeighbourFetchResume s) := by
  unfold execNeighbourFetchResume
  dsimp only
  split
  · exact .of_eq rfl
  split
  · exact .of_eq (by simp)
  · split
    · exact .next (State.Keeps.after (State.keeps_fetchBegin _ _) rfl)
    · exact .of_eq (by simp)

/-- Every command keeps the invariants. -/
theorem exec_keeps (c : Instr) (s : State) : KeepsNext s (exec c s) :=
  match c with
  | .frameTick _ => .of_eq (keptAfter_execFrameTick _ _)
  | .conditionPhase _ => .of_eq (keptAfter_execConditionPhase _ _)
  | .decidePhase _ _ => .of_eq (keptAfter_execDecidePhase _ _ _)
  | .emitPhase _ _ _ => keepsNext_execEmitPhase _ _ _ _
  | .housePhase _ _ => keepsNext_execHousePhase _ _ _
  | .stateTransition _ => keepsNext_execStateTransition _ _
  | .streamFrameDeadline _ => .of_eq (keptAfter_execStreamFrameDeadline _ _)
  | .nop _ => .next (State.keeps_runCommand _ _ _ _)
  | .arm _ => .next (State.keeps_runCommand _ _ _ _)
  | .hold _ => .next (State.keeps_runCommand _ _ _ _)
  | .start _ _ => .next (State.keeps_runCommand _ _ _ _)
  | .stop _ _ => .next (State.keeps_runCommand _ _ _ _)
  | .safeEnter _ => .next (State.keeps_runCommand _ _ _ _)
  | .recover _ => .next (State.keeps_runCommand _ _ _ _)
  | .maintEnter _ => .next (State.keeps_runCommand _ _ _ _)
  | .maintExit _ => .next (State.keeps_runCommand _ _ _ _)
  | .restart _ => .next (State.keeps_runCommand _ _ _ _)
  | .regRead _ _ _ => .next (State.keeps_runCommand _ _ _ _)
  | .regWrite _ _ _ => .next (State.keeps_runCommand _ _ _ _)
  | .reservedOpcode _ _ _ => .next (State.keeps_runCommand _ _ _ _)
  | .patLoad _ _ _ => .next (State.keeps_runCommand _ _ _ _)
  | .patCommit _ _ => .next (State.keeps_runCommand _ _ _ _)
  | .patCancel _ => .next (State.keeps_runCommand _ _ _ _)
  | .patDiscard _ => .next (State.keeps_runCommand _ _ _ _)
  | .patKeyInstall _ _ _ => .next (State.keeps_runCommand _ _ _ _)
  | .patKeyRevoke _ _ => .next (State.keeps_runCommand _ _ _ _)
  | .patternCheckDone _ => .of_eq (keptAfter_execPatternCheckDone _ _)
  | .commitIrrevocable => .of_eq (keptAfter_execCommitIrrevocable _)
  | .commitSwitch => .of_eq (keptAfter_execCommitSwitch _)
  | .commitComplete => keepsNext_execCommitComplete _
  | .powerUpCommit => .of_eq (keptAfter_execPowerUpCommit _)
  | .calRun _ _ => .next (State.keeps_runCommand _ _ _ _)
  | .calAbort _ _ => .next (State.keeps_runCommand _ _ _ _)
  | .calPodPoint _ _ _ _ _ => .next (State.keeps_runCommand _ _ _ _)
  | .calPodPointDone => .of_eq (keptAfter_execCalPodPointDone _)
  | .calPodPointTimeout => .of_eq (keptAfter_execCalPodPointTimeout _)
  | .calStepEnd _ => .of_eq (keptAfter_execCalStepEnd _ _)
  | .matchTimeout => .of_eq (keptAfter_execMatchTimeout _)
  | .calCoefWrite _ _ _ => .of_eq (keptAfter_execCalCoefWrite _ _ _ _)
  | .calCtrlSuspend _ => .of_eq (keptAfter_execCalCtrlSuspend _ _)
  | .timeSetTod _ _ _ _ => .next (State.keeps_runCommand _ _ _ _)
  | .timeStep _ _ _ _ _ => .next (State.keeps_runCommand _ _ _ _)
  | .timeSelect _ _ _ => .next (State.keeps_runCommand _ _ _ _)
  | .timeStepCancel _ => .next (State.keeps_runCommand _ _ _ _)
  | .timeStepApply => .of_eq (keptAfter_execTimeStepApply _)
  | .timeSelectEffect => .of_eq (keptAfter_execTimeSelectEffect _)
  | .laneAdmin _ _ _ => .next (State.keeps_runCommand _ _ _ _)
  | .laneRetrain _ _ => .next (State.keeps_runCommand _ _ _ _)
  | .laneTest _ _ _ _ _ => .next (State.keeps_runCommand _ _ _ _)
  | .ringDiscover _ => .next (State.keeps_runCommand _ _ _ _)
  | .fldPort _ _ _ => .next (State.keeps_runCommand _ _ _ _)
  | .fldAdopt _ _ => .next (State.keeps_runCommand _ _ _ _)
  | .loopIntSet _ _ _ => .next (State.keeps_runCommand _ _ _ _)
  | .loopReturn _ _ => .next (State.keeps_runCommand _ _ _ _)
  | .sluReclaim _ => .next (State.keeps_runCommand _ _ _ _)
  | .sluForcePark _ _ _ => .next (State.keeps_runCommand _ _ _ _)
  | .capArm _ _ _ => .next (State.keeps_runCommand _ _ _ _)
  | .capAbort _ _ => .next (State.keeps_runCommand _ _ _ _)
  | .capForce _ _ => .next (State.keeps_runCommand _ _ _ _)
  | .captureArm _ => .of_eq (keptAfter_execCaptureArm _ _)
  | .captureAbortEffect _ => .of_eq (keptAfter_execCaptureAbortEffect _ _)
  | .triggerHoldoffEnd _ => .of_eq (keptAfter_execTriggerHoldoffEnd _ _)
  | .queFlush _ _ => .next (State.keeps_runCommand _ _ _ _)
  | .notice _ => .next (State.keeps_runCommand _ _ _ _)
  | .wrgCut _ _ => .next (State.keeps_runCommand _ _ _ _)
  | .wrgAbort _ _ => .next (State.keeps_runCommand _ _ _ _)
  | .sltClearArm _ => .next (State.keeps_runCommand _ _ _ _)
  | .sltClearConfirm _ _ => .next (State.keeps_runCommand _ _ _ _)
  | .logClearDone => keepsNext_execLogClearDone _
  | .adopt _ _ _ _ => .next (State.keeps_runCommand _ _ _ _)
  | .adoptEffect => .of_eq (keptAfter_execAdoptEffect _)
  | .digestInherit => .of_eq (keptAfter_execDigestInherit _)
  | .quarantine _ _ => .next (State.keeps_runCommand _ _ _ _)
  | .mailboxGo _ => .of_eq (keptAfter_execMailboxGo _ _)
  | .mgmtFrameReceive _ _ _ => keepsNext_execMgmtFrameReceive _ _ _ _
  | .mgmtRelayTimeout _ => .of_eq (keptAfter_execMgmtRelayTimeout _ _)
  | .noticeRecordReceive _ _ => .of_eq (keptAfter_execNoticeRecordReceive _ _ _)
  | .spiWrite _ => keepsNext_execSpiWrite _ _
  | .spiRead _ _ _ => .of_eq (keptAfter_execSpiRead _ _ _ _)
  | .spiStatus => .of_eq (keptAfter_execSpiStatus _)
  | .spiUnknownCommand _ => .of_eq (keptAfter_execSpiUnknownCommand _ _)
  | .registerWrite _ _ _ => keepsNext_execRegisterWrite _ _ _ _
  | .glbFrameLoRead _ => .of_eq (keptAfter_execGlbFrameLoRead _ _)
  | .timLRead _ => .of_eq (keptAfter_execTimLRead _ _)
  | .loopIntRead _ _ => .of_eq (keptAfter_execLoopIntRead _ _ _)
  | .sltOptRead _ => .of_eq (keptAfter_execSltOptRead _ _)
  | .queuePop _ _ _ _ => .of_eq (keptAfter_execQueuePop _ _ _ _ _)
  | .popWaitExpire _ => .of_eq (keptAfter_execPopWaitExpire _ _)
  | .tdcFifoPop _ _ => .of_eq (keptAfter_execTdcFifoPop _ _ _)
  | .sltWin15Read _ _ _ => .of_eq (keptAfter_execSltWin15Read _ _ _ _)
  | .sltCursorWrite _ _ _ _ => .of_eq (keptAfter_execSltCursorWrite _ _ _ _ _)
  | .fldIsnsRead _ _ => .of_eq (keptAfter_execFldIsnsRead _ _ _)
  | .patWdataWrite _ => keepsNext_execPatWdataWrite _ _
  | .standbyWindowWrite _ _ => keepsNext_execStandbyWindowWrite _ _ _
  | .signCfgRequireSet _ => .next (State.keeps_writeAt _ _ _ _ _)
  | .signCfgAntirollbackSet _ => .next (State.keeps_writeAt _ _ _ _ _)
  | .unitCntClr _ => .of_eq (keptAfter_execUnitCntClr _ _)
  | .unitWorstClr _ => .of_eq (keptAfter_execUnitWorstClr _ _)
  | .patchStatusClear _ _ => .of_eq (keptAfter_execPatchStatusClear _ _ _)
  | .afeExcRetry _ => .next (State.keeps_writeAt _ _ _ _ _)
  | .afeCntClr _ => .next (State.keeps_writeAt _ _ _ _ _)
  | .rangeHoldWrite _ _ => .next (State.keeps_writeAt _ _ _ _ _)
  | .fltSyncReset _ => .next (State.keeps_writeAt _ _ _ _ _)
  | .fltCntClr _ => .next (State.keeps_writeAt _ _ _ _ _)
  | .sarScalStart _ => .next (State.keeps_writeAt _ _ _ _ _)
  | .sarScalPointDone => .of_eq (keptAfter_execSarScalPointDone _)
  | .sarCoefWrite _ _ _ => .next (State.keeps_writeAt _ _ _ _ _)
  | .sarModCntClr => .next (State.keeps_writeAt _ _ _ _ _)
  | .auxConversionDone _ _ => .of_eq (keptAfter_execAuxConversionDone _ _ _)
  | .auxInjectStart => .of_eq (keptAfter_execAuxInjectStart _)
  | .timIncWrite _ _ => keepsNext_execTimIncWrite _ _ _
  | .timAdjWrite _ _ => .next (State.keeps_writeAt _ _ _ _ _)
  | .timServoTakeover _ => .next (State.keeps_writeAt _ _ _ _ _)
  | .timHostQWrite _ => .next (State.keeps_writeAt _ _ _ _ _)
  | .timIrqRearm => .next (State.keeps_writeAt _ _ _ _ _)
  | .tdcSrcWrite _ => .next (State.keeps_writeAt _ _ _ _ _)
  | .tdcFlush _ => .next (State.keeps_writeAt _ _ _ _ _)
  | .tdcCntClr _ => .next (State.keeps_writeAt _ _ _ _ _)
  | .capCtrlArm _ => .of_eq (keptAfter_execCapCtrlArm _ _)
  | .capCtrlAbort _ => .of_eq (keptAfter_execCapCtrlAbort _ _)
  | .capPrePostWrite _ _ _ => .of_eq (keptAfter_execCapPrePostWrite _ _ _ _)
  | .loopCmdWrite _ _ => .of_eq (keptAfter_execLoopCmdWrite _ _ _)
  | .loopCmdFifoPush _ _ => .of_eq (keptAfter_execLoopCmdFifoPush _ _ _)
  | .loopFifoFlush _ => .of_eq (keptAfter_execLoopFifoFlush _ _)
  | .loopCntClr _ => .of_eq (keptAfter_execLoopCntClr _ _)
  | .loopGainWrite _ _ _ => .of_eq (keptAfter_execLoopGainWrite _ _ _ _)
  | .sluCntClr _ => .of_eq (keptAfter_execSluCntClr _ _)
  | .laneCntClr _ => .of_eq (keptAfter_execLaneCntClr _ _)
  | .lanePrbsClr _ => .of_eq (keptAfter_execLanePrbsClr _ _)
  | .ringCntClr => .of_eq (keptAfter_execRingCntClr _)
  | .fldCntClr _ => .of_eq (keptAfter_execFldCntClr _ _)
  | .queCtrlFlush _ => .of_eq (keptAfter_execQueCtrlFlush _ _)
  | .queCntClr _ => .of_eq (keptAfter_execQueCntClr _ _)
  | .wmxClear _ => .of_eq (keptAfter_execWmxClear _ _)
  | .watermarkWrite _ _ _ => .of_eq (keptAfter_execWatermarkWrite _ _ _ _)
  | .dmaRingEnable _ _ => .of_eq (keptAfter_execDmaRingEnable _ _ _)
  | .dmaRingDisable _ => .of_eq (keptAfter_execDmaRingDisable _ _)
  | .dmaTailWrite _ _ _ => .of_eq (keptAfter_execDmaTailWrite _ _ _ _)
  | .dmaDescriptorComplete _ _ _ => keepsNext_execDmaDescriptorComplete _ _ _ _
  | .dmaFlushTimeout _ => .of_eq (keptAfter_execDmaFlushTimeout _ _)
  | .dmaHostError _ => .of_eq (keptAfter_execDmaHostError _ _)
  | .noticePendingClear _ _ => .of_eq (keptAfter_execNoticePendingClear _ _ _)
  | .noticeRingSend => .of_eq (keptAfter_execNoticeRingSend _)
  | .msixUnmask _ _ => .of_eq (keptAfter_execMsixUnmask _ _ _)
  | .dmaPause _ => .of_eq (keptAfter_execDmaPause _ _)
  | .wrgCtrlCut _ => .of_eq (keptAfter_execWrgCtrlCut _ _)
  | .wrgCtrlAbort _ => .of_eq (keptAfter_execWrgCtrlAbort _ _)
  | .wrgCntClr _ => .of_eq (keptAfter_execWrgCntClr _ _)
  | .wringDecompressStart _ => .of_eq (keptAfter_execWringDecompressStart _ _)
  | .wringCloseTimeout _ => .of_eq (keptAfter_execWringCloseTimeout _ _)
  | .wringJobEnd _ _ => .of_eq (keptAfter_execWringJobEnd _ _ _)
  | .sltCntClr => .of_eq (keptAfter_execSltCntClr _)
  | .siltRecordWritten => keepsNext_execSiltRecordWritten _
  | .optimeCheckpoint => .of_eq (keptAfter_execOptimeCheckpoint _)
  | .supCntClr => .of_eq (keptAfter_execSupCntClr _)
  | .pmuFwuStart _ => .of_eq (keptAfter_execPmuFwuStart _ _)
  | .fwUpdateDone _ _ _ => keepsNext_execFwUpdateDone _ _ _ _
  | .qspiGo _ => .of_eq (keptAfter_execQspiGo _ _)
  | .qspiSequenceDone _ => .of_eq (keptAfter_execQspiSequenceDone _ _)
  | .powerGood _ => .of_eq (keptAfter_execPowerGood _ _)
  | .resetNAssert _ => keepsNext_execResetNAssert _ _
  | .watchdogReset _ => keepsNext_execWatchdogReset _ _
  | .railLoss _ => keepsNext_execRailLoss _ _
  | .pfailAssert => keepsNext_execPfailAssert _
  | .pfailDeassert => .of_eq (keptAfter_execPfailDeassert _)
  | .perstAssert => .of_eq (keptAfter_execPerstAssert _)
  | .functionLevelReset => .of_eq (keptAfter_execFunctionLevelReset _)
  | .trstAssert => .of_eq (keptAfter_execTrstAssert _)
  | .pcieLinkDown => .of_eq (keptAfter_execPcieLinkDown _)
  | .xtalLoss _ => keepsNext_execXtalLoss _ _
  | .bootDone _ _ _ => keepsNext_execBootDone _ _ _ _
  | .qspiImageReadDone _ _ _ => keepsNext_execQspiImageReadDone _ _ _ _
  | .neighbourServerFound => keepsNext_execNeighbourServerFound _
  | .neighbourFetchResume => keepsNext_execNeighbourFetchResume _
  | .captureMemoryInitDone => .of_eq (keptAfter_execCaptureMemoryInitDone _)
  | .duplicateEntryExpire _ _ => .of_eq (keptAfter_execDuplicateEntryExpire _ _ _)
  | .supplyOutOfRange _ => .of_eq (keptAfter_execSupplyOutOfRange _ _)
  | .thermalLimit => .of_eq (keptAfter_execThermalLimit _)
  | .memoryUe _ _ => .of_eq (keptAfter_execMemoryUe _ _ _)
  | .safeCauseGone _ => .of_eq (keptAfter_execSafeCauseGone _ _)
  | .selfdiagGone _ => .of_eq (keptAfter_execSelfdiagGone _ _)
  | .mclkLockLoss => .of_eq (keptAfter_execMclkLockLoss _)
  | .mclkLockRegained => .of_eq (keptAfter_execMclkLockRegained _)
  | .coefParityError _ _ _ _ => .of_eq (keptAfter_execCoefParityError _ _ _ _ _)
  | .captureEccError _ _ => .of_eq (keptAfter_execCaptureEccError _ _ _)
  | .modulatorRunInEnd _ => .of_eq (keptAfter_execModulatorRunInEnd _ _)
  | .modulatorOverload _ _ _ => .of_eq (keptAfter_execModulatorOverload _ _ _ _)
  | .cmOverload _ _ => .of_eq (keptAfter_execCmOverload _ _ _)
  | .excRampEnd _ => .of_eq (keptAfter_execExcRampEnd _ _)
  | .excOvercurrentOff _ => .of_eq (keptAfter_execExcOvercurrentOff _ _)
  | .excRetryTimer _ => .of_eq (keptAfter_execExcRetryTimer _ _)
  | .excObservation _ _ => .of_eq (keptAfter_execExcObservation _ _ _)
  | .wireCheck _ _ => .of_eq (keptAfter_execWireCheck _ _ _)
  | .wireBreakConfirm _ => .of_eq (keptAfter_execWireBreakConfirm _ _)
  | .wireRecover _ => .of_eq (keptAfter_execWireRecover _ _)
  | .irqNAssert => .of_eq (keptAfter_execIrqNAssert _)
  | .tinEdge _ _ _ => .of_eq (keptAfter_execTinEdge _ _ _ _)
  | .toutPulse _ => .of_eq (keptAfter_execToutPulse _ _)
  | .toutPulseEnd _ => .of_eq (keptAfter_execToutPulseEnd _ _)
  | .tdcEdge _ _ _ _ _ _ => .of_eq (keptAfter_execTdcEdge _ _ _ _ _ _ _)
  | .tdcStartTimeout _ => .of_eq (keptAfter_execTdcStartTimeout _ _)
  | .tdcFreqTimeout _ => .of_eq (keptAfter_execTdcFreqTimeout _ _)
  | .refinWindow _ _ _ => .of_eq (keptAfter_execRefinWindow _ _ _ _)
  | .tdcRefLoss => .of_eq (keptAfter_execTdcRefLoss _)
  | .ppsInEdge _ => .of_eq (keptAfter_execPpsInEdge _ _)
  | .ppsLoss => .of_eq (keptAfter_execPpsLoss _)
  | .rootHoldover _ => .of_eq (keptAfter_execRootHoldover _ _)
  | .syncSend _ => .of_eq (keptAfter_execSyncSend _ _)
  | .pdReqSend _ => .of_eq (keptAfter_execPdReqSend _ _)
  | .pdReq _ _ _ _ => .of_eq (keptAfter_execPdReq _ _ _ _ _)
  | .pdResp _ _ _ _ => .of_eq (keptAfter_execPdResp _ _ _ _ _)
  | .sync _ _ _ _ _ => .of_eq (keptAfter_execSync _ _ _ _ _ _)
  | .domainLoss _ => .of_eq (keptAfter_execDomainLoss _ _)
  | .frameCounterStart => .of_eq (keptAfter_execFrameCounterStart _)
  | .frameCounterAdopt => .of_eq (keptAfter_execFrameCounterAdopt _)
  | .rootBTakeover => .of_eq (keptAfter_execRootBTakeover _)
  | .laneBlockLock _ => .of_eq (keptAfter_execLaneBlockLock _ _)
  | .laneNoPeer _ => .of_eq (keptAfter_execLaneNoPeer _ _)
  | .trainBlock _ _ => .of_eq (keptAfter_execTrainBlock _ _ _)
  | .rateChange _ => .of_eq (keptAfter_execRateChange _ _)
  | .eqTrainDone _ => .of_eq (keptAfter_execEqTrainDone _ _)
  | .laneCheckEnd _ _ => .of_eq (keptAfter_execLaneCheckEnd _ _ _)
  | .am _ _ _ => .of_eq (keptAfter_execAm _ _ _ _)
  | .laneErrorLimit _ => .of_eq (keptAfter_execLaneErrorLimit _ _)
  | .laneLockLoss _ => .of_eq (keptAfter_execLaneLockLoss _ _)
  | .laneRetryTimer _ => .of_eq (keptAfter_execLaneRetryTimer _ _)
  | .adaptWindow _ _ _ _ _ _ _ _ => .of_eq (keptAfter_execAdaptWindow _ _ _ _ _ _ _ _ _)
  | .prbsResync _ => .of_eq (keptAfter_execPrbsResync _ _)
  | .leafSyncChange _ _ => .of_eq (keptAfter_execLeafSyncChange _ _ _)
  | .leafFrame _ _ _ => .of_eq (keptAfter_execLeafFrame _ _ _ _)
  | .leafTimeout _ => .of_eq (keptAfter_execLeafTimeout _ _)
  | .streamFrameReceive _ _ _ _ => .of_eq (keptAfter_execStreamFrameReceive _ _ _ _ _)
  | .triggerFrameReceive _ _ _ => .of_eq (keptAfter_execTriggerFrameReceive _ _ _ _)
  | .claimFrameReceive _ _ _ => .of_eq (keptAfter_execClaimFrameReceive _ _ _ _)
  | .helloReceive _ _ _ => .of_eq (keptAfter_execHelloReceive _ _ _ _)
  | .unknownFrameReceive _ _ _ => .of_eq (keptAfter_execUnknownFrameReceive _ _ _ _)
  | .linkAck _ _ => .of_eq (keptAfter_execLinkAck _ _ _)
  | .linkNak _ _ _ => .of_eq (keptAfter_execLinkNak _ _ _ _)
  | .linkSkip _ _ => .of_eq (keptAfter_execLinkSkip _ _ _)
  | .retransmitTimeout _ => .of_eq (keptAfter_execRetransmitTimeout _ _)
  | .helloSend => .of_eq (keptAfter_execHelloSend _)
  | .discProbeSend _ => .of_eq (keptAfter_execDiscProbeSend _ _)
  | .discFrameReceive _ _ _ => .of_eq (keptAfter_execDiscFrameReceive _ _ _ _)
  | .discProbeTimeout _ => .of_eq (keptAfter_execDiscProbeTimeout _ _)
  | .hubSilent _ => keepsNext_execHubSilent _ _
  | .uplinkSyncGain _ => .of_eq (keptAfter_execUplinkSyncGain _ _)
  | .uplinkSyncLoss _ => .of_eq (keptAfter_execUplinkSyncLoss _ _)
  | .slice _ _ _ _ => .of_eq (keptAfter_execSlice _ _ _ _ _)
  | .podTickBlock _ _ => .of_eq (keptAfter_execPodTickBlock _ _ _)
  | .podTickMiss _ => .of_eq (keptAfter_execPodTickMiss _ _)
  | .echo _ _ => .of_eq (keptAfter_execEcho _ _ _)
  | .podResponse _ _ => .of_eq (keptAfter_execPodResponse _ _ _)
  | .podCmdTimeout _ => .of_eq (keptAfter_execPodCmdTimeout _ _)
  | .podConfigResend _ => .of_eq (keptAfter_execPodConfigResend _ _)
  | .podBind _ => .of_eq (keptAfter_execPodBind _ _)
  | .podNoload _ => .of_eq (keptAfter_execPodNoload _ _)
  | .podOvercurrent _ => .of_eq (keptAfter_execPodOvercurrent _ _)
  | .podOcRetry _ => .of_eq (keptAfter_execPodOcRetry _ _)
  | .podPowerOn _ => .of_eq (keptAfter_execPodPowerOn _ _)
  | .partnerTimeout _ _ => .of_eq (keptAfter_execPartnerTimeout _ _ _)
  | .outputFault _ => .of_eq (keptAfter_execOutputFault _ _)
  | .staleTimeout _ => .of_eq (keptAfter_execStaleTimeout _ _)
  | .resetNDeassert _ => .of_eq (keptAfter_execResetNDeassert _ _)
  | .xtalRestored => .of_eq (keptAfter_execXtalRestored _)
  | .perstDeassert => .of_eq (keptAfter_execPerstDeassert _)
  | .pcieLinkUp _ _ => .of_eq (keptAfter_execPcieLinkUp _ _ _)
  | .dmaResume _ => .of_eq (keptAfter_execDmaResume _ _)
  | .amSend _ => .of_eq (keptAfter_execAmSend _ _)
  | .fldPowerCycleEnd _ => .of_eq (keptAfter_execFldPowerCycleEnd _ _)
  | .tapUpdateIr _ => .of_eq (keptAfter_execTapUpdateIr _ _)
  | .captureMemoryWrite _ => .of_eq (keptAfter_execCaptureMemoryWrite _ _)
  | .reservedRead _ _ _ => .of_eq (keptAfter_execReservedRead _ _ _ _)
  | .refinPresenceLoss => .of_eq (keptAfter_execRefinPresenceLoss _)

/-! ## The statements -/

theorem State.memOk_eq (s : State) : s.memOk = s.kept.memOk := rfl

theorem State.get_minSerial (s : State) : s.get Fld.PAT_MIN_SERIAL.MIN_SERIAL = s.kept.serial.toNat := by
  rw [← State.rd_minSerial]
  simp [State.get, getBits, Fld.PAT_MIN_SERIAL.MIN_SERIAL]

/-- Settles O8: every command keeps the one-time bits set and the serial at least as high. -/
theorem oneTimeValuesNeverGoBack : Obligations.OneTimeValuesNeverGoBack := by
  unfold Obligations.OneTimeValuesNeverGoBack
  intro c s t hexec
  obtain ⟨-, hsign, hserial⟩ : s.Keeps t := exec_keeps c s t hexec
  rw [State.rd_signCfg, State.rd_signCfg, State.get_minSerial, State.get_minSerial]
  exact ⟨hsign, hserial⟩

/-- Settles O7: a step is a clock edge, which changes no memory, or the next command, which keeps all of them canonical. -/
theorem stepKeepsMemoriesCanonical : Obligations.StepKeepsMemoriesCanonical := by
  unfold Obligations.StepKeepsMemoriesCanonical
  intro s t hstep hs
  have hkeeps : s.Keeps t := by
    unfold step at hstep
    split at hstep
    · obtain rfl : s.clockEdge = t := by simpa using hstep
      exact .of_eq (State.kept_clockEdge s)
    · next c rest _ => exact (exec_keeps c _ t hstep).after rfl
  rw [State.memOk_eq] at hs ⊢
  exact hkeeps.mem hs

end Sys2Proof.Machine
end

section
/-! PROOFS. Byte memories, the standby window and PAT_SIGN_CFG (R97, R98, R100, R101, R409). -/

open Sys2Proof Sys2Proof.Machine

namespace Sys2Proof.Machine

/-! ## Byte memories -/

/-- Settles O12: the canonical form is kept, and the bytes stored are those read. -/
theorem memoryReadAfterWrite : Obligations.MemoryReadAfterWrite := by
  unfold Obligations.MemoryReadAfterWrite
  intro m a b bs h
  exact ⟨Memory.wf_writeN a bs h, Memory.read_writeN m a b bs⟩

/-! ## Writes to the standby bank -/

/-- The bank with bytes stored, and PAT_WLEN at its length. -/
def State.stbyStored (s : State) (a : Nat) (bs : List Byte) (len : Nat) : State :=
  ({ s with banks.stby := Memory.writeN s.banks.stby a bs, banks.wlen := len } : State).put Fld.PAT_WLEN.WLEN len

/-- The bank emptied for the first write of a new image. -/
def State.stbyFresh (s : State) : State :=
  ({ s with banks.stby := [], banks.wlen := 0, banks.stbyPat := none } : State).bankTo .writing

/-- The bank is being checked or waits for its commit, and takes no write (R98). -/
def BankState.locked (b : BankState) : Prop := b = .checking ∨ b = .scheduled

/-- The bank holds no image that is being written, so that a write starts a new one. -/
def BankState.restarts (b : BankState) : Prop := b = .empty ∨ b = .checked ∨ b = .rejected ∨ b = .previous

theorem State.stbyWrite_writing {s : State} (a : Nat) (bs : List Byte) (h : s.banks.stbyState = .writing) :
    s.stbyWrite a bs = (false, s.stbyStored a bs (max s.banks.wlen (a + bs.length))) := by
  simp [State.stbyWrite, State.stbyStored, h]

theorem State.stbyWrite_locked {s : State} (a : Nat) (bs : List Byte) (h : s.banks.stbyState.locked) :
    s.stbyWrite a bs = (true, s.put Fld.PAT_STAT.WR_DROP 1) := by
  unfold State.stbyWrite
  rcases h with h | h <;> simp only [h]

theorem State.stbyWrite_restarts {s : State} (a : Nat) (bs : List Byte) (h : s.banks.stbyState.restarts) :
    s.stbyWrite a bs = (false, s.stbyFresh.stbyStored a bs (a + bs.length)) := by
  have hwlen : s.stbyFresh.banks.wlen = 0 := by simp [State.stbyFresh, State.bankTo]
  have hnew : s.stbyWrite a bs = (false, s.stbyFresh.stbyStored a bs (max s.stbyFresh.banks.wlen (a + bs.length))) := by
    unfold State.stbyWrite
    rcases h with h | h | h | h <;> simp only [h] <;> rfl
  rw [hnew, hwlen, Nat.zero_max]

theorem exec_standbyWindowWrite {s : State} (off : Nat) (bs : List Byte) (h : s.mapOpen = true)
    (hfits : off + bs.length ≤ 2 ^ 24) :
    exec (.standbyWindowWrite off bs) s = .next (s.stbyWrite off bs).2 := by
  have hsize : off + bs.length ≤ stbySize := hfits
  simp [exec, execStandbyWindowWrite, h, hsize]

theorem exec_patWdataWrite {s : State} (v : Nat) (h : s.mapOpen = true) :
    let a := s.get Fld.PAT_WADDR.ADDR
    exec (.patWdataWrite v) s = .next ((s.stbyWrite (4 * a) (leBytes 4 v)).2.put Fld.PAT_WADDR.ADDR (a + 1)) := by
  simp [exec, execPatWdataWrite, h]

theorem exec_captureMemoryWrite {s : State} {addr : Nat} (h : addr < s.stbyBase ∨ s.stbyBase + 2 ^ 24 ≤ addr) :
    exec (.captureMemoryWrite addr) s = .next (s.sat Fld.CAP_STAT.WDROP) := by
  have hout : ¬ (s.stbyBase ≤ addr ∧ addr < s.stbyBase + stbySize) := by
    unfold stbySize
    omega
  simp [exec, execCaptureMemoryWrite, hout]

/-! ## PAT_SIGN_CFG -/

theorem State.writeAt_signCfg {s : State} (p : Path) (v : Nat) (h : s.mapOpen = true) :
    s.writeAt p Reg.PAT_SIGN_CFG 0 v = s.wrSignCfg (v % 2 ^ 32) := by
  have hfused : s.fused Reg.PAT_SIGN_CFG 0 = false := by
    simp +decide [State.fused]
  rw [State.writeAt_one h (by decide)]
  simp +decide [State.writeReg, State.writeSys, hfused]

/-- A write of one of the two bits, by the state of the hub and what the register shows. -/
theorem State.wrSignCfg_bit {s : State} {v : Nat} (hv : v = 1 ∨ v = 2) :
    s.wrSignCfg (v % 2 ^ 32) =
      if s.hubState ≠ stMaint then s.put Fld.GLB_ACC_STAT.RWL_DROP 1
      else if s.readByCode Reg.PAT_SIGN_CFG ||| v = s.readByCode Reg.PAT_SIGN_CFG then s
      else
        (s.wr Reg.PAT_SIGN_CFG (BitVec.ofNat 32 (s.readByCode Reg.PAT_SIGN_CFG ||| v))).stage 0x0204
          (leBytes 1 (s.readByCode Reg.PAT_SIGN_CFG ||| v) ++ leBytes 4 (s.get Fld.PAT_MIN_SERIAL.MIN_SERIAL)) := by
  have hserial : ∀ w, (s.wr Reg.PAT_SIGN_CFG w).get Fld.PAT_MIN_SERIAL.MIN_SERIAL = s.get Fld.PAT_MIN_SERIAL.MIN_SERIAL :=
    fun w => State.get_wr_disjoint s w 0 0 0 0 (by decide)
  rcases hv with rfl | rfl <;> simp [State.wrSignCfg, hserial]

/-- The rows of a write to the standby bank, by the state of the bank. -/
theorem standbyBankRows {s : State} (off v : Nat) (bs : List Byte) (hopen : s.mapOpen = true)
    (hfits : off + bs.length ≤ 2 ^ 24) :
    let a := s.get Fld.PAT_WADDR.ADDR
    let data := leBytes 4 v
    (s.banks.stbyState = .writing →
      exec (.standbyWindowWrite off bs) s = .next (s.stbyStored off bs (max s.banks.wlen (off + bs.length))) ∧
      exec (.patWdataWrite v) s =
        .next ((s.stbyStored (4 * a) data (max s.banks.wlen (4 * a + 4))).put Fld.PAT_WADDR.ADDR (a + 1))) ∧
    (s.banks.stbyState.restarts →
      exec (.standbyWindowWrite off bs) s = .next (s.stbyFresh.stbyStored off bs (off + bs.length)) ∧
      exec (.patWdataWrite v) s =
        .next ((s.stbyFresh.stbyStored (4 * a) data (4 * a + 4)).put Fld.PAT_WADDR.ADDR (a + 1))) ∧
    (s.banks.stbyState.locked →
      exec (.standbyWindowWrite off bs) s = .next (s.put Fld.PAT_STAT.WR_DROP 1) ∧
      exec (.patWdataWrite v) s = .next ((s.put Fld.PAT_STAT.WR_DROP 1).put Fld.PAT_WADDR.ADDR (a + 1))) := by
  intro a data
  rw [exec_standbyWindowWrite off bs hopen hfits, exec_patWdataWrite v hopen]
  have hlen : (leBytes 4 v).length = 4 := length_leBytes 4 v
  refine ⟨fun h => ?_, fun h => ?_, fun h => ?_⟩
  · rw [State.stbyWrite_writing _ _ h, State.stbyWrite_writing _ _ h, hlen]
    exact ⟨rfl, rfl⟩
  · rw [State.stbyWrite_restarts _ _ h, State.stbyWrite_restarts _ _ h, hlen]
    exact ⟨rfl, rfl⟩
  · rw [State.stbyWrite_locked _ _ h, State.stbyWrite_locked _ _ h]
    exact ⟨rfl, rfl⟩

/-- Settles O17, from the rows of the bank and the write of a bit of PAT_SIGN_CFG. -/
theorem bankAndSignCfgRows : Obligations.BankAndSignCfgRows := by
  unfold Obligations.BankAndSignCfgRows
  refine ⟨fun s off v bs hopen hfits => ?_, fun s p hopen => ?_⟩
  · obtain ⟨hwriting, hrestarts, hlocked⟩ := standbyBankRows off v bs hopen hfits
    exact ⟨hwriting, hrestarts, hlocked, fun addr => exec_captureMemoryWrite⟩
  · have hexec : ∀ v, s.writeAt p Reg.PAT_SIGN_CFG 0 v = s.wrSignCfg (v % 2 ^ 32) :=
      fun v => State.writeAt_signCfg p v hopen
    have hrequire : exec (.signCfgRequireSet p) s = .next (s.wrSignCfg (1 % 2 ^ 32)) := congrArg _ (hexec 1)
    have hanti : exec (.signCfgAntirollbackSet p) s = .next (s.wrSignCfg (2 % 2 ^ 32)) := congrArg _ (hexec 2)
    rw [hrequire, hanti, State.wrSignCfg_bit (.inl rfl), State.wrSignCfg_bit (.inr rfl)]
    refine ⟨fun hmaint hclear => ?_, fun hmaint hset => ?_, fun hmaint hset => ?_, fun hmaint => ?_⟩
    · have hold : s.readByCode Reg.PAT_SIGN_CFG = 0 := by simp [State.readByCode, hclear]
      simp [hmaint, hold]
    · simp [hmaint, hset]
    · simp [hmaint, hset]
    · simp [hmaint]

end Sys2Proof.Machine
end

section
/-! PROOFS. What the functions behind a commit leave of the Pattern block of the map, the state code and the banks (R114,
R124). The switch of the tables and the entry into a state call most of the model; `State.patView_f` says of each function
`f` among those that it leaves all three as they are. -/

open Sys2Proof Sys2Proof.Machine

namespace Sys2Proof.Machine

/-! ## The view and the operations on registers -/

/-- A register outside the Pattern block of the map. -/
def RegDef.offPat (r : RegDef) : Bool :=
  decide (0x30000 ≤ r.base) || decide (r.base + r.s1 * (r.n1 - 1) + r.s2 * (r.n2 - 1) < 0x20000)

/-- A register that is neither in the Pattern block nor holds the state code. -/
def RegDef.patFree (r : RegDef) : Bool := r.offPat && r.disjoint Reg.GLB_STATE

/-- A field that is neither in the Pattern block nor the state code. -/
def Field.patFree (f : Field) : Bool := f.reg.offPat && f.indep Fld.GLB_STATE.STATE

/-- What a commit is about: the words of the Pattern block, the state code, and the banks. -/
structure PatView where
  words : Nat → Word
  code : Nat
  banks : Banks

/-- A word of the Pattern block; 0 at any other address. -/
def patWordIn (m : Tab Word) (a : Nat) : Word := if 0x20000 ≤ a ∧ a < 0x30000 then tabGet m 0 a else 0

/-- The view that a register file and the banks make. -/
def patViewOf (m : Tab Word) (b : Banks) : PatView := ⟨patWordIn m, stateCodeIn m, b⟩

/-- The view of a state. It unfolds to `patViewOf`, so that a change of another part of the state drops out of it. -/
@[simp] abbrev State.patView (s : State) : PatView := patViewOf s.regs s.banks

section
variable (s : State) (i j : Nat) (b : Banks)

theorem patWordIn_wr {r : RegDef} (v : Word) (h : r.offPat = true) : patWordIn (s.wr r v i j).regs = patWordIn s.regs := by
  funext a
  unfold patWordIn
  split
  · next ha =>
    have hne : ¬ (a = r.at i j ∧ r.has i j = true) := by
      rintro ⟨rfl, hhas⟩
      obtain ⟨hlo, hhi⟩ := RegDef.at_le hhas
      simp only [RegDef.offPat, Bool.or_eq_true, decide_eq_true_eq] at h
      omega
    rw [State.wr_regs, if_neg hne]
  · rfl

@[simp] theorem patViewOf_wr {r : RegDef} (v : Word) (h : r.patFree = true) :
    patViewOf (s.wr r v i j).regs b = patViewOf s.regs b := by
  obtain ⟨hoff, hcode⟩ := Bool.and_eq_true_iff.mp h
  have hsame : stateCodeIn (s.wr r v i j).regs = stateCodeIn s.regs :=
    State.get_wr_disjoint s (g := Fld.GLB_STATE.STATE) v i j 0 0 hcode
  rw [patViewOf, patViewOf, patWordIn_wr s i j v hoff, hsame]

@[simp] theorem patViewOf_put {f : Field} (v : Nat) (h : f.patFree = true) :
    patViewOf (s.put f v i j).regs b = patViewOf s.regs b := by
  obtain ⟨hoff, hcode⟩ := Bool.and_eq_true_iff.mp h
  have hsame : stateCodeIn (s.put f v i j).regs = stateCodeIn s.regs := State.get_put_indep s v i j 0 0 hcode
  have hwords : patWordIn (s.put f v i j).regs = patWordIn s.regs := patWordIn_wr s i j _ hoff
  rw [patViewOf, patViewOf, hwords, hsame]

@[simp] theorem patViewOf_putI {f : Field} (v : Int) (h : f.patFree = true) :
    patViewOf (s.putI f v i j).regs b = patViewOf s.regs b := patViewOf_put s i j b _ h

@[simp] theorem patViewOf_sat {f : Field} (k : Nat) (h : f.patFree = true) :
    patViewOf (s.sat f k i j).regs b = patViewOf s.regs b := patViewOf_put s i j b _ h

@[simp] theorem patViewOf_wrap {f : Field} (k : Nat) (h : f.patFree = true) :
    patViewOf (s.wrap f k i j).regs b = patViewOf s.regs b := patViewOf_put s i j b _ h

/-- The blocks of the units stand above every register of the view. -/
theorem patViewOf_unitBlock {m m' : Tab Word} (h : ∀ a, a < 0x400000 → tabGet m' 0 a = tabGet m 0 a) :
    patViewOf m' b = patViewOf m b := by
  have hcode : stateCodeIn m' = stateCodeIn m := by
    have hreg := h Fld.GLB_STATE.STATE.reg.base (by decide)
    simp only [stateCodeIn, hreg]
  have hwords : patWordIn m' = patWordIn m := by
    funext a
    unfold patWordIn
    split
    · exact h a (by omega)
    · rfl
  rw [patViewOf, patViewOf, hcode, hwords]

@[simp] theorem patViewOf_uPut {f : Field} (v id : Nat) (h : 0x400000 ≤ f.reg.base) :
    patViewOf (s.uPut f v id).regs b = patViewOf s.regs b := by
  refine patViewOf_unitBlock b fun a ha => ?_
  have hne : a ≠ f.reg.base + unitBlock id := by omega
  unfold State.uPut
  dsimp only
  split_ifs <;> simp [tabGet_erase, tabGet_set, hne]

end

@[simp] theorem State.patView_ite (c : Prop) [Decidable c] (s t : State) :
    (if c then s else t).patView = if c then s.patView else t.patView :=
  apply_ite State.patView c s t

@[simp] theorem State.patView_snd_ite {α : Type} (c : Prop) [Decidable c] (x y : α × State) :
    (if c then x else y).2.patView = if c then x.2.patView else y.2.patView :=
  apply_ite (fun z : α × State => z.2.patView) c x y

@[simp] theorem State.patView_when (s : State) (c : Bool) (f : State → State)
    (h : ∀ t : State, (f t).patView = t.patView) : (s.when c f).patView = s.patView := by
  cases c
  · rfl
  · exact h s

theorem State.patView_forEach_mem {α : Type} (s : State) (l : List α) (f : α → State → State)
    (h : ∀ a ∈ l, ∀ t : State, (f a t).patView = t.patView) : (s.forEach l f).patView = s.patView := by
  unfold State.forEach
  induction l generalizing s with
  | nil => rfl
  | cons a l ih =>
    exact (ih _ fun b hb => h b (List.mem_cons_of_mem a hb)).trans (h a List.mem_cons_self s)

@[simp] theorem State.patView_forEach {α : Type} (s : State) (l : List α) (f : α → State → State)
    (h : ∀ a (t : State), (f a t).patView = t.patView) : (s.forEach l f).patView = s.patView :=
  State.patView_forEach_mem s l f fun a _ => h a

/-! ## Shared operations -/

@[simp] theorem State.patView_raise (s : State) (i : Nat) : (s.raise i).patView = s.patView := by simp +decide [State.raise]

@[simp] theorem State.patView_evt (s : State) (f : Field) (src : Nat) (i : Nat) (j : Nat) (hf : f.patFree = true) :
    (s.evt f src i j).patView = s.patView := by
  simp [State.evt, hf]

@[simp] theorem State.patView_takeSeq (s : State) : (s.takeSeq).2.patView = s.patView := by simp +decide [State.takeSeq]

@[simp] theorem State.patView_setJob (s : State) (e : SiltEvent) (copies : List Bool) :
    (s.setJob e copies).patView = s.patView := by
  simp +decide [State.setJob]

@[simp] theorem State.patView_startLogFull (s : State) : s.startLogFull.patView = s.patView := by simp [State.startLogFull]

@[simp] theorem State.patView_startRecord (s : State) (e : SiltEvent) : (s.startRecord e).patView = s.patView := by
  simp +decide [State.startRecord]

@[simp] theorem State.patView_suppress (s : State) (cls t : Nat) : (s.suppress cls t).patView = s.patView := by
  simp +decide [State.suppress]

@[simp] theorem State.patView_fifoLevel (s : State) : s.fifoLevel.patView = s.patView := by simp +decide [State.fifoLevel]

@[simp] theorem State.patView_stage (s : State) (code : Nat) (data : List Byte) :
    (s.stage code data).patView = s.patView := by
  simp +decide [State.stage]

@[simp] theorem State.patView_formDegraded (s : State) : s.formDegraded.patView = s.patView := by
  simp +decide [State.formDegraded]

@[simp] theorem State.patView_degrade (s : State) (live sticky : Field) (on : Bool) (hlive : live.patFree = true)
    (hsticky : sticky.patFree = true) :
    (s.degrade live sticky on).patView = s.patView := by
  simp [State.degrade, hlive, hsticky]

@[simp] theorem State.patView_assertNext (s : State) (unit port : Nat) : (s.assertNext unit port).patView = s.patView := by
  simp [State.assertNext]

@[simp] theorem State.patView_classEvt (s : State) (id : Nat) : (s.classEvt id).patView = s.patView := by
  simp +decide [State.classEvt]

@[simp] theorem State.patView_countEvt (s : State) (id : Nat) : (s.countEvt id).patView = s.patView := by
  simp +decide [State.countEvt]

@[simp] theorem State.patView_ran (s : State) (id : Nat) : (s.ran id).patView = s.patView := by simp +decide [State.ran]

/-! ## Front end -/

@[simp] theorem State.patView_setChan (s : State) (n : Nat) (c : Chan) : (s.setChan n c).patView = s.patView := by rfl
@[simp] theorem State.patView_setChain (s : State) (c : Nat) (x : Chain) : (s.setChain c x).patView = s.patView := by rfl
@[simp] theorem State.patView_resetNext (s : State) (c cause : Nat) : (s.resetNext c cause).patView = s.patView := by rfl

@[simp] theorem State.patView_switchAt (s : State) (n : Nat) (pos : Int) (range : Nat) :
    (s.switchAt n pos range).patView = s.patView := by rfl

@[simp] theorem State.patView_dwell (s : State) (n : Nat) (rtr : Bool) (peak : Nat) :
    (s.dwell n rtr peak).patView = s.patView := by
  simp +decide [State.dwell]

@[simp] theorem State.patView_excRamp (s : State) (n : Nat) : (s.excRamp n).patView = s.patView := by
  simp +decide [State.excRamp]

@[simp] theorem State.patView_excOff (s : State) (n : Nat) : (s.excOff n).patView = s.patView := by
  simp +decide [State.excOff]

@[simp] theorem State.patView_excUpdate (s : State) (changed : List Nat) : (s.excUpdate changed).patView = s.patView := by
  simp +decide [State.excUpdate]

@[simp] theorem State.patView_recoverSample (s : State) (n : Nat) : (s.recoverSample n).patView = s.patView := by
  simp +decide [State.recoverSample]

@[simp] theorem State.patView_modStart (s : State) (n : Nat) : (s.modStart n).patView = s.patView := by
  simp +decide [State.modStart]

@[simp] theorem State.patView_modStop (s : State) (n : Nat) : (s.modStop n).patView = s.patView := by
  simp +decide [State.modStop]

/-! ## Converters -/

@[simp] theorem State.patView_draw (s : State) : (s.draw).2.patView = s.patView := by rfl
@[simp] theorem State.patView_auxShow (s : State) : s.auxShow.patView = s.patView := by simp +decide [State.auxShow]
@[simp] theorem State.patView_auxGo (s : State) (a : AuxAct) : (s.auxGo a).patView = s.patView := by simp [State.auxGo]
@[simp] theorem State.patView_startScan (s : State) : s.startScan.patView = s.patView := by simp [State.startScan]

@[simp] theorem State.patView_auxCommit (s : State) (carried0 carried1 : Bool) :
    (s.auxCommit carried0 carried1).patView = s.patView := by
  unfold State.auxCommit
  dsimp only
  repeat' split
  all_goals simp +decide

@[simp] theorem State.patView_scalResult (s : State) (m result : Nat) : (s.scalResult m result).patView = s.patView := by
  simp +decide [State.scalResult]

@[simp] theorem State.patView_scalCommit (s : State) : s.scalCommit.patView = s.patView := by
  unfold State.scalCommit
  split <;> simp

/-! ## Filters -/

@[simp] theorem State.patView_takeTau (s : State) (c : Nat) (tau : Int) : (s.takeTau c tau).patView = s.patView := by
  simp +decide [State.takeTau]

@[simp] theorem State.patView_alignFails (s : State) (c : Nat) : (s.alignFails c).patView = s.patView := by
  simp +decide [State.alignFails]

@[simp] theorem State.patView_alignEval (s : State) (c : Nat) (take : Bool) : (s.alignEval c take).patView = s.patView := by
  simp +decide [State.alignEval]

@[simp] theorem State.patView_showSettling (s : State) (c : Nat) (on : Bool) :
    (s.showSettling c on).patView = s.patView := by
  simp +decide [State.showSettling]

@[simp] theorem State.patView_syncReset (s : State) (c cause : Nat) : (s.syncReset c cause).patView = s.patView := by
  simp +decide [State.syncReset]

@[simp] theorem State.patView_countSettled (s : State) (c : Nat) : (s.countSettled c).patView = s.patView := by
  simp +decide [State.countSettled]

@[simp] theorem State.patView_ownSample (s : State) (c : Nat) : (s.ownSample c).2.patView = s.patView := by
  simp +decide [State.ownSample, apply_ite Prod.snd]

@[simp] theorem State.patView_setOutput (s : State) (u : PatUnit) (word : Nat) :
    (s.setOutput u word).patView = s.patView := by
  simp +decide [State.setOutput]

/-! ## Calibration -/

@[simp] theorem State.patView_setRef (s : State) (c : Nat) (rho : Int) : (s.setRef c rho).patView = s.patView := by
  simp +decide [State.setRef]

@[simp] theorem State.patView_calShow (s : State) : s.calShow.patView = s.patView := by simp +decide [State.calShow]

@[simp] theorem State.patView_calGo (s : State) (p : CalPhase) (w : Option Swap) : (s.calGo p w).patView = s.patView := by
  simp [State.calGo]

@[simp] theorem State.patView_mendDegraded (s : State) : s.mendDegraded.patView = s.patView := by
  simp +decide [State.mendDegraded]

@[simp] theorem State.patView_calResult (s : State) (c result source : Nat) (rho : Int) (record : Bool) :
    (s.calResult c result source rho record).patView = s.patView := by
  simp +decide [State.calResult]

@[simp] theorem State.patView_mendResult (s : State) (m result : Nat) (rho : Int) (source : Nat) :
    (s.mendResult m result rho source).patView = s.patView := by
  simp +decide [State.mendResult]

@[simp] theorem State.patView_calRest (s : State) (c : Nat) : (s.calRest c).patView = s.patView := by
  simp +decide [State.calRest]

@[simp] theorem State.patView_forceCoefs (s : State) (c : Nat) (k : Coefs) : (s.forceCoefs c k).patView = s.patView := by
  simp +decide [State.forceCoefs]

@[simp] theorem State.patView_reconnect (s : State) (w : Swap) (k : Coefs) : (s.reconnect w k).patView = s.patView := by
  simp +decide [State.reconnect]

@[simp] theorem State.patView_calEnd (s : State) (code : Nat) : (s.calEnd code).patView = s.patView := by
  unfold State.calEnd
  repeat' split
  all_goals simp

/-! ## Timeline -/

@[simp] theorem State.patView_movePeriods (s : State) (d k : Int) : (s.movePeriods d k).patView = s.patView := by rfl

/-! ## Time -/

@[simp] theorem State.patView_setPd (s : State) (p : Nat) (x : PdPort) : (s.setPd p x).patView = s.patView := by rfl

@[simp] theorem State.patView_showPd (s : State) (p : Nat) : (s.showPd p).patView = s.patView := by
  unfold State.showPd
  split <;> simp +decide

@[simp] theorem State.patView_pdRestart (s : State) (p : Nat) : (s.pdRestart p).patView = s.patView := by
  simp [State.pdRestart]

@[simp] theorem State.patView_toutLate (s : State) (k : Nat) : (s.toutLate k).patView = s.patView := by
  simp +decide [State.toutLate]

@[simp] theorem State.patView_toutPlan (s : State) (u : PatUnit) (start lim : Int) :
    (s.toutPlan u start lim).patView = s.patView := by
  simp [State.toutPlan]

@[simp] theorem State.patView_toutRest (s : State) : s.toutRest.patView = s.patView := by simp +decide [State.toutRest]

@[simp] theorem State.patView_wrAsym (s : State) (p v : Nat) : (s.wrAsym p v).patView = s.patView := by
  unfold State.wrAsym
  split <;> simp +decide

/-! ## Edge timing -/

@[simp] theorem State.patView_setTdc (s : State) (k : Nat) (x : TdcIn) : (s.setTdc k x).patView = s.patView := by
  simp +decide [State.setTdc]

@[simp] theorem State.patView_tdcStart (s : State) (k : Nat) : (s.tdcStart k).patView = s.patView := by
  simp +decide [State.tdcStart]

/-! ## Capture -/

@[simp] theorem State.patView_setTrig (s : State) (t : Nat) (x : Trig) : (s.setTrig t x).patView = s.patView := by
  simp +decide [State.setTrig]

@[simp] theorem State.patView_trigStart (s : State) (u : PatUnit) : (s.trigStart u).patView = s.patView := by
  simp +decide [State.trigStart]

@[simp] theorem State.patView_trigEnd (s : State) (t : Nat) : (s.trigEnd t).patView = s.patView := by
  simp +decide [State.trigEnd]

@[simp] theorem State.patView_setEngine (s : State) (u : PatUnit) (x : Engine) : (s.setEngine u x).patView = s.patView := by
  simp +decide [State.setEngine]

@[simp] theorem State.patView_capAbort (s : State) (u : PatUnit) : (s.capAbort u).patView = s.patView := by
  simp +decide [State.capAbort]

@[simp] theorem State.patView_capRun (s : State) : s.capRun.patView = s.patView := by simp [State.capRun]
@[simp] theorem State.patView_capLeave (s : State) : s.capLeave.patView = s.patView := by simp +decide [State.capLeave]

@[simp] theorem State.patView_capStart (s : State) (u : PatUnit) : (s.capStart u).patView = s.patView := by
  simp +decide [State.capStart]

@[simp] theorem State.patView_capEnd (s : State) (e : Nat) : (s.capEnd e).patView = s.patView := by
  simp +decide [State.capEnd]

/-! ## Loops -/

@[simp] theorem State.patView_setSlot (s : State) (k : Nat) (x : LoopSlot) : (s.setSlot k x).patView = s.patView := by
  simp +decide [State.setSlot]

@[simp] theorem State.patView_loopRun (s : State) : s.loopRun.patView = s.patView := by simp +decide [State.loopRun]
@[simp] theorem State.patView_loopLeave (s : State) : s.loopLeave.patView = s.patView := by simp +decide [State.loopLeave]

@[simp] theorem State.patView_loopWires (s : State) (u : PatUnit) : (s.loopWires u).patView = s.patView := by
  simp +decide [State.loopWires]

@[simp] theorem State.patView_loopStart (s : State) (u : PatUnit) : (s.loopStart u).patView = s.patView := by
  simp +decide [State.loopStart]

@[simp] theorem State.patView_loopEnd (s : State) (k : Nat) : (s.loopEnd k).patView = s.patView := by
  simp +decide [State.loopEnd]

/-! ## Sluices -/

@[simp] theorem State.patView_setSlu (s : State) (o : Nat) (x : Sluice) : (s.setSlu o x).patView = s.patView := by
  simp +decide [State.setSlu]

@[simp] theorem State.patView_partnerDegraded (s : State) : s.partnerDegraded.patView = s.patView := by
  simp +decide [State.partnerDegraded]

@[simp] theorem State.patView_sluNext (s : State) (u : PatUnit) (word state : Nat) :
    (s.sluNext u word state).patView = s.patView := by
  simp +decide [State.sluNext]

@[simp] theorem State.patView_sluPark (s : State) : s.sluPark.patView = s.patView := by simp +decide [State.sluPark]
@[simp] theorem State.patView_sluRun (s : State) : s.sluRun.patView = s.patView := by simp [State.sluRun]

@[simp] theorem State.patView_sluStart (s : State) (u : PatUnit) : (s.sluStart u).patView = s.patView := by
  simp +decide [State.sluStart]

@[simp] theorem State.patView_sluEnd (s : State) (o : Nat) : (s.sluEnd o).patView = s.patView := by
  simp +decide [State.sluEnd]

/-! ## Ring -/

@[simp] theorem State.patView_setRport (s : State) (p : Nat) (x : RingPort) : (s.setRport p x).patView = s.patView := by
  simp +decide [State.setRport]

@[simp] theorem State.patView_ringPort (s : State) (p : Nat) (up : Bool) : (s.ringPort p up).patView = s.patView := by
  unfold State.ringPort
  split_ifs <;> simp +decide

@[simp] theorem State.patView_setConf (s : State) (k : Nat) (x : Conf) : (s.setConf k x).patView = s.patView := by
  simp +decide [State.setConf]

@[simp] theorem State.patView_setId (s : State) (id src : Nat) : (s.setId id src).patView = s.patView := by
  simp +decide [State.setId]

@[simp] theorem State.patView_subStart (s : State) (u : PatUnit) : (s.subStart u).patView = s.patView := by
  simp +decide [State.subStart]

@[simp] theorem State.patView_subEnd (s : State) (k : Nat) : (s.subEnd k).patView = s.patView := by
  simp +decide [State.subEnd]

/-! ## Lanes -/

@[simp] theorem State.patView_setLane (s : State) (n : Nat) (x : Lane) : (s.setLane n x).patView = s.patView := by rfl

@[simp] theorem State.patView_laneTo (s : State) (n st : Nat) : (s.laneTo n st).patView = s.patView := by
  simp +decide [State.laneTo]

@[simp] theorem State.patView_detect (s : State) (n rate : Nat) : (s.detect n rate).patView = s.patView := by
  simp +decide [State.detect]

@[simp] theorem State.patView_laneOff (s : State) (n : Nat) : (s.laneOff n).patView = s.patView := by
  simp +decide [State.laneOff]

@[simp] theorem State.patView_laneBlind (s : State) (n : Nat) : (s.laneBlind n).patView = s.patView := by
  simp +decide [State.laneBlind]

@[simp] theorem State.patView_laneRestart (s : State) (n rate : Nat) : (s.laneRestart n rate).patView = s.patView := by
  simp [State.laneRestart]

@[simp] theorem State.patView_laneDegraded (s : State) : s.laneDegraded.patView = s.patView := by
  simp +decide [State.laneDegraded]

@[simp] theorem State.patView_portRestart (s : State) (p : Nat) : (s.portRestart p).patView = s.patView := by
  simp +decide [State.portRestart]

@[simp] theorem State.patView_setActive (s : State) (p : Nat) (set : List Nat) :
    (s.setActive p set).patView = s.patView := by
  simp +decide [State.setActive]

@[simp] theorem State.patView_lanePol (s : State) : s.lanePol.patView = s.patView := by simp +decide [State.lanePol]

@[simp] theorem State.patView_laneCommit (s : State) (before : List ((Nat × Nat) × Bool)) :
    (s.laneCommit before).patView = s.patView := by
  simp +decide [State.laneCommit]

/-! ## Field ports -/

@[simp] theorem State.patView_setFport (s : State) (p : Nat) (x : FieldPort) : (s.setFport p x).patView = s.patView := by rfl

@[simp] theorem State.patView_toLstate (s : State) (p st : Nat) : (s.toLstate p st).patView = s.patView := by
  simp +decide [State.toLstate]

@[simp] theorem State.patView_fevt (s : State) (f : Field) (p : Nat) (hf : f.patFree = true) :
    (s.fevt f p).patView = s.patView := by
  simp [State.fevt, hf]

@[simp] theorem State.patView_setPower (s : State) (p : Nat) (on : Bool) : (s.setPower p on).patView = s.patView := by
  simp +decide [State.setPower]

@[simp] theorem State.patView_dropPower (s : State) (p : Nat) : (s.dropPower p).patView = s.patView := by
  simp [State.dropPower]

@[simp] theorem State.patView_podSend (s : State) (p start : Nat) (body : List Byte) :
    (s.podSend p start body).patView = s.patView := by rfl

@[simp] theorem State.patView_sendFieldCmd (s : State) (p : Nat) (c : FieldCmd) :
    (s.sendFieldCmd p c).patView = s.patView := by rfl

@[simp] theorem State.patView_nextFieldCmd (s : State) (p : Nat) : (s.nextFieldCmd p).patView = s.patView := by
  unfold State.nextFieldCmd
  dsimp only
  split <;> simp

@[simp] theorem State.patView_queueCmds (s : State) (p : Nat) (l : List (Nat × List Byte)) :
    (s.queueCmds p l).patView = s.patView := by
  simp [State.queueCmds]

@[simp] theorem State.patView_discover (s : State) (p : Nat) : (s.discover p).patView = s.patView := by
  simp +decide [State.discover]

@[simp] theorem State.patView_fieldAdvance (s : State) (p : Nat) : (s.fieldAdvance p).patView = s.patView := by
  simp [State.fieldAdvance]

@[simp] theorem State.patView_foreign (s : State) (p code : Nat) : (s.foreign p code).patView = s.patView := by
  simp +decide [State.foreign]

@[simp] theorem State.patView_judgePod (s : State) (p : Nat) : (s.judgePod p).patView = s.patView := by
  simp +decide [State.judgePod]

@[simp] theorem State.patView_startChain (s : State) (c cause : Nat) : (s.startChain c cause).patView = s.patView := by
  unfold State.startChain
  dsimp only
  repeat' split
  all_goals simp

@[simp] theorem State.patView_applyLayout (s : State) (p : Nat) : (s.applyLayout p).patView = s.patView := by
  simp +decide [State.applyLayout]

@[simp] theorem State.patView_podLinkDegraded (s : State) : s.podLinkDegraded.patView = s.patView := by
  simp +decide [State.podLinkDegraded]

@[simp] theorem State.patView_fieldStart (s : State) (p : Nat) : (s.fieldStart p).patView = s.patView := by
  simp +decide [State.fieldStart]

@[simp] theorem State.patView_fieldStop (s : State) (p : Nat) : (s.fieldStop p).patView = s.patView := by
  simp +decide [State.fieldStop]

@[simp] theorem State.patView_fieldStates (s : State) : s.fieldStates.patView = s.patView := by simp [State.fieldStates]

@[simp] theorem State.patView_fieldCommit (s : State) (old : List PatUnit) : (s.fieldCommit old).patView = s.patView := by
  unfold State.fieldCommit
  rw [State.patView_fieldStates]
  refine State.patView_forEach _ _ _ fun p t => ?_
  split
  · rfl
  · simp
  · simp
  · simp +decide

/-! ## Queues -/

@[simp] theorem State.patView_setQueue (s : State) (q : Nat) (x : Queue) : (s.setQueue q x).patView = s.patView := by
  simp +decide [State.setQueue]

@[simp] theorem State.patView_qPoison (s : State) (q n : Nat) : (s.qPoison q n).patView = s.patView := by
  simp +decide [State.qPoison]

@[simp] theorem State.patView_setDring (s : State) (r : Nat) (x : Ring) : (s.setDring r x).patView = s.patView := by rfl

@[simp] theorem State.patView_ringWriteBack (s : State) (r : Nat) (d : Descriptor) (done status : Nat) (poison gap : Bool) :
    (s.ringWriteBack r d done status poison gap).patView = s.patView := by
  simp +decide [State.ringWriteBack]

@[simp] theorem State.patView_hostData (s : State) (addr : Nat) (bytes : List Byte) :
    (s.hostData addr bytes).patView = s.patView := by
  simp [State.hostData]

@[simp] theorem State.patView_ringDrain (s : State) (r status : Nat) (bad : List Nat) :
    (s.ringDrain r status bad).patView = s.patView := by
  unfold State.ringDrain
  split <;> simp

@[simp] theorem State.patView_setBank (s : State) (p : Path) (b : PathBank) : (s.setBank p b).patView = s.patView := by
  unfold State.setBank
  split <;> simp

@[simp] theorem State.patView_latchPop (s : State) (p : Path) (q hi marker poison : Nat) :
    (s.latchPop p q hi marker poison).patView = s.patView := by
  simp +decide [State.latchPop]

@[simp] theorem State.patView_popEmpty (s : State) (q : Nat) (path : Path) (refused : Bool) :
    (s.popEmpty q path refused).patView = s.patView := by
  simp +decide [State.popEmpty]

@[simp] theorem State.patView_queuePlaces (s : State) : s.queuePlaces.patView = s.patView := by
  simp +decide [State.queuePlaces]

@[simp] theorem State.patView_queueStart (s : State) (u : PatUnit) : (s.queueStart u).patView = s.patView := by
  simp +decide [State.queueStart]

@[simp] theorem State.patView_queueEnd (s : State) (q : Nat) : (s.queueEnd q).patView = s.patView := by
  unfold State.queueEnd
  dsimp only
  split <;> simp +decide

/-! ## Wrings -/

@[simp] theorem State.patView_setWjob (s : State) (j : Nat) (w : WringJob) : (s.setWjob j w).patView = s.patView := by
  simp +decide [State.setWjob]

@[simp] theorem State.patView_wringEnd (s : State) (j result out check : Nat) :
    (s.wringEnd j result out check).patView = s.patView := by
  unfold State.wringEnd
  split <;> simp +decide

@[simp] theorem State.patView_unpost (s : State) (r : Nat) : (s.unpost r).patView = s.patView := by rfl

@[simp] theorem State.patView_refuseInput (s : State) (j : Nat) : (s.refuseInput j).patView = s.patView := by
  unfold State.refuseInput
  split <;> simp

@[simp] theorem State.patView_wringFail (s : State) (j result : Nat) : (s.wringFail j result).patView = s.patView := by
  unfold State.wringFail
  split <;> simp

@[simp] theorem State.patView_wringUnitEnd (s : State) (j : Nat) : (s.wringUnitEnd j).patView = s.patView := by
  unfold State.wringUnitEnd
  split <;> simp +decide

@[simp] theorem State.patView_wringUnitStart (s : State) (u : PatUnit) : (s.wringUnitStart u).patView = s.patView := by
  simp +decide [State.wringUnitStart]

/-! ## DMA and notices -/

@[simp] theorem State.patView_headDegraded (s : State) : s.headDegraded.patView = s.patView := by
  simp +decide [State.headDegraded]

@[simp] theorem State.patView_failRingJobs (s : State) (r : Nat) : (s.failRingJobs r).patView = s.patView := by
  unfold State.failRingJobs
  refine State.patView_forEach _ _ _ fun k t => ?_
  split
  · split_ifs <;> simp
  · rfl

@[simp] theorem State.patView_ringOff (s : State) (r : Nat) : (s.ringOff r).patView = s.patView := by
  simp +decide [State.ringOff]

@[simp] theorem State.patView_ringDisable (s : State) (r : Nat) : (s.ringDisable r).patView = s.patView := by
  unfold State.ringDisable
  repeat' split
  all_goals simp

@[simp] theorem State.patView_wringBind (s : State) (u : PatUnit) : (s.wringBind u).patView = s.patView := by
  simp +decide [State.wringBind]

/-! ## Agreement -/

@[simp] theorem State.patView_stateRecord (s : State) (prev new : Nat) : (s.stateRecord prev new).patView = s.patView := by
  simp [State.stateRecord]

/-! ## Hub states -/

@[simp] theorem State.patView_chainsStart (s : State) : s.chainsStart.patView = s.patView := by simp [State.chainsStart]

/-! ## Power management -/

@[simp] theorem State.patView_pdEval (s : State) : s.pdEval.patView = s.patView := by simp +decide [State.pdEval]

/-! ## Loader -/

@[simp] theorem State.patView_showDigestIn (s : State) (r : RegDef) (d : List Byte) (hr : r.patFree = true) :
    (s.showDigestIn r d).patView = s.patView := by
  simp [State.showDigestIn, hr]

@[simp] theorem State.patView_patEvent (s : State) (f : Field) (hf : f.patFree = true) :
    (s.patEvent f).patView = s.patView := by
  simp [State.patEvent, hf]

/-! ## Commit -/

@[simp] theorem State.patView_wipe (s : State) (rs : List RegDef) (i : Nat) (hr : ∀ r ∈ rs, r.patFree = true) :
    (s.wipe rs i).patView = s.patView := by
  refine State.patView_forEach_mem _ _ _ fun r h t => ?_
  simp [hr r h]

@[simp] theorem State.patView_filterEnd (s : State) (c : Nat) : (s.filterEnd c).patView = s.patView := by
  simp +decide [State.filterEnd]

@[simp] theorem State.patView_thrEnd (s : State) (i : Nat) : (s.thrEnd i).patView = s.patView := by
  simp +decide [State.thrEnd]

@[simp] theorem State.patView_tdcEnd (s : State) (k : Nat) : (s.tdcEnd k).patView = s.patView := by
  simp +decide [State.tdcEnd]

@[simp] theorem State.patView_tinEnd (s : State) (k : Nat) : (s.tinEnd k).patView = s.patView := by
  simp +decide [State.tinEnd]

@[simp] theorem State.patView_toutEnd (s : State) (k : Nat) : (s.toutEnd k).patView = s.patView := by
  simp +decide [State.toutEnd]

@[simp] theorem State.patView_loopGone (s : State) (k : Nat) : (s.loopGone k).patView = s.patView := by
  unfold State.loopGone
  rw [State.patView_loopEnd]
  refine State.patView_forEach _ _ _ fun r t => ?_
  split <;> simp

@[simp] theorem State.patView_endUnit (s : State) (new : List PatUnit) (u : PatUnit) :
    (s.endUnit new u).patView = s.patView := by
  unfold State.endUnit
  split <;> simp +decide

@[simp] theorem State.patView_filterSettings (s : State) (u : PatUnit) : (s.filterSettings u).patView = s.patView := by
  simp +decide [State.filterSettings]

@[simp] theorem State.patView_filterStart (s : State) (u : PatUnit) : (s.filterStart u).patView = s.patView := by
  simp [State.filterStart]

@[simp] theorem State.patView_tdcUnitStart (s : State) (u : PatUnit) : (s.tdcUnitStart u).patView = s.patView := by
  simp +decide [State.tdcUnitStart]

@[simp] theorem State.patView_toutUnitStart (s : State) (u : PatUnit) : (s.toutUnitStart u).patView = s.patView := by
  simp +decide [State.toutUnitStart]

@[simp] theorem State.patView_startUnit (s : State) (u : PatUnit) : (s.startUnit u).patView = s.patView := by
  unfold State.startUnit
  split <;> simp +decide

@[simp] theorem State.patView_channelReset (s : State) (n : Nat) : (s.channelReset n).patView = s.patView := by
  simp +decide [State.channelReset]

@[simp] theorem State.patView_channelCommit (s : State) (carried : Bool) (n : Nat) :
    (s.channelCommit carried n).patView = s.patView := by
  simp +decide [State.channelCommit]

@[simp] theorem State.patView_uWord (s : State) (r : RegDef) (id v : Nat) (hr : 0x400000 ≤ r.base) :
    (s.uWord r id v).patView = s.patView := by
  refine patViewOf_unitBlock _ fun a ha => ?_
  have hne : a ≠ r.base + unitBlock id := by omega
  unfold State.uWord
  dsimp only
  split_ifs <;> simp [tabGet_erase, tabGet_set, hne]

@[simp] theorem State.patView_unitBlockCommit (s : State) (p : Pattern) (carried : Bool) (u : PatUnit) :
    (s.unitBlockCommit p carried u).patView = s.patView := by
  simp +decide [State.unitBlockCommit]

@[simp] theorem State.patView_blocksCommit (s : State) (p : Pattern) (kept : List PatUnit) :
    (s.blocksCommit p kept).patView = s.patView := by
  unfold State.blocksCommit
  extract_lets +onlyGivenNames ids window cleared
  have hcleared : cleared.patView = s.patView := by
    refine patViewOf_unitBlock _ fun a ha => tabGet_filter s.regs _ fun w => ?_
    have hbelow : window a = false := by
      unfold window
      simp only [decide_eq_false_iff_not]
      omega
    simp [hbelow]
  rw [← hcleared]
  exact State.patView_forEach _ _ _ fun u t => by simp

@[simp] theorem State.patView_flowCommit (s : State) (kept : List PatUnit) : (s.flowCommit kept).patView = s.patView := by
  rfl

@[simp] theorem State.patView_policyCommit (s : State) : s.policyCommit.patView = s.patView := by
  simp +decide [State.policyCommit]

@[simp] theorem State.patView_orderCommit (s : State) : s.orderCommit.patView = s.patView := by
  unfold State.orderCommit
  split <;> simp +decide

@[simp] theorem State.patView_subsCommit (s : State) (old : Option Pattern) (olds : List (Nat × Nat × Conf)) :
    (s.subsCommit old olds).patView = s.patView := by
  refine State.patView_forEach _ _ _ fun u t => ?_
  split <;> simp

@[simp] theorem State.patView_chainCommit (s : State) (c : Nat) : (s.chainCommit c).patView = s.patView := by
  simp +decide [State.chainCommit]

@[simp] theorem State.patView_swapCommit (s : State) (kept : List PatUnit) : (s.swapCommit kept).patView = s.patView := by
  unfold State.swapCommit
  split <;> simp

end Sys2Proof.Machine
end

section
/-! PROOFS. The end of the loader's check, irrevocability, the switch and the power-up commit (R102, R114, R121, R122). -/

open Sys2Proof Sys2Proof.Machine

namespace Sys2Proof.Machine

/-! ## Reads of the Pattern block -/

/-- Every register of the family is in the Pattern block. -/
def RegDef.inPat (r : RegDef) : Bool :=
  decide (0x20000 ≤ r.base) && decide (r.base + r.s1 * (r.n1 - 1) + r.s2 * (r.n2 - 1) < 0x30000)

theorem State.rd_of_patView {s t : State} {r : RegDef} {i j : Nat} (h : t.patView = s.patView) (hr : r.inPat = true) :
    t.rd r i j = s.rd r i j := by
  unfold State.rd
  split
  · next hhas =>
    obtain ⟨hlo, hhi⟩ := RegDef.at_le hhas
    simp only [RegDef.inPat, Bool.and_eq_true, decide_eq_true_eq] at hr
    have hword := congrFun (congrArg PatView.words h) (r.at i j)
    have hin : 0x20000 ≤ r.at i j ∧ r.at i j < 0x30000 := by omega
    simp only [patViewOf, patWordIn, if_pos hin] at hword
    rw [hword]
  · rfl

theorem State.get_of_patView {s t : State} {f : Field} {i j : Nat} (h : t.patView = s.patView) (hf : f.reg.inPat = true) :
    t.get f i j = s.get f i j := by
  rw [State.get, State.get, State.rd_of_patView h hf]

theorem State.banks_of_patView {s t : State} (h : t.patView = s.patView) : t.banks = s.banks := congrArg PatView.banks h

theorem State.hubState_of_patView {s t : State} (h : t.patView = s.patView) : t.hubState = s.hubState :=
  congrArg PatView.code h

section
variable (s : State) {r : RegDef} {f : Field} (i j : Nat)

@[simp] theorem State.rd_stage (c : Nat) (d : List Byte) (h : r.inPat = true) : (s.stage c d).rd r i j = s.rd r i j :=
  State.rd_of_patView (State.patView_stage s c d) h
@[simp] theorem State.get_stage (c : Nat) (d : List Byte) (h : f.reg.inPat = true) :
    (s.stage c d).get f i j = s.get f i j := State.get_of_patView (State.patView_stage s c d) h
@[simp] theorem State.rd_raise (k : Nat) (h : r.inPat = true) : (s.raise k).rd r i j = s.rd r i j :=
  State.rd_of_patView (State.patView_raise s k) h
@[simp] theorem State.get_raise (k : Nat) (h : f.reg.inPat = true) : (s.raise k).get f i j = s.get f i j :=
  State.get_of_patView (State.patView_raise s k) h
@[simp] theorem State.rd_pdEval (h : r.inPat = true) : s.pdEval.rd r i j = s.rd r i j :=
  State.rd_of_patView (State.patView_pdEval s) h
@[simp] theorem State.get_pdEval (h : f.reg.inPat = true) : s.pdEval.get f i j = s.get f i j :=
  State.get_of_patView (State.patView_pdEval s) h

@[simp] theorem State.rd_patEvent {g : Field} (h : r.inPat = true) (hg : g.reg.disjoint r = true) :
    (s.patEvent g).rd r i j = s.rd r i j := by
  unfold State.patEvent State.evt
  split
  · rfl
  · rw [State.rd_raise _ _ _ _ h, State.rd_put_disjoint _ _ _ _ _ _ hg]

@[simp] theorem State.get_patEvent {g : Field} (h : f.reg.inPat = true) (hg : g.indep f = true) :
    (s.patEvent g).get f i j = s.get f i j := by
  unfold State.patEvent State.evt
  split
  · rfl
  · rw [State.get_raise _ _ _ _ h, State.get_put_indep _ _ _ _ _ _ hg]

/-- An event of one bit is seen after it. -/
theorem State.is_patEvent_same {g : Field} (h : g.reg.inPat = true) (hw : g.lsb + g.width ≤ 32 ∧ 0 < g.width)
    (hhas : g.reg.has 0 0 = true) : (s.patEvent g).is g = true := by
  unfold State.patEvent State.evt
  split
  · assumption
  · have hone : 1 % 2 ^ g.width = 1 := Nat.mod_eq_of_lt (Nat.one_lt_two_pow (by omega))
    rw [State.is, State.get_raise _ _ _ _ h, State.get_put_same _ _ _ _ hw.1 hhas, hone]
    rfl

/-- A family of registers written in turn: other registers keep their value. -/
theorem State.rd_forEach_disjoint {α : Type} (l : List α) (g : α → State → State)
    (h : ∀ a (t : State), (g a t).rd r i j = t.rd r i j) : (s.forEach l g).rd r i j = s.rd r i j := by
  unfold State.forEach
  induction l generalizing s with
  | nil => rfl
  | cons a l ih => exact (ih _).trans (h a s)

@[simp] theorem State.rd_showDigestIn {q : RegDef} (d : List Byte) (h : q.disjoint r = true) :
    (s.showDigestIn q d).rd r i j = s.rd r i j :=
  s.rd_forEach_disjoint i j _ _ fun _ _ => State.rd_wr_disjoint _ _ _ _ _ _ h

@[simp] theorem State.get_showDigestIn {q : RegDef} (d : List Byte) (h : q.disjoint f.reg = true) :
    (s.showDigestIn q d).get f i j = s.get f i j := by
  rw [State.get, State.get, State.rd_showDigestIn _ _ _ _ h]

end

/-! ## What a commit leaves aside -/

/-- A state without the parts that the check and the completion of a commit touch: registers, banks, log and host. -/
@[simp] abbrev State.aside (s : State) : State :=
  { s with regs := [], banks := State.reset.banks, silt := State.reset.silt, host := State.reset.host }

theorem State.eq_of_aside {s t : State} (h : t.aside = s.aside) :
    t = { s with regs := t.regs, banks := t.banks, silt := t.silt, host := t.host } := by
  have hput := congrArg (fun u : State => { u with regs := t.regs, banks := t.banks, silt := t.silt, host := t.host }) h
  exact hput

theorem State.seq_of_aside {s t : State} (h : t.aside = s.aside) : t.seq = s.seq := by
  have hseq := congrArg State.seq h
  exact hseq

section
variable (s : State)

@[simp] theorem State.aside_wr (r : RegDef) (v : Word) (i j : Nat) : (s.wr r v i j).aside = s.aside := by
  rw [State.wr_frame]

@[simp] theorem State.aside_put (f : Field) (v i j : Nat) : (s.put f v i j).aside = s.aside := State.aside_wr _ _ _ _ _
@[simp] theorem State.aside_sat (f : Field) (k i j : Nat) : (s.sat f k i j).aside = s.aside := State.aside_wr _ _ _ _ _

@[simp] theorem State.aside_ite (c : Prop) [Decidable c] (t : State) :
    (if c then s else t).aside = if c then s.aside else t.aside := apply_ite State.aside c s t

@[simp] theorem State.aside_when (c : Bool) (f : State → State) (h : ∀ t : State, (f t).aside = t.aside) :
    (s.when c f).aside = s.aside := by
  cases c
  · rfl
  · exact h s

@[simp] theorem State.aside_forEach {α : Type} (l : List α) (f : α → State → State)
    (h : ∀ a (t : State), (f a t).aside = t.aside) : (s.forEach l f).aside = s.aside := by
  unfold State.forEach
  induction l generalizing s with
  | nil => rfl
  | cons a l ih => exact (ih _).trans (h a s)

@[simp] theorem State.aside_raise (i : Nat) : (s.raise i).aside = s.aside := by simp [State.raise]
@[simp] theorem State.aside_patEvent (f : Field) : (s.patEvent f).aside = s.aside := by simp [State.patEvent, State.evt]
@[simp] theorem State.aside_suppress (c t : Nat) : (s.suppress c t).aside = s.aside := by simp [State.suppress]
@[simp] theorem State.aside_fifoLevel : s.fifoLevel.aside = s.aside := by simp [State.fifoLevel]
@[simp] theorem State.aside_setJob (e : SiltEvent) (l : List Bool) : (s.setJob e l).aside = s.aside := by
  simp [State.setJob, State.takeSeq]
@[simp] theorem State.aside_startLogFull : s.startLogFull.aside = s.aside := by simp [State.startLogFull]
@[simp] theorem State.aside_startRecord (e : SiltEvent) : (s.startRecord e).aside = s.aside := by simp [State.startRecord]
@[simp] theorem State.aside_stage (c : Nat) (d : List Byte) : (s.stage c d).aside = s.aside := by simp [State.stage]
@[simp] theorem State.aside_showCheck (r : Reject) : (s.showCheck r).aside = s.aside := by simp [State.showCheck]
@[simp] theorem State.aside_showDigestIn (r : RegDef) (d : List Byte) : (s.showDigestIn r d).aside = s.aside := by
  simp [State.showDigestIn]
@[simp] theorem State.aside_pdEval : s.pdEval.aside = s.aside := by simp [State.pdEval]
@[simp] theorem State.aside_bankTo (b : BankState) : (s.bankTo b).aside = s.aside := by simp [State.bankTo]

end

/-! ## The switch of the tables and the move of the state -/

theorem patViewOf_of_patView {s t : State} (b : Banks) (h : t.patView = s.patView) :
    patViewOf t.regs b = patViewOf s.regs b := by
  obtain ⟨hwords, hcode, -⟩ := PatView.mk.inj h
  rw [patViewOf, patViewOf, hwords, hcode]

/-- The banks once the tables of a Pattern are switched in. -/
def Banks.switchTo (b : Banks) (p : Pattern) : Banks := { b with outgoing := b.act, act := some p, switched := true }

theorem State.patView_commitSwitch (s : State) (p : Pattern) :
    (s.commitSwitch p).patView = patViewOf s.regs (s.banks.switchTo p) := by
  unfold State.commitSwitch
  extract_lets +onlyGivenNames oldP old new keptUnits fresh gone before olds per auxKept swapped ended
  have hended : ended.patView = s.patView := by simp [ended, swapped]
  have hbanks : ended.banks = s.banks := State.banks_of_patView hended
  extract_lets +onlyGivenNames src switched moved
  have hmoved : moved.patView = patViewOf s.regs (s.banks.switchTo p) := by
    rw [← patViewOf_of_patView _ hended]
    unfold moved
    split
    · simp [switched, src, hbanks, oldP, Banks.switchTo]
    · simp [switched, src, hbanks, oldP, Banks.switchTo]
  rw [← hmoved]
  simp +decide

theorem State.patView_enterState {s : State} {st : Nat} (h : s.hubState ≠ st) :
    (s.enterState st).patView = (s.changeState st).patView := by
  unfold State.enterState
  dsimp only
  rw [if_neg h]
  simp +decide

theorem State.hubState_changeState (s : State) {st : Nat} (h : st < 8) : (s.changeState st).hubState = st := by
  have hput : ∀ t : State, (t.put Fld.GLB_STATE.STATE st).hubState = st := fun t => by
    rw [State.hubState, State.get_put_same _ _ _ _ (by decide) (by decide)]
    exact Nat.mod_eq_of_lt h
  have hevt : ∀ t : State, (t.evt Fld.GLB_STATE_CHG.CHANGED 98).formDegraded.hubState = t.hubState := fun t =>
    State.hubState_of_patView (by simp +decide)
  exact (hevt _).trans (hput _)

theorem State.banks_changeState (s : State) (st : Nat) : (s.changeState st).banks = s.banks := by
  have hevt : ∀ t : State, (t.evt Fld.GLB_STATE_CHG.CHANGED 98).formDegraded.banks = t.banks := fun t =>
    State.banks_of_patView (by simp +decide)
  simp [State.changeState, hevt]

theorem State.hubState_enterState {s : State} {st : Nat} (h : s.hubState ≠ st) (hst : st < 8) :
    (s.enterState st).hubState = st :=
  (State.hubState_of_patView (State.patView_enterState h)).trans (s.hubState_changeState hst)

theorem State.banks_enterState {s : State} {st : Nat} (h : s.hubState ≠ st) : (s.enterState st).banks = s.banks :=
  (State.banks_of_patView (State.patView_enterState h)).trans (s.banks_changeState st)

/-! ## The end of the loader's check -/

theorem State.banks_showCheck (s : State) (r : Reject) : (s.showCheck r).banks = s.banks := by
  unfold State.showCheck
  dsimp only
  rw [State.banks_of_patView (State.patView_stage _ _ _)]
  simp

theorem State.banks_showDigestIn (s : State) (r : RegDef) (d : List Byte) : (s.showDigestIn r d).banks = s.banks := by
  unfold State.showDigestIn State.forEach
  induction List.range 8 generalizing s with
  | nil => rfl
  | cons k l ih => exact (ih _).trans (State.wr_banks _ _ _ _ _)

theorem State.banks_patEvent (s : State) (f : Field) : (s.patEvent f).banks = s.banks := by
  unfold State.patEvent State.evt
  split
  · rfl
  · rw [State.banks_of_patView (State.patView_raise _ _)]
    simp

/-- What the registers show once an image is accepted. -/
def State.showAccepted (s : State) (p : Pattern) : State :=
  (((s.showCheck ⟨0, 0, 0, 0⟩).showDigestIn Reg.PAT_STBY_DIGESTk p.digest).wr Reg.PAT_STBY_SERIAL
    (BitVec.ofNat 32 p.serial)).put Fld.PAT_STAT_UNKNOWN.COUNT p.unknownKeys

/-- The bank with an accepted Pattern. -/
def State.acceptBank (s : State) (p : Pattern) : State :=
  ({ s with banks.stbyPat := some p } : State).bankTo .checked

theorem exec_patternCheckDone_rejected {s : State} {ue : Option Nat} {r : Reject} (hq : s.banks.qspiCopy = none)
    (hb : s.banks.stbyState = .checking) (hv : s.verdict ue = .error r) :
    exec (.patternCheckDone ue) s = .next
      (((({ s with banks.stbyPat := none, banks.powerUp := false } : State).bankTo .rejected).showCheck r).patEvent
        Fld.PAT_STAT.REJECTED) := by
  simp [exec, execPatternCheckDone, hq, hb, hv]

theorem State.banks_acceptBank (s : State) (p : Pattern) :
    (s.acceptBank p).banks = { s.banks with stbyPat := some p, stbyState := .checked } := by
  simp [State.acceptBank, State.bankTo]

theorem State.banks_showAccepted (s : State) (p : Pattern) : (s.showAccepted p).banks = s.banks := by
  simp [State.showAccepted, State.banks_showCheck, State.banks_showDigestIn]

theorem exec_patternCheckDone_accepted {s : State} {ue : Option Nat} {p : Pattern} (hq : s.banks.qspiCopy = none)
    (hb : s.banks.stbyState = .checking) (hv : s.verdict ue = .ok p) (hp : s.banks.powerUp = false) :
    exec (.patternCheckDone ue) s = .next (((s.acceptBank p).showAccepted p).patEvent Fld.PAT_STAT.CHECKED) := by
  have hoff : (((s.acceptBank p).showAccepted p).patEvent Fld.PAT_STAT.CHECKED).banks.powerUp = false := by
    rw [State.banks_patEvent, State.banks_showAccepted, State.banks_acceptBank]
    exact hp
  have hexec : exec (.patternCheckDone ue) s = .next
      (let t := ((s.acceptBank p).showAccepted p).patEvent Fld.PAT_STAT.CHECKED
       if t.banks.powerUp then t.commitAt (t.seq.frame + 2) else t) := by
    show execPatternCheckDone ue s = _
    unfold execPatternCheckDone
    rw [if_neg (by simp [hq])]
    split
    · rw [hv]
      rfl
    · next hstate => exact absurd hb hstate
  rw [hexec]
  simp [hoff]

theorem State.acceptedShown (s : State) (p : Pattern) :
    let t := ((s.acceptBank p).showAccepted p).patEvent Fld.PAT_STAT.CHECKED
    t.get Fld.PAT_STAT.STBY_STATE = 3 ∧ t.get Fld.PAT_STAT.REJECT = 0 ∧ t.is Fld.PAT_STAT.CHECKED = true ∧
      t.rd Reg.PAT_STBY_SERIAL = BitVec.ofNat 32 p.serial := by
  refine ⟨?_, ?_, State.is_patEvent_same _ (by decide) (by decide) (by decide), ?_⟩
  · simp +decide [State.showAccepted, State.showCheck, State.acceptBank, State.bankTo, State.get_put_indep,
      State.get_put_same, State.get_wr_disjoint]
  · simp +decide [State.showAccepted, State.showCheck, State.acceptBank, State.bankTo, State.get_put_indep,
      State.get_put_same, State.get_wr_disjoint]
  · simp +decide [State.showAccepted, State.rd_wr_same, State.rd_put_disjoint]

/-! ## The rows of a commit -/

theorem exec_commitIrrevocable {s : State} {f : Nat} {p : Pattern} (hf : s.banks.commitF = some f)
    (hp : s.banks.stbyPat = some p) (hi : s.banks.irrevocable = false) (hc : bit p.flags 2 = false) :
    exec .commitIrrevocable s = .next { s with banks.irrevocable := true } := by
  simp [exec, execCommitIrrevocable, hf, hp, hi, hc]

/-- A commit that is due switches the tables. -/
theorem State.commitDue_eq {s : State} {f : Nat} {p : Pattern} (hf : s.banks.commitF = some f)
    (hp : s.banks.stbyPat = some p) (hi : s.banks.irrevocable = true) (hs : s.banks.switched = false) :
    s.commitDue = s.commitSwitch p := by
  simp [State.commitDue, hf, hp, hi, hs]

theorem State.banks_commitSwitch (s : State) (p : Pattern) : (s.commitSwitch p).banks = s.banks.switchTo p :=
  congrArg PatView.banks (s.patView_commitSwitch p)

theorem State.hubState_commitSwitch (s : State) (p : Pattern) : (s.commitSwitch p).hubState = s.hubState :=
  congrArg PatView.code (s.patView_commitSwitch p)

theorem exec_powerUpCommit {s : State} {f : Nat} {p : Pattern} (hf : s.banks.commitF = some f)
    (hp : s.banks.stbyPat = some p) (hi : s.banks.irrevocable = true) (hs : s.banks.switched = false)
    (hu : s.banks.powerUp = true) (hheld : s.hubState = stHeld) :
    exec .powerUpCommit s = .next (if bit p.flags 3 then s.commitSwitch p else (s.commitSwitch p).enterState stArmed) := by
  cases hflag : bit p.flags 3 <;>
    simp [exec, execPowerUpCommit, State.commitDue_eq hf hp hi hs, State.hubState_commitSwitch, hp, hi, hs, hu, hheld, hflag]

/-- Settles O29, from the equations of the four commands and the view of a switched state. -/
theorem patternCheckAndCommitRows : Obligations.PatternCheckAndCommitRows := by
  unfold Obligations.PatternCheckAndCommitRows
  refine ⟨fun s ue hq hb => ⟨fun r hv => exec_patternCheckDone_rejected hq hb hv, fun p hv hp => ?_⟩,
    fun s f p hf hp => ⟨fun hi hc => exec_commitIrrevocable hf hp hi hc, fun hi hs hu => ?_, fun hi hs hu hheld => ?_⟩⟩
  · obtain ⟨hstate, hreject, hchecked, hserial⟩ := s.acceptedShown p
    refine ⟨_, exec_patternCheckDone_accepted hq hb hv hp, ?_, hstate, hreject, hchecked, hserial, State.eq_of_aside ?_⟩
    · rw [State.banks_patEvent, State.banks_showAccepted, State.banks_acceptBank]
    · simp [State.showAccepted, State.acceptBank]
  · have hdue := State.commitDue_eq hf hp hi hs
    refine ⟨?_, ?_, ?_, ?_⟩
    · simp [exec, execCommitSwitch, hu, hdue]
    all_goals rw [State.banks_commitSwitch]; rfl
  · refine ⟨_, exec_powerUpCommit hf hp hi hs hu hheld, ?_⟩
    have hstate : (s.commitSwitch p).hubState = stHeld := (s.hubState_commitSwitch p).trans hheld
    have hmove : (s.commitSwitch p).hubState ≠ stArmed := by simp [hstate, stHeld, stArmed]
    split
    · rw [State.banks_commitSwitch]
      exact ⟨rfl, rfl, hstate⟩
    · rw [State.banks_enterState hmove, State.banks_commitSwitch]
      exact ⟨rfl, rfl, State.hubState_enterState hmove (by decide)⟩

end Sys2Proof.Machine
end

section
/-! PROOFS. Completion of a commit: banks, registers and MIN_SERIAL (R96, R114). -/

open Sys2Proof Sys2Proof.Machine

namespace Sys2Proof.Machine

/-! ## The steps of COMMIT_COMPLETE -/

/-- The banks once they have changed places. -/
def Banks.swapped (b : Banks) : Banks :=
  { b with
    actBytes := b.stby, actLen := b.wlen, stby := b.actBytes, wlen := b.actLen, stbyPat := b.outgoing, commitF := none
    irrevocable := false, outgoing := none, switched := false, powerUp := false }

/-- The banks changed, with the state, the length and the pending bit that the registers show of them. -/
def State.swapBanks (s : State) : State :=
  let t := ({ s with banks := s.banks.swapped } : State).bankTo (if s.banks.outgoing.isSome then .previous else .empty)
  (t.put Fld.PAT_WLEN.WLEN t.banks.wlen).put Fld.PAT_STAT.COMMIT_PEND 0

/-- The registers of the active Pattern. -/
def State.showActive (s : State) (p : Pattern) : State :=
  let s := (s.put Fld.PAT_STAT.ACT_VALID 1).put Fld.PAT_STAT.ACT_SIGNED (b2n p.signed)
  ((s.put Fld.PAT_STAT.ACT_CALDATA (b2n (bit p.flags 2))).showDigestIn Reg.PAT_ACT_DIGESTk p.digest).wr Reg.PAT_ACT_SERIAL
    (BitVec.ofNat 32 p.serial)

/-- The registers of the standby Pattern, where there is one. -/
def State.showStandby (s : State) (old : Option Pattern) : State :=
  match old with
  | some q => (s.showDigestIn Reg.PAT_STBY_DIGESTk q.digest).wr Reg.PAT_STBY_SERIAL (BitVec.ofNat 32 q.serial)
  | none => (s.showDigestIn Reg.PAT_STBY_DIGESTk []).wr Reg.PAT_STBY_SERIAL 0

/-- The registers of the budgets. -/
def State.showBudgets (s : State) (p : Pattern) : State :=
  s.forEach (List.range 7) fun r s =>
    (s.wr Reg.PAT_BUDGET_Wr (BitVec.ofNat 32 (p.budgetW.getD r 0)) r).wr Reg.PAT_BUDGET_Cr
      (BitVec.ofNat 32 (p.budgetC.getD r 0)) r

/-- A signed image's serial is above PAT_MIN_SERIAL, and ANTIROLLBACK is set (R96). -/
def State.serialRises (s : State) (p : Pattern) : Bool :=
  s.is Fld.PAT_SIGN_CFG.ANTIROLLBACK && p.signed &&
    decide ((s.rd Reg.PAT_MIN_SERIAL).toNat < (BitVec.ofNat 32 p.serial : Word).toNat)

/-- PAT_MIN_SERIAL raised to the serial of a signed image. -/
def State.raiseSerial (s : State) (p : Pattern) : State :=
  if s.serialRises p then s.wr Reg.PAT_MIN_SERIAL (BitVec.ofNat 32 p.serial) else s

/-- The record, the event and the power domains at the end of the commit. -/
def State.endCommit (s : State) (p : Pattern) : State :=
  ((s.stage 0x0602 (leBytes 4 p.serial ++ p.digest.take 16)).patEvent Fld.PAT_STAT.COMMITTED).pdEval

theorem exec_commitComplete {s : State} {p : Pattern} (hp : s.banks.act = some p) (hs : s.banks.switched = true) :
    exec .commitComplete s = .next
      (((((s.swapBanks.showActive p).showStandby s.banks.outgoing).showBudgets p).raiseSerial p).endCommit p) := by
  show execCommitComplete s = _
  unfold execCommitComplete
  split
  · next hnone => simp [hp] at hnone
  next q hq =>
  obtain rfl : p = q := Option.some.inj (hp.symm.trans hq)
  rw [if_neg (by simp [hs])]
  extract_lets +onlyGivenNames old src b swapped pend valid shown active standby budgets serial risen staged
  have hactive : active = s.swapBanks.showActive p := rfl
  have hstandby : standby = (s.swapBanks.showActive p).showStandby s.banks.outgoing := by
    rw [← hactive]
    rfl
  clear_value standby
  have hbudgets : budgets = ((s.swapBanks.showActive p).showStandby s.banks.outgoing).showBudgets p := by
    rw [← hstandby]
    rfl
  rw [← hbudgets]
  rfl

/-! ## What each step leaves of the Pattern block -/

section
variable (s : State) (p : Pattern) {r : RegDef} {f : Field} (i j : Nat)

theorem State.get_of_rd {s t : State} (h : t.rd f.reg i j = s.rd f.reg i j) : t.get f i j = s.get f i j := by
  rw [State.get, State.get, h]

@[simp] theorem State.rd_endCommit (h : r.inPat = true) (hr : Reg.PAT_STAT.disjoint r = true) :
    (s.endCommit p).rd r i j = s.rd r i j := by
  simp [State.endCommit, h, hr, Fld.PAT_STAT.COMMITTED]

@[simp] theorem State.get_endCommit (h : f.reg.inPat = true) (hf : Fld.PAT_STAT.COMMITTED.indep f = true) :
    (s.endCommit p).get f i j = s.get f i j := by
  simp [State.endCommit, h, hf]

@[simp] theorem State.rd_raiseSerial (h : Reg.PAT_MIN_SERIAL.disjoint r = true) :
    (s.raiseSerial p).rd r i j = s.rd r i j := by
  unfold State.raiseSerial
  split
  · exact State.rd_wr_disjoint _ _ _ _ _ _ h
  · rfl

@[simp] theorem State.rd_showBudgets (hw : Reg.PAT_BUDGET_Wr.disjoint r = true) (hc : Reg.PAT_BUDGET_Cr.disjoint r = true) :
    (s.showBudgets p).rd r i j = s.rd r i j :=
  s.rd_forEach_disjoint i j _ _ fun k t => by
    rw [State.rd_wr_disjoint _ _ _ _ _ _ hc, State.rd_wr_disjoint _ _ _ _ _ _ hw]

@[simp] theorem State.rd_showStandby (old : Option Pattern) (hd : Reg.PAT_STBY_DIGESTk.disjoint r = true)
    (hs : Reg.PAT_STBY_SERIAL.disjoint r = true) : (s.showStandby old).rd r i j = s.rd r i j := by
  cases old <;> simp [State.showStandby, State.rd_wr_disjoint, hd, hs]

@[simp] theorem State.get_raiseSerial (h : Reg.PAT_MIN_SERIAL.disjoint f.reg = true) :
    (s.raiseSerial p).get f i j = s.get f i j := State.get_of_rd i j (s.rd_raiseSerial p i j h)

@[simp] theorem State.get_showBudgets (hw : Reg.PAT_BUDGET_Wr.disjoint f.reg = true)
    (hc : Reg.PAT_BUDGET_Cr.disjoint f.reg = true) : (s.showBudgets p).get f i j = s.get f i j :=
  State.get_of_rd i j (s.rd_showBudgets p i j hw hc)

@[simp] theorem State.get_showStandby (old : Option Pattern) (hd : Reg.PAT_STBY_DIGESTk.disjoint f.reg = true)
    (hs : Reg.PAT_STBY_SERIAL.disjoint f.reg = true) : (s.showStandby old).get f i j = s.get f i j :=
  State.get_of_rd i j (s.rd_showStandby i j old hd hs)

end

/-- One word of a family among those written in turn. -/
theorem State.rd_forEach_wr (s : State) {r : RegDef} (g : Nat → Word) (n k : Nat) (hs : 0 < r.s1) (hk : r.has k 0 = true) :
    (s.forEach (List.range n) fun i t => t.wr r (g i) i).rd r k = if k < n then g k else s.rd r k := by
  unfold State.forEach
  induction n with
  | zero => simp
  | succ n ih =>
    rw [List.range_succ, List.foldl_append, List.foldl_cons, List.foldl_nil]
    by_cases hkn : k = n
    · subst hkn
      rw [State.rd_wr_same _ _ _ _ _ hk, if_pos (Nat.lt_succ_self k)]
    · have hne : ¬ (r.at k 0 = r.at n 0 ∧ r.has n 0 = true) := by
        rintro ⟨hat, -⟩
        exact hkn (Nat.eq_of_mul_eq_mul_left hs (by simpa [RegDef.at] using hat))
      have hlt : k < n + 1 ↔ k < n := by omega
      rw [State.rd, if_pos hk, State.wr_regs, if_neg hne]
      rw [State.rd, if_pos hk] at ih
      simp only [hlt, ih]

theorem State.rd_showDigestIn_same (s : State) {r : RegDef} (d : List Byte) {k : Nat} (hs : 0 < r.s1)
    (hhas : r.has k 0 = true) (hk : k < 8) : (s.showDigestIn r d).rd r k = BitVec.ofNat 32 (leAt d (4 * k) 4) := by
  rw [State.showDigestIn, State.rd_forEach_wr _ _ _ _ hs hhas, if_pos hk]

/-! ## Banks, sequence and state code after the steps -/

section
variable (s : State) (p : Pattern)

@[simp] theorem State.banks_endCommit : (s.endCommit p).banks = s.banks := by
  rw [State.endCommit, State.banks_of_patView (State.patView_pdEval _), State.banks_patEvent,
    State.banks_of_patView (State.patView_stage _ _ _)]

@[simp] theorem State.banks_raiseSerial : (s.raiseSerial p).banks = s.banks := by
  unfold State.raiseSerial
  split <;> simp

@[simp] theorem State.banks_showBudgets : (s.showBudgets p).banks = s.banks := by
  unfold State.showBudgets State.forEach
  induction List.range 7 generalizing s with
  | nil => rfl
  | cons k l ih => exact (ih _).trans (by simp)

@[simp] theorem State.banks_showStandby (old : Option Pattern) : (s.showStandby old).banks = s.banks := by
  cases old <;> simp [State.showStandby, State.banks_showDigestIn]

@[simp] theorem State.banks_showActive : (s.showActive p).banks = s.banks := by
  simp [State.showActive, State.banks_showDigestIn]

theorem State.banks_swapBanks :
    s.swapBanks.banks =
      { s.banks.swapped with stbyState := if s.banks.outgoing.isSome then .previous else .empty } := by
  simp [State.swapBanks, State.bankTo]

/-- The state that COMMIT_COMPLETE goes on with. -/
def State.commitCompleted (s : State) (p : Pattern) : State :=
  ((((s.swapBanks.showActive p).showStandby s.banks.outgoing).showBudgets p).raiseSerial p).endCommit p

theorem State.banks_commitCompleted : (s.commitCompleted p).banks = s.swapBanks.banks := by
  simp [State.commitCompleted]

@[simp] theorem State.aside_showStandby (old : Option Pattern) : (s.showStandby old).aside = s.aside := by
  cases old <;> simp [State.showStandby]

theorem State.aside_commitCompleted : (s.commitCompleted p).aside = s.aside := by
  simp [State.commitCompleted, State.endCommit, State.raiseSerial, State.showBudgets, State.showActive, State.swapBanks]

@[simp] theorem State.clock_showDigestIn {r : RegDef} (d : List Byte) (h : r.disjoint Reg.GLB_STATE = true) :
    (s.showDigestIn r d).clock = s.clock := by
  simp [State.showDigestIn, h]

@[simp] theorem State.clock_showStandby (old : Option Pattern) : (s.showStandby old).clock = s.clock := by
  cases old <;> simp +decide [State.showStandby]

@[simp] theorem State.clock_pdEval : s.pdEval.clock = s.clock := by
  simp +decide [State.pdEval]

theorem State.clock_commitCompleted : (s.commitCompleted p).clock = s.clock := by
  simp +decide [State.commitCompleted, State.endCommit, State.patEvent, State.raiseSerial, State.showBudgets,
    State.showActive, State.swapBanks, State.bankTo]

/-! ## Registers after the steps -/

/-- The fields of PAT_STAT that show the active Pattern. -/
theorem State.patStat_commitCompleted :
    (s.commitCompleted p).get Fld.PAT_STAT.ACT_VALID = 1 ∧
      (s.commitCompleted p).get Fld.PAT_STAT.ACT_SIGNED = b2n p.signed ∧
      (s.commitCompleted p).get Fld.PAT_STAT.COMMIT_PEND = 0 ∧ (s.commitCompleted p).is Fld.PAT_STAT.COMMITTED = true := by
  have hsigned : b2n p.signed % 2 = b2n p.signed := by cases p.signed <;> rfl
  refine ⟨?_, ?_, ?_, ?_⟩
  · simp +decide [State.commitCompleted, State.showActive, State.get_wr_disjoint, State.get_put_indep, State.get_put_same]
  · simp +decide [State.commitCompleted, State.showActive, State.get_wr_disjoint, State.get_put_indep, State.get_put_same]
    exact hsigned
  · simp +decide [State.commitCompleted, State.showActive, State.swapBanks, State.get_wr_disjoint, State.get_put_indep,
      State.get_put_same]
  · rw [State.is, State.commitCompleted, State.endCommit, State.get_pdEval _ _ _ (by decide)]
    exact State.is_patEvent_same _ (by decide) (by decide) (by decide)

theorem State.serial_commitCompleted : (s.commitCompleted p).rd Reg.PAT_ACT_SERIAL = BitVec.ofNat 32 p.serial := by
  simp +decide [State.commitCompleted, State.showActive, State.rd_wr_same]

theorem State.digest_commitCompleted {k : Nat} (hk : k < 8) :
    (s.commitCompleted p).rd Reg.PAT_ACT_DIGESTk k = BitVec.ofNat 32 (leAt p.digest (4 * k) 4) := by
  have hhas : Reg.PAT_ACT_DIGESTk.has k 0 = true := by simp [RegDef.has, Reg.PAT_ACT_DIGESTk, hk]
  simp +decide [State.commitCompleted, State.showActive, State.rd_wr_disjoint, State.rd_showDigestIn_same, hhas, hk]

theorem State.minSerial_commitCompleted :
    (s.commitCompleted p).rd Reg.PAT_MIN_SERIAL =
      if s.serialRises p then BitVec.ofNat 32 p.serial else s.rd Reg.PAT_MIN_SERIAL := by
  have hrd : ∀ r, r = Reg.PAT_MIN_SERIAL ∨ r = Reg.PAT_SIGN_CFG →
      (((s.swapBanks.showActive p).showStandby s.banks.outgoing).showBudgets p).rd r = s.rd r := by
    rintro r (rfl | rfl) <;>
    simp +decide [State.showActive, State.swapBanks, State.bankTo, State.rd_put_disjoint, State.rd_wr_disjoint] <;> rfl
  have hrises :
      (((s.swapBanks.showActive p).showStandby s.banks.outgoing).showBudgets p).serialRises p = s.serialRises p := by
    rw [State.serialRises, State.serialRises, hrd _ (.inl rfl), State.is, State.is, State.get_of_rd 0 0 (hrd _ (.inr rfl))]
  rw [State.commitCompleted, State.rd_endCommit _ _ _ _ (by decide) (by decide), State.raiseSerial, hrises]
  split
  · exact State.rd_wr_same _ _ _ _ _ (by decide)
  · exact hrd _ (.inl rfl)

end

/-- Settles O30: banks, registers and the rest of the state after the five steps. -/
theorem commitCompleteRow : Obligations.CommitCompleteRow := by
  unfold Obligations.CommitCompleteRow
  intro s p hp hs
  obtain ⟨hvalid, hsigned, hpend, hcommitted⟩ := s.patStat_commitCompleted p
  have hstate : (s.commitCompleted p).hubState = s.hubState := congrArg (·.2.2) (s.clock_commitCompleted p)
  have hbanks := (s.banks_commitCompleted p).trans s.banks_swapBanks
  refine ⟨s.commitCompleted p, exec_commitComplete hp hs, ?_⟩
  rw [hbanks]
  exact ⟨rfl, rfl, rfl, rfl, hp, rfl, rfl, rfl, hvalid, hsigned, hpend, hcommitted, s.serial_commitCompleted p,
    fun k hk => s.digest_commitCompleted p hk, s.minSerial_commitCompleted p, hstate,
    State.seq_of_aside (s.aside_commitCompleted p)⟩

end Sys2Proof.Machine
end

section
/-! PROOFS. The Pattern commands (R95, R112, R114, R119): a new record of each, and its effect. -/

open Sys2Proof Sys2Proof.Machine

namespace Sys2Proof.Machine

/-! ## A new record of a command below 0x30 -/

theorem State.inStates_all {s : State} {o : Origin} (h : s.fresh o = true) :
    s.inStates [stHeld, stArmed, stRun, stSafe, stMaint] = true := by
  obtain ⟨⟨hopen, hlegal⟩, -⟩ := (State.fresh_iff s o).mp h
  have hlow : 2 ≤ s.hubState := of_decide_eq_true hopen
  have hhigh : s.hubState ≤ 6 := by simpa [legalState] using hlegal
  simp only [State.inStates, stHeld, stArmed, stRun, stSafe, stMaint, List.contains_eq_mem, List.mem_cons, List.not_mem_nil,
    decide_eq_true_eq]
  omega

/-- A new record of a command in one of its states: the command's effect, then the answer. -/
theorem State.runCommand_low {s t : State} {o : Origin} {op : Nat} {args : List Byte} {a : Answer} (h : s.fresh o = true)
    (hop : (decide (op < 0x30) && opKnown op) = true) (hstate : s.inStates (opStates op) = true)
    (hl : args.length ≤ 240) (h4 : args.length % 4 = 0) (hargs : argsOk op args = true)
    (heff : s.commandLow op args = (a, t)) : s.runCommand o op args = t.settle o op args s.hubState a := by
  simp only [Bool.and_eq_true, decide_eq_true_eq] at hop
  have hcmd : s.command op args o = (a, t) := by
    simp [State.command, hop.1, hop.2, hstate, heff]
  rw [State.runCommand_fresh h (by omega) hl h4 hargs, hcmd]

/-! ## The effects of the Pattern commands -/

/-- The bank is neither being checked nor waiting for its commit. -/
def BankState.idle (b : BankState) : Prop := b ≠ .checking ∧ b ≠ .scheduled

theorem State.patLoad_idle {s : State} {source : Nat} (addr : Nat) (h : s.banks.stbyState.idle) (hs : source ≤ 1) :
    s.patLoad source addr = ({ status := 0 },
      let t := ({ s with banks.stbyPat := none } : State).checkBegin false
      if source = 1 then { t with banks.qspiCopy := some addr } else t) := by
  have hsource : ¬ 1 < source := by omega
  unfold State.patLoad
  split
  · next hc => exact absurd hc h.1
  · next hc => exact absurd hc h.2
  · rw [if_neg hsource]

theorem State.patDiscard_idle {s : State} (h : s.banks.stbyState.idle) : s.patDiscard = ({ status := 0 }, s.stbyEmpty) := by
  unfold State.patDiscard
  split
  · next hc => exact absurd hc h.1
  · next hc => exact absurd hc h.2
  · rfl

theorem State.patCommit_ready {s : State} {p : Pattern} {f : Nat} (hp : s.banks.stbyPat = some p)
    (hready : s.banks.stbyState = .checked ∨ s.banks.stbyState = .previous) (hact : s.banks.act = none)
    (hrevert : s.revertDenied p = false) (hf : f < 2 ^ 48)
    (hframe : f = 0 ∨ (s.seq.counter = true ∧ s.seq.frame + 2 ≤ f)) :
    s.patCommit f = ({ status := 0 }, s.commitAt (if f = 0 then s.seq.frame + 2 else f)) := by
  have hlate : (f != 0 && (!s.seq.counter || decide (f < s.seq.frame + 2))) = false := by
    rcases hframe with rfl | ⟨hcounter, hge⟩
    · rfl
    · have hlt : ¬ f < s.seq.frame + 2 := by omega
      simp [hcounter, hlt]
  have hok : (s.banks.stbyState == .checked || s.banks.stbyState == .previous) = true := by
    simpa using hready
  have hbig : ¬ f ≥ 2 ^ 48 := by omega
  unfold State.patCommit
  simp only [hp, hact, hok, hrevert, hlate, if_neg hbig, Bool.not_true, Bool.or_false, Bool.false_eq_true, if_false]

theorem State.patCancel_scheduled {s : State} (hf : s.banks.commitF.isSome = true) (hi : s.banks.irrevocable = false) :
    s.patCancel = ({ status := 0 },
      (((({ s with banks.commitF := none, banks.powerUp := false } : State).bankTo s.banks.returnTo).put
        Fld.PAT_STAT.COMMIT_PEND 0).fieldCancel).pdEval) := by
  have hnone : s.banks.commitF.isNone = false := by simpa [← Option.not_isSome] using hf
  simp [State.patCancel, hnone, hi]

theorem State.keyInstall_free {s : State} {slot : Nat} {key : List Byte} (hslot : slot < 8) (hkey : keyOk key = true)
    (hfree : field (s.get Fld.PAT_KEY_STAT.SLOT) (2 * slot) 2 = 0) :
    s.keyInstall slot key = ({ status := 0 },
      (({ s with banks.keys := tabSet s.banks.keys slot key } : State).keySlotTo slot 1).stage 0x0202
        (leBytes 1 slot ++ (sha256 key).take 8)) := by
  have hle : ¬ 7 < slot := by omega
  simp [State.keyInstall, hle, hfree, hkey]

theorem State.keyRevoke_held {s : State} {slot : Nat} (hslot : slot < 8)
    (hheld : field (s.get Fld.PAT_KEY_STAT.SLOT) (2 * slot) 2 = 1) :
    s.keyRevoke slot = ({ status := 0 }, (s.keySlotTo slot 2).stage 0x0203 (leBytes 1 slot)) := by
  have hle : ¬ 7 < slot := by omega
  simp [State.keyRevoke, hle, hheld]

/-! ## The rows -/

section
variable (s : State) (a : List Byte)

theorem State.commandLow_patLoad : s.commandLow 0x20 a = s.patLoad (leAt a 0 4) (leAt a 4 4) := by
  simp [State.commandLow]
theorem State.commandLow_patCommit : s.commandLow 0x21 a = s.patCommit (leAt a 0 8) := by
  simp [State.commandLow]
theorem State.commandLow_patCancel : s.commandLow 0x22 [] = s.patCancel := by
  simp [State.commandLow]
theorem State.commandLow_patDiscard : s.commandLow 0x23 [] = s.patDiscard := by
  simp [State.commandLow]
theorem State.commandLow_patKeyInstall : s.commandLow 0x24 a = s.keyInstall (leAt a 0 4) (slice a 4 64) := by
  simp [State.commandLow]
theorem State.commandLow_patKeyRevoke : s.commandLow 0x25 a = s.keyRevoke (leAt a 0 4) := by
  simp [State.commandLow]

end

theorem leAt_leBytes_of_lt {n x : Nat} (b : List Byte) (h : x < 256 ^ n) : leAt (leBytes n x ++ b) 0 n = x := by
  rw [leAt_leBytes, Nat.mod_eq_of_lt h]

theorem leAt_leBytes_nil_of_lt {n x : Nat} (h : x < 256 ^ n) : leAt (leBytes n x) 0 n = x := by
  rw [leAt_leBytes_nil, Nat.mod_eq_of_lt h]

theorem exec_patLoad {s : State} {o : Origin} {source addr : Nat} (h : s.fresh o = true) (hb : s.banks.stbyState.idle)
    (hs : source ≤ 1) (ha : addr < 2 ^ 32) :
    let t := ({ s with banks.stbyPat := none } : State).checkBegin false
    let u := if source = 1 then { t with banks.qspiCopy := some addr } else t
    exec (.patLoad o source addr) s =
      .next (u.settle o 0x20 (leBytes 4 source ++ leBytes 4 addr) s.hubState { status := 0 }) := by
  have hsource : leAt (leBytes 4 source ++ leBytes 4 addr) 0 4 = source := leAt_leBytes_of_lt _ (by omega)
  have haddr : leAt (leBytes 4 source ++ leBytes 4 addr) 4 4 = addr := by
    rw [leAt_skip _ _ _ _ _ (Nat.le_refl 4)]
    exact leAt_leBytes_nil_of_lt (by omega)
  refine congrArg Host.Outcome.next (State.runCommand_low h rfl (State.inStates_all h) ?_ ?_ ?_ ?_)
  · simp
  · simp
  · simp [argsOk, argLens]
  · rw [State.commandLow_patLoad, hsource, haddr, State.patLoad_idle addr hb hs]

theorem exec_patCommit {s : State} {o : Origin} {p : Pattern} {f : Nat} (h : s.fresh o = true)
    (hp : s.banks.stbyPat = some p) (hready : s.banks.stbyState = .checked ∨ s.banks.stbyState = .previous)
    (hact : s.banks.act = none) (hrevert : s.revertDenied p = false) (hf : f < 2 ^ 48)
    (hframe : f = 0 ∨ (s.seq.counter = true ∧ s.seq.frame + 2 ≤ f)) :
    exec (.patCommit o f) s = .next ((s.commitAt (if f = 0 then s.seq.frame + 2 else f)).settle o 0x21 (leBytes 8 f)
      s.hubState { status := 0 }) := by
  have hfield : leAt (leBytes 8 f) 0 8 = f := leAt_leBytes_nil_of_lt (by omega)
  refine congrArg Host.Outcome.next (State.runCommand_low h rfl (State.inStates_all h) ?_ ?_ ?_ ?_)
  · simp
  · simp
  · simp [argsOk, argLens]
  · rw [State.commandLow_patCommit, hfield, State.patCommit_ready hp hready hact hrevert hf hframe]

theorem exec_patKeyInstall {s : State} {o : Origin} {slot : Nat} {key : List Byte} (h : s.fresh o = true)
    (hmaint : s.hubState = stMaint) (hslot : slot < 8) (hlen : key.length = 64) (hkey : keyOk key = true)
    (hfree : field (s.get Fld.PAT_KEY_STAT.SLOT) (2 * slot) 2 = 0) :
    exec (.patKeyInstall o slot key) s = .next
      (((({ s with banks.keys := tabSet s.banks.keys slot key } : State).keySlotTo slot 1).stage 0x0202
        (leBytes 1 slot ++ (sha256 key).take 8)).settle o 0x24 (leBytes 4 slot ++ key) s.hubState { status := 0 }) := by
  have hfield : leAt (leBytes 4 slot ++ key) 0 4 = slot := leAt_leBytes_of_lt _ (by omega)
  have hslice : slice (leBytes 4 slot ++ key) 4 64 = key := by
    rw [slice, List.drop_left' (length_leBytes 4 slot), List.take_of_length_le (by omega)]
  have hpad : padTo 64 key = key := by simp [padTo, hlen]
  have hexec : exec (.patKeyInstall o slot key) s = .next (s.runCommand o 0x24 (leBytes 4 slot ++ padTo 64 key)) := rfl
  rw [hexec, hpad]
  refine congrArg Host.Outcome.next (State.runCommand_low h rfl ?_ ?_ ?_ ?_ ?_)
  · rw [State.inStates, hmaint]
    decide
  · simp [hlen]
  · simp [hlen]
  · simp [argsOk, argLens, hlen]
  · rw [State.commandLow_patKeyInstall, hfield, hslice, State.keyInstall_free hslot hkey hfree]

theorem exec_patKeyRevoke {s : State} {o : Origin} {slot : Nat} (h : s.fresh o = true)
    (hmaint : s.hubState = stMaint) (hslot : slot < 8) (hheld : field (s.get Fld.PAT_KEY_STAT.SLOT) (2 * slot) 2 = 1) :
    exec (.patKeyRevoke o slot) s = .next (((s.keySlotTo slot 2).stage 0x0203 (leBytes 1 slot)).settle o 0x25
      (leBytes 4 slot) s.hubState { status := 0 }) := by
  have hfield : leAt (leBytes 4 slot) 0 4 = slot := leAt_leBytes_nil_of_lt (by omega)
  refine congrArg Host.Outcome.next (State.runCommand_low h rfl ?_ ?_ ?_ ?_ ?_)
  · rw [State.inStates, hmaint]
    decide
  · simp
  · simp
  · simp [argsOk, argLens]
  · rw [State.commandLow_patKeyRevoke, hfield, State.keyRevoke_held hslot hheld]

/-- A command without operands whose effect is known. -/
theorem State.runCommand_bare {s t : State} {o : Origin} {op : Nat} (h : s.fresh o = true)
    (hop : (decide (op < 0x30) && opKnown op) = true) (hstate : s.inStates (opStates op) = true)
    (hargs : argsOk op [] = true) (heff : s.commandLow op [] = ({ status := 0 }, t)) :
    s.runCommand o op [] = t.settle o op [] s.hubState { status := 0 } :=
  State.runCommand_low h hop hstate (Nat.zero_le _) rfl hargs heff

theorem exec_patCancel {s : State} {o : Origin} (h : s.fresh o = true) (hf : s.banks.commitF.isSome = true)
    (hi : s.banks.irrevocable = false) :
    exec (.patCancel o) s = .next (((((({ s with banks.commitF := none, banks.powerUp := false } : State).bankTo
      s.banks.returnTo).put Fld.PAT_STAT.COMMIT_PEND 0).fieldCancel).pdEval).settle o 0x22 [] s.hubState { status := 0 }) :=
  congrArg Host.Outcome.next (State.runCommand_bare h rfl (State.inStates_all h) rfl
    ((State.commandLow_patCancel s).trans (State.patCancel_scheduled hf hi)))

theorem exec_patDiscard {s : State} {o : Origin} (h : s.fresh o = true) (hidle : s.banks.stbyState.idle) :
    exec (.patDiscard o) s = .next (s.stbyEmpty.settle o 0x23 [] s.hubState { status := 0 }) :=
  congrArg Host.Outcome.next (State.runCommand_bare h rfl (State.inStates_all h) rfl
    ((State.commandLow_patDiscard s).trans (State.patDiscard_idle hidle)))

/-- Settles O39: each command is taken in its states, and its effect is that of its row. -/
theorem patternCommandRows : Obligations.PatternCommandRows := by
  unfold Obligations.PatternCommandRows
  intro s o h
  exact ⟨fun hidle addr ha => ⟨exec_patLoad h hidle (Nat.zero_le 1) ha, exec_patLoad h hidle (Nat.le_refl 1) ha⟩,
    fun p f hp hready hact hrevert hf hframe => exec_patCommit h hp hready hact hrevert hf hframe,
    fun hf hi => exec_patCancel h hf hi,
    fun hidle => exec_patDiscard h hidle,
    fun hmaint slot key hslot hlen hkey hfree => exec_patKeyInstall h hmaint hslot hlen hkey hfree,
    fun hmaint slot hslot hheld => exec_patKeyRevoke h hmaint hslot hheld⟩

end Sys2Proof.Machine
end

section
/-! PROOFS. Writes to UNIT_CTRL and UNIT_STAT (R144, R147). -/

open Sys2Proof Sys2Proof.Machine

namespace Sys2Proof.Machine

/-! ## The units that a write to a status block reaches -/

theorem State.forEach_singleton {α : Type} (s : State) (a : α) (f : α → State → State) : s.forEach [a] f = f a s := rfl

theorem State.blockUnits_unit {s : State} {id : Nat} {u : PatUnit} (hu : s.unitId id = some u) (hcls : u.cls ≠ cPATCH) :
    s.blockUnits id = [u] := by
  simp only [State.blockUnits, hu, if_pos hcls]

theorem State.blockUnits_patch {s : State} {id : Nat} {u : PatUnit} (hu : s.unitId id = some u) (hcls : u.cls = cPATCH) :
    s.blockUnits id = s.patUnits.filter fun w => w.cls != cPATCH && insideOf s.patUnits id 64 w := by
  simp only [State.blockUnits, hu, if_neg (not_not_intro hcls)]

/-! ## The two writes at a unit that is no patch -/

theorem State.wrUnitStat_unit {s : State} {id : Nat} {u : PatUnit} (v : Nat) (hu : s.unitId id = some u)
    (hcls : u.cls ≠ cPATCH) :
    s.wrUnitStat id v = s.uWord Reg.UNIT_STAT u.id (s.rawWord u.id 8 - (s.rawWord u.id 8 &&& v &&& 0x3C)) := by
  rw [State.wrUnitStat, State.blockUnits_unit hu hcls, State.forEach_singleton]

/-- CNT_CLR is bit 0 and WORST_CLR bit 1. -/
theorem State.wrUnitCtrl_unit {s : State} {id : Nat} {u : PatUnit} (v : Nat) (hu : s.unitId id = some u)
    (hcls : u.cls ≠ cPATCH) :
    s.wrUnitCtrl id v =
      (s.when (bit v 0) (·.uWord Reg.UNIT_CNT u.id 0)).when (bit v 1) (·.uPut Fld.UNIT_CYCLES.WORST 0 u.id) := by
  rw [State.wrUnitCtrl, State.blockUnits_unit hu hcls, State.forEach_singleton]

/-! ## The rows -/

section
variable {s : State} (id : Nat) (hopen : s.mapOpen = true)
include hopen

theorem exec_unitCntClr : exec (.unitCntClr id) s = .next (s.wrUnitCtrl id 1) :=
  congrArg Host.Outcome.next (if_pos hopen)

theorem exec_unitWorstClr : exec (.unitWorstClr id) s = .next (s.wrUnitCtrl id 2) :=
  congrArg Host.Outcome.next (if_pos hopen)

theorem exec_patchStatusClear (v : Nat) : exec (.patchStatusClear id v) s = .next (s.wrUnitStat id v) :=
  congrArg Host.Outcome.next (if_pos hopen)

end

/-- Settles O16: the unit itself, or the units inside a patch, by what the block's writes reach. -/
theorem unitBlockRows : Obligations.UnitBlockRows := by
  unfold Obligations.UnitBlockRows
  refine ⟨fun s id v u hopen hu hcls => ⟨?_, ?_, ?_⟩, fun s id v u hopen hu hcls => ?_⟩
  · rw [exec_unitCntClr id hopen, State.wrUnitCtrl_unit 1 hu hcls]
    rfl
  · rw [exec_unitWorstClr id hopen, State.wrUnitCtrl_unit 2 hu hcls]
    rfl
  · rw [exec_patchStatusClear id hopen, State.wrUnitStat_unit v hu hcls]
  · rw [exec_patchStatusClear id hopen, State.wrUnitStat, State.blockUnits_patch hu hcls]

end Sys2Proof.Machine
end


section
/-! PROOFS. What the functions of the model leave of the clock: the frame counter, whether the hub keeps it, and the state code (R31, R149).
All but those that move the hub's state or start its counter leave all of it: `State.clock_f` says so of the function `f`, in
the order of the model, and rests on the lemmas of the functions that `f` calls. -/

open Sys2Proof Sys2Proof.Machine

namespace Sys2Proof.Machine

/-! ## Control, fields of one of two registers, and outcomes -/

@[simp] theorem State.clock_snd_ite {α : Type} (c : Prop) [Decidable c] (x y : α × State) :
    (if c then x else y).2.clock = if c then x.2.clock else y.2.clock :=
  apply_ite (fun z : α × State => z.2.clock) c x y

theorem State.clock_forEach_mem {α : Type} (s : State) (l : List α) (f : α → State → State)
    (h : ∀ a ∈ l, ∀ t : State, (f a t).clock = t.clock) : (s.forEach l f).clock = s.clock := by
  unfold State.forEach
  induction l generalizing s with
  | nil => rfl
  | cons a l ih =>
    exact (ih _ fun b hb => h b (List.mem_cons_of_mem a hb)).trans (h a List.mem_cons_self s)

theorem Field.indep_ab {f g h : Field} (d : Nat) (hf : f.indep h = true) (hg : g.indep h = true) :
    (ab d f g).indep h = true := by
  unfold ab
  split
  · exact hf
  · exact hg

@[simp] theorem clockOf_put_ab (s : State) {f g : Field} (d v i j n : Nat) (b : Bool)
    (hf : f.indep Fld.GLB_STATE.STATE = true) (hg : g.indep Fld.GLB_STATE.STATE = true) :
    clockOf (s.put (ab d f g) v i j).regs n b = clockOf s.regs n b :=
  clockOf_put s i j n b v (Field.indep_ab d hf hg)

@[simp] theorem clockOf_putI_ab (s : State) {f g : Field} (d : Nat) (v : Int) (i j n : Nat) (b : Bool)
    (hf : f.indep Fld.GLB_STATE.STATE = true) (hg : g.indep Fld.GLB_STATE.STATE = true) :
    clockOf (s.putI (ab d f g) v i j).regs n b = clockOf s.regs n b :=
  clockOf_putI s i j n b v (Field.indep_ab d hf hg)

/-- A register above GLB_STATE. -/
theorem RegDef.disjoint_state_of_lt {r : RegDef} (h : 0x10 < r.base) : r.disjoint Reg.GLB_STATE = true := by
  have hlt : Reg.GLB_STATE.base + Reg.GLB_STATE.s1 * (Reg.GLB_STATE.n1 - 1) + Reg.GLB_STATE.s2 * (Reg.GLB_STATE.n2 - 1)
      < r.base := h
  simp only [RegDef.disjoint, hlt, decide_true, Bool.or_true, Bool.true_or]

/-- The clock that an outcome leaves. -/
def clockAfter : Host.Outcome State Fault Refusal → Option (Nat × Bool × Nat)
  | .next t => some t.clock
  | _ => none

@[simp] theorem clockAfter_next (t : State) : clockAfter (.next t) = some t.clock := rfl

@[simp] theorem clockAfter_ite (c : Prop) [Decidable c] (o p : Host.Outcome State Fault Refusal) :
    clockAfter (if c then o else p) = if c then clockAfter o else clockAfter p := apply_ite clockAfter c o p

@[simp] theorem State.clock_did (s : State) (o : Host.Outcome State Fault Refusal) (h : clockAfter o = some s.clock) :
    (s.did o).clock = s.clock := by
  cases o with
  | next t => exact Option.some.inj h
  | fault _ => rfl
  | refused _ => rfl

section
variable (s : State)

/-! ## A write by the access codes -/

@[simp] theorem State.clock_writeByCode {r : RegDef} (v i j : Nat) (h : r.disjoint Reg.GLB_STATE = true) :
    (s.writeByCode r v i j).clock = s.clock := by
  unfold State.writeByCode
  simp +decide [h]

/-! ## Shared operations -/

@[simp] theorem State.clock_startSuppressed (c : Nat) : (s.startSuppressed c).clock = s.clock := by
  simp +decide [State.startSuppressed]

@[simp] theorem State.clock_writerNext : s.writerNext.clock = s.clock := by
  unfold State.writerNext
  dsimp only
  repeat' split
  all_goals simp +decide

@[simp] theorem State.clock_assertNext (unit port : Nat) : (s.assertNext unit port).clock = s.clock := by
  simp [State.assertNext]

@[simp] theorem State.clock_classEvt (id : Nat) : (s.classEvt id).clock = s.clock := by simp +decide [State.classEvt]

@[simp] theorem State.clock_sawWords (id : Nat) (ws : List Nat) : (s.sawWords id ws).clock = s.clock := by
  simp +decide [State.sawWords]

/-! ## Faults of words -/

@[simp] theorem State.clock_sdWithdraw : s.sdWithdraw.clock = s.clock := by simp +decide [State.sdWithdraw]

@[simp] theorem State.clock_selfDiag (code : Nat) : (s.selfDiag code).clock = s.clock := by
  unfold State.selfDiag
  split <;> simp +decide

@[simp] theorem State.clock_selfDiagGone (code : Nat) : (s.selfDiagGone code).clock = s.clock := by
  simp +decide [State.selfDiagGone]

@[simp] theorem State.clock_causeGone (b : Nat) : (s.causeGone b).clock = s.clock := by rfl

/-! ## Front end -/

@[simp] theorem State.clock_cancelDown (n : Nat) : (s.cancelDown n).clock = s.clock := by simp +decide [State.cancelDown]
@[simp] theorem State.clock_upRange (n k : Nat) : (s.upRange n k).clock = s.clock := by simp +decide [State.upRange]
@[simp] theorem State.clock_markOvl (c k : Nat) : (s.markOvl c k).clock = s.clock := by simp [State.markOvl]

@[simp] theorem State.clock_overload (n k : Nat) (clamp : Bool) : (s.overload n k clamp).clock = s.clock := by
  simp +decide [State.overload]

@[simp] theorem State.clock_excRamp (n : Nat) : (s.excRamp n).clock = s.clock := by simp +decide [State.excRamp]
@[simp] theorem State.clock_excOff (n : Nat) : (s.excOff n).clock = s.clock := by simp +decide [State.excOff]

@[simp] theorem State.clock_observe (n d : Nat) (pos : Nat) (cond : Bool) : (s.observe n d pos cond).clock = s.clock := by
  simp [State.observe]

@[simp] theorem State.clock_excObserve (k : Nat) (o : ExcObs) : (s.excObserve k o).clock = s.clock := by
  simp +decide [State.excObserve]

@[simp] theorem State.clock_wireCheck (half : Bool) (o : WireObs) : (s.wireCheck half o).clock = s.clock := by
  simp +decide [State.wireCheck]

@[simp] theorem State.clock_confirmBreak (n cause : Nat) : (s.confirmBreak n cause).clock = s.clock := by
  unfold State.confirmBreak
  dsimp only
  split <;> simp +decide

@[simp] theorem State.clock_wireBreak (n : Nat) : (s.wireBreak n).clock = s.clock := by
  unfold State.wireBreak
  split <;> simp

@[simp] theorem State.clock_excRetry (n : Nat) : (s.excRetry n).clock = s.clock := by simp [State.excRetry]
@[simp] theorem State.clock_wrAfeCfg (n v : Nat) : (s.wrAfeCfg n v).clock = s.clock := by simp +decide [State.wrAfeCfg]
@[simp] theorem State.clock_wrAfeExc (n v : Nat) : (s.wrAfeExc n v).clock = s.clock := by simp +decide [State.wrAfeExc]
@[simp] theorem State.clock_wrAfeCtrl (n v : Nat) : (s.wrAfeCtrl n v).clock = s.clock := by simp +decide [State.wrAfeCtrl]
@[simp] theorem State.clock_wrAfeGlb (v : Nat) : (s.wrAfeGlb v).clock = s.clock := by simp +decide [State.wrAfeGlb]

/-! ## Converters -/

@[simp] theorem State.clock_draw : (s.draw).2.clock = s.clock := by rfl

@[simp] theorem State.clock_scanEnd (regular : Bool) : (s.scanEnd regular).clock = s.clock := by
  unfold State.scanEnd
  rw [State.clock_auxGo]
  refine State.clock_when _ _ _ fun t => ?_
  dsimp only
  split <;> simp +decide

@[simp] theorem State.clock_auxStore (injected : Option Nat) (m : Nat) (x : Int) (parity : Bool) :
    (s.auxStore injected m x parity).2.clock = s.clock := by
  unfold State.auxStore
  dsimp only
  repeat' split
  all_goals simp +decide

@[simp] theorem State.clock_scalAdd (m : Nat) (x : Int) (parity : Bool) :
    (s.scalAdd m x parity).clock = s.clock := by
  unfold State.scalAdd
  split <;> simp

@[simp] theorem State.clock_auxRegular (entry : Option Nat) (m : Nat) (x : Int) (parity : Bool) :
    (s.auxRegular entry m x parity).clock = s.clock := by
  unfold State.auxRegular
  dsimp only
  split <;> simp

@[simp] theorem State.clock_injectEnd : s.injectEnd.clock = s.clock := by
  unfold State.injectEnd
  dsimp only
  split <;> simp +decide

@[simp] theorem clockAfter_execAuxConversionDone (code : Int) (parity : Bool) :
    clockAfter (execAuxConversionDone code parity s) = some s.clock := by
  unfold execAuxConversionDone
  split <;> simp

@[simp] theorem clockAfter_execAuxInjectStart : clockAfter (execAuxInjectStart s) = some s.clock := by
  unfold execAuxInjectStart
  repeat' split
  all_goals simp +decide

@[simp] theorem State.clock_scalResult (m result : Nat) : (s.scalResult m result).clock = s.clock := by
  simp +decide [State.scalResult]

@[simp] theorem State.clock_scalStart : s.scalStart.clock = s.clock := by simp +decide [State.scalStart]
@[simp] theorem State.clock_wrScalCtrl (v : Nat) : (s.wrScalCtrl v).clock = s.clock := by simp +decide [State.wrScalCtrl]

@[simp] theorem clockAfter_execSarScalPointDone : clockAfter (execSarScalPointDone s) = some s.clock := by
  unfold execSarScalPointDone
  split <;> simp +decide

@[simp] theorem State.clock_scalHouse : s.scalHouse.clock = s.clock := by simp +decide [State.scalHouse]
@[simp] theorem State.clock_wrExcsel (v : Nat) : (s.wrExcsel v).clock = s.clock := by simp +decide [State.wrExcsel]

@[simp] theorem State.clock_wrModCtrl (v : Nat) : (s.wrModCtrl v).clock = s.clock := by
  simp +decide [State.wrModCtrl, State.when]

/-! ## Filters -/

@[simp] theorem clockAfter_execCoefParityError (mode d : Nat) (running next : List Nat) :
    clockAfter (execCoefParityError mode d running next s) = some s.clock := by
  unfold execCoefParityError
  extract_lets +onlyGivenNames flagged poisoned key again
  have hpoisoned : poisoned.clock = flagged.clock := State.clock_forEach _ _ _ fun c t => by
    split
    · dsimp only
      split <;> simp
    · rfl
  have hflagged : flagged.clock = s.clock := by simp +decide [flagged]
  simp [hpoisoned, hflagged]

@[simp] theorem State.clock_wrFltCtrl (c v : Nat) : (s.wrFltCtrl c v).clock = s.clock := by simp +decide [State.wrFltCtrl]

/-! ## Conditioning -/

@[simp] theorem State.clock_linTemp (u : PatUnit) : (s.linTemp u).2.clock = s.clock := by
  unfold State.linTemp
  split <;> simp +decide

@[simp] theorem State.clock_linearise (u : PatUnit) : (s.linearise u).clock = s.clock := by
  unfold State.linearise
  dsimp only
  repeat' split
  all_goals simp +decide

@[simp] theorem State.clock_thrKeep (u : PatUnit) (v : Option Int) : (s.thrKeep u v).clock = s.clock := by rfl
@[simp] theorem State.clock_thrMark (u : PatUnit) : (s.thrMark u).clock = s.clock := by rfl

@[simp] theorem State.clock_thrSet (u : PatUnit) (on : Bool) : (s.thrSet u on).clock = s.clock := by
  simp +decide [State.thrSet]

@[simp] theorem State.clock_threshold (u : PatUnit) : (s.threshold u).clock = s.clock := by simp [State.threshold]

@[simp] theorem State.clock_enterPhase (k : Nat) (late : Bool) : (s.enterPhase k late).clock = s.clock := by
  simp +decide [State.enterPhase]

/-! ## Calibration -/

@[simp] theorem State.clock_stageCoef (c off v : Nat) : (s.stageCoef c off v).clock = s.clock := by rfl

@[simp] theorem State.clock_wrCoef (c off v source : Nat) : (s.wrCoef c off v source).clock = s.clock := by
  simp +decide [State.wrCoef]

@[simp] theorem State.clock_wrCalCtrl (v : Nat) : (s.wrCalCtrl v).clock = s.clock := by simp +decide [State.wrCalCtrl]
@[simp] theorem State.clock_mendDegraded : s.mendDegraded.clock = s.clock := by simp +decide [State.mendDegraded]

@[simp] theorem State.clock_mendResult (m result : Nat) (rho : Int) (source : Nat) :
    (s.mendResult m result rho source).clock = s.clock := by
  simp +decide [State.mendResult]

@[simp] theorem clockAfter_execCalStepEnd (edge : Int) : clockAfter (execCalStepEnd edge s) = some s.clock := by
  unfold execCalStepEnd
  split <;> simp

@[simp] theorem State.clock_measured (w : Swap) (result : Nat) : (s.measured w result).clock = s.clock := by
  unfold State.measured
  repeat' split
  all_goals simp

@[simp] theorem State.clock_stepEval : s.stepEval.clock = s.clock := by
  unfold State.stepEval
  repeat' split
  all_goals simp

@[simp] theorem State.clock_abortAt (w : Swap) (code : Nat) : (s.abortAt w code).clock = s.clock := by simp [State.abortAt]

@[simp] theorem State.clock_mendFails (m : Nat) (second : Bool) (result : Nat) :
    (s.mendFails m second result).clock = s.clock := by
  simp +decide [State.mendFails]

@[simp] theorem clockAfter_execMatchTimeout : clockAfter (execMatchTimeout s) = some s.clock := by
  unfold execMatchTimeout
  repeat' split
  all_goals simp

@[simp] theorem State.clock_calWireBreak (n : Nat) : (s.calWireBreak n).clock = s.clock := by
  unfold State.calWireBreak
  split <;> simp

@[simp] theorem State.clock_calEnd (code : Nat) : (s.calEnd code).clock = s.clock := by
  unfold State.calEnd
  repeat' split
  all_goals simp

@[simp] theorem State.clock_calStart (c : Nat) (force : Bool) : (s.calStart c force).clock = s.clock := by
  simp [State.calStart]

@[simp] theorem State.clock_calSchedule : s.calSchedule.clock = s.clock := by
  unfold State.calSchedule
  repeat' split
  all_goals simp

@[simp] theorem State.clock_calHouse : s.calHouse.clock = s.clock := by
  unfold State.calHouse
  extract_lets +onlyGivenNames t ages
  have hages : ages.clock = t.clock := State.clock_forEach _ _ _ fun m u => by
    split <;> simp +decide
  simpa +decide [t] using hages

@[simp] theorem State.clock_podResult (c result : Nat) : (s.podResult c result).clock = s.clock := by simp [State.podResult]

@[simp] theorem clockAfter_execCalPodPointDone : clockAfter (execCalPodPointDone s) = some s.clock := by
  unfold execCalPodPointDone
  dsimp only
  repeat' split
  all_goals simp

@[simp] theorem clockAfter_execCalPodPointTimeout : clockAfter (execCalPodPointTimeout s) = some s.clock := by
  unfold execCalPodPointTimeout
  split <;> simp

@[simp] theorem State.clock_podBlocks (p : Nat) : (s.podBlocks p).clock = s.clock := by
  unfold State.podBlocks
  extract_lets +onlyGivenNames lo hi t
  have ht : t.clock = s.clock := State.clock_forEach _ _ _ fun k u => by
    simp +decide
  split_ifs
  · rfl
  · rfl
  · simpa +decide using ht

/-! ## Latency of the path -/

@[simp] theorem State.clock_krMargin (p delay : Nat) : (s.krMargin p delay).clock = s.clock := by
  unfold State.krMargin
  split <;> simp +decide

/-! ## Time -/

@[simp] theorem State.clock_setPd (p : Nat) (x : PdPort) : (s.setPd p x).clock = s.clock := by rfl
@[simp] theorem State.clock_showInc (d inc : Nat) : (s.showInc d inc).clock = s.clock := by simp +decide [State.showInc]
@[simp] theorem State.clock_setInc (d inc : Nat) : (s.setInc d inc).clock = s.clock := by simp [State.setInc]

@[simp] theorem State.clock_setLock (d : Nat) (on : Bool) : (s.setLock d on).clock = s.clock := by
  simp +decide [State.setLock]

@[simp] theorem State.clock_rootClass (d : Nat) : (s.rootClass d).clock = s.clock := by simp [State.rootClass]

@[simp] theorem State.clock_hear (m : Option (Nat × TimeVal)) (hub : Nat) : (s.hear m hub).clock = s.clock := by
  unfold State.hear
  split <;> simp +decide

@[simp] theorem State.clock_showLock : s.showLock.clock = s.clock := by simp +decide [State.showLock]

@[simp] theorem State.clock_showPd (p : Nat) : (s.showPd p).clock = s.clock := by
  unfold State.showPd
  split <;> simp +decide

@[simp] theorem State.clock_pdRestart (p : Nat) : (s.pdRestart p).clock = s.clock := by simp [State.pdRestart]

@[simp] theorem clockAfter_execPdReq (port : Nat) (msg : PdMsg) (ago turn : Int) :
    clockAfter (execPdReq port msg ago turn s) = some s.clock := by
  unfold execPdReq
  split_ifs <;> simp +decide

@[simp] theorem State.clock_judgeTun : s.judgeTun.clock = s.clock := by simp +decide [State.judgeTun]
@[simp] theorem State.clock_pdValue (p : Nat) (d : Int) : (s.pdValue p d).clock = s.clock := by simp [State.pdValue]

@[simp] theorem clockAfter_execPdResp (port : Nat) (msg : PdMsg) (turn ago : Int) :
    clockAfter (execPdResp port msg turn ago s) = some s.clock := by
  unfold execPdResp
  dsimp only
  repeat' split
  all_goals simp +decide

@[simp] theorem State.clock_judgeLock (d : Nat) (theta : Int) : (s.judgeLock d theta).clock = s.clock := by
  simp [State.judgeLock]

@[simp] theorem State.clock_servo (d : Nat) (theta : Int) : (s.servo d theta).clock = s.clock := by simp [State.servo]

@[simp] theorem State.clock_showTheta (d : Nat) (theta : Int) : (s.showTheta d theta).clock = s.clock := by
  simp +decide [State.showTheta]

@[simp] theorem State.clock_counterAgree (m : SyncMsg) : (s.counterAgree m).clock = s.clock := by
  unfold State.counterAgree
  split <;> simp +decide

@[simp] theorem State.clock_useSync (h : HeldSync) : (s.useSync h).clock = s.clock := by
  unfold State.useSync
  dsimp only
  split_ifs <;> simp +decide [Field.indep_ab]

@[simp] theorem State.clock_settleSync (d : Nat) : (s.settleSync d).clock = s.clock := by
  unfold State.settleSync
  split <;> simp

@[simp] theorem State.clock_offerSync (port : Nat) (m : SyncMsg) (theta : Int) :
    (s.offerSync port m theta).clock = s.clock := by
  unfold State.offerSync
  dsimp only
  repeat' split
  all_goals simp

@[simp] theorem clockAfter_execDomainLoss (domain : Nat) : clockAfter (execDomainLoss domain s) = some s.clock := by
  unfold execDomainLoss
  split_ifs
  · rfl
  · simp +decide [Field.indep_ab]

@[simp] theorem State.clock_ppsRoot (d : Nat) (ago : Int) : (s.ppsRoot d ago).clock = s.clock := by
  simp +decide [State.ppsRoot]

@[simp] theorem State.clock_takeDomain (d : Nat) : (s.takeDomain d).clock = s.clock := by simp +decide [State.takeDomain]

@[simp] theorem State.clock_judgeHoldover : s.judgeHoldover.clock = s.clock := by
  unfold State.judgeHoldover
  extract_lets +onlyGivenNames on was t notice follow
  have ht : t.clock = s.clock := by simp +decide [t]
  have hnotice : notice.clock = t.clock := by
    simp +decide [notice, State.when]
  have hfollow : follow.clock = notice.clock := State.clock_when _ _ _ fun u => by
    split <;> simp +decide
  simpa using hfollow.trans (hnotice.trans ht)

@[simp] theorem State.clock_rootLock (d : Nat) : (s.rootLock d).clock = s.clock := by
  unfold State.rootLock
  repeat' split
  all_goals simp

@[simp] theorem State.clock_timeHouse : s.timeHouse.clock = s.clock := by
  unfold State.timeHouse
  dsimp only
  repeat' split
  all_goals simp +decide

@[simp] theorem State.clock_clockEdge : s.clockEdge.clock = s.clock := by simp +decide [State.clockEdge]

@[simp] theorem State.clock_toutStep : s.toutStep.clock = s.clock := by
  refine State.clock_forEach _ _ _ fun u t => ?_
  split <;> simp

@[simp] theorem clockAfter_execTimeStepApply : clockAfter (execTimeStepApply s) = some s.clock := by
  unfold execTimeStepApply
  split <;> simp +decide

@[simp] theorem clockAfter_execTimeSelectEffect : clockAfter (execTimeSelectEffect s) = some s.clock := by
  unfold execTimeSelectEffect
  split <;> simp +decide

@[simp] theorem State.clock_putTime (lo : Field) (hi : Field) (ns frac : Field) (valid : Field) (t : TimeVal)
    (k : Nat) (hlo : lo.indep Fld.GLB_STATE.STATE = true) (hhi : hi.indep Fld.GLB_STATE.STATE = true)
    (hns : ns.indep Fld.GLB_STATE.STATE = true)
    (hfrac : frac.indep Fld.GLB_STATE.STATE = true) (hvalid : valid.indep Fld.GLB_STATE.STATE = true) :
    (s.putTime lo hi ns frac valid t k).clock = s.clock := by
  simp +decide [State.putTime, *]

@[simp] theorem State.clock_irqCapture : s.irqCapture.clock = s.clock := by simp +decide [State.irqCapture]

@[simp] theorem clockAfter_execTinEdge (k : Nat) (falling : Bool) (ago : Nat) :
    clockAfter (execTinEdge k falling ago s) = some s.clock := by
  unfold execTinEdge
  split <;> simp +decide

@[simp] theorem clockAfter_execToutPulse (k : Nat) : clockAfter (execToutPulse k s) = some s.clock := by
  unfold execToutPulse
  dsimp only
  repeat' split
  all_goals simp +decide

@[simp] theorem State.clock_wrInc (d : Nat) (hi : Bool) (v : Nat) : (s.wrInc d hi v).clock = s.clock := by
  simp +decide [State.wrInc]

@[simp] theorem State.clock_wrAdj (d v : Nat) : (s.wrAdj d v).clock = s.clock := by simp [State.wrAdj]
@[simp] theorem State.clock_wrHostQ (v : Nat) : (s.wrHostQ v).clock = s.clock := by simp +decide [State.wrHostQ]

@[simp] theorem State.clock_wrAsym (p v : Nat) : (s.wrAsym p v).clock = s.clock := by
  unfold State.wrAsym
  split <;> simp +decide

@[simp] theorem State.clock_wrIrqCtrl (v : Nat) : (s.wrIrqCtrl v).clock = s.clock := by simp +decide [State.wrIrqCtrl]

/-! ## Edge timing -/

@[simp] theorem State.clock_tdcTime (k c raw : Nat) : (s.tdcTime k c raw).2.clock = s.clock := by
  unfold State.tdcTime
  dsimp only
  split <;> simp

@[simp] theorem State.clock_tdcStarts (k : Nat) (t : Int) : (s.tdcStarts k t).clock = s.clock := by simp [State.tdcStarts]

@[simp] theorem State.clock_tdcStop (k : Nat) (t : Int) (falling : Bool) :
    (s.tdcStop k t falling).clock = s.clock := by
  unfold State.tdcStop
  dsimp only
  split <;> simp

@[simp] theorem clockAfter_execTdcEdge (k : Nat) (falling : Bool) (c raw raw1 raw2 : Nat) :
    clockAfter (execTdcEdge k falling c raw raw1 raw2 s) = some s.clock := by
  unfold execTdcEdge
  split <;> simp +decide

@[simp] theorem State.clock_tdcPop (k : Nat) : (s.tdcPop k).2.clock = s.clock := by
  unfold State.tdcPop
  dsimp only
  split <;> simp

@[simp] theorem clockAfter_execPpsInEdge (ago : Int) : clockAfter (execPpsInEdge ago s) = some s.clock := by
  unfold execPpsInEdge
  repeat' split
  all_goals simp +decide

@[simp] theorem State.clock_wrTdcCfg (v : Nat) : (s.wrTdcCfg v).clock = s.clock := by simp +decide [State.wrTdcCfg]

@[simp] theorem State.clock_wrTdcChCfg (k v : Nat) : (s.wrTdcChCfg k v).clock = s.clock := by
  simp +decide [State.wrTdcChCfg]

@[simp] theorem State.clock_wrTdcCtrl (k v : Nat) : (s.wrTdcCtrl k v).clock = s.clock := by simp +decide [State.wrTdcCtrl]

/-! ## Capture -/

@[simp] theorem State.clock_setTrig (t : Nat) (x : Trig) : (s.setTrig t x).clock = s.clock := by
  simp +decide [State.setTrig]

@[simp] theorem State.clock_trigEvent (u : PatUnit) (port : Nat) : (s.trigEvent u port).2.clock = s.clock := by
  unfold State.trigEvent
  dsimp only
  repeat' split
  all_goals simp

@[simp] theorem State.clock_trigFire (u : PatUnit) (e : TrigEvent) : (s.trigFire u e).clock = s.clock := by
  simp +decide [State.trigFire]

@[simp] theorem State.clock_trigEval (u : PatUnit) : (s.trigEval u).clock = s.clock := by
  unfold State.trigEval
  dsimp only
  repeat' split
  all_goals simp +decide

@[simp] theorem State.clock_trigDecide : s.trigDecide.clock = s.clock := by simp +decide [State.trigDecide]

@[simp] theorem State.clock_lineEvent (t : Nat) (e : TrigEvent) (late : Bool) :
    (s.lineEvent t e late).clock = s.clock := by
  unfold State.lineEvent
  split <;> simp +decide

@[simp] theorem State.clock_segDone (u : PatUnit) : (s.segDone u).clock = s.clock := by simp +decide [State.segDone]
@[simp] theorem State.clock_capAbort (u : PatUnit) : (s.capAbort u).clock = s.clock := by simp +decide [State.capAbort]

@[simp] theorem clockAfter_execCaptureArm (e : Nat) : clockAfter (execCaptureArm e s) = some s.clock := by
  unfold execCaptureArm
  split <;> simp +decide

@[simp] theorem clockAfter_execCaptureAbortEffect (e : Nat) :
    clockAfter (execCaptureAbortEffect e s) = some s.clock := by
  unfold execCaptureAbortEffect
  split <;> simp +decide

@[simp] theorem State.clock_capArm (f mask : Nat) : (s.capArm f mask).2.clock = s.clock := by simp +decide [State.capArm]
@[simp] theorem State.clock_capAbortCmd (mask : Nat) : (s.capAbortCmd mask).2.clock = s.clock := by simp [State.capAbortCmd]

@[simp] theorem State.clock_capForce (unit : Nat) : (s.capForce unit).2.clock = s.clock := by
  unfold State.capForce
  split <;> simp

@[simp] theorem clockAfter_execCapCtrlArm (e : Nat) : clockAfter (execCapCtrlArm e s) = some s.clock := by
  unfold execCapCtrlArm
  repeat' split
  all_goals simp +decide

@[simp] theorem clockAfter_execCapCtrlAbort (e : Nat) : clockAfter (execCapCtrlAbort e s) = some s.clock := by
  unfold execCapCtrlAbort
  repeat' split
  all_goals simp +decide

@[simp] theorem State.clock_wrCapCtrl (e v : Nat) : (s.wrCapCtrl e v).clock = s.clock := by
  have hruns : s.wrCapCtrl e v =
      let t := if bit v 0 then s.did (execCapCtrlArm e s) else s
      if bit v 1 then t.did (execCapCtrlAbort e t) else t := rfl
  simp [hruns]

@[simp] theorem State.clock_tpos (u : PatUnit) (tx : Int) (label : Nat) :
    (s.tpos u tx label).2.clock = s.clock := by
  unfold State.tpos
  split <;> simp

@[simp] theorem State.clock_capTake (u : PatUnit) (trec inst : Nat) (ev : TrigEvent) (bitmap : Nat) :
    (s.capTake u trec inst ev bitmap).clock = s.clock := by
  simp +decide [State.capTake]

@[simp] theorem State.clock_capIgnore (u : PatUnit) : (s.capIgnore u).clock = s.clock := by simp +decide [State.capIgnore]

@[simp] theorem State.clock_capDecide (u : PatUnit) : (s.capDecide u).clock = s.clock := by
  unfold State.capDecide
  repeat' split
  all_goals simp +decide

@[simp] theorem State.clock_clampPre (u : PatUnit) : (s.clampPre u).clock = s.clock := by simp +decide [State.clampPre]

@[simp] theorem State.clock_wrPrePost (e : Nat) (post : Bool) (v : Nat) :
    (s.wrPrePost e post v).clock = s.clock := by
  unfold State.wrPrePost
  split <;> simp +decide

@[simp] theorem State.clock_wrDsel (e v : Nat) : (s.wrDsel e v).clock = s.clock := by simp +decide [State.wrDsel]

/-! ## Loops -/

@[simp] theorem State.clock_loopEvent (u : PatUnit) (cause input lstate word : Nat) :
    (s.loopEvent u cause input lstate word).clock = s.clock := by
  unfold State.loopEvent
  split <;> simp +decide

@[simp] theorem State.clock_onsets (u : PatUnit) (input lstate : Nat) (old new : LoopFb) :
    (s.onsets u input lstate old new).clock = s.clock := by
  simp [State.onsets]

@[simp] theorem State.clock_loopCommand (u : PatUnit) : (s.loopCommand u).2.clock = s.clock := by
  unfold State.loopCommand
  dsimp only
  repeat' split
  all_goals simp +decide

@[simp] theorem State.clock_compute (u : PatUnit) (c v : Int) (w : Nat) (switch frozen held0 : Bool)
    (preset : Option Int) :
    (s.compute u c v w switch frozen held0 preset).2.clock = s.clock := by
  simp +decide [State.compute]

@[simp] theorem State.clock_loopV (u : PatUnit) (c : Int) : (s.loopV u c).2.clock = s.clock := by
  unfold State.loopV
  dsimp only
  repeat' split
  all_goals simp +decide

@[simp] theorem State.clock_setLstate (u : PatUnit) (st : Nat) : (s.setLstate u st).clock = s.clock := by
  simp +decide [State.setLstate]

@[simp] theorem State.clock_loopReturn (u : PatUnit) (input st : Nat) (c v up : Int) (w : Nat) :
    (s.loopReturn u input st c v up w).2.clock = s.clock := by
  simp [State.loopReturn]

@[simp] theorem State.clock_loopRunStep (u : PatUnit) (c v : Int) : (s.loopRunStep u c v).2.clock = s.clock := by
  unfold State.loopRunStep
  dsimp only
  split_ifs <;> simp +decide

@[simp] theorem State.clock_loopReceive (u : PatUnit) : (s.loopReceive u).clock = s.clock := by
  simp +decide [State.loopReceive]

@[simp] theorem State.clock_loopSend (u : PatUnit) (o : LoopOut) : (s.loopSend u o).clock = s.clock := by
  simp +decide [State.loopSend]

@[simp] theorem State.clock_loopCompute (u : PatUnit) : (s.loopCompute u).clock = s.clock := by
  simp +decide [State.loopCompute]

@[simp] theorem State.clock_lockstep (u : PatUnit) (agrees : Bool) : (s.lockstep u agrees).2.clock = s.clock := by
  unfold State.lockstep
  dsimp only
  split_ifs <;> simp +decide

@[simp] theorem State.clock_loopDue (mismatch : List (Nat × Bool)) (u : PatUnit) :
    (s.loopDue mismatch u).clock = s.clock := by
  unfold State.loopDue
  split <;> simp

@[simp] theorem State.clock_loopDecide (mismatch : List (Nat × Bool)) : (s.loopDecide mismatch).clock = s.clock := by
  simp +decide [State.loopDecide]

@[simp] theorem State.clock_loopIntSet (slot : Nat) (value : Int) :
    (s.loopIntSet slot value).2.clock = s.clock := by
  unfold State.loopIntSet
  split <;> simp

@[simp] theorem State.clock_loopRet (slot : Nat) : (s.loopRet slot).2.clock = s.clock := by
  unfold State.loopRet
  dsimp only
  repeat' split
  all_goals simp

@[simp] theorem clockAfter_execLoopCmdWrite (slot v : Nat) : clockAfter (execLoopCmdWrite slot v s) = some s.clock := by
  simp [execLoopCmdWrite]

@[simp] theorem clockAfter_execLoopCmdFifoPush (slot v : Nat) :
    clockAfter (execLoopCmdFifoPush slot v s) = some s.clock := by
  simp +decide [execLoopCmdFifoPush]

@[simp] theorem clockAfter_execLoopFifoFlush (slot : Nat) : clockAfter (execLoopFifoFlush slot s) = some s.clock := by
  simp +decide [execLoopFifoFlush]

@[simp] theorem clockAfter_execLoopCntClr (slot : Nat) : clockAfter (execLoopCntClr slot s) = some s.clock := by
  simp +decide [execLoopCntClr]

@[simp] theorem clockAfter_execLoopGainWrite (slot gain v : Nat) :
    clockAfter (execLoopGainWrite slot gain v s) = some s.clock := by
  unfold execLoopGainWrite
  repeat' split
  all_goals simp +decide

/-! ## Sluices -/

@[simp] theorem State.clock_setSlu (o : Nat) (x : Sluice) : (s.setSlu o x).clock = s.clock := by simp +decide [State.setSlu]
@[simp] theorem State.clock_showClaiming : s.showClaiming.clock = s.clock := by simp +decide [State.showClaiming]
@[simp] theorem State.clock_healthHouse : s.healthHouse.clock = s.clock := by simp +decide [State.healthHouse]
@[simp] theorem State.clock_healthEmit : s.healthEmit.clock = s.clock := by simp +decide [State.healthEmit]
@[simp] theorem State.clock_addCand (o : Nat) (c : Cand) : (s.addCand o c).clock = s.clock := by simp [State.addCand]

@[simp] theorem State.clock_takeSetpoints : s.takeSetpoints.clock = s.clock := by
  refine State.clock_forEach _ _ _ fun u t => State.clock_forEach _ _ _ fun k t => ?_
  repeat' split
  all_goals simp

@[simp] theorem State.clock_claimOffer (id hub label stand claim word : Nat) (late : Bool) :
    (s.claimOffer id hub label stand claim word late).clock = s.clock := by
  unfold State.claimOffer
  repeat' split
  all_goals simp +decide

@[simp] theorem State.clock_partnerDegraded : s.partnerDegraded.clock = s.clock := by simp +decide [State.partnerDegraded]
@[simp] theorem State.clock_partnerCount (u : PatUnit) : (s.partnerCount u).clock = s.clock := by simp [State.partnerCount]

@[simp] theorem State.clock_sluForce (o : Nat) : (s.sluForce o).clock = s.clock := by
  unfold State.sluForce
  dsimp only
  split <;> simp +decide

@[simp] theorem State.clock_sluNext (u : PatUnit) (word state : Nat) : (s.sluNext u word state).clock = s.clock := by
  simp +decide [State.sluNext]

@[simp] theorem State.clock_arbitrate (u : PatUnit) : (s.arbitrate u).clock = s.clock := by
  unfold State.arbitrate
  split <;> simp +decide

@[simp] theorem State.clock_podChoose (u : PatUnit) : (s.podChoose u).clock = s.clock := by simp [State.podChoose]
@[simp] theorem State.clock_sluDecide : s.sluDecide.clock = s.clock := by simp [State.sluDecide]

@[simp] theorem State.clock_sluEmit (pins : List (Nat × Int)) : (s.sluEmit pins).clock = s.clock := by
  simp +decide [State.sluEmit, State.when]

@[simp] theorem clockAfter_execOutputFault (o : Nat) : clockAfter (execOutputFault o s) = some s.clock := by
  unfold execOutputFault
  split <;> simp +decide

@[simp] theorem State.clock_sluReclaim : (s.sluReclaim).2.clock = s.clock := by
  unfold State.sluReclaim
  split_ifs <;> simp +decide

@[simp] theorem State.clock_sluForceCmd (inst on : Nat) : (s.sluForceCmd inst on).2.clock = s.clock := by
  unfold State.sluForceCmd
  repeat' split
  all_goals simp

@[simp] theorem clockAfter_execSluCntClr (o : Nat) : clockAfter (execSluCntClr o s) = some s.clock := by
  simp +decide [execSluCntClr]

/-! ## Ring -/

@[simp] theorem State.clock_sendAll (f : List Byte) : (s.sendAll f).clock = s.clock := by simp [State.sendAll]

@[simp] theorem State.clock_ringPort (p : Nat) (up : Bool) : (s.ringPort p up).clock = s.clock := by
  unfold State.ringPort
  split_ifs <;> simp +decide

@[simp] theorem State.clock_rxMark (p lseq : Nat) : (s.rxMark p lseq).clock = s.clock := by simp [State.rxMark]

@[simp] theorem State.clock_sendNaks (p : Nat) (fuel : Nat) (lseq : Nat) (count : Nat) :
    (s.sendNaks p fuel lseq count).clock = s.clock := by
  induction fuel generalizing s lseq count with
  | zero => rfl
  | succ fuel ih =>
    unfold State.sendNaks
    split_ifs
    · rfl
    · simp +decide [ih]

@[simp] theorem State.clock_rxLink (p lseq type : Nat) (f : List Byte) :
    (s.rxLink p lseq type f).2.clock = s.clock := by
  unfold State.rxLink
  dsimp only
  split_ifs <;> simp +decide

@[simp] theorem State.clock_heardHub (h : Nat) : (s.heardHub h).clock = s.clock := by simp +decide [State.heardHub]

@[simp] theorem State.clock_forward (p : Nat) (f : List Byte) (stomp : Bool) : (s.forward p f stomp).clock = s.clock := by
  simp [State.forward]

@[simp] theorem State.clock_receive (p lseq type : Nat) (fwd : Bool) (f : List Byte) :
    (s.receive p lseq type fwd f).2.clock = s.clock := by
  unfold State.receive
  dsimp only
  split_ifs <;> simp +decide

@[simp] theorem State.clock_keyed (k : SeenKey) : (s.keyed k).2.clock = s.clock := by
  unfold State.keyed
  split <;> simp +decide

@[simp] theorem State.clock_setConf (k : Nat) (x : Conf) : (s.setConf k x).clock = s.clock := by
  simp +decide [State.setConf]

@[simp] theorem State.clock_confTake (u : PatUnit) (p : Nat) (f : List Byte) :
    (s.confTake u p f).clock = s.clock := by
  unfold State.confTake
  split <;> simp +decide

@[simp] theorem State.clock_dualMark (f : List Byte) : (s.dualMark f).clock = s.clock := by
  unfold State.dualMark
  split <;> simp

@[simp] theorem State.clock_confDeliver (u : PatUnit) : (s.confDeliver u).clock = s.clock := by
  unfold State.confDeliver
  dsimp only
  split <;> simp +decide

@[simp] theorem State.clock_ringDecide : s.ringDecide.clock = s.clock := by simp [State.ringDecide]
@[simp] theorem State.clock_trigEmit : s.trigEmit.clock = s.clock := by simp +decide [State.trigEmit]
@[simp] theorem State.clock_claimEmit : s.claimEmit.clock = s.clock := by simp +decide [State.claimEmit]

@[simp] theorem State.clock_resend (p : Nat) (e : Nat × List Byte) : (s.resend p e).clock = s.clock := by
  simp +decide [State.resend]

@[simp] theorem clockAfter_execRetransmitTimeout (port : Nat) :
    clockAfter (execRetransmitTimeout port s) = some s.clock := by
  unfold execRetransmitTimeout
  split <;> simp

@[simp] theorem State.clock_probe (p : Nat) (change : Bool) : (s.probe p change).clock = s.clock := by simp [State.probe]
@[simp] theorem State.clock_setId (id src : Nat) : (s.setId id src).clock = s.clock := by simp +decide [State.setId]

@[simp] theorem State.clock_discJudge : s.discJudge.clock = s.clock := by
  unfold State.discJudge
  split <;> simp +decide

@[simp] theorem State.clock_ringDiscover : (s.ringDiscover).2.clock = s.clock := by simp [State.ringDiscover]

@[simp] theorem clockAfter_execDiscProbeTimeout (port : Nat) :
    clockAfter (execDiscProbeTimeout port s) = some s.clock := by
  unfold execDiscProbeTimeout
  split <;> simp

@[simp] theorem State.clock_discPass (p : Nat) (f : List Byte) : (s.discPass p f).clock = s.clock := by
  simp +decide [State.discPass]

@[simp] theorem State.clock_discBack (p : Nat) (f : List Byte) : (s.discBack p f).clock = s.clock := by
  unfold State.discBack
  dsimp only
  split <;> simp

@[simp] theorem State.clock_hubSilent (hub : Nat) : (s.hubSilent hub).clock = s.clock := by simp +decide [State.hubSilent]
@[simp] theorem clockAfter_execRingCntClr : clockAfter (execRingCntClr s) = some s.clock := by simp +decide [execRingCntClr]

/-! ## Lanes -/

@[simp] theorem State.clock_setLane (n : Nat) (x : Lane) : (s.setLane n x).clock = s.clock := by rfl
@[simp] theorem State.clock_laneTo (n st : Nat) : (s.laneTo n st).clock = s.clock := by simp +decide [State.laneTo]
@[simp] theorem State.clock_detect (n rate : Nat) : (s.detect n rate).clock = s.clock := by simp +decide [State.detect]
@[simp] theorem State.clock_laneOff (n : Nat) : (s.laneOff n).clock = s.clock := by simp +decide [State.laneOff]
@[simp] theorem State.clock_laneBlind (n : Nat) : (s.laneBlind n).clock = s.clock := by simp +decide [State.laneBlind]

@[simp] theorem State.clock_laneRestart (n rate : Nat) : (s.laneRestart n rate).clock = s.clock := by
  simp [State.laneRestart]

@[simp] theorem State.clock_laneDegraded : s.laneDegraded.clock = s.clock := by simp +decide [State.laneDegraded]
@[simp] theorem State.clock_portRestart (p : Nat) : (s.portRestart p).clock = s.clock := by simp +decide [State.portRestart]

@[simp] theorem State.clock_setActive (p : Nat) (set : List Nat) : (s.setActive p set).clock = s.clock := by
  simp +decide [State.setActive]

@[simp] theorem State.clock_laneDrop (n cause : Nat) : (s.laneDrop n cause).clock = s.clock := by
  unfold State.laneDrop
  dsimp only
  split <;> simp +decide

@[simp] theorem State.clock_laneRetrain (n : Nat) : (s.laneRetrain n).clock = s.clock := by simp +decide [State.laneRetrain]
@[simp] theorem State.clock_laneLeft (n : Nat) : (s.laneLeft n).clock = s.clock := by simp [State.laneLeft]

@[simp] theorem State.clock_ffeRequest (n req : Nat) : (s.ffeRequest n req).clock = s.clock := by
  simp +decide [State.ffeRequest]

@[simp] theorem State.clock_blkErr (n k : Nat) : (s.blkErr n k).clock = s.clock := by simp +decide [State.blkErr]

@[simp] theorem State.clock_peerFields (n b1 : Nat) : (s.peerFields n b1).clock = s.clock := by
  simp +decide [State.peerFields]

@[simp] theorem clockAfter_execRateChange (lane : Nat) : clockAfter (execRateChange lane s) = some s.clock := by
  unfold execRateChange
  split <;> simp +decide

@[simp] theorem State.clock_lanePass (n : Nat) (keepSpare : Bool) : (s.lanePass n keepSpare).clock = s.clock := by
  simp [State.lanePass]

@[simp] theorem State.clock_laneFail (n : Nat) : (s.laneFail n).clock = s.clock := by simp +decide [State.laneFail]
@[simp] theorem State.clock_portJudge (p : Nat) : (s.portJudge p).clock = s.clock := by simp +decide [State.portJudge]

@[simp] theorem State.clock_checkEnd (n : Nat) (pass : Bool) : (s.checkEnd n pass).clock = s.clock := by
  simp [State.checkEnd]

@[simp] theorem State.clock_laneJoin (ns : List Nat) : (s.laneJoin ns).clock = s.clock := by simp +decide [State.laneJoin]

@[simp] theorem clockAfter_execAm (lane skew : Nat) (block : List Byte) :
    clockAfter (execAm lane skew block s) = some s.clock := by
  unfold execAm
  repeat' split
  all_goals simp +decide

@[simp] theorem State.clock_laneTrouble (n cause : Nat) : (s.laneTrouble n cause).clock = s.clock := by
  simp [State.laneTrouble]

@[simp] theorem clockAfter_execAdaptWindow (lane td div shErr blkErr bitErr : Nat) (ctle : Int) (taps : List Int)
    :
    clockAfter (execAdaptWindow lane td div shErr blkErr bitErr ctle taps s) = some s.clock := by
  unfold execAdaptWindow
  extract_lets +onlyGivenNames st
  split
  · rfl
  · extract_lets +onlyGivenNames frozen move moved low shown froze counted
    have hmove : ∀ (t : State) (f : Field) (lo hi v : Int), f.indep Fld.GLB_STATE.STATE = true →
        (move t f lo hi v).clock = t.clock := by
      intro t f lo hi v hf
      simp +decide [move, hf]
    have hmoved : moved.clock = s.clock := by
      have htaps : ∀ e ∈ dfeTaps, e.1.indep Fld.GLB_STATE.STATE = true := by decide
      have hall : ((move s Fld.LANE_Ln_EQ.CTLE 0 15 ctle).forEach (dfeTaps.zip taps) fun e t =>
          move t e.1.1 (-e.1.2) e.1.2 e.2).clock = s.clock :=
        (State.clock_forEach_mem _ _ _ fun e he t => hmove t _ _ _ _ (htaps e.1 (List.of_mem_zip he).1)).trans
          (hmove s _ _ _ _ (by decide))
      unfold moved
      split
      · rfl
      · exact hall
    have hcounted : counted.clock = s.clock := by simp +decide [counted, froze, shown, hmoved]
    have hfroze : froze.clock = s.clock := by simp +decide [froze, shown, hmoved]
    clear_value froze counted
    repeat' split
    all_goals simp +decide [hcounted, hfroze]

@[simp] theorem clockAfter_execLaneCntClr (lane : Nat) : clockAfter (execLaneCntClr lane s) = some s.clock := by
  simp +decide [execLaneCntClr]

@[simp] theorem clockAfter_execLanePrbsClr (lane : Nat) : clockAfter (execLanePrbsClr lane s) = some s.clock := by
  simp +decide [execLanePrbsClr]

@[simp] theorem State.clock_laneOut (n : Nat) : (s.laneOut n).clock = s.clock := by simp [State.laneOut]
@[simp] theorem State.clock_testEnd (n : Nat) : (s.testEnd n).clock = s.clock := by simp +decide [State.testEnd]

@[simp] theorem State.clock_laneAdmin (n mode : Nat) : (s.laneAdmin n mode).2.clock = s.clock := by
  unfold State.laneAdmin
  dsimp only
  split_ifs <;> simp +decide

@[simp] theorem State.clock_laneRetrainCmd (n : Nat) : (s.laneRetrainCmd n).2.clock = s.clock := by
  unfold State.laneRetrainCmd
  split_ifs <;> simp

@[simp] theorem State.clock_laneTest (n gen chk loop : Nat) : (s.laneTest n gen chk loop).2.clock = s.clock := by
  unfold State.laneTest
  dsimp only
  split_ifs <;> simp +decide

@[simp] theorem State.clock_lanesOff : s.lanesOff.clock = s.clock := by simp [State.lanesOff]
@[simp] theorem State.clock_lanesStart : s.lanesStart.clock = s.clock := by simp [State.lanesStart]

/-! ## Field ports -/

@[simp] theorem State.clock_toLstate (p st : Nat) : (s.toLstate p st).clock = s.clock := by simp +decide [State.toLstate]

@[simp] theorem State.clock_fevt (f : Field) (p : Nat) (hf : f.indep Fld.GLB_STATE.STATE = true) :
    (s.fevt f p).clock = s.clock := by
  simp [State.fevt, hf]

@[simp] theorem State.clock_setPower (p : Nat) (on : Bool) : (s.setPower p on).clock = s.clock := by
  simp +decide [State.setPower]

@[simp] theorem State.clock_dropPower (p : Nat) : (s.dropPower p).clock = s.clock := by simp [State.dropPower]
@[simp] theorem State.clock_sendFieldCmd (p : Nat) (c : FieldCmd) : (s.sendFieldCmd p c).clock = s.clock := by rfl

@[simp] theorem State.clock_nextFieldCmd (p : Nat) : (s.nextFieldCmd p).clock = s.clock := by
  unfold State.nextFieldCmd
  dsimp only
  split <;> simp

@[simp] theorem State.clock_queueCmds (p : Nat) (l : List (Nat × List Byte)) : (s.queueCmds p l).clock = s.clock := by
  simp [State.queueCmds]

@[simp] theorem State.clock_discover (p : Nat) : (s.discover p).clock = s.clock := by simp +decide [State.discover]
@[simp] theorem State.clock_fieldAdvance (p : Nat) : (s.fieldAdvance p).clock = s.clock := by simp [State.fieldAdvance]
@[simp] theorem State.clock_foreign (p code : Nat) : (s.foreign p code).clock = s.clock := by simp +decide [State.foreign]
@[simp] theorem State.clock_judgePod (p : Nat) : (s.judgePod p).clock = s.clock := by simp +decide [State.judgePod]

@[simp] theorem State.clock_startChain (c cause : Nat) : (s.startChain c cause).clock = s.clock := by
  unfold State.startChain
  dsimp only
  repeat' split
  all_goals simp

@[simp] theorem State.clock_applyLayout (p : Nat) : (s.applyLayout p).clock = s.clock := by simp +decide [State.applyLayout]
@[simp] theorem State.clock_podLinkDegraded : s.podLinkDegraded.clock = s.clock := by simp +decide [State.podLinkDegraded]

@[simp] theorem clockAfter_execPodBind (port : Nat) : clockAfter (execPodBind port s) = some s.clock := by
  unfold execPodBind
  dsimp only
  split <;> simp +decide

@[simp] theorem clockAfter_execPodConfigResend (port : Nat) :
    clockAfter (execPodConfigResend port s) = some s.clock := by
  unfold execPodConfigResend
  dsimp only
  split <;> simp

@[simp] theorem State.clock_linkLost (p cause : Nat) : (s.linkLost p cause).clock = s.clock := by
  unfold State.linkLost
  dsimp only
  split <;> simp +decide

@[simp] theorem clockAfter_execPodNoload (port : Nat) : clockAfter (execPodNoload port s) = some s.clock := by
  unfold execPodNoload
  split <;> simp +decide

@[simp] theorem clockAfter_execPodCmdTimeout (port : Nat) :
    clockAfter (execPodCmdTimeout port s) = some s.clock := by
  unfold execPodCmdTimeout
  dsimp only
  split <;> simp +decide

@[simp] theorem clockAfter_execPodResponse (port : Nat) (bytes : List Byte) :
    clockAfter (execPodResponse port bytes s) = some s.clock := by
  unfold execPodResponse
  dsimp only
  split <;> simp +decide

@[simp] theorem State.clock_pingResult (p : Nat) (v : Option Int) : (s.pingResult p v).clock = s.clock := by
  unfold State.pingResult
  dsimp only
  split <;> simp +decide

@[simp] theorem State.clock_fieldHouse : s.fieldHouse.clock = s.clock := by simp +decide [State.fieldHouse, State.when]

@[simp] theorem State.clock_missSlices (p n : Nat) : (s.missSlices p n).clock = s.clock := by
  simp +decide [State.missSlices]

@[simp] theorem State.clock_slicePos (p q k0 whole ovl : Nat) (rev : Option Nat) :
    (s.slicePos p q k0 whole ovl rev).clock = s.clock := by
  unfold State.slicePos
  dsimp only
  split <;> simp

@[simp] theorem clockAfter_execSlice (port : Nat) (first event : Bool) (bytes : List Byte) :
    clockAfter (execSlice port first event bytes s) = some s.clock := by
  unfold execSlice
  dsimp only
  repeat' split
  all_goals simp

@[simp] theorem State.clock_podOutput (u : PatUnit) (b : List Byte) : (s.podOutput u b).clock = s.clock := by
  unfold State.podOutput
  dsimp only
  repeat' split
  all_goals simp +decide

@[simp] theorem clockAfter_execPodTickBlock (port : Nat) (bytes : List Byte) :
    clockAfter (execPodTickBlock port bytes s) = some s.clock := by
  unfold execPodTickBlock
  dsimp only
  repeat' split
  all_goals simp +decide

@[simp] theorem State.clock_fieldEmit : s.fieldEmit.clock = s.clock := by
  refine State.clock_forEach _ _ _ fun u t => ?_
  dsimp only
  split_ifs
  · rfl
  · refine State.clock_forEach _ _ _ fun v t => ?_
    split_ifs
    · simp
    · split <;> simp

@[simp] theorem State.clock_fieldStart (p : Nat) : (s.fieldStart p).clock = s.clock := by simp +decide [State.fieldStart]
@[simp] theorem State.clock_fieldStop (p : Nat) : (s.fieldStop p).clock = s.clock := by simp +decide [State.fieldStop]

@[simp] theorem State.clock_fieldPortCmd (p action : Nat) : (s.fieldPortCmd p action).2.clock = s.clock := by
  simp [State.fieldPortCmd]

@[simp] theorem State.clock_fieldAdopt (p : Nat) : (s.fieldAdopt p).2.clock = s.clock := by simp [State.fieldAdopt]

@[simp] theorem clockAfter_execFldCntClr (port : Nat) : clockAfter (execFldCntClr port s) = some s.clock := by
  simp +decide [execFldCntClr]

@[simp] theorem State.clock_fieldSchedule (us : List PatUnit) (n f : Nat) : (s.fieldSchedule us n f).clock = s.clock := by
  simp [State.fieldSchedule]

@[simp] theorem State.clock_fieldCancel : s.fieldCancel.clock = s.clock := by
  refine State.clock_forEach _ _ _ fun u t => ?_
  dsimp only
  split
  · split_ifs <;> simp
  · rfl

/-! ## Pattern banks -/

@[simp] theorem State.clock_bankTo (b : BankState) : (s.bankTo b).clock = s.clock := by simp +decide [State.bankTo]

/-! ## Queues -/

@[simp] theorem State.clock_setQueue (q : Nat) (x : Queue) : (s.setQueue q x).clock = s.clock := by
  simp +decide [State.setQueue]

@[simp] theorem State.clock_qCross (q : Nat) : (s.qCross q).clock = s.clock := by
  unfold State.qCross
  dsimp only
  repeat' split
  all_goals simp +decide

@[simp] theorem State.clock_qPoison (q n : Nat) : (s.qPoison q n).clock = s.clock := by simp +decide [State.qPoison]

@[simp] theorem State.clock_qTake (q : Nat) : (s.qTake q).2.clock = s.clock := by
  unfold State.qTake
  dsimp only
  split <;> simp

@[simp] theorem State.clock_setDring (r : Nat) (x : Ring) : (s.setDring r x).clock = s.clock := by rfl

@[simp] theorem State.clock_ringNext (r : Nat) : (s.ringNext r).clock = s.clock := by
  unfold State.ringNext
  dsimp only
  split <;> simp

@[simp] theorem State.clock_ringFill (r q : Nat) (fuel : Nat) : (s.ringFill r q fuel).clock = s.clock := by
  induction fuel generalizing s with
  | zero => rfl
  | succ fuel ih =>
    have htake : (s.qTake q).2.clock = s.clock := State.clock_qTake s q
    unfold State.ringFill
    dsimp only
    split
    · rfl
    · split_ifs
      · rfl
      · split
        · next w t h => rw [ih]; simpa [h] using htake
        · next t h => simpa [h] using htake

@[simp] theorem State.clock_ringPump (r : Nat) : (s.ringPump r).clock = s.clock := by simp [State.ringPump]

@[simp] theorem State.clock_ringWriteBack (r : Nat) (d : Descriptor) (done status : Nat) (poison gap : Bool) :
    (s.ringWriteBack r d done status poison gap).clock = s.clock := by
  simp +decide [State.ringWriteBack]

@[simp] theorem State.clock_hostData (addr : Nat) (bytes : List Byte) : (s.hostData addr bytes).clock = s.clock := by
  simp [State.hostData]

@[simp] theorem State.clock_ringDrain (r status : Nat) (bad : List Nat) :
    (s.ringDrain r status bad).clock = s.clock := by
  unfold State.ringDrain
  split <;> simp

@[simp] theorem State.clock_dmaError (r kind status lost : Nat) : (s.dmaError r kind status lost).clock = s.clock := by
  simp [State.dmaError]

@[simp] theorem State.clock_setBank (p : Path) (b : PathBank) : (s.setBank p b).clock = s.clock := by
  unfold State.setBank
  split <;> simp

@[simp] theorem State.clock_latchPop (p : Path) (q hi marker poison : Nat) :
    (s.latchPop p q hi marker poison).clock = s.clock := by
  simp +decide [State.latchPop]

@[simp] theorem State.clock_popServe (q : Nat) : (s.popServe q).clock = s.clock := by
  unfold State.popServe
  dsimp only
  split <;> simp

@[simp] theorem State.clock_qPut (q : Nat) (y : QWord) : (s.qPut q y).clock = s.clock := by simp [State.qPut]

@[simp] theorem State.clock_qItem (u : PatUnit) (item : List QWord) : (s.qItem u item).clock = s.clock := by
  unfold State.qItem
  dsimp only
  repeat' split
  all_goals simp +decide

@[simp] theorem State.clock_queueEmitOne (u : PatUnit) : (s.queueEmitOne u).clock = s.clock := by
  unfold State.queueEmitOne
  dsimp only
  repeat' split
  all_goals simp

@[simp] theorem State.clock_queueEmit : s.queueEmit.clock = s.clock := by simp [State.queueEmit]

@[simp] theorem State.clock_popEmpty (q : Nat) (path : Path) (refused : Bool) :
    (s.popEmpty q path refused).clock = s.clock := by
  simp +decide [State.popEmpty]

@[simp] theorem State.clock_queuePop (path : Path) (q : Nat) (wide bad : Bool) :
    (s.queuePop path q wide bad).clock = s.clock := by
  have htake : (s.qTake q).2.clock = s.clock := State.clock_qTake s q
  unfold State.queuePop
  split
  · rfl
  · split
    · simp
    · split
      · next y t h => simpa [h] using htake
      · next t h =>
        have ht : t.clock = s.clock := by simpa [h] using htake
        split_ifs <;> simp [ht]

@[simp] theorem clockAfter_execPopWaitExpire (q : Nat) : clockAfter (execPopWaitExpire q s) = some s.clock := by
  unfold execPopWaitExpire
  dsimp only
  split <;> simp

@[simp] theorem State.clock_queueFlush (q : Nat) : (s.queueFlush q).clock = s.clock := by simp [State.queueFlush]
@[simp] theorem State.clock_queueFlushCmd (q : Nat) : (s.queueFlushCmd q).2.clock = s.clock := by simp [State.queueFlushCmd]

@[simp] theorem clockAfter_execQueCtrlFlush (q : Nat) : clockAfter (execQueCtrlFlush q s) = some s.clock := by
  simp [execQueCtrlFlush]

@[simp] theorem clockAfter_execQueCntClr (q : Nat) : clockAfter (execQueCntClr q s) = some s.clock := by
  simp +decide [execQueCntClr]

@[simp] theorem clockAfter_execWmxClear (q : Nat) : clockAfter (execWmxClear q s) = some s.clock := by
  simp +decide [execWmxClear]

@[simp] theorem clockAfter_execWatermarkWrite (q : Nat) (hi : Bool) (v : Nat) :
    clockAfter (execWatermarkWrite q hi v s) = some s.clock := by
  unfold execWatermarkWrite
  split_ifs <;> simp +decide

@[simp] theorem State.clock_wrStale (q v : Nat) : (s.wrStale q v).clock = s.clock := by simp +decide [State.wrStale]

/-! ## Wrings -/

@[simp] theorem State.clock_setWjob (j : Nat) (w : WringJob) : (s.setWjob j w).clock = s.clock := by
  simp +decide [State.setWjob]

@[simp] theorem State.clock_wringBegin (u : PatUnit) : (s.wringBegin u).clock = s.clock := by
  simp +decide [State.wringBegin]

@[simp] theorem State.clock_qTakeN (q : Nat) (n : Nat) : (s.qTakeN q n).2.clock = s.clock := by
  induction n generalizing s with
  | zero => rfl
  | succ n ih =>
    have htake : (s.qTake q).2.clock = s.clock := State.clock_qTake s q
    unfold State.qTakeN
    split
    · next t h => simpa [h] using htake
    · next y t h => simpa [h, ih] using htake

@[simp] theorem State.clock_wringRead (j : Nat) (fuel : Nat) : (s.wringRead j fuel).clock = s.clock := by
  induction fuel generalizing s with
  | zero => rfl
  | succ fuel ih =>
    unfold State.wringRead
    split
    · rfl
    · split_ifs
      · rfl
      · split
        · rfl
        · simp [ih]

@[simp] theorem State.clock_wringFeed (j : Nat) : (s.wringFeed j).clock = s.clock := by
  unfold State.wringFeed
  split <;> simp +decide

@[simp] theorem State.clock_wringCut (j : Nat) : (s.wringCut j).clock = s.clock := by
  unfold State.wringCut
  split <;> simp

@[simp] theorem State.clock_wringEmit : s.wringEmit.clock = s.clock := by
  refine State.clock_forEach _ _ _ fun u t => ?_
  split
  · split_ifs <;> simp
  · rfl

@[simp] theorem State.clock_wringHouse : s.wringHouse.clock = s.clock := by simp [State.wringHouse]

@[simp] theorem clockAfter_execWringCloseTimeout (j : Nat) :
    clockAfter (execWringCloseTimeout j s) = some s.clock := by
  unfold execWringCloseTimeout
  split <;> simp

@[simp] theorem State.clock_wringEnd (j result out check : Nat) :
    (s.wringEnd j result out check).clock = s.clock := by
  unfold State.wringEnd
  split <;> simp +decide

@[simp] theorem State.clock_unpost (r : Nat) : (s.unpost r).clock = s.clock := by rfl

@[simp] theorem State.clock_skipBad (r : Nat) (fuel : Nat) : (s.skipBad r fuel).clock = s.clock := by
  induction fuel generalizing s with
  | zero => rfl
  | succ fuel ih =>
    unfold State.skipBad
    split
    · rfl
    · split_ifs
      · rfl
      · simp [ih]

@[simp] theorem State.clock_wringCommitOut (j : Nat) (w : WringJob) (out : List Byte) (check : Nat) :
    (s.wringCommitOut j w out check).clock = s.clock := by
  unfold State.wringCommitOut
  dsimp only
  repeat' split
  all_goals simp +decide

@[simp] theorem State.clock_refuseInput (j : Nat) : (s.refuseInput j).clock = s.clock := by
  unfold State.refuseInput
  split <;> simp

@[simp] theorem State.clock_wringFail (j result : Nat) : (s.wringFail j result).clock = s.clock := by
  unfold State.wringFail
  split <;> simp

@[simp] theorem clockAfter_execWringJobEnd (j : Nat) (memErr : Bool) :
    clockAfter (execWringJobEnd j memErr s) = some s.clock := by
  unfold execWringJobEnd
  repeat' split
  all_goals simp +decide

@[simp] theorem clockAfter_execWringDecompressStart (j : Nat) :
    clockAfter (execWringDecompressStart j s) = some s.clock := by
  unfold execWringDecompressStart
  split <;> simp

@[simp] theorem State.clock_wringInput (r : Nat) (bytes : List Byte) : (s.wringInput r bytes).clock = s.clock := by
  unfold State.wringInput
  dsimp only
  repeat' split
  all_goals simp

@[simp] theorem State.clock_wringCutCmd (j : Nat) : (s.wringCutCmd j).2.clock = s.clock := by
  unfold State.wringCutCmd
  repeat' split
  all_goals simp

@[simp] theorem State.clock_wringAbortCmd (j : Nat) : (s.wringAbortCmd j).2.clock = s.clock := by
  unfold State.wringAbortCmd
  split_ifs <;> simp

@[simp] theorem clockAfter_execWrgCtrlCut (j : Nat) : clockAfter (execWrgCtrlCut j s) = some s.clock := by
  simp [execWrgCtrlCut]

@[simp] theorem clockAfter_execWrgCtrlAbort (j : Nat) : clockAfter (execWrgCtrlAbort j s) = some s.clock := by
  simp [execWrgCtrlAbort]

@[simp] theorem clockAfter_execWrgCntClr (j : Nat) : clockAfter (execWrgCntClr j s) = some s.clock := by
  simp +decide [execWrgCntClr]

@[simp] theorem State.clock_wrWrgLimit (j v : Nat) : (s.wrWrgLimit j v).clock = s.clock := by
  simp +decide [State.wrWrgLimit]

@[simp] theorem State.clock_wrWrgClose (j v : Nat) : (s.wrWrgClose j v).clock = s.clock := by
  simp +decide [State.wrWrgClose]

@[simp] theorem State.clock_wrWrgMaxbuf (j v : Nat) : (s.wrWrgMaxbuf j v).clock = s.clock := by
  simp +decide [State.wrWrgMaxbuf]

/-! ## DMA and notices -/

@[simp] theorem State.clock_headDegraded : s.headDegraded.clock = s.clock := by simp +decide [State.headDegraded]

@[simp] theorem State.clock_setRingCfg (r v : Nat) : (s.setRingCfg r v).clock = s.clock := by
  simp +decide [State.setRingCfg]

@[simp] theorem State.clock_failRingJobs (r : Nat) : (s.failRingJobs r).clock = s.clock := by
  unfold State.failRingJobs
  refine State.clock_forEach _ _ _ fun k t => ?_
  split
  · split_ifs <;> simp
  · rfl

@[simp] theorem State.clock_ringOff (r : Nat) : (s.ringOff r).clock = s.clock := by simp +decide [State.ringOff]

@[simp] theorem State.clock_ringDisable (r : Nat) : (s.ringDisable r).clock = s.clock := by
  unfold State.ringDisable
  repeat' split
  all_goals simp

@[simp] theorem State.clock_wrDmaCfg (r v : Nat) : (s.wrDmaCfg r v).clock = s.clock := by simp +decide [State.wrDmaCfg]

@[simp] theorem clockAfter_execDmaTailWrite (r tail : Nat) (descs : List Descriptor) :
    clockAfter (execDmaTailWrite r tail descs s) = some s.clock := by
  unfold execDmaTailWrite
  extract_lets +onlyGivenNames head n t x u
  have ht : t.clock = s.clock := by simp +decide [t]
  have hu : u.clock = s.clock := by simpa [u] using ht
  clear_value n t u
  split_ifs <;> simp +decide [ht, hu]

@[simp] theorem State.clock_loopPush (slot : Nat) (ws : List Nat) : (s.loopPush slot ws).2.clock = s.clock := by
  induction ws generalizing s with
  | nil => rfl
  | cons w ws ih =>
    simp +decide [State.loopPush, ih]

@[simp] theorem clockAfter_execDmaFlushTimeout (r : Nat) : clockAfter (execDmaFlushTimeout r s) = some s.clock := by
  unfold execDmaFlushTimeout
  split <;> simp

@[simp] theorem clockAfter_execDmaHostError (r : Nat) : clockAfter (execDmaHostError r s) = some s.clock := by
  unfold execDmaHostError
  dsimp only
  repeat' split
  all_goals simp +decide

@[simp] theorem State.clock_ringsPump : s.ringsPump.clock = s.clock := by simp [State.ringsPump]
@[simp] theorem State.clock_dmaReset : s.dmaReset.clock = s.clock := by simp +decide [State.dmaReset]
@[simp] theorem State.clock_linkGone : s.linkGone.clock = s.clock := by simp +decide [State.linkGone]
@[simp] theorem State.clock_msixSend : s.msixSend.clock = s.clock := by simp [State.msixSend]
@[simp] theorem State.clock_wrMsix (i v : Nat) : (s.wrMsix i v).clock = s.clock := by simp [State.wrMsix]

@[simp] theorem clockAfter_execMsixUnmask (vec : Option Nat) (enable : Bool) :
    clockAfter (execMsixUnmask vec enable s) = some s.clock := by
  unfold execMsixUnmask
  split <;> simp +decide

@[simp] theorem State.clock_noticeStore (h : Nat) (bytes : List Byte) : (s.noticeStore h bytes).clock = s.clock := by
  simp +decide [State.noticeStore]

/-! ## Silt log -/

@[simp] theorem State.clock_opCheckpoint : s.opCheckpoint.clock = s.clock := by rfl
@[simp] theorem State.clock_siltResume : s.siltResume.clock = s.clock := by simp +decide [State.siltResume]
@[simp] theorem State.clock_siltDisarm : s.siltDisarm.clock = s.clock := by simp +decide [State.siltDisarm]

@[simp] theorem State.clock_clearArm (source : Nat) : (s.clearArm source).2.clock = s.clock := by
  unfold State.clearArm
  split <;> simp +decide

@[simp] theorem State.clock_clearConfirm (source request token : Nat) :
    (s.clearConfirm source request token).2.clock = s.clock := by
  unfold State.clearConfirm
  dsimp only
  repeat' split
  all_goals simp +decide

@[simp] theorem State.clock_siltHouse : s.siltHouse.clock = s.clock := by
  unfold State.siltHouse
  split <;> simp

@[simp] theorem State.clock_siltScan : s.siltScan.clock = s.clock := by simp +decide [State.siltScan]
@[simp] theorem State.clock_siltPowerUp : s.siltPowerUp.clock = s.clock := by rfl

@[simp] theorem State.clock_loadWindow (p : Path) (auto area slot corr : Nat) (ue : List (Nat × Nat)) :
    (s.loadWindow p auto area slot corr ue).clock = s.clock := by
  simp +decide [State.loadWindow]

@[simp] theorem State.clock_cursorWrite (p : Path) (v corr : Nat) (ue : List (Nat × Nat)) :
    (s.cursorWrite p v corr ue).clock = s.clock := by
  simp [State.cursorWrite]

@[simp] theorem State.clock_win15Read (p : Path) (corr : Nat) (ue : List (Nat × Nat)) :
    (s.win15Read p corr ue).2.clock = s.clock := by
  unfold State.win15Read
  dsimp only
  split <;> simp

@[simp] theorem State.clock_optRead (p : Path) : (s.optRead p).2.clock = s.clock := by simp [State.optRead]
@[simp] theorem clockAfter_execSltCntClr : clockAfter (execSltCntClr s) = some s.clock := by simp +decide [execSltCntClr]

/-! ## Agreement -/

@[simp] theorem State.clock_showDigest : s.showDigest.clock = s.clock := by simp +decide [State.showDigest]

@[simp] theorem State.clock_digestTake (p : CDigest) (f : Nat) : (s.digestTake p f).clock = s.clock := by
  simp +decide [State.digestTake]

@[simp] theorem clockAfter_execAdoptEffect : clockAfter (execAdoptEffect s) = some s.clock := by
  unfold execAdoptEffect
  split <;> simp

@[simp] theorem State.clock_adopt (digest : List Byte) (compat f : Nat) :
    (s.adopt digest compat f).2.clock = s.clock := by
  unfold State.adopt
  split <;> simp

@[simp] theorem clockAfter_execDigestInherit : clockAfter (execDigestInherit s) = some s.clock := by
  unfold execDigestInherit
  repeat' split
  all_goals simp

@[simp] theorem State.clock_stateRecord (prev new : Nat) : (s.stateRecord prev new).clock = s.clock := by
  simp [State.stateRecord]

@[simp] theorem State.clock_quarantineHouse : s.quarantineHouse.clock = s.clock := by simp +decide [State.quarantineHouse]

@[simp] theorem State.clock_quarantineCmd (on : Nat) : (s.quarantineCmd on).2.clock = s.clock := by
  unfold State.quarantineCmd
  split <;> simp +decide

@[simp] theorem State.clock_collisionWith (b : List Byte) : (s.collisionWith b).clock = s.clock := by
  simp +decide [State.collisionWith]

@[simp] theorem State.clock_helloTake (b : List Byte) : (s.helloTake b).clock = s.clock := by simp +decide [State.helloTake]
@[simp] theorem clockAfter_execSupCntClr : clockAfter (execSupCntClr s) = some s.clock := by simp +decide [execSupCntClr]

/-! ## Hub states -/

@[simp] theorem State.clock_readyHouse : s.readyHouse.clock = s.clock := by simp +decide [State.readyHouse]
@[simp] theorem State.clock_joinHouse : s.joinHouse.clock = s.clock := by simp [State.joinHouse]

/-! ## Power management -/

@[simp] theorem State.clock_enterBoot (cause boot : Nat) : (s.enterBoot cause boot).clock = s.clock := by
  simp +decide [State.enterBoot]

theorem State.clock_pmu (p : Pmu) : ({ s with pmu := p } : State).clock = s.clock := rfl

@[simp] theorem State.clock_powerBoot (boot : Nat) : (s.powerBoot boot).clock = s.clock := by
  have hboot : ((s.wrap Fld.SLT_PCC.PCC).enterBoot 0 boot).clock = s.clock := by simp +decide
  unfold State.powerBoot
  generalize (s.wrap Fld.SLT_PCC.PCC).enterBoot 0 boot = t at hboot ⊢
  exact (State.clock_pmu _ _).trans ((State.clock_siltPowerUp t).trans hboot)

@[simp] theorem State.clock_suppliesBack : s.suppliesBack.clock = s.clock := by simp +decide [State.suppliesBack]

@[simp] theorem State.clock_checkBegin (powerUp : Bool) : (s.checkBegin powerUp).clock = s.clock := by
  simp [State.checkBegin]

@[simp] theorem State.clock_wrQspi (v : Nat) : (s.wrQspi v).clock = s.clock := by simp +decide [State.wrQspi]
@[simp] theorem State.clock_wrFwu (v : Nat) : (s.wrFwu v).clock = s.clock := by simp +decide [State.wrFwu]

/-! ## Boot -/

@[simp] theorem State.clock_runSlot (b : Bool) (f : FwSlot) : (s.runSlot b f).clock = s.clock := by
  simp +decide [State.runSlot]

@[simp] theorem State.clock_newFirmware (f : FwSlot) : (s.newFirmware f).clock = s.clock := by
  simp +decide [State.newFirmware]

@[simp] theorem State.clock_mgmtSend (flags dest : Nat) (record : List Byte) :
    (s.mgmtSend flags dest record).clock = s.clock := by
  simp [State.mgmtSend]

@[simp] theorem State.clock_chunkAsk (server c : Nat) : (s.chunkAsk server c).clock = s.clock := by simp [State.chunkAsk]

@[simp] theorem State.clock_fetchPump : s.fetchPump.clock = s.clock := by
  unfold State.fetchPump
  extract_lets +onlyGivenNames asked
  have hasked : asked.clock = s.clock := State.clock_forEach _ _ _ fun _ t => by
    split
    · split_ifs <;> simp
    · rfl
  rw [← hasked]
  split
  · split_ifs <;> simp
  · rfl

@[simp] theorem State.clock_fetchStop (fstate : Nat) : (s.fetchStop fstate).clock = s.clock := by
  simp +decide [State.fetchStop]

@[simp] theorem State.clock_fetchAgain : s.fetchAgain.clock = s.clock := by
  unfold State.fetchAgain
  split <;> simp

/-! ## Loader -/

@[simp] theorem State.clock_showCheck (r : Reject) : (s.showCheck r).clock = s.clock := by simp +decide [State.showCheck]

@[simp] theorem State.clock_patEvent (f : Field) (hf : f.indep Fld.GLB_STATE.STATE = true) :
    (s.patEvent f).clock = s.clock := by
  simp [State.patEvent, hf]

@[simp] theorem State.clock_commitAt (f : Nat) : (s.commitAt f).clock = s.clock := by
  unfold State.commitAt
  split <;> simp +decide

@[simp] theorem clockAfter_execPatternCheckDone (ue : Option Nat) :
    clockAfter (execPatternCheckDone ue s) = some s.clock := by
  unfold execPatternCheckDone
  repeat' split
  all_goals simp +decide

/-! ## Commit -/

@[simp] theorem State.clock_uWord (r : RegDef) (id v : Nat) (hr : 0x400000 ≤ r.base) :
    (s.uWord r id v).clock = s.clock :=
  congrArg (fun c => (s.seq.frame, s.seq.counter, c)) (State.hubState_of_patView (State.patView_uWord s r id v hr))

@[simp] theorem clockAfter_execCommitIrrevocable : clockAfter (execCommitIrrevocable s) = some s.clock := by
  unfold execCommitIrrevocable
  split <;> simp

@[simp] theorem State.clock_patLoad (source addr : Nat) : (s.patLoad source addr).2.clock = s.clock := by
  unfold State.patLoad
  repeat' split
  all_goals simp

@[simp] theorem State.clock_patCommit (f : Nat) : (s.patCommit f).2.clock = s.clock := by
  unfold State.patCommit
  dsimp only
  repeat' split
  all_goals simp

@[simp] theorem State.clock_patCancel : (s.patCancel).2.clock = s.clock := by
  unfold State.patCancel
  split <;> simp +decide

@[simp] theorem State.clock_keySlotTo (slot code : Nat) : (s.keySlotTo slot code).clock = s.clock :=
  clockOf_put s 0 0 _ _ code
    (Bool.or_eq_true_iff.mpr (.inl (RegDef.disjoint_state_of_lt (r := Reg.PAT_KEY_STAT) (by decide))))

@[simp] theorem State.clock_keyInstall (slot : Nat) (key : List Byte) :
    (s.keyInstall slot key).2.clock = s.clock := by
  unfold State.keyInstall
  split_ifs <;> simp

@[simp] theorem State.clock_keyRevoke (slot : Nat) : (s.keyRevoke slot).2.clock = s.clock := by
  unfold State.keyRevoke
  split_ifs <;> simp

/-! ## Mailboxes -/

@[simp] theorem State.clock_mbxSet (p : Path) (off v : Nat) : (s.mbxSet p off v).clock = s.clock := by simp [State.mbxSet]
@[simp] theorem State.clock_mbxDrop (p : Path) : (s.mbxDrop p).clock = s.clock := by simp [State.mbxDrop]

@[simp] theorem State.clock_mbxStore (p : Path) (r : List Byte) (notify : Bool) :
    (s.mbxStore p r notify).clock = s.clock := by
  simp [State.mbxStore]

@[simp] theorem State.clock_respond (o : Origin) (r : List Byte) : (s.respond o r).clock = s.clock := by
  unfold State.respond
  split <;> simp

@[simp] theorem State.clock_answerNow (o : Origin) (opcode : Nat) (a : Answer) :
    (s.answerNow o opcode a).clock = s.clock := by
  simp [State.answerNow]

@[simp] theorem State.clock_relay (o : Origin) (b : List Byte) : (s.relay o b).clock = s.clock := by
  simp +decide [State.relay]

@[simp] theorem State.clock_relayStep (o : Origin) (b : List Byte) : (s.relayStep o b).2.clock = s.clock := by
  simp [State.relayStep]

@[simp] theorem State.clock_relayBack (hub : Nat) (r : List Byte) : (s.relayBack hub r).clock = s.clock := by
  unfold State.relayBack
  split <;> simp +decide

@[simp] theorem clockAfter_execMgmtRelayTimeout (path : Path) :
    clockAfter (execMgmtRelayTimeout path s) = some s.clock := by
  unfold execMgmtRelayTimeout
  repeat' split
  all_goals simp +decide

@[simp] theorem State.clock_wait (o : Origin) (b : List Byte) : (s.wait o b).clock = s.clock := by rfl
@[simp] theorem State.clock_mbxGo (p : Path) : (s.mbxGo p).clock = s.clock := by simp [State.mbxGo]

@[simp] theorem State.clock_mgmtCommand (hub : Nat) (b : List Byte) : (s.mgmtCommand hub b).clock = s.clock := by
  simp [State.mgmtCommand]

@[simp] theorem State.clock_dropMgmtKeys (emit : Nat) : (s.dropMgmtKeys emit).clock = s.clock := by rfl

@[simp] theorem clockAfter_execNoticeRingSend : clockAfter (execNoticeRingSend s) = some s.clock := by
  unfold execNoticeRingSend
  dsimp only
  repeat' split
  all_goals simp

@[simp] theorem State.clock_dupEnter (e : DupEntry) : (s.dupEnter e).clock = s.clock := by simp +decide [State.dupEnter]

/-! ## Accesses through a path -/

@[simp] theorem State.clock_readTime (p : Path) (r : RegDef) : (s.readTime p r).2.clock = s.clock := by
  simp [State.readTime]

@[simp] theorem State.clock_readInt (p : Path) (k : Nat) : (s.readInt p k).2.clock = s.clock := by simp [State.readInt]

@[simp] theorem State.clock_readTdcFifo (p : Path) (k : Nat) : (s.readTdcFifo p k).2.clock = s.clock := by
  simp [State.readTdcFifo]

@[simp] theorem State.clock_readPop (p : Path) (q : Nat) : (s.readPop p q).2.clock = s.clock := by
  unfold State.readPop
  dsimp only
  repeat' split
  all_goals simp

@[simp] theorem State.clock_readIsns (p : Nat) : (s.readIsns p).2.clock = s.clock := by simp +decide [State.readIsns]

@[simp] theorem State.clock_readReg (p : Path) (r : RegDef) (i j : Nat) : (s.readReg p r i j).2.clock = s.clock := by
  simp [State.readReg]

@[simp] theorem State.clock_readUnit (p : Path) (id off : Nat) : (s.readUnit p id off).2.clock = s.clock := by
  unfold State.readUnit
  repeat' split
  all_goals simp

@[simp] theorem State.clock_reservedHit : s.reservedHit.clock = s.clock := by simp +decide [State.reservedHit]

@[simp] theorem State.clock_busRead (p : Path) (a : Nat) : (s.busRead p a).2.2.clock = s.clock := by
  unfold State.busRead
  dsimp only
  repeat' split
  all_goals simp

@[simp] theorem State.clock_writeTime (r : RegDef) (i j v : Nat) (hr : 0x40000 ≤ r.base) :
    (s.writeTime r i j v).clock = s.clock := by
  have hfree : r.disjoint Reg.GLB_STATE = true := RegDef.disjoint_state_of_lt (by omega)
  simp [State.writeTime, hfree]

@[simp] theorem State.clock_writeFront (r : RegDef) (i j v : Nat) (hr : 0x40000 ≤ r.base) :
    (s.writeFront r i j v).clock = s.clock := by
  have hfree : r.disjoint Reg.GLB_STATE = true := RegDef.disjoint_state_of_lt (by omega)
  simp [State.writeFront, hfree]

@[simp] theorem State.clock_wrLoopCtrl (k v : Nat) : (s.wrLoopCtrl k v).clock = s.clock := by
  simp +decide [State.wrLoopCtrl]

@[simp] theorem State.clock_writeEngines (r : RegDef) (i j v : Nat) (hr : 0x40000 ≤ r.base) :
    (s.writeEngines r i j v).clock = s.clock := by
  have hfree : r.disjoint Reg.GLB_STATE = true := RegDef.disjoint_state_of_lt (by omega)
  simp [State.writeEngines, hfree]

@[simp] theorem State.clock_writeLinks (r : RegDef) (i j v : Nat) (hr : 0x40000 ≤ r.base) :
    (s.writeLinks r i j v).clock = s.clock := by
  have hfree : r.disjoint Reg.GLB_STATE = true := RegDef.disjoint_state_of_lt (by omega)
  simp [State.writeLinks, hfree]

@[simp] theorem State.clock_drawDescs (n : Nat) : (s.drawDescs n).2.clock = s.clock := by
  induction n generalizing s with
  | zero => rfl
  | succ n ih => simp [State.drawDescs, ih]

@[simp] theorem State.clock_wrTail (r v : Nat) : (s.wrTail r v).clock = s.clock := by simp [State.wrTail]
@[simp] theorem State.clock_wrWrgCtrl (j v : Nat) : (s.wrWrgCtrl j v).clock = s.clock := by simp [State.wrWrgCtrl]
@[simp] theorem State.clock_wrQueCtrl (q v : Nat) : (s.wrQueCtrl q v).clock = s.clock := by simp [State.wrQueCtrl]

@[simp] theorem State.clock_writeHost (p : Path) (r : RegDef) (i j v : Nat) (hr : 0x40000 ≤ r.base) :
    (s.writeHost p r i j v).clock = s.clock := by
  have hfree : r.disjoint Reg.GLB_STATE = true := RegDef.disjoint_state_of_lt (by omega)
  simp [State.writeHost, hfree]

@[simp] theorem State.clock_wrUnitStat (id v : Nat) : (s.wrUnitStat id v).clock = s.clock := by
  simp +decide [State.wrUnitStat]

@[simp] theorem State.clock_wrUnitCtrl (id v : Nat) : (s.wrUnitCtrl id v).clock = s.clock := by
  simp +decide [State.wrUnitCtrl, State.when]

@[simp] theorem State.clock_writeMbx (p : Path) (a v : Nat) : (s.writeMbx p a v).clock = s.clock := by simp [State.writeMbx]
@[simp] theorem State.clock_readTo (p : Path) (a : Nat) : (s.readTo p a).clock = s.clock := by simp [State.readTo]

@[simp] theorem clockAfter_execReservedRead (path : Path) (addr size : Nat) :
    clockAfter (execReservedRead path addr size s) = some s.clock := by
  unfold execReservedRead
  repeat' split
  all_goals simp

@[simp] theorem State.clock_readWords (p : Path) (a : Nat) (n : Nat) : (s.readWords p a n).2.2.clock = s.clock := by
  induction n generalizing s a with
  | zero => rfl
  | succ n ih => simp [State.readWords, ih]

/-! ## Command records -/

@[simp] theorem State.clock_goNext (st rank : Nat) : (s.goNext st rank).clock = s.clock := by rfl
@[simp] theorem State.clock_startCmd (f : Nat) : (s.startCmd f).2.clock = s.clock := by simp +decide [State.startCmd]
@[simp] theorem State.clock_stopCmd (f : Nat) : (s.stopCmd f).2.clock = s.clock := by simp +decide [State.stopCmd]
@[simp] theorem State.clock_recoverCmd : (s.recoverCmd).2.clock = s.clock := by simp +decide [State.recoverCmd]

@[simp] theorem State.clock_regRead (a n : Nat) : (s.regRead a n).2.clock = s.clock := by
  unfold State.regRead
  split <;> simp

@[simp] theorem State.clock_calRunCmd (v : Nat) : (s.calRunCmd v).2.clock = s.clock := by simp [State.calRunCmd]

@[simp] theorem State.clock_calAbortCmd (ch : Nat) : (s.calAbortCmd ch).2.clock = s.clock := by
  unfold State.calAbortCmd
  repeat' split
  all_goals simp

@[simp] theorem State.clock_calPodCmd (chain range point : Nat) (t : Int) :
    (s.calPodCmd chain range point t).2.clock = s.clock := by
  simp [State.calPodCmd]

@[simp] theorem State.clock_todCmd (d sec ns : Nat) : (s.todCmd d sec ns).2.clock = s.clock := by simp [State.todCmd]

@[simp] theorem State.clock_stepCmd (f : Nat) (dS dNs : Int) (flags : Nat) :
    (s.stepCmd f dS dNs flags).2.clock = s.clock := by
  simp +decide [State.stepCmd]

@[simp] theorem State.clock_selectCmd (f mode : Nat) : (s.selectCmd f mode).2.clock = s.clock := by simp [State.selectCmd]

@[simp] theorem State.clock_stepCancelCmd : (s.stepCancelCmd).2.clock = s.clock := by
  unfold State.stepCancelCmd
  split <;> simp +decide

@[simp] theorem State.clock_adoptCmd (a : List Byte) : (s.adoptCmd a).2.clock = s.clock := by simp [State.adoptCmd]

@[simp] theorem State.clock_capMaskCmd (arm : Bool) (f mask : Nat) : (s.capMaskCmd arm f mask).2.clock = s.clock := by
  simp [State.capMaskCmd]

@[simp] theorem State.clock_commandMid (op : Nat) (a : List Byte) : (s.commandMid op a).2.clock = s.clock := by
  simp [State.commandMid]

@[simp] theorem State.clock_commandHigh (op : Nat) (a : List Byte) (o : Origin) :
    (s.commandHigh op a o).2.clock = s.clock := by
  simp [State.commandHigh]

@[simp] theorem State.clock_conflict (op st source : Nat) : (s.conflict op st source).clock = s.clock := by
  simp +decide [State.conflict]

@[simp] theorem State.clock_settle (o : Origin) (op : Nat) (args : List Byte) (st : Nat) (a : Answer) :
    (s.settle o op args st a).clock = s.clock := by
  simp [State.settle]

/-! ## Phases and ticks -/

@[simp] theorem State.clock_faultHouse : s.faultHouse.clock = s.clock := by simp [State.faultHouse]
@[simp] theorem State.clock_houseUnfinished : s.houseUnfinished.clock = s.clock := by simp +decide [State.houseUnfinished]
@[simp] theorem State.clock_alignHouse : s.alignHouse.clock = s.clock := by simp [State.alignHouse]

/-! ## Memories: capture memory, the standby bank, the log -/

@[simp] theorem State.clock_capStore (addr : Nat) (ws : List Nat) : (s.capStore addr ws).clock = s.clock := by rfl

@[simp] theorem State.clock_capWrite (u : PatUnit) (label : Nat) (ws : List Nat) :
    (s.capWrite u label ws).clock = s.clock := by
  simp +decide [State.capWrite]

@[simp] theorem State.clock_capEmit (u : PatUnit) : (s.capEmit u).clock = s.clock := by
  unfold State.capEmit
  dsimp only
  repeat' split
  all_goals simp

@[simp] theorem State.clock_stbyEmpty : s.stbyEmpty.clock = s.clock := by simp +decide [State.stbyEmpty]

@[simp] theorem State.clock_stbyFill (bytes : List Byte) : (s.stbyFill bytes).clock = s.clock := by
  simp +decide [State.stbyFill]

@[simp] theorem State.clock_stbyWrite (a : Nat) (bs : List Byte) : (s.stbyWrite a bs).2.clock = s.clock := by
  unfold State.stbyWrite
  split <;> simp +decide

@[simp] theorem State.clock_patDiscard : s.patDiscard.2.clock = s.clock := by
  unfold State.patDiscard
  split <;> simp

@[simp] theorem State.clock_writeCopy (e : SiltEvent) (seq : Nat) (life : Bool) :
    (s.writeCopy e seq life).clock = s.clock := by
  simp +decide [State.writeCopy]

@[simp] theorem State.clock_copyDone : s.copyDone.clock = s.clock := by
  unfold State.copyDone
  repeat' split
  all_goals simp +decide

@[simp] theorem State.clock_recordNow (e : SiltEvent) : (s.recordNow e).clock = s.clock := by
  unfold State.recordNow
  extract_lets +onlyGivenNames _ t u
  have hu : u.clock = t.clock := State.clock_forEach _ _ _ fun _ v => by
    repeat' split
    all_goals simp +decide
  simpa +decide [t] using hu

@[simp] theorem State.clock_siltPfail : s.siltPfail.clock = s.clock := by
  unfold State.siltPfail
  split
  · rfl
  · extract_lets +onlyGivenNames cut t
    have ht : t.clock = s.clock := by
      unfold t
      repeat' split
      all_goals simp
    simp +decide [ht]

@[simp] theorem State.clock_clearDone : s.clearDone.clock = s.clock := by
  unfold State.clearDone
  split
  · rfl
  · extract_lets +onlyGivenNames t
    have ht : t.clock = s.clock := by
      unfold t
      split <;> simp
    simp +decide [ht]

@[simp] theorem State.clock_bootFail (kind item : Nat) : (s.bootFail kind item).clock = s.clock := by
  simp +decide [State.bootFail]

/-! ## The image of a neighbour -/

@[simp] theorem State.clock_fetchBegin (x : Nat × List Byte) : (s.fetchBegin x).clock = s.clock := by
  simp +decide [State.fetchBegin]

@[simp] theorem State.clock_fetchRestart : s.fetchRestart.clock = s.clock := by
  unfold State.fetchRestart
  dsimp only
  repeat' split
  all_goals simp +decide

@[simp] theorem State.clock_chunkTake (f : Fetch) (c : Nat) (data : List Byte) :
    (s.chunkTake f c data).clock = s.clock := by
  simp +decide [State.chunkTake]

@[simp] theorem State.clock_fetchResponse (r : List Byte) : (s.fetchResponse r).clock = s.clock := by
  unfold State.fetchResponse
  split <;> simp

@[simp] theorem State.clock_fetchSilent (hub : Nat) : (s.fetchSilent hub).clock = s.clock := by
  unfold State.fetchSilent
  repeat' split
  all_goals simp +decide

@[simp] theorem State.clock_mgmtResponse (hub : Nat) (r : List Byte) : (s.mgmtResponse hub r).clock = s.clock := by
  simp [State.mgmtResponse]

/-! ## Writes through a path -/

@[simp] theorem State.clock_ringComplete (r : Nat) (bytes : List Byte) (bad : List Nat) :
    (s.ringComplete r bytes bad).clock = s.clock := by
  unfold State.ringComplete
  dsimp only
  repeat' split
  all_goals simp

@[simp] theorem State.clock_wrSignCfg (v : Nat) : (s.wrSignCfg v).clock = s.clock := by simp +decide [State.wrSignCfg]

@[simp] theorem clockAfter_execPatWdataWrite (v : Nat) : clockAfter (execPatWdataWrite v s) = some s.clock := by
  simp +decide [execPatWdataWrite]

/-- Software changes no bit of GLB_STATE: it has no access code (R184). -/
theorem State.clock_writeByCode_state (v i j : Nat) : (s.writeByCode Reg.GLB_STATE v i j).clock = s.clock := by
  have hcodes : ∀ inRun old w, writeCodes Reg.GLB_STATE inRun old w = old := by
    intro inRun old w
    apply BitVec.eq_of_getLsbD_eq
    intro k hk
    rw [getLsbD_writeCodes _ _ _ _ hk]
    simp [Reg.GLB_STATE]
  have hrwl : (Reg.GLB_STATE.rwl != 0) = false := by decide
  simp only [State.writeByCode, State.when, hcodes, hrwl, Bool.and_false, Bool.false_eq_true, if_false]
  simp only [State.clock, clockOf, stateCodeIn, State.wr_rd_regs, State.wr_seq]

/-- A register that the map can hold: GLB_STATE itself, or apart from it. -/
def RegDef.stateOrApart (r : RegDef) : Bool := r == Reg.GLB_STATE || r.disjoint Reg.GLB_STATE

theorem stateOrApart_of_mem_regBlocks : ∀ b ∈ regBlocks, ∀ r ∈ b, r.stateOrApart = true := by decide +kernel

theorem stateOrApart_of_regAt {a i j : Nat} {r : RegDef} (h : regAt a = some (r, i, j)) : r.stateOrApart = true := by
  obtain ⟨q, hq, e⟩ := List.exists_of_findSome?_eq_some h
  obtain ⟨x, -, hx⟩ := Option.map_eq_some_iff.mp e
  obtain rfl : q = r := congrArg Prod.fst hx
  exact stateOrApart_of_mem_regBlocks _ (blockAt_mem_regBlocks a) q hq

theorem State.clock_writeSys {r : RegDef} (i j v : Nat) (hr : r.stateOrApart = true) :
    (s.writeSys r i j v).clock = s.clock := by
  have hcode : (s.writeByCode r v i j).clock = s.clock := by
    simp only [RegDef.stateOrApart, Bool.or_eq_true, beq_iff_eq] at hr
    rcases hr with rfl | hdisjoint
    · exact s.clock_writeByCode_state v i j
    · exact s.clock_writeByCode v i j hdisjoint
  unfold State.writeSys
  simp [hcode]

theorem State.clock_writeReg (p : Path) {r : RegDef} (i j v : Nat) (hr : r.stateOrApart = true) :
    (s.writeReg p r i j v).clock = s.clock := by
  unfold State.writeReg
  extract_lets a
  split
  · rfl
  split
  · exact s.clock_writeSys i j v hr
  split
  · exact s.clock_writeTime r i j v (by omega)
  split
  · exact s.clock_writeFront r i j v (by omega)
  split
  · exact s.clock_writeEngines r i j v (by omega)
  split
  · exact s.clock_writeLinks r i j v (by omega)
  · exact s.clock_writeHost p r i j v (by omega)

@[simp] theorem State.clock_writeUnit (p : Path) (id off v : Nat) : (s.writeUnit p id off v).clock = s.clock := by
  unfold State.writeUnit
  repeat' split
  case h_1 r i j h =>
    obtain ⟨b, -, hb⟩ := Option.bind_eq_some_iff.mp h
    exact s.clock_writeReg p i j v (stateOrApart_of_regAt hb)
  all_goals simp

@[simp] theorem State.clock_busWrite (p : Path) (a v : Nat) : (s.busWrite p a v).2.clock = s.clock := by
  unfold State.busWrite
  dsimp only
  repeat' split
  case h_1 r i j h => exact s.clock_writeReg p i j _ (stateOrApart_of_regAt h)
  all_goals simp

@[simp] theorem State.clock_writeAt (p : Path) (r : RegDef) (i v : Nat) : (s.writeAt p r i v).clock = s.clock := by
  simp [State.writeAt]

@[simp] theorem State.clock_writeWords (p : Path) (a : Nat) (ws : List Nat) : (s.writeWords p a ws).clock = s.clock := by
  induction ws generalizing s a with
  | nil => rfl
  | cons w ws ih => exact (ih _ _).trans (s.clock_busWrite p a w)

@[simp] theorem State.clock_writeCount (p : Path) (a : Nat) (ws : List Nat) : (s.writeCount p a ws).2.clock = s.clock := by
  induction ws generalizing s a with
  | nil => rfl
  | cons w ws ih => exact (ih _ _).trans (s.clock_busWrite p a w)

/-! ## Command records -/

@[simp] theorem State.clock_regWrite (a n : Nat) (ws : List Nat) : (s.regWrite a n ws).2.clock = s.clock := by
  unfold State.regWrite
  split <;> simp

@[simp] theorem State.clock_commandLow (op : Nat) (a : List Byte) : (s.commandLow op a).2.clock = s.clock := by
  simp [State.commandLow]

@[simp] theorem State.clock_command (op : Nat) (a : List Byte) (o : Origin) : (s.command op a o).2.clock = s.clock := by
  simp [State.command]

@[simp] theorem State.clock_execute (o : Origin) (b : List Byte) : (s.execute o b).clock = s.clock := by
  unfold State.execute
  dsimp only
  split <;> simp +decide

@[simp] theorem State.clock_runRecord (o : Origin) (b : List Byte) : (s.runRecord o b).clock = s.clock := by
  simp [State.runRecord]

@[simp] theorem State.clock_runCommand (o : Origin) (op : Nat) (args : List Byte) :
    (s.runCommand o op args).clock = s.clock := by
  simp [State.runCommand]

@[simp] theorem State.clock_houseCommands : s.houseCommands.clock = s.clock := by simp [State.houseCommands]

end

end Sys2Proof.Machine
end


section
/-! PROOFS. The moves of the hub's state code (R149, R155, R158): nearly every command keeps the clock, and the others make a move that
R155 lists. -/

open Sys2Proof Sys2Proof.Machine

namespace Sys2Proof.Machine

/-! ## Commands that keep the clock -/

section
variable (s : State)

theorem clockAfter_execStandbyWindowWrite (off : Nat) (bytes : List Byte) :
    clockAfter (execStandbyWindowWrite off bytes s) = some s.clock := by
  simp [execStandbyWindowWrite]

theorem clockAfter_execDmaDescriptorComplete (r : Nat) (bytes : List Byte) (bad : List Nat) :
    clockAfter (execDmaDescriptorComplete r bytes bad s) = some s.clock := by
  simp [execDmaDescriptorComplete]

theorem clockAfter_execEmitPhase (late : Bool) (pins : List (Nat × Int)) (held : List (Nat × Nat)) :
    clockAfter (execEmitPhase late pins held s) = some s.clock := by
  simp [execEmitPhase]

theorem clockAfter_execHousePhase (late unfinished : Bool) :
    clockAfter (execHousePhase late unfinished s) = some s.clock := by
  simp [execHousePhase]

theorem clockAfter_execCommitComplete : clockAfter (execCommitComplete s) = some s.clock := by
  cases hact : s.banks.act with
  | none => simp [execCommitComplete, hact]
  | some p =>
    cases hswitched : s.banks.switched with
    | false => simp [execCommitComplete, hact, hswitched]
    | true =>
      have hexec : execCommitComplete s = .next (s.commitCompleted p) := exec_commitComplete hact hswitched
      rw [hexec, clockAfter_next, s.clock_commitCompleted p]

theorem clockAfter_execMgmtFrameReceive (port lseq : Nat) (bytes : List Byte) :
    clockAfter (execMgmtFrameReceive port lseq bytes s) = some s.clock := by
  simp [execMgmtFrameReceive]

theorem clockAfter_execSpiWrite (bytes : List Byte) : clockAfter (execSpiWrite bytes s) = some s.clock := by
  simp [execSpiWrite]

theorem clockAfter_execTimIncWrite (d v : Nat) : clockAfter (execTimIncWrite d v s) = some s.clock := by
  simp [execTimIncWrite]

theorem clockAfter_execFwUpdateDone (result ver svn : Nat) :
    clockAfter (execFwUpdateDone result ver svn s) = some s.clock := by
  simp +decide [execFwUpdateDone]

theorem clockAfter_execPfailAssert : clockAfter (execPfailAssert s) = some s.clock := by
  simp +decide [execPfailAssert]

theorem clockAfter_execQspiImageReadDone (info : Nat) (dir bytes : List Byte) :
    clockAfter (execQspiImageReadDone info dir bytes s) = some s.clock := by
  unfold execQspiImageReadDone
  dsimp only
  repeat' split
  all_goals simp +decide

theorem clockAfter_execNeighbourServerFound : clockAfter (execNeighbourServerFound s) = some s.clock := by
  unfold execNeighbourServerFound
  repeat' split
  all_goals simp

theorem clockAfter_execNeighbourFetchResume : clockAfter (execNeighbourFetchResume s) = some s.clock := by
  unfold execNeighbourFetchResume
  dsimp only
  repeat' split
  all_goals simp

end

/-! ## Moves of the state code -/

/-- What a command may make of the hub's state code: from one that R149 assigns to one that it assigns, by a move that R155
lists. -/
def State.Moves (s t : State) : Prop :=
  legalState s.hubState = true → legalState t.hubState = true ∧ stateMove s.hubState t.hubState = true

theorem State.hubState_of_clock {s t : State} (h : t.clock = s.clock) : t.hubState = s.hubState := congrArg (·.2.2) h

theorem State.Moves.of_eq {s t : State} (h : t.hubState = s.hubState) : s.Moves t := fun hs =>
  ⟨h ▸ hs, by simp [stateMove, h]⟩

theorem State.Moves.ite {s t u : State} {c : Prop} [Decidable c] (ht : s.Moves t) (hu : s.Moves u) :
    s.Moves (if c then t else u) := by
  split
  · exact ht
  · exact hu

/-- A transition of R155 leads to another assigned code. -/
theorem ne_and_le_of_legalMove {old new : Nat} (h : legalMove old new = true) : old ≠ new ∧ new ≤ 6 := by
  simp only [legalMove, List.contains_eq_mem, List.mem_cons, Prod.mk.injEq, List.not_mem_nil, or_false,
    decide_eq_true_eq] at h
  omega

/-- A transition of R155 between the states from HELD on. -/
theorem State.Moves.of_legalMove {s t : State} (h : legalMove s.hubState t.hubState = true) : s.Moves t := by
  intro _
  obtain ⟨-, hlegal⟩ := ne_and_le_of_legalMove h
  exact ⟨by simp [legalState, hlegal], by simp [stateMove, h]⟩

theorem State.Moves.to_boot {s t : State} (h : t.hubState = stBoot) : s.Moves t := fun _ => by
  simp [stateMove, h, legalState, stBoot]

theorem State.Moves.to_off {s t : State} (h : t.hubState = stOff) : s.Moves t := fun _ => by
  simp [stateMove, h, legalState, stOff]

theorem State.Moves.boot_held {s t : State} (hs : s.hubState = stBoot) (ht : t.hubState = stHeld) : s.Moves t := fun _ => by
  rw [hs, ht]
  decide

/-- The state that an outcome goes on with, if any, is reached by a move. -/
def MovesNext (s : State) (o : Host.Outcome State Fault Refusal) : Prop := ∀ t, o = .next t → s.Moves t

theorem MovesNext.next {s t : State} (h : s.Moves t) : MovesNext s (.next t) := by
  rintro u ⟨⟩
  exact h

theorem MovesNext.of_clock {s : State} {o : Host.Outcome State Fault Refusal} (h : clockAfter o = some s.clock) :
    MovesNext s o := by
  rintro t rfl
  exact .of_eq (State.hubState_of_clock (Option.some.inj h))

/-! ## Commands that move the state code or the frame counter -/

theorem State.hubState_put_state (s : State) {st : Nat} (h : st < 8) : (s.put Fld.GLB_STATE.STATE st).hubState = st :=
  (State.get_put_same s st 0 0 (by decide) (by decide)).trans (Nat.mod_eq_of_lt h)

theorem State.hubState_hubReset (s : State) (cause boot : Nat) : (s.hubReset cause boot).hubState = stBoot :=
  (State.hubState_of_clock (State.clock_enterBoot _ _ _)).trans (State.hubState_put_state _ (by decide))

theorem State.hubState_powerBoot_state (s : State) (boot : Nat) :
    ((s.put Fld.GLB_STATE.STATE stBoot).powerBoot boot).hubState = stBoot :=
  (State.hubState_of_clock (State.clock_powerBoot _ _)).trans (State.hubState_put_state _ (by decide))

theorem State.hubState_setCounter (s : State) (n : Nat) : (s.setCounter n).hubState = s.hubState :=
  State.hubState_of_clock (t := s.setCounter n) (s := { s with seq.counter := true, seq.frame := n }) (by
    simp +decide [State.setCounter, State.showLock, State.moveTicks, State.movePeriods])

theorem State.hubState_commitDue (s : State) : s.commitDue.hubState = s.hubState := by
  unfold State.commitDue
  split
  · split
    · exact s.hubState_commitSwitch _
    · rfl
  · rfl

theorem movesNext_execFrameTick (x : TickInput) (s : State) : MovesNext s (execFrameTick x s) := by
  cases hopen : s.mapOpen with
  | false =>
    rw [execFrameTick_closed x hopen]
    exact .next (.of_eq rfl)
  | true =>
    obtain ⟨t, ht, hclock⟩ := execFrameTick_clock x hopen
    rw [ht]
    exact .next (.of_eq (congrArg (·.2.2) hclock))

/-- A transition applies when it falls due: a restart does, and another one if R155 still lists it and its condition holds. -/
def State.applies (s : State) (t : Transition) : Prop := t.target = stBoot ∨ s.moveHolds t = true

/-- The first transition of rank r that is due at this tick and applies (R158). -/
def State.dueAt (s : State) (r : Nat) : Option Transition :=
  (s.seq.due.filter fun t => decide (t.frame ≤ s.seq.frame)).find? fun t =>
    t.rank == r && (t.target == stBoot || s.moveHolds t)

theorem State.dueMove_eq (s : State) : s.dueMove = (s.dueAt 0 <|> s.dueAt 1 <|> s.dueAt 2 <|> s.dueAt 3) := rfl

theorem State.of_dueAt {s : State} {r : Nat} {m : Transition} (h : s.dueAt r = some m) :
    (m ∈ s.seq.due ∧ m.frame ≤ s.seq.frame) ∧ m.rank = r ∧ s.applies m := by
  have hmem := List.mem_of_find?_eq_some h
  have hholds := List.find?_some h
  simp only [List.mem_filter, decide_eq_true_eq] at hmem
  simpa [State.applies] using And.intro hmem hholds

theorem State.rank_ne_of_dueAt {s : State} {r : Nat} (h : s.dueAt r = none) {x : Transition} (hx : x ∈ s.seq.due)
    (hf : x.frame ≤ s.seq.frame) (ha : s.applies x) : x.rank ≠ r := by
  rintro rfl
  have hno := List.find?_eq_none.mp h x (List.mem_filter.mpr ⟨hx, decide_eq_true hf⟩)
  simp only [State.applies] at ha
  simp [ha] at hno

/-- The transition that takes effect is due, applies, and has the lowest rank of those that are due and apply. -/
theorem State.of_dueMove {s : State} {m : Transition} (h : s.dueMove = some m) :
    (m ∈ s.seq.due ∧ m.frame ≤ s.seq.frame) ∧ s.applies m ∧
      ∀ x ∈ s.seq.due, x.frame ≤ s.seq.frame → s.applies x → x.rank ≤ 3 → m.rank ≤ x.rank := by
  obtain ⟨r, hr, hbefore⟩ : ∃ r, s.dueAt r = some m ∧ ∀ q < r, s.dueAt q = none := by
    rw [State.dueMove_eq] at h
    simp only [Option.orElse_eq_orElse, Option.orElse_eq_or, Option.or_eq_some_iff] at h
    rcases h with h | ⟨h0, h | ⟨h1, h | ⟨h2, h⟩⟩⟩
    · exact ⟨0, h, by omega⟩
    · exact ⟨1, h, by grind⟩
    · exact ⟨2, h, by grind⟩
    · exact ⟨3, h, by grind⟩
  obtain ⟨hdue, hrank, happlies⟩ := State.of_dueAt hr
  refine ⟨hdue, happlies, fun x hx hf ha _ => ?_⟩
  by_contra hlt
  exact State.rank_ne_of_dueAt (hbefore x.rank (by omega)) hx hf ha rfl

theorem State.hubState_enterState_dueMove {s : State} {m : Transition} (due : List Transition) (hm : s.dueMove = some m)
    (hboot : m.target ≠ stBoot) :
    legalMove s.hubState m.target = true ∧ (({ s with seq.due := due } : State).enterState m.target).hubState = m.target := by
  obtain ⟨-, happlies, -⟩ := State.of_dueMove hm
  have hlegal : legalMove s.hubState m.target = true := by
    have hholds := happlies.resolve_left hboot
    simp only [State.moveHolds, Bool.and_eq_true] at hholds
    exact hholds.1.1
  obtain ⟨hne, hle⟩ := ne_and_le_of_legalMove hlegal
  exact ⟨hlegal, State.hubState_enterState hne (by omega)⟩

theorem movesNext_execStateTransition (boot : Nat) (s : State) : MovesNext s (execStateTransition boot s) := by
  unfold execStateTransition
  dsimp only
  split
  · exact .next (.of_eq rfl)
  · next m hm =>
    refine .next ?_
    split
    · exact .to_boot (State.hubState_hubReset _ _ _)
    · next hboot =>
      obtain ⟨hlegal, hstate⟩ := State.hubState_enterState_dueMove _ hm hboot
      refine .of_legalMove ?_
      rw [hstate]
      exact hlegal

theorem movesNext_execCommitSwitch (s : State) : MovesNext s (execCommitSwitch s) :=
  .next (.ite (.of_eq rfl) (.of_eq s.hubState_commitDue))

theorem movesNext_execPowerUpCommit (s : State) : MovesNext s (execPowerUpCommit s) := by
  unfold execPowerUpCommit
  split
  · exact .next (.of_eq rfl)
  split
  · exact .next (.of_eq rfl)
  refine .next ?_
  split
  · next h =>
    rw [Bool.and_eq_true, beq_iff_eq] at h
    refine .of_legalMove ?_
    rw [State.hubState_enterState (by rw [h.1]; decide) (by decide), ← s.hubState_commitDue, h.1]
    decide
  · exact .of_eq s.hubState_commitDue

theorem movesNext_execFrameCounterStart (s : State) : MovesNext s (execFrameCounterStart s) := by
  unfold execFrameCounterStart
  dsimp only
  split
  · exact .next (.of_eq rfl)
  · exact .next (.ite (.of_eq (s.hubState_setCounter _)) (.of_eq rfl))

theorem movesNext_execFrameCounterAdopt (s : State) : MovesNext s (execFrameCounterAdopt s) := by
  unfold execFrameCounterAdopt
  split
  · exact .next (.ite (.of_eq (s.hubState_setCounter _)) (.of_eq rfl))
  · exact .next (.of_eq rfl)

theorem movesNext_execPowerGood (boot : Nat) (s : State) : MovesNext s (execPowerGood boot s) := by
  unfold execPowerGood
  split
  · exact .next (.of_eq rfl)
  dsimp only
  split
  · exact .next (.of_eq (State.hubState_of_clock (by simp +decide)))
  · exact .next (.to_boot (State.hubState_powerBoot_state _ _))

theorem movesNext_execResetNAssert (boot : Nat) (s : State) : MovesNext s (execResetNAssert boot s) := by
  unfold execResetNAssert
  split
  · exact .next (.of_eq rfl)
  · exact .next (.ite (.of_eq rfl) (.to_boot (State.hubState_hubReset _ _ _)))

theorem movesNext_execResetNDeassert (boot : Nat) (s : State) : MovesNext s (execResetNDeassert boot s) := by
  unfold execResetNDeassert
  split
  · exact .next (.of_eq rfl)
  dsimp only
  split
  · exact .next (.ite (.to_boot (State.hubState_powerBoot_state _ _)) (.of_eq rfl))
  · exact .next (.of_eq (State.hubState_of_clock (by simp +decide)))

theorem movesNext_execWatchdogReset (boot : Nat) (s : State) : MovesNext s (execWatchdogReset boot s) :=
  .next (.ite (.of_eq rfl) (.to_boot (State.hubState_hubReset _ _ _)))

theorem movesNext_execXtalLoss (boot : Nat) (s : State) : MovesNext s (execXtalLoss boot s) :=
  .next (.ite (.of_eq rfl) (.to_boot (State.hubState_hubReset _ _ _)))

/-- The hub once a rail of steps 1 to 3 is lost (R664). -/
def State.railDown (s : State) (rail : Nat) : State :=
  let t := (s.volatileGone.put Fld.GLB_STATE.STATE stOff).put Fld.PMU_STAT.PG 0
  ((t.put Fld.PMU_RAIL_STAT.RAIL (maskBit (t.get Fld.PMU_RAIL_STAT.RAIL) rail false)).put Fld.PMU_CLK_STAT.MOD 0).pdEval

theorem State.hubState_railDown (s : State) (rail : Nat) : (s.railDown rail).hubState = stOff := by
  have hput := State.hubState_put_state s.volatileGone (st := stOff) (by decide)
  unfold State.railDown
  generalize s.volatileGone.put Fld.GLB_STATE.STATE stOff = t at hput ⊢
  exact (State.hubState_of_clock (by simp +decide)).trans hput

theorem movesNext_execRailLoss (rail : Nat) (s : State) : MovesNext s (execRailLoss rail s) := by
  unfold execRailLoss
  split
  · exact .next (.of_eq rfl)
  · exact .next (.to_off (State.hubState_railDown _ rail))

theorem State.hubState_bootHeld {s : State} (f : FwSlot) (h : s.hubState = stBoot) : (s.bootHeld f).hubState = stHeld := by
  have henter : (s.enterState stHeld).hubState = stHeld := State.hubState_enterState (by rw [h]; decide) (by decide)
  refine Eq.trans (State.hubState_of_clock ?_) henter
  unfold State.bootHeld
  dsimp only
  split_ifs <;> simp +decide

theorem movesNext_execBootDone (aOk bOk : Bool) (selfTest : Option Nat) (s : State) :
    MovesNext s (execBootDone aOk bOk selfTest s) := by
  unfold execBootDone
  split
  · exact .next (.of_eq rfl)
  next hboot =>
  have hs : s.hubState = stBoot := by
    simp only [Bool.or_eq_true, bne_iff_ne, not_or, not_not] at hboot
    exact hboot.1.1.1
  extract_lets +onlyGivenNames a b bFirst pass show_ slot first shown
  have hshow : ∀ (k : Bool) (t : State), (show_ k t).clock = t.clock := by
    intro k t
    cases k <;> simp +decide [show_]
  extract_lets +onlyGivenNames both run
  have hboth : both.clock = s.clock := by
    unfold both shown
    split <;> simp [hshow]
  split
  · exact .next (.of_eq (State.hubState_of_clock (by simp [hboth])))
  dsimp only
  split
  · exact .next (.of_eq (State.hubState_of_clock (by simp +decide [hboth])))
  · exact .next (.boot_held hs (State.hubState_bootHeld _ ((State.hubState_of_clock (by simp +decide [hboth])).trans hs)))

/-- Every command moves the state code as R155 lists, or leaves it. -/
theorem exec_moves (c : Instr) (s : State) : MovesNext s (exec c s) :=
  match c with
  | .frameTick _ => movesNext_execFrameTick _ _
  | .conditionPhase _ => .of_clock (o := execConditionPhase _ s) (by simp [execConditionPhase])
  | .decidePhase _ _ => .of_clock (o := execDecidePhase _ _ s) (by simp [execDecidePhase])
  | .emitPhase _ _ _ => .of_clock (clockAfter_execEmitPhase _ _ _ _)
  | .housePhase _ _ => .of_clock (clockAfter_execHousePhase _ _ _)
  | .stateTransition _ => movesNext_execStateTransition _ _
  | .streamFrameDeadline _ => .of_clock (o := execStreamFrameDeadline _ s) (by simp +decide [execStreamFrameDeadline])
  | .nop _ => .of_clock (congrArg some (State.clock_runCommand _ _ _ _))
  | .arm _ => .of_clock (congrArg some (State.clock_runCommand _ _ _ _))
  | .hold _ => .of_clock (congrArg some (State.clock_runCommand _ _ _ _))
  | .start _ _ => .of_clock (congrArg some (State.clock_runCommand _ _ _ _))
  | .stop _ _ => .of_clock (congrArg some (State.clock_runCommand _ _ _ _))
  | .safeEnter _ => .of_clock (congrArg some (State.clock_runCommand _ _ _ _))
  | .recover _ => .of_clock (congrArg some (State.clock_runCommand _ _ _ _))
  | .maintEnter _ => .of_clock (congrArg some (State.clock_runCommand _ _ _ _))
  | .maintExit _ => .of_clock (congrArg some (State.clock_runCommand _ _ _ _))
  | .restart _ => .of_clock (congrArg some (State.clock_runCommand _ _ _ _))
  | .regRead _ _ _ => .of_clock (congrArg some (State.clock_runCommand _ _ _ _))
  | .regWrite _ _ _ => .of_clock (congrArg some (State.clock_runCommand _ _ _ _))
  | .reservedOpcode _ _ _ => .of_clock (congrArg some (State.clock_runCommand _ _ _ _))
  | .patLoad _ _ _ => .of_clock (congrArg some (State.clock_runCommand _ _ _ _))
  | .patCommit _ _ => .of_clock (congrArg some (State.clock_runCommand _ _ _ _))
  | .patCancel _ => .of_clock (congrArg some (State.clock_runCommand _ _ _ _))
  | .patDiscard _ => .of_clock (congrArg some (State.clock_runCommand _ _ _ _))
  | .patKeyInstall _ _ _ => .of_clock (congrArg some (State.clock_runCommand _ _ _ _))
  | .patKeyRevoke _ _ => .of_clock (congrArg some (State.clock_runCommand _ _ _ _))
  | .patternCheckDone _ => .of_clock (clockAfter_execPatternCheckDone _ _)
  | .commitIrrevocable => .of_clock (clockAfter_execCommitIrrevocable _)
  | .commitSwitch => movesNext_execCommitSwitch _
  | .commitComplete => .of_clock (clockAfter_execCommitComplete _)
  | .powerUpCommit => movesNext_execPowerUpCommit _
  | .calRun _ _ => .of_clock (congrArg some (State.clock_runCommand _ _ _ _))
  | .calAbort _ _ => .of_clock (congrArg some (State.clock_runCommand _ _ _ _))
  | .calPodPoint _ _ _ _ _ => .of_clock (congrArg some (State.clock_runCommand _ _ _ _))
  | .calPodPointDone => .of_clock (clockAfter_execCalPodPointDone _)
  | .calPodPointTimeout => .of_clock (clockAfter_execCalPodPointTimeout _)
  | .calStepEnd _ => .of_clock (clockAfter_execCalStepEnd _ _)
  | .matchTimeout => .of_clock (clockAfter_execMatchTimeout _)
  | .calCoefWrite _ _ _ => .of_clock (o := execCalCoefWrite _ _ _ s) (by simp [execCalCoefWrite])
  | .calCtrlSuspend _ => .of_clock (o := execCalCtrlSuspend _ s) (by simp [execCalCtrlSuspend])
  | .timeSetTod _ _ _ _ => .of_clock (congrArg some (State.clock_runCommand _ _ _ _))
  | .timeStep _ _ _ _ _ => .of_clock (congrArg some (State.clock_runCommand _ _ _ _))
  | .timeSelect _ _ _ => .of_clock (congrArg some (State.clock_runCommand _ _ _ _))
  | .timeStepCancel _ => .of_clock (congrArg some (State.clock_runCommand _ _ _ _))
  | .timeStepApply => .of_clock (clockAfter_execTimeStepApply _)
  | .timeSelectEffect => .of_clock (clockAfter_execTimeSelectEffect _)
  | .laneAdmin _ _ _ => .of_clock (congrArg some (State.clock_runCommand _ _ _ _))
  | .laneRetrain _ _ => .of_clock (congrArg some (State.clock_runCommand _ _ _ _))
  | .laneTest _ _ _ _ _ => .of_clock (congrArg some (State.clock_runCommand _ _ _ _))
  | .ringDiscover _ => .of_clock (congrArg some (State.clock_runCommand _ _ _ _))
  | .fldPort _ _ _ => .of_clock (congrArg some (State.clock_runCommand _ _ _ _))
  | .fldAdopt _ _ => .of_clock (congrArg some (State.clock_runCommand _ _ _ _))
  | .loopIntSet _ _ _ => .of_clock (congrArg some (State.clock_runCommand _ _ _ _))
  | .loopReturn _ _ => .of_clock (congrArg some (State.clock_runCommand _ _ _ _))
  | .sluReclaim _ => .of_clock (congrArg some (State.clock_runCommand _ _ _ _))
  | .sluForcePark _ _ _ => .of_clock (congrArg some (State.clock_runCommand _ _ _ _))
  | .capArm _ _ _ => .of_clock (congrArg some (State.clock_runCommand _ _ _ _))
  | .capAbort _ _ => .of_clock (congrArg some (State.clock_runCommand _ _ _ _))
  | .capForce _ _ => .of_clock (congrArg some (State.clock_runCommand _ _ _ _))
  | .captureArm _ => .of_clock (clockAfter_execCaptureArm _ _)
  | .captureAbortEffect _ => .of_clock (clockAfter_execCaptureAbortEffect _ _)
  | .triggerHoldoffEnd _ => .of_clock (o := execTriggerHoldoffEnd _ s) (by simp +decide [execTriggerHoldoffEnd])
  | .queFlush _ _ => .of_clock (congrArg some (State.clock_runCommand _ _ _ _))
  | .notice _ => .of_clock (congrArg some (State.clock_runCommand _ _ _ _))
  | .wrgCut _ _ => .of_clock (congrArg some (State.clock_runCommand _ _ _ _))
  | .wrgAbort _ _ => .of_clock (congrArg some (State.clock_runCommand _ _ _ _))
  | .sltClearArm _ => .of_clock (congrArg some (State.clock_runCommand _ _ _ _))
  | .sltClearConfirm _ _ => .of_clock (congrArg some (State.clock_runCommand _ _ _ _))
  | .logClearDone => .of_clock (congrArg some (State.clock_clearDone _))
  | .adopt _ _ _ _ => .of_clock (congrArg some (State.clock_runCommand _ _ _ _))
  | .adoptEffect => .of_clock (clockAfter_execAdoptEffect _)
  | .digestInherit => .of_clock (clockAfter_execDigestInherit _)
  | .quarantine _ _ => .of_clock (congrArg some (State.clock_runCommand _ _ _ _))
  | .mailboxGo _ => .of_clock (o := execMailboxGo _ s) (by simp [execMailboxGo])
  | .mgmtFrameReceive _ _ _ => .of_clock (clockAfter_execMgmtFrameReceive _ _ _ _)
  | .mgmtRelayTimeout _ => .of_clock (clockAfter_execMgmtRelayTimeout _ _)
  | .noticeRecordReceive _ _ => .of_clock (o := execNoticeRecordReceive _ _ s) (by simp [execNoticeRecordReceive])
  | .spiWrite _ => .of_clock (clockAfter_execSpiWrite _ _)
  | .spiRead _ _ _ => .of_clock (o := execSpiRead _ _ _ s) (by simp [execSpiRead])
  | .spiStatus => .of_clock (o := execSpiStatus s) (by simp [execSpiStatus])
  | .spiUnknownCommand _ => .of_clock (o := execSpiUnknownCommand _ s) (by simp [execSpiUnknownCommand])
  | .registerWrite _ _ _ => .of_clock (congrArg some (State.clock_busWrite _ _ _ _))
  | .glbFrameLoRead _ => .of_clock (o := execGlbFrameLoRead _ s) (by simp [execGlbFrameLoRead])
  | .timLRead _ => .of_clock (o := execTimLRead _ s) (by simp [execTimLRead])
  | .loopIntRead _ _ => .of_clock (o := execLoopIntRead _ _ s) (by simp [execLoopIntRead])
  | .sltOptRead _ => .of_clock (o := execSltOptRead _ s) (by simp [execSltOptRead])
  | .queuePop _ _ _ _ => .of_clock (o := execQueuePop _ _ _ _ s) (by simp [execQueuePop])
  | .popWaitExpire _ => .of_clock (clockAfter_execPopWaitExpire _ _)
  | .tdcFifoPop _ _ => .of_clock (o := execTdcFifoPop _ _ s) (by simp [execTdcFifoPop])
  | .sltWin15Read _ _ _ => .of_clock (o := execSltWin15Read _ _ _ s) (by simp [execSltWin15Read])
  | .sltCursorWrite _ _ _ _ => .of_clock (o := execSltCursorWrite _ _ _ _ s) (by simp [execSltCursorWrite])
  | .fldIsnsRead _ _ => .of_clock (o := execFldIsnsRead _ _ s) (by simp [execFldIsnsRead])
  | .patWdataWrite _ => .of_clock (clockAfter_execPatWdataWrite _ _)
  | .standbyWindowWrite _ _ => .of_clock (clockAfter_execStandbyWindowWrite _ _ _)
  | .signCfgRequireSet _ => .of_clock (congrArg some (State.clock_writeAt _ _ _ _ _))
  | .signCfgAntirollbackSet _ => .of_clock (congrArg some (State.clock_writeAt _ _ _ _ _))
  | .unitCntClr _ => .of_clock (o := execUnitCntClr _ s) (by simp [execUnitCntClr])
  | .unitWorstClr _ => .of_clock (o := execUnitWorstClr _ s) (by simp [execUnitWorstClr])
  | .patchStatusClear _ _ => .of_clock (o := execPatchStatusClear _ _ s) (by simp [execPatchStatusClear])
  | .afeExcRetry _ => .of_clock (congrArg some (State.clock_writeAt _ _ _ _ _))
  | .afeCntClr _ => .of_clock (congrArg some (State.clock_writeAt _ _ _ _ _))
  | .rangeHoldWrite _ _ => .of_clock (congrArg some (State.clock_writeAt _ _ _ _ _))
  | .fltSyncReset _ => .of_clock (congrArg some (State.clock_writeAt _ _ _ _ _))
  | .fltCntClr _ => .of_clock (congrArg some (State.clock_writeAt _ _ _ _ _))
  | .sarScalStart _ => .of_clock (congrArg some (State.clock_writeAt _ _ _ _ _))
  | .sarScalPointDone => .of_clock (clockAfter_execSarScalPointDone _)
  | .sarCoefWrite _ _ _ => .of_clock (congrArg some (State.clock_writeAt _ _ _ _ _))
  | .sarModCntClr => .of_clock (congrArg some (State.clock_writeAt _ _ _ _ _))
  | .auxConversionDone _ _ => .of_clock (clockAfter_execAuxConversionDone _ _ _)
  | .auxInjectStart => .of_clock (clockAfter_execAuxInjectStart _)
  | .timIncWrite _ _ => .of_clock (clockAfter_execTimIncWrite _ _ _)
  | .timAdjWrite _ _ => .of_clock (congrArg some (State.clock_writeAt _ _ _ _ _))
  | .timServoTakeover _ => .of_clock (congrArg some (State.clock_writeAt _ _ _ _ _))
  | .timHostQWrite _ => .of_clock (congrArg some (State.clock_writeAt _ _ _ _ _))
  | .timIrqRearm => .of_clock (congrArg some (State.clock_writeAt _ _ _ _ _))
  | .tdcSrcWrite _ => .of_clock (congrArg some (State.clock_writeAt _ _ _ _ _))
  | .tdcFlush _ => .of_clock (congrArg some (State.clock_writeAt _ _ _ _ _))
  | .tdcCntClr _ => .of_clock (congrArg some (State.clock_writeAt _ _ _ _ _))
  | .capCtrlArm _ => .of_clock (clockAfter_execCapCtrlArm _ _)
  | .capCtrlAbort _ => .of_clock (clockAfter_execCapCtrlAbort _ _)
  | .capPrePostWrite _ _ _ => .of_clock (o := execCapPrePostWrite _ _ _ s) (by simp [execCapPrePostWrite])
  | .loopCmdWrite _ _ => .of_clock (clockAfter_execLoopCmdWrite _ _ _)
  | .loopCmdFifoPush _ _ => .of_clock (clockAfter_execLoopCmdFifoPush _ _ _)
  | .loopFifoFlush _ => .of_clock (clockAfter_execLoopFifoFlush _ _)
  | .loopCntClr _ => .of_clock (clockAfter_execLoopCntClr _ _)
  | .loopGainWrite _ _ _ => .of_clock (clockAfter_execLoopGainWrite _ _ _ _)
  | .sluCntClr _ => .of_clock (clockAfter_execSluCntClr _ _)
  | .laneCntClr _ => .of_clock (clockAfter_execLaneCntClr _ _)
  | .lanePrbsClr _ => .of_clock (clockAfter_execLanePrbsClr _ _)
  | .ringCntClr => .of_clock (clockAfter_execRingCntClr _)
  | .fldCntClr _ => .of_clock (clockAfter_execFldCntClr _ _)
  | .queCtrlFlush _ => .of_clock (clockAfter_execQueCtrlFlush _ _)
  | .queCntClr _ => .of_clock (clockAfter_execQueCntClr _ _)
  | .wmxClear _ => .of_clock (clockAfter_execWmxClear _ _)
  | .watermarkWrite _ _ _ => .of_clock (clockAfter_execWatermarkWrite _ _ _ _)
  | .dmaRingEnable _ _ => .of_clock (o := execDmaRingEnable _ _ s) (by simp [execDmaRingEnable])
  | .dmaRingDisable _ => .of_clock (o := execDmaRingDisable _ s) (by simp [execDmaRingDisable])
  | .dmaTailWrite _ _ _ => .of_clock (clockAfter_execDmaTailWrite _ _ _ _)
  | .dmaDescriptorComplete _ _ _ => .of_clock (clockAfter_execDmaDescriptorComplete _ _ _ _)
  | .dmaFlushTimeout _ => .of_clock (clockAfter_execDmaFlushTimeout _ _)
  | .dmaHostError _ => .of_clock (clockAfter_execDmaHostError _ _)
  | .noticePendingClear _ _ => .of_clock (o := execNoticePendingClear _ _ s) (by simp +decide [execNoticePendingClear])
  | .noticeRingSend => .of_clock (clockAfter_execNoticeRingSend _)
  | .msixUnmask _ _ => .of_clock (clockAfter_execMsixUnmask _ _ _)
  | .dmaPause _ => .of_clock (o := execDmaPause _ s) (by simp +decide [execDmaPause])
  | .wrgCtrlCut _ => .of_clock (clockAfter_execWrgCtrlCut _ _)
  | .wrgCtrlAbort _ => .of_clock (clockAfter_execWrgCtrlAbort _ _)
  | .wrgCntClr _ => .of_clock (clockAfter_execWrgCntClr _ _)
  | .wringDecompressStart _ => .of_clock (clockAfter_execWringDecompressStart _ _)
  | .wringCloseTimeout _ => .of_clock (clockAfter_execWringCloseTimeout _ _)
  | .wringJobEnd _ _ => .of_clock (clockAfter_execWringJobEnd _ _ _)
  | .sltCntClr => .of_clock (clockAfter_execSltCntClr _)
  | .siltRecordWritten => .of_clock (congrArg some (State.clock_copyDone _))
  | .optimeCheckpoint => .of_clock rfl
  | .supCntClr => .of_clock (clockAfter_execSupCntClr _)
  | .pmuFwuStart _ => .of_clock (o := execPmuFwuStart _ s) (by simp [execPmuFwuStart])
  | .fwUpdateDone _ _ _ => .of_clock (clockAfter_execFwUpdateDone _ _ _ _)
  | .qspiGo _ => .of_clock (o := execQspiGo _ s) (by simp [execQspiGo])
  | .qspiSequenceDone _ => .of_clock (o := execQspiSequenceDone _ s) (by simp +decide [execQspiSequenceDone])
  | .powerGood _ => movesNext_execPowerGood _ _
  | .resetNAssert _ => movesNext_execResetNAssert _ _
  | .watchdogReset _ => movesNext_execWatchdogReset _ _
  | .railLoss _ => movesNext_execRailLoss _ _
  | .pfailAssert => .of_clock (clockAfter_execPfailAssert _)
  | .pfailDeassert => .of_clock (o := execPfailDeassert s) (by simp +decide [execPfailDeassert])
  | .perstAssert => .of_clock (o := execPerstAssert s) (by simp +decide [execPerstAssert])
  | .functionLevelReset => .of_clock (o := execFunctionLevelReset s) (by simp +decide [execFunctionLevelReset])
  | .trstAssert => .of_clock rfl
  | .pcieLinkDown => .of_clock (o := execPcieLinkDown s) (by simp +decide [execPcieLinkDown])
  | .xtalLoss _ => movesNext_execXtalLoss _ _
  | .bootDone _ _ _ => movesNext_execBootDone _ _ _ _
  | .qspiImageReadDone _ _ _ => .of_clock (clockAfter_execQspiImageReadDone _ _ _ _)
  | .neighbourServerFound => .of_clock (clockAfter_execNeighbourServerFound _)
  | .neighbourFetchResume => .of_clock (clockAfter_execNeighbourFetchResume _)
  | .captureMemoryInitDone => .of_clock (o := execCaptureMemoryInitDone s) (by simp [execCaptureMemoryInitDone])
  | .duplicateEntryExpire _ _ => .of_clock rfl
  | .supplyOutOfRange _ => .of_clock (o := execSupplyOutOfRange _ s) (by simp +decide [execSupplyOutOfRange])
  | .thermalLimit => .of_clock (o := execThermalLimit s) (by simp [execThermalLimit])
  | .memoryUe _ _ => .of_clock (o := execMemoryUe _ _ s) (by simp [execMemoryUe])
  | .safeCauseGone _ => .of_clock (o := execSafeCauseGone _ s) (by simp [execSafeCauseGone])
  | .selfdiagGone _ => .of_clock (o := execSelfdiagGone _ s) (by simp [execSelfdiagGone])
  | .mclkLockLoss => .of_clock (o := execMclkLockLoss s) (by simp +decide [execMclkLockLoss])
  | .mclkLockRegained => .of_clock (o := execMclkLockRegained s) (by simp +decide [execMclkLockRegained])
  | .coefParityError _ _ _ _ => .of_clock (clockAfter_execCoefParityError _ _ _ _ _)
  | .captureEccError _ _ => .of_clock (o := execCaptureEccError _ _ s) (by simp +decide [execCaptureEccError])
  | .modulatorRunInEnd _ => .of_clock (o := execModulatorRunInEnd _ s) (by simp [execModulatorRunInEnd])
  | .modulatorOverload _ _ _ => .of_clock (o := execModulatorOverload _ _ _ s) (by simp [execModulatorOverload])
  | .cmOverload _ _ => .of_clock (o := execCmOverload _ _ s) (by simp +decide [execCmOverload])
  | .excRampEnd _ => .of_clock (o := execExcRampEnd _ s) (by simp [execExcRampEnd])
  | .excOvercurrentOff _ => .of_clock (o := execExcOvercurrentOff _ s) (by simp +decide [execExcOvercurrentOff])
  | .excRetryTimer _ => .of_clock (o := execExcRetryTimer _ s) (by simp [execExcRetryTimer])
  | .excObservation _ _ => .of_clock (o := execExcObservation _ _ s) (by simp [execExcObservation])
  | .wireCheck _ _ => .of_clock (o := execWireCheck _ _ s) (by simp [execWireCheck])
  | .wireBreakConfirm _ => .of_clock (o := execWireBreakConfirm _ s) (by simp [execWireBreakConfirm])
  | .wireRecover _ => .of_clock (o := execWireRecover _ s) (by simp +decide [execWireRecover])
  | .irqNAssert => .of_clock (o := execIrqNAssert s) (by simp [execIrqNAssert])
  | .tinEdge _ _ _ => .of_clock (clockAfter_execTinEdge _ _ _ _)
  | .toutPulse _ => .of_clock (clockAfter_execToutPulse _ _)
  | .toutPulseEnd _ => .of_clock (o := execToutPulseEnd _ s) (by simp +decide [execToutPulseEnd])
  | .tdcEdge _ _ _ _ _ _ => .of_clock (clockAfter_execTdcEdge _ _ _ _ _ _ _)
  | .tdcStartTimeout _ => .of_clock (o := execTdcStartTimeout _ s) (by simp +decide [execTdcStartTimeout])
  | .tdcFreqTimeout _ => .of_clock (o := execTdcFreqTimeout _ s) (by simp [execTdcFreqTimeout])
  | .refinWindow _ _ _ => .of_clock (o := execRefinWindow _ _ _ s) (by simp +decide [execRefinWindow])
  | .tdcRefLoss => .of_clock (o := execTdcRefLoss s) (by simp +decide [execTdcRefLoss])
  | .ppsInEdge _ => .of_clock (clockAfter_execPpsInEdge _ _)
  | .ppsLoss => .of_clock (o := execPpsLoss s) (by simp +decide [execPpsLoss])
  | .rootHoldover _ => .of_clock (o := execRootHoldover _ s) (by simp [execRootHoldover])
  | .syncSend _ => .of_clock (o := execSyncSend _ s) (by simp [execSyncSend])
  | .pdReqSend _ => .of_clock (o := execPdReqSend _ s) (by simp [execPdReqSend])
  | .pdReq _ _ _ _ => .of_clock (clockAfter_execPdReq _ _ _ _ _)
  | .pdResp _ _ _ _ => .of_clock (clockAfter_execPdResp _ _ _ _ _)
  | .sync _ _ _ _ _ => .of_clock (o := execSync _ _ _ _ _ s) (by simp +decide [execSync])
  | .domainLoss _ => .of_clock (clockAfter_execDomainLoss _ _)
  | .frameCounterStart => movesNext_execFrameCounterStart _
  | .frameCounterAdopt => movesNext_execFrameCounterAdopt _
  | .rootBTakeover => .of_clock (o := execRootBTakeover s) (by simp [execRootBTakeover])
  | .laneBlockLock _ => .of_clock (o := execLaneBlockLock _ s) (by simp +decide [execLaneBlockLock])
  | .laneNoPeer _ => .of_clock (o := execLaneNoPeer _ s) (by simp [execLaneNoPeer])
  | .trainBlock _ _ => .of_clock (o := execTrainBlock _ _ s) (by simp [execTrainBlock])
  | .rateChange _ => .of_clock (clockAfter_execRateChange _ _)
  | .eqTrainDone _ => .of_clock (o := execEqTrainDone _ s) (by simp [execEqTrainDone])
  | .laneCheckEnd _ _ => .of_clock (o := execLaneCheckEnd _ _ s) (by simp +decide [execLaneCheckEnd])
  | .am _ _ _ => .of_clock (clockAfter_execAm _ _ _ _)
  | .laneErrorLimit _ => .of_clock (o := execLaneErrorLimit _ s) (by simp +decide [execLaneErrorLimit])
  | .laneLockLoss _ => .of_clock (o := execLaneLockLoss _ s) (by simp +decide [execLaneLockLoss])
  | .laneRetryTimer _ => .of_clock (o := execLaneRetryTimer _ s) (by simp [execLaneRetryTimer])
  | .adaptWindow _ _ _ _ _ _ _ _ => .of_clock (clockAfter_execAdaptWindow _ _ _ _ _ _ _ _ _)
  | .prbsResync _ => .of_clock (o := execPrbsResync _ s) (by simp +decide [execPrbsResync])
  | .leafSyncChange _ _ => .of_clock (o := execLeafSyncChange _ _ s) (by simp +decide [execLeafSyncChange])
  | .leafFrame _ _ _ => .of_clock (o := execLeafFrame _ _ _ s) (by simp +decide [execLeafFrame])
  | .leafTimeout _ => .of_clock (o := execLeafTimeout _ s) (by simp +decide [execLeafTimeout])
  | .streamFrameReceive _ _ _ _ =>
    .of_clock (o := execStreamFrameReceive _ _ _ _ s) (by simp +decide [execStreamFrameReceive])
  | .triggerFrameReceive _ _ _ => .of_clock (o := execTriggerFrameReceive _ _ _ s) (by simp [execTriggerFrameReceive])
  | .claimFrameReceive _ _ _ => .of_clock (o := execClaimFrameReceive _ _ _ s) (by simp [execClaimFrameReceive])
  | .helloReceive _ _ _ => .of_clock (o := execHelloReceive _ _ _ s) (by simp +decide [execHelloReceive])
  | .unknownFrameReceive _ _ _ =>
    .of_clock (o := execUnknownFrameReceive _ _ _ s) (by simp +decide [execUnknownFrameReceive])
  | .linkAck _ _ => .of_clock (o := execLinkAck _ _ s) (by simp [execLinkAck])
  | .linkNak _ _ _ => .of_clock (o := execLinkNak _ _ _ s) (by simp +decide [execLinkNak])
  | .linkSkip _ _ => .of_clock (o := execLinkSkip _ _ s) (by simp [execLinkSkip])
  | .retransmitTimeout _ => .of_clock (clockAfter_execRetransmitTimeout _ _)
  | .helloSend => .of_clock (o := execHelloSend s) (by simp [execHelloSend])
  | .discProbeSend _ => .of_clock (o := execDiscProbeSend _ s) (by simp +decide [execDiscProbeSend])
  | .discFrameReceive _ _ _ => .of_clock (o := execDiscFrameReceive _ _ _ s) (by simp [execDiscFrameReceive])
  | .discProbeTimeout _ => .of_clock (clockAfter_execDiscProbeTimeout _ _)
  | .hubSilent _ => .of_clock (o := execHubSilent _ s) (by simp [execHubSilent])
  | .uplinkSyncGain _ => .of_clock (o := execUplinkSyncGain _ s) (by simp +decide [execUplinkSyncGain])
  | .uplinkSyncLoss _ => .of_clock (o := execUplinkSyncLoss _ s) (by simp +decide [execUplinkSyncLoss])
  | .slice _ _ _ _ => .of_clock (clockAfter_execSlice _ _ _ _ _)
  | .podTickBlock _ _ => .of_clock (clockAfter_execPodTickBlock _ _ _)
  | .podTickMiss _ => .of_clock (o := execPodTickMiss _ s) (by simp [execPodTickMiss])
  | .echo _ _ => .of_clock (o := execEcho _ _ s) (by simp [execEcho])
  | .podResponse _ _ => .of_clock (clockAfter_execPodResponse _ _ _)
  | .podCmdTimeout _ => .of_clock (clockAfter_execPodCmdTimeout _ _)
  | .podConfigResend _ => .of_clock (clockAfter_execPodConfigResend _ _)
  | .podBind _ => .of_clock (clockAfter_execPodBind _ _)
  | .podNoload _ => .of_clock (clockAfter_execPodNoload _ _)
  | .podOvercurrent _ => .of_clock (o := execPodOvercurrent _ s) (by simp +decide [execPodOvercurrent])
  | .podOcRetry _ => .of_clock (o := execPodOcRetry _ s) (by simp [execPodOcRetry])
  | .podPowerOn _ => .of_clock (o := execPodPowerOn _ s) (by simp [execPodPowerOn])
  | .partnerTimeout _ _ => .of_clock (o := execPartnerTimeout _ _ s) (by simp +decide [execPartnerTimeout])
  | .outputFault _ => .of_clock (clockAfter_execOutputFault _ _)
  | .staleTimeout _ => .of_clock (o := execStaleTimeout _ s) (by simp +decide [execStaleTimeout])
  | .resetNDeassert _ => movesNext_execResetNDeassert _ _
  | .xtalRestored => .of_clock (o := execXtalRestored s) (by simp +decide [execXtalRestored])
  | .perstDeassert => .of_clock (o := execPerstDeassert s) (by simp [execPerstDeassert])
  | .pcieLinkUp _ _ => .of_clock (o := execPcieLinkUp _ _ s) (by simp +decide [execPcieLinkUp])
  | .dmaResume _ => .of_clock (o := execDmaResume _ s) (by simp +decide [execDmaResume])
  | .amSend _ => .of_clock (o := execAmSend _ s) (by simp [execAmSend])
  | .fldPowerCycleEnd _ => .of_clock (o := execFldPowerCycleEnd _ s) (by simp [execFldPowerCycleEnd])
  | .tapUpdateIr _ => .of_clock rfl
  | .captureMemoryWrite _ => .of_clock (o := execCaptureMemoryWrite _ s) (by simp +decide [execCaptureMemoryWrite])
  | .reservedRead _ _ _ => .of_clock (clockAfter_execReservedRead _ _ _ _)
  | .refinPresenceLoss => .of_clock (o := execRefinPresenceLoss s) (by simp +decide [execRefinPresenceLoss])

/-- Settles O6: a step is a clock edge, which keeps the state code, or the next command. -/
theorem hubStateMovesOnlyAsListed : Obligations.HubStateMovesOnlyAsListed := by
  unfold Obligations.HubStateMovesOnlyAsListed
  intro s t hstep hs
  unfold step at hstep
  split at hstep
  · obtain rfl : s.clockEdge = t := by simpa using hstep
    have hmoves : s.Moves s.clockEdge := .of_eq (State.hubState_of_clock s.clock_clockEdge)
    exact hmoves hs
  · next c rest _ =>
    have hpending : ({ s with pending := rest } : State).hubState = s.hubState := rfl
    have hmoves := exec_moves c _ t hstep
    rw [State.Moves, hpending] at hmoves
    exact hmoves hs

end Sys2Proof.Machine
end


section
/-! PROOFS. The state after reset (R149): what its registers read and what its other parts hold. -/

open Sys2Proof Sys2Proof.Machine

namespace Sys2Proof.Machine

/-- Settles O4: registers are read from the table of reset values, and the other parts are their own reset states. -/
theorem resetState : Obligations.ResetState := by
  unfold Obligations.ResetState
  refine ⟨?boot, rfl, rfl, rfl, rfl, rfl, rfl, rfl, ?part, ?smallPart, ?hubId, ?lifeHead, rfl⟩
  all_goals decide

/-- Settles O5: BOOT is an assigned code, and every memory is empty. -/
theorem resetMeetsInvariants : Obligations.ResetMeetsInvariants := by
  unfold Obligations.ResetMeetsInvariants
  decide

end Sys2Proof.Machine
end


section
/-! PROOFS. The due transition (R155, R158), the state commands (R175, R176) and a command in a state that does not permit it (R174):
each is a new record of a sender with the effect of its row in the command table. -/

open Sys2Proof Sys2Proof.Machine

namespace Sys2Proof.Machine

/-! ## The due transition -/

/-- Settles O36: the transition that takes effect is legal in the hub's state, so the hub enters its target. -/
theorem stateTransitionRow : Obligations.StateTransitionRow := by
  unfold Obligations.StateTransitionRow
  intro s boot m hm
  obtain ⟨hdue, -, hleast⟩ := State.of_dueMove hm
  refine ⟨hdue, hleast, fun hboot => ?restart, fun hother => ⟨?enter, ?entered⟩⟩
  case restart =>
    change execStateTransition boot s = _
    simp only [execStateTransition, hm, if_pos hboot]
  case enter =>
    change execStateTransition boot s = _
    simp only [execStateTransition, hm, if_neg hother]
  case entered => exact (State.hubState_enterState_dueMove _ hm hother).2

/-! ## A state command as a new record -/

theorem State.inStates_of_mem {s : State} {l : List Nat} (h : s.hubState ∈ l) : s.inStates l = true :=
  List.contains_iff_mem.mpr h

/-- A new record of a state command without arguments, in one of its states. -/
theorem State.runCommand_noArgs {s t : State} {o : Origin} {op : Nat} {a : Answer} (h : s.fresh o = true)
    (hop : (decide (op < 0x30) && opKnown op) = true) (hstate : s.hubState ∈ opStates op) (hargs : argsOk op [] = true)
    (heff : s.commandLow op [] = (a, t)) : s.runCommand o op [] = t.settle o op [] s.hubState a :=
  State.runCommand_low h hop (State.inStates_of_mem hstate) (Nat.zero_le _) rfl hargs heff

/-- A new record of START or STOP, whose argument is a tick number, in one of its states. -/
theorem State.runCommand_tick {s t : State} {o : Origin} {op f : Nat} {a : Answer} (h : s.fresh o = true)
    (hop : op = 0x04 ∨ op = 0x05) (hstate : s.hubState ∈ opStates op) (heff : s.commandLow op (leBytes 8 f) = (a, t)) :
    s.runCommand o op (leBytes 8 f) = t.settle o op (leBytes 8 f) s.hubState a := by
  refine State.runCommand_low h ?_ (State.inStates_of_mem hstate) ?_ ?_ ?_ heff
  · rcases hop with rfl | rfl <;> rfl
  · simp
  · simp
  · rcases hop with rfl | rfl <;> simp [argsOk, argLens]

/-! ## The effects of START, STOP and RECOVER -/

theorem State.commandLow_start {s : State} {f : Nat} (hf : f < 2 ^ 48) :
    s.commandLow 0x04 (leBytes 8 f) =
      let at_ := if f = 0 then s.frameNow + 2 else f
      ({ status := if s.is Fld.GLB_STATE.READY = true ∧ s.seq.frame + 2 ≤ at_ then 0 else 8 },
        ({ s with seq.startF := at_ } : State).put Fld.GLB_STATE.RUN_INTENT 1) := by
  have hfield : leAt (leBytes 8 f) 0 8 = f := leAt_leBytes_nil_of_lt (by omega)
  have heff : s.commandLow 0x04 (leBytes 8 f) = s.startCmd f := by simp [State.commandLow, hfield]
  rw [heff, State.startCmd, if_neg (Nat.not_le.mpr hf)]
  simp

theorem State.commandLow_stop {s : State} {f : Nat} (hf : f < 2 ^ 48) : s.commandLow 0x05 (leBytes 8 f) = s.stopCmd f := by
  have hfield : leAt (leBytes 8 f) 0 8 = f := leAt_leBytes_nil_of_lt (by omega)
  simp [State.commandLow, hfield]

theorem State.hubState_clearIntent (s : State) : (s.put Fld.GLB_STATE.RUN_INTENT 0).hubState = s.hubState :=
  State.get_put_indep s 0 0 0 0 0 (by decide)

theorem State.stopCmd_armed {s : State} {f : Nat} (hs : s.hubState = stArmed) (hf : f < 2 ^ 48) :
    s.stopCmd f = ({ status := 0 }, s.put Fld.GLB_STATE.RUN_INTENT 0) := by
  have hstate : (s.put Fld.GLB_STATE.RUN_INTENT 0).hubState ≠ stRun := by
    rw [State.hubState_clearIntent, hs]
    decide
  rw [State.stopCmd, if_neg (Nat.not_le.mpr hf)]
  exact if_pos hstate

theorem State.stopCmd_run {s : State} {f : Nat} (hs : s.hubState = stRun) (hf : f = 0 ∨ (s.seq.frame + 2 ≤ f ∧ f < 2 ^ 48)) :
    s.stopCmd f = ({ status := 0 },
      { s.put Fld.GLB_STATE.RUN_INTENT 0 with seq.due := s.seq.due ++
          [{ target := stArmed, frame := if f = 0 then s.seq.frame + 2 else f, rank := 3 }] }) := by
  have hrange : ¬ 2 ^ 48 ≤ f := by omega
  have hplace : ¬ (if f = 0 then s.seq.frame + 2 else f) < s.seq.frame + 2 := by
    split <;> omega
  rw [State.stopCmd, if_neg hrange]
  simp only [State.hubState_clearIntent, hs, ne_eq, not_true_eq_false, if_false, hplace, State.put_seq]

/-- With no withdrawal of the Sluice to end, RECOVER only clears the causes that are gone. -/
theorem State.recoverCmd_noSd {s : State} (hsd : s.is Fld.SLU_WD.SD = false) :
    s.recoverCmd =
      let before := s.get Fld.GLB_SAFE_CAUSE.CAUSE
      let left := before &&& s.seq.safeLive &&& 0xFC
      let t := s.put Fld.GLB_SAFE_CAUSE.CAUSE left
      let r := leBytes 4 before ++ leBytes 4 left
      if left = 0 then ({ status := 0, result := r }, (t.put Fld.GLB_STATE.RUN_INTENT 0).goNext stArmed 3)
      else ({ status := 8, detail := left, result := r }, t) := by
  have hreclaim : ∀ v, (s.put Fld.GLB_SAFE_CAUSE.CAUSE v).sluReclaim.2 = s.put Fld.GLB_SAFE_CAUSE.CAUSE v := by
    intro v
    have hsd' : (s.put Fld.GLB_SAFE_CAUSE.CAUSE v).is Fld.SLU_WD.SD = false := by
      rw [State.is, State.get_put_indep s v 0 0 0 0 (by decide)]
      exact hsd
    simp [State.sluReclaim, hsd']
  simp only [State.recoverCmd, hreclaim, ne_eq, ite_not]

/-! ## The rows -/

/-- Settles O37: each command is a new record in one of its states, with the effect that its row of the command table gives. -/
theorem stateCommandRows : Obligations.StateCommandRows := by
  unfold Obligations.StateCommandRows
  intro s o f h
  have hall : s.hubState ∈ opStates 0x01 := List.contains_iff_mem.mp (State.inStates_all h)
  refine ⟨?nop, fun hs => ?arm, fun hs => ?hold, fun hs hf => ?start, fun hs hf => ?stopArmed, fun hs hf => ?stopRun,
    fun hs => ?safeEnter, fun hs hsd => ?recover, fun hs => ?maintEnter, fun hs => ?maintExit, fun hs => ?restart⟩
  case nop => exact congrArg Host.Outcome.next (State.runCommand_noArgs h rfl hall rfl rfl)
  case arm =>
    have hmem : s.hubState ∈ opStates 0x02 := by rw [hs]; decide
    split
    · next hact =>
      exact congrArg Host.Outcome.next (State.runCommand_noArgs h rfl hmem rfl (by simp [State.commandLow, hact]))
    · next hact =>
      exact congrArg Host.Outcome.next (State.runCommand_noArgs h rfl hmem rfl (by simp [State.commandLow, hact]))
  case hold => exact congrArg Host.Outcome.next (State.runCommand_noArgs h rfl (by rw [hs]; decide) rfl rfl)
  case start =>
    exact congrArg Host.Outcome.next (State.runCommand_tick h (.inl rfl) (by rw [hs]; decide) (State.commandLow_start hf))
  case stopArmed =>
    exact congrArg Host.Outcome.next (State.runCommand_tick h (.inr rfl) (by rw [hs]; decide)
      ((State.commandLow_stop hf).trans (State.stopCmd_armed hs hf)))
  case stopRun =>
    exact congrArg Host.Outcome.next (State.runCommand_tick h (.inr rfl) (by rw [hs]; decide)
      ((State.commandLow_stop (by omega)).trans (State.stopCmd_run hs hf)))
  case safeEnter =>
    exact congrArg Host.Outcome.next (State.runCommand_noArgs h rfl (by rcases hs with hs | hs <;> rw [hs] <;> decide) rfl rfl)
  case recover =>
    have hmem : s.hubState ∈ opStates 0x07 := by rw [hs]; decide
    have heff : s.commandLow 0x07 [] = s.recoverCmd := by simp [State.commandLow]
    rw [State.recoverCmd_noSd hsd] at heff
    dsimp only at heff ⊢
    split
    · next hleft =>
      rw [if_pos hleft] at heff
      exact congrArg Host.Outcome.next (State.runCommand_noArgs h rfl hmem rfl heff)
    · next hleft =>
      rw [if_neg hleft] at heff
      exact congrArg Host.Outcome.next (State.runCommand_noArgs h rfl hmem rfl heff)
  case maintEnter =>
    exact congrArg Host.Outcome.next (State.runCommand_noArgs h rfl (by rcases hs with hs | hs | hs <;> rw [hs] <;> decide)
      rfl rfl)
  case maintExit => exact congrArg Host.Outcome.next (State.runCommand_noArgs h rfl (by rw [hs]; decide) rfl rfl)
  case restart =>
    exact congrArg Host.Outcome.next (State.runCommand_noArgs h rfl
      (by rcases hs with hs | hs | hs | hs <;> rw [hs] <;> decide) rfl rfl)

/-- Settles O44: the command of a record in a state that its opcode does not list, and ARM with no active Pattern. -/
theorem illegalCommandIsStateConflict : Obligations.IllegalCommandIsStateConflict := by
  unfold Obligations.IllegalCommandIsStateConflict
  intro s o op args h
  refine ⟨fun hop hlen h4 hargs hknown hstate => ?illegal, fun hs hact => ?arm⟩
  case illegal =>
    have hcmd : s.command op args o = ({ status := 2 }, s) := by simp [State.command, hknown, hstate]
    rw [State.runCommand_fresh h hop hlen h4 hargs, hcmd]
  case arm =>
    have hmem : s.hubState ∈ opStates 0x02 := by rw [hs]; decide
    exact congrArg Host.Outcome.next (State.runCommand_noArgs h rfl hmem rfl (by simp [State.commandLow, hact]))

end Sys2Proof.Machine
end


section
/-! PROOFS. The register commands (R176, R721), opcodes without a command (R173, R582), and the transport of records: mailbox, MGMT
frame, relay and duplicate table (R163, R169, R170, R184, R531, R532). -/

open Sys2Proof Sys2Proof.Machine

namespace Sys2Proof.Machine

/-! ## Words in a byte list -/

@[simp] theorem length_ofWords (ws : List Nat) : (ofWords ws).length = 4 * ws.length := by
  induction ws with
  | nil => rfl
  | cons w ws ih => simp only [ofWords, List.flatMap_cons, List.length_append, length_leBytes, List.length_cons] at ih ⊢; omega

/-- The words of a byte list that is made of words. -/
theorem toWords_ofWords {ws : List Nat} (h : ∀ w ∈ ws, w < 2 ^ 32) : toWords ws.length (ofWords ws) = ws := by
  induction ws with
  | nil => rfl
  | cons w ws ih =>
    have hw : w < 256 ^ 4 := h w List.mem_cons_self
    have hbytes : ofWords (w :: ws) = leBytes 4 w ++ ofWords ws := rfl
    have hrest : ∀ k, leAt (leBytes 4 w ++ ofWords ws) (4 * (k + 1)) 4 = leAt (ofWords ws) (4 * k) 4 := by
      intro k
      rw [leAt_skip _ _ _ _ _ (by omega), Nat.mul_add, Nat.mul_one, Nat.add_sub_cancel]
    have htail := ih fun v hv => h v (List.mem_cons_of_mem w hv)
    rw [toWords] at htail
    rw [hbytes, toWords, List.length_cons, List.range_succ_eq_map, List.map_cons, Nat.mul_zero, leAt_leBytes_of_lt _ hw,
      List.map_map]
    exact congrArg (w :: ·) ((List.map_congr_left fun k _ => hrest k).trans htail)

/-! ## The register commands -/

/-- A range of words on which REG_READ and REG_WRITE execute (R176). -/
theorem rangeBad_none {a n most : Nat} (ha : a % 4 = 0) (hn : 1 ≤ n) (hmost : n ≤ most) (hend : a + 4 * n ≤ 0x4000000) :
    rangeBad a n most = none := by
  have hshape : ¬ (a % 4 ≠ 0 ∨ n = 0 ∨ most < n) := by omega
  have hplace : ¬ 0x4000000 < a + 4 * n := by omega
  simp only [rangeBad, Bool.or_eq_true, decide_eq_true_eq, or_assoc, hshape, hplace, if_false]

theorem State.commandLow_regRead (s : State) (b : List Byte) :
    s.commandLow 0x10 b = s.regRead (leAt b 0 4) (leAt b 4 4) := by
  simp [State.commandLow]

theorem State.commandLow_regWrite (s : State) (b : List Byte) :
    s.commandLow 0x11 b = s.regWrite (leAt b 0 4) (leAt b 4 4) (toWords (leAt b 4 4) (b.drop 8)) := by
  simp [State.commandLow]

theorem exec_regRead {s : State} {o : Origin} {a n : Nat} (h : s.fresh o = true) (ha : a % 4 = 0) (hn : 1 ≤ n) (hmost : n ≤ 56)
    (hend : a + 4 * n ≤ 0x4000000) :
    let r := s.readWords .mgmt a n
    exec (.regRead o a n) s = .next (r.2.2.settle o 0x10 (leBytes 4 a ++ leBytes 4 n) s.hubState
      { status := 0, detail := r.2.1, result := ofWords r.1 }) := by
  have haddr : leAt (leBytes 4 a ++ leBytes 4 n) 0 4 = a := leAt_leBytes_of_lt _ (by omega)
  have hcount : leAt (leBytes 4 a ++ leBytes 4 n) 4 4 = n := by
    rw [leAt_skip _ _ _ _ _ (Nat.le_refl 4)]
    exact leAt_leBytes_nil_of_lt (by omega)
  refine congrArg Host.Outcome.next (State.runCommand_low h rfl (State.inStates_all h) ?_ ?_ ?_ ?_)
  · simp
  · simp
  · simp [argsOk, argLens]
  · rw [State.commandLow_regRead, haddr, hcount, State.regRead, rangeBad_none ha hn hmost hend]

theorem exec_regWrite {s : State} {o : Origin} {a : Nat} {ws : List Nat} (h : s.fresh o = true) (ha : a % 4 = 0)
    (hn : 1 ≤ ws.length) (hmost : ws.length ≤ 58) (hend : a + 4 * ws.length ≤ 0x4000000) (hws : ∀ w ∈ ws, w < 2 ^ 32) :
    let r := s.writeCount .mgmt a ws
    exec (.regWrite o a ws) s = .next (r.2.settle o 0x11 (leBytes 4 a ++ leBytes 4 ws.length ++ ofWords ws) s.hubState
      { status := 0, detail := r.1 }) := by
  have hlen : (leBytes 4 a ++ leBytes 4 ws.length ++ ofWords ws).length = 8 + 4 * ws.length := by simp; omega
  have haddr : leAt (leBytes 4 a ++ leBytes 4 ws.length ++ ofWords ws) 0 4 = a := by
    rw [List.append_assoc]
    exact leAt_leBytes_of_lt _ (by omega)
  have hcount : leAt (leBytes 4 a ++ leBytes 4 ws.length ++ ofWords ws) 4 4 = ws.length := by
    rw [List.append_assoc, leAt_skip _ _ _ _ _ (Nat.le_refl 4)]
    exact leAt_leBytes_of_lt _ (by omega)
  have hwords : toWords ws.length ((leBytes 4 a ++ leBytes 4 ws.length ++ ofWords ws).drop 8) = ws := by
    rw [List.drop_left' (by simp)]
    exact toWords_ofWords hws
  refine congrArg Host.Outcome.next (State.runCommand_low h rfl (State.inStates_all h) ?_ ?_ ?_ ?_)
  · omega
  · omega
  · rw [argsOk, if_pos rfl, hcount, hlen]
    simp
    omega
  · rw [State.commandLow_regWrite, haddr, hcount, hwords, State.regWrite, rangeBad_none ha hn hmost hend]

/-! ## Opcodes without a command -/

/-- An opcode without a command has no argument length of its own (R163). -/
theorem argsOk_of_unknown {op : Nat} {args : List Byte} (h : opKnown op = false) : argsOk op args = true := by
  simp only [opKnown, Bool.or_eq_false_iff, beq_eq_false_iff_ne] at h
  obtain ⟨hregWrite, hlisted⟩ := h
  have hnone : (argLens.find? fun e => e.1 == op) = none := by
    rw [List.find?_eq_none]
    exact List.any_eq_false.mp hlisted
  rw [argsOk, if_neg hregWrite, hnone]

/-- A new record with such an opcode is answered BAD_ARG with DETAIL 2 (R173). -/
theorem State.runCommand_unknown {s : State} {o : Origin} {op : Nat} {args : List Byte} (h : s.fresh o = true)
    (hop : op < 256) (hknown : opKnown op = false) (h4 : args.length % 4 = 0) (hl : args.length ≤ 240) :
    s.runCommand o op args = s.settle o op args s.hubState { status := 3, detail := 2 } := by
  have hcmd : s.command op args o = ({ status := 3, detail := 2 }, s) := by simp [State.command, hknown]
  rw [State.runCommand_fresh h hop hl h4 (argsOk_of_unknown hknown), hcmd]

/-- Settles O38: the range of the words executes, and the words come out of the arguments as they went in. -/
theorem registerCommandRows : Obligations.RegisterCommandRows := by
  unfold Obligations.RegisterCommandRows
  intro s o a n ws h
  refine ⟨fun ha hn hmost hend => exec_regRead h ha hn hmost hend,
    fun ha hn hmost hend hws => exec_regWrite h ha hn hmost hend hws, fun op args hop hknown h4 hl => ?reserved, ?notice⟩
  case reserved =>
    have hexec : exec (.reservedOpcode o op args) s = .next (s.runCommand o (op % 256) args) := rfl
    rw [hexec, Nat.mod_eq_of_lt hop, State.runCommand_unknown h hop hknown h4 hl]
  case notice =>
    exact congrArg Host.Outcome.next (State.runCommand_unknown h (by decide) (by decide) rfl (Nat.zero_le _))

/-! ## Command transport -/

theorem execMailboxGo_busy {s : State} {p : Path} (hp : p ≠ .mgmt) (hoff : s.hubState ≠ stOff) (hb : s.mbxBusy p = true) :
    execMailboxGo p s = .next (s.mbxDrop p) := by
  simp [execMailboxGo, State.mbxGo, hp, hoff, hb]

theorem execMailboxGo_submit {s : State} {p : Path} (hp : p ≠ .mgmt) (hoff : s.hubState ≠ stOff) (hb : s.mbxBusy p = false) :
    let t := s.mbxSet p 0x44 (s.mbxGet p 0x44 / 4 * 4 + 1)
    let buf := ofWords ((List.range 64).map fun k => t.mbxGet p (0x100 + 4 * k))
    let b := buf.take (16 + min 240 (leAt buf 8 2))
    t.isRelayed (originOf p t.hubId b) = false → execMailboxGo p s = .next (t.wait (originOf p t.hubId b) b) := by
  intro t buf b hown
  have hgo : s.mbxGo p = t.wait (originOf p t.hubId b) b := by
    rw [State.mbxGo, hb, if_neg Bool.false_ne_true]
    refine if_neg ?_
    rw [hown]
    simp
  simp [execMailboxGo, hp, hoff, hgo]

theorem execMgmtRelayTimeout_found {s : State} {p : Path} {x : Relay} (hp : p ≠ .mgmt)
    (hx : (s.seq.relays.find? fun x => x.path == p && x.target != 0xFE) = some x) :
    execMgmtRelayTimeout p s = .next
      ((({ s with seq.relays := s.seq.relays.filter (· != x) } : State).sat Fld.RING_MGMT.TIMEOUT_CNT).mbxStore p
        (responseRecord x.opcode x.target x.source x.request 7 7 s.frameNow 0 0 []) x.notify) := by
  simp [execMgmtRelayTimeout, hp, hx, State.frameNow]

/-- A frame to this hub that is a command and has not been seen: its key is kept, and its record waits (R167, R521). -/
theorem execMgmtFrameReceive_command {s u : State} {port lseq : Nat} {bytes : List Byte} (hdest : fb bytes 4 = s.hubId)
    (hid : s.hubId ≠ 0xFF) (hr : s.receive port lseq 5 false bytes = (true, u)) (hcommand : bit (fb bytes 1) 0 = false)
    (hnew : (u.ring.seen.any fun e => e.type == 5 && e.key == [fb bytes 3, leAt bytes 6 2]) = false) :
    execMgmtFrameReceive port lseq bytes s = .next
      ((({ u with ring.seen := ⟨5, [fb bytes 3, leAt bytes 6 2], u.opMs + 10000⟩ :: u.ring.seen } : State).dropMgmtKeys
        (fb bytes 3)).mgmtCommand (fb bytes 3) (slice bytes 12 (leAt bytes 8 2))) := by
  have hown : (fb bytes 4 == s.hubId && s.hubId != 0xFF) = true := by simp [hdest, hid]
  simp [execMgmtFrameReceive, hown, hr, hcommand, State.keyed, hnew]

/-! ## Repeated records -/

/-- A record of a source and request that the duplicate table holds is answered from the table (R169, R170). -/
theorem State.runCommand_repeated {s : State} {o : Origin} {op : Nat} {args : List Byte} {e : DupEntry} (hop : op < 256)
    (hl : args.length ≤ 240) (h4 : args.length % 4 = 0) (ha : argsOk op args = true) (hopen : s.mapOpen = true)
    (hsource : 1 ≤ o.source ∧ o.source < 0xFFFF) (htarget : o.target < 0x80) (hown : s.isRelayed o = false)
    (he : (s.seq.dup.find? fun e => e.source == o.source && e.request == o.request) = some e) :
    s.runCommand o op args =
      if e.opcode = op ∧ e.argCrc = crc32 args then (s.sat Fld.GLB_CMD_CNT.DUP).respond o
        (responseRecord op s.hubId o.source o.request 4 e.status e.frame 0 e.detail e.result)
      else s.answerNow o op { status := 3, detail := 1 } := by
  have hok := recordOk_command (req := o.request) (notify := o.notify) hop (.inl htarget) hsource hl h4 ha
  have hopcode : fb (commandRecord op o.target o.source o.request (b2n o.notify) args) 0 = op :=
    (commandRecord_head op o.target o.source o.request (b2n o.notify) args).1.trans (Nat.mod_eq_of_lt hop)
  have hrun : s.runCommand o op args = s.execute o (commandRecord op o.target o.source o.request (b2n o.notify) args) := by
    simp [State.runCommand, State.runRecord, hopen, hok, hown]
  simp [hrun, State.execute, he, hopcode, drop_commandRecord]

/-- Settles O45: the mailbox, the MGMT frame, the relay and the duplicate table, each in the case that its row names. -/
theorem commandTransportAndRepeats : Obligations.CommandTransportAndRepeats := by
  unfold Obligations.CommandTransportAndRepeats
  refine ⟨fun s u p port lseq source request bytes =>
    ⟨fun hp hoff => ⟨execMailboxGo_busy hp hoff, execMailboxGo_submit hp hoff⟩, fun x hp hx => execMgmtRelayTimeout_found hp hx,
    fun hdest hid hr hcommand hnew => execMgmtFrameReceive_command hdest hid hr hcommand hnew, rfl⟩,
    fun s o op args hop hl h4 ha => ⟨fun e hopen hlow hhigh htarget hown he =>
      State.runCommand_repeated hop hl h4 ha hopen ⟨hlow, hhigh⟩ htarget hown he, fun hclosed => ?closed⟩⟩
  case closed => simp [State.runCommand, hclosed]

end Sys2Proof.Machine
end


section
/-! PROOFS. Resets, loss of a rail and power good (R155, R661, R664, R667 to R669). `State.bootView` holds the parts of a state of which a
reset says what it leaves; the lanes and the power domains leave all of it, so a reset leaves what `State.volatileGone` and the
latched registers say. -/

open Sys2Proof Sys2Proof.Machine

namespace Sys2Proof.Machine

/-! ## What a reset is about -/

/-- The registers of the non-volatile store of which a statement says what they hold after a reset. -/
def storeRegs : List RegDef := [Reg.PAT_SIGN_CFG, Reg.PAT_MIN_SERIAL, Reg.PAT_KEY_STAT, Reg.SLT_PCC]

/-- The registers whose value a reset keeps or sets. -/
def bootRegs : List RegDef := storeRegs ++ [Reg.PMU_STAT, Reg.PMU_RAIL_STAT, Reg.PMU_BOOT_CNT]

/-- A register family of which no word is one of `bootRegs`. -/
def RegDef.bootFree (r : RegDef) : Bool := bootRegs.all fun q => r.disjoint q

/-- The words of `bootRegs`, and the parts of the state of which a reset says what it leaves. -/
structure BootView where
  words : List Word
  seq : Seq
  banks : Banks
  pmu : Pmu
  mram : Memory
  fifo : List SiltEvent
  cap : Memory

/-- The view that a register file and the other parts make. -/
def bootViewOf (m : Tab Word) (q : Seq) (b : Banks) (p : Pmu) (mram : Memory) (fifo : List SiltEvent)
    (cap : Memory) : BootView :=
  ⟨bootRegs.map fun r => tabGet m 0 r.base, q, b, p, mram, fifo, cap⟩

/-- The view of a state. It unfolds to `bootViewOf`, so that a change of another part of the state drops out of it. -/
@[simp] abbrev State.bootView (s : State) : BootView :=
  bootViewOf s.regs s.seq s.banks s.pmu s.silt.mram s.silt.fifo s.cap.mem

theorem State.rd_of_bootView {s t : State} {r : RegDef} (h : t.bootView = s.bootView) (hr : r ∈ bootRegs) :
    t.rd r = s.rd r := by
  have hwords : (bootRegs.map fun r => tabGet t.regs 0 r.base) = bootRegs.map fun r => tabGet s.regs 0 r.base :=
    congrArg BootView.words h
  simp only [State.rd, RegDef.at, Nat.mul_zero, Nat.add_zero]
  rw [List.map_inj_left.mp hwords r hr]

theorem State.get_of_bootView {s t : State} {f : Field} (h : t.bootView = s.bootView) (hf : f.reg ∈ bootRegs) :
    t.get f = s.get f := State.get_of_rd 0 0 (State.rd_of_bootView h hf)

section
variable (s : State) (i j : Nat) (q : Seq) (b : Banks) (p : Pmu) (mram : Memory) (fifo : List SiltEvent) (cap : Memory)

@[simp] theorem bootViewOf_wr {r : RegDef} (v : Word) (h : r.bootFree = true) :
    bootViewOf (s.wr r v i j).regs q b p mram fifo cap = bootViewOf s.regs q b p mram fifo cap := by
  have hwords : ∀ x ∈ bootRegs, tabGet (s.wr r v i j).regs 0 x.base = tabGet s.regs 0 x.base := by
    intro x hx
    have hhas : ∀ y ∈ bootRegs, y.has 0 0 = true ∧ y.at 0 0 = y.base := by decide
    have hne : ¬ (x.base = r.at i j ∧ r.has i j = true) := fun e =>
      RegDef.disjoint_ne (List.all_eq_true.mp h x hx) e.2 (hhas x hx).1 ((hhas x hx).2.trans e.1)
    rw [State.wr_regs, if_neg hne]
  rw [bootViewOf, bootViewOf, List.map_congr_left hwords]

@[simp] theorem bootViewOf_put {f : Field} (v : Nat) (h : f.reg.bootFree = true) :
    bootViewOf (s.put f v i j).regs q b p mram fifo cap = bootViewOf s.regs q b p mram fifo cap :=
  bootViewOf_wr s i j q b p mram fifo cap _ h

@[simp] theorem bootViewOf_sat {f : Field} (k : Nat) (h : f.reg.bootFree = true) :
    bootViewOf (s.sat f k i j).regs q b p mram fifo cap = bootViewOf s.regs q b p mram fifo cap :=
  bootViewOf_put s i j q b p mram fifo cap _ h

@[simp] theorem bootViewOf_wrap {f : Field} (k : Nat) (h : f.reg.bootFree = true) :
    bootViewOf (s.wrap f k i j).regs q b p mram fifo cap = bootViewOf s.regs q b p mram fifo cap :=
  bootViewOf_put s i j q b p mram fifo cap _ h

end

@[simp] theorem State.bootView_ite (c : Prop) [Decidable c] (s t : State) :
    (if c then s else t).bootView = if c then s.bootView else t.bootView :=
  apply_ite State.bootView c s t

@[simp] theorem State.bootView_when (s : State) (c : Bool) (f : State → State)
    (h : ∀ t : State, (f t).bootView = t.bootView) : (s.when c f).bootView = s.bootView := by
  cases c
  · rfl
  · exact h s

@[simp] theorem State.bootView_forEach {α : Type} (s : State) (l : List α) (f : α → State → State)
    (h : ∀ a (t : State), (f a t).bootView = t.bootView) : (s.forEach l f).bootView = s.bootView := by
  unfold State.forEach
  induction l generalizing s with
  | nil => rfl
  | cons a l ih => exact (ih _).trans (h a s)

/-! ## Lanes and power domains -/

section
variable (s : State) (n rate p : Nat)

@[simp] theorem State.bootView_raise (i : Nat) : (s.raise i).bootView = s.bootView := by simp +decide [State.raise]

@[simp] theorem State.bootView_evt (f : Field) (src i j : Nat) (hf : f.reg.bootFree = true) :
    (s.evt f src i j).bootView = s.bootView := by
  simp [State.evt, hf]

@[simp] theorem State.bootView_degrade (live sticky : Field) (on : Bool) (hlive : live.reg.bootFree = true)
    (hsticky : sticky.reg.bootFree = true) : (s.degrade live sticky on).bootView = s.bootView := by
  simp +decide [State.degrade, State.formDegraded, hlive, hsticky]

@[simp] theorem State.bootView_setLane (x : Lane) : (s.setLane n x).bootView = s.bootView := by rfl
@[simp] theorem State.bootView_laneTo (st : Nat) : (s.laneTo n st).bootView = s.bootView := by simp +decide [State.laneTo]
@[simp] theorem State.bootView_detect : (s.detect n rate).bootView = s.bootView := by simp +decide [State.detect]
@[simp] theorem State.bootView_laneOff : (s.laneOff n).bootView = s.bootView := by simp +decide [State.laneOff]
@[simp] theorem State.bootView_laneBlind : (s.laneBlind n).bootView = s.bootView := by simp +decide [State.laneBlind]
@[simp] theorem State.bootView_laneRestart : (s.laneRestart n rate).bootView = s.bootView := by simp [State.laneRestart]
@[simp] theorem State.bootView_laneDegraded : s.laneDegraded.bootView = s.bootView := by simp +decide [State.laneDegraded]
@[simp] theorem State.bootView_portRestart : (s.portRestart p).bootView = s.bootView := by simp +decide [State.portRestart]

@[simp] theorem State.bootView_ringPort (up : Bool) : (s.ringPort p up).bootView = s.bootView := by
  unfold State.ringPort
  split_ifs <;> simp +decide [State.setRport]

@[simp] theorem State.bootView_pdRestart : (s.pdRestart p).bootView = s.bootView := by
  unfold State.pdRestart State.showPd
  split_ifs <;> simp +decide [State.setPd]

@[simp] theorem State.bootView_setActive (set : List Nat) : (s.setActive p set).bootView = s.bootView := by
  simp +decide [State.setActive]

@[simp] theorem State.bootView_lanesOff : s.lanesOff.bootView = s.bootView := by simp [State.lanesOff]
@[simp] theorem State.bootView_lanesStart : s.lanesStart.bootView = s.bootView := by simp [State.lanesStart]
@[simp] theorem State.bootView_pdEval : s.pdEval.bootView = s.bootView := by simp +decide [State.pdEval]

@[simp] theorem State.bootView_siltScan : s.siltScan.bootView = ({ s with silt.fifo := [] } : State).bootView := by
  simp +decide [State.siltScan]

end

/-! ## The entry to BOOT -/

/-- What the entry to BOOT counts, records and latches before the log is scanned (R661, R668, R680). -/
def State.bootLatched (s : State) (cause boot : Nat) : State :=
  let t := ((s.wrap Fld.PMU_BOOT_CNT.COUNT).put Fld.PMU_STAT.RST_CAUSE cause).put Fld.PMU_STAT.MODE boot
  if s.pmu.xtalLost then
    (((t.put Fld.PMU_STAT.XTAL_OK 0).put Fld.PMU_CLK_STAT.TIME 0).put Fld.PMU_CLK_STAT.CORE 0).put Fld.PMU_CLK_STAT.MEM 0
  else t

section
variable (s : State) (cause boot : Nat)

theorem State.bootView_enterBoot :
    (s.enterBoot cause boot).bootView = ({ s.bootLatched cause boot with silt.fifo := [] } : State).bootView := by
  have henter : s.enterBoot cause boot =
      ((s.bootLatched cause boot).siltScan.when (boot % 4 == 3) (·.lanesStart)).pdEval := rfl
  rw [henter, State.bootView_pdEval, State.bootView_when _ _ _ State.bootView_lanesStart, State.bootView_siltScan]

theorem State.rd_enterBoot {r : RegDef} (hr : r ∈ bootRegs) :
    (s.enterBoot cause boot).rd r = (s.bootLatched cause boot).rd r :=
  State.rd_of_bootView (s := { s.bootLatched cause boot with silt.fifo := [] }) (s.bootView_enterBoot cause boot) hr

theorem State.get_enterBoot {f : Field} (hf : f.reg ∈ bootRegs) :
    (s.enterBoot cause boot).get f = (s.bootLatched cause boot).get f :=
  State.get_of_rd 0 0 (s.rd_enterBoot cause boot hf)

/-- The entry to BOOT neither counts nor latches the registers of the non-volatile store. -/
theorem State.rd_enterBoot_kept {r : RegDef} (hr : r ∈ storeRegs) : (s.enterBoot cause boot).rd r = s.rd r := by
  rw [State.rd_enterBoot s cause boot (List.mem_append_left _ hr), State.bootLatched]
  simp only [storeRegs, List.mem_cons, List.not_mem_nil, or_false] at hr
  rcases hr with rfl | rfl | rfl | rfl <;> split_ifs <;> simp +decide [State.wrap, State.rd_put_disjoint]

/-- The cause is recorded, the straps are latched and the BOOT is counted. -/
theorem State.booted_enterBoot (hcause : cause < 16) :
    (s.enterBoot cause boot).get Fld.PMU_STAT.RST_CAUSE = cause ∧ (s.enterBoot cause boot).get Fld.PMU_STAT.MODE = boot % 4 ∧
      (s.enterBoot cause boot).get Fld.PMU_BOOT_CNT.COUNT = (s.get Fld.PMU_BOOT_CNT.COUNT + 1) % 2 ^ 32 := by
  have hlatch : cause % 2 ^ Fld.PMU_STAT.RST_CAUSE.width = cause := Nat.mod_eq_of_lt hcause
  have hmode : 2 ^ Fld.PMU_STAT.MODE.width = 4 := rfl
  have hcount : 2 ^ Fld.PMU_BOOT_CNT.COUNT.width = 2 ^ 32 := rfl
  simp only [s.get_enterBoot cause boot (f := Fld.PMU_STAT.RST_CAUSE) (by decide),
    s.get_enterBoot cause boot (f := Fld.PMU_STAT.MODE) (by decide),
    s.get_enterBoot cause boot (f := Fld.PMU_BOOT_CNT.COUNT) (by decide), State.bootLatched]
  split_ifs <;> refine ⟨?_, ?_, ?_⟩ <;>
    simp +decide [State.wrap, State.get_put_indep, State.get_put_same, hlatch, hmode, hcount]

end

/-! ## A hub reset -/

/-- A list of registers that share no word is written word by word. -/
theorem State.rd_wrEach (s : State) (g : RegDef → Word) {l : List RegDef} (hl : l.Pairwise fun q r => r.disjoint q = true)
    (hhas : ∀ r ∈ l, r.has 0 0 = true) {r : RegDef} (hr : r ∈ l) : (s.forEach l fun x t => t.wr x (g x)).rd r = g r := by
  induction l using List.reverseRecOn with
  | nil => cases hr
  | append_singleton l x ih =>
    rw [List.pairwise_append] at hl
    obtain ⟨hl, -, hlast⟩ := hl
    have hstep : (s.forEach (l ++ [x]) fun x t => t.wr x (g x)) = (s.forEach l fun x t => t.wr x (g x)).wr x (g x) := by
      simp [State.forEach]
    rw [hstep]
    rcases List.mem_append.mp hr with hr | hr
    · rw [State.rd_wr_disjoint _ _ _ _ _ _ (hlast r hr x List.mem_cons_self)]
      exact ih hl (fun y hy => hhas y (List.mem_append_left _ hy)) hr
    · obtain rfl := List.mem_singleton.mp hr
      exact State.rd_wr_same _ _ _ _ _ (hhas r (List.mem_append_right _ List.mem_cons_self))

theorem State.rd_volatileGone (s : State) {r : RegDef} (hr : r ∈ keptRegs) : s.volatileGone.rd r = s.rd r :=
  State.rd_wrEach _ s.rd (by decide) (by decide) hr

/-- The parts of the view besides the registers after a reset of any kind. -/
theorem State.view_volatileGone (s : State) :
    s.volatileGone.seq = State.reset.seq ∧ s.volatileGone.banks = { State.reset.banks with keys := s.banks.keys } ∧
      s.volatileGone.pmu = { s.pmu with flashBoot := false, fetch := none, fetchFails := 0 } ∧
      s.volatileGone.silt.mram = s.silt.mram ∧ s.volatileGone.silt.fifo = [] ∧ s.volatileGone.cap.mem = [] := by
  simp [State.volatileGone, State.forEach, keptRegs, State.reset]

/-- What a reset of any kind leaves, for a state that differs from `volatileGone` in the state code and in registers that
come after. -/
theorem State.resetLeaves_of_volatileGone {s t : State} {st : Nat} (hstate : t.hubState = st)
    (hparts : t.seq = s.volatileGone.seq ∧ t.banks = s.volatileGone.banks ∧ t.silt.mram = s.volatileGone.silt.mram ∧
      t.silt.fifo = [] ∧ t.cap.mem = s.volatileGone.cap.mem)
    (hregs : ∀ r ∈ storeRegs, t.rd r = s.volatileGone.rd r) : resetLeaves s t st := by
  obtain ⟨hseq, hbanks, hmram, hfifo, hcap⟩ := hparts
  obtain ⟨vseq, vbanks, -, vmram, -, vcap⟩ := s.view_volatileGone
  have hrd : ∀ r ∈ storeRegs, t.rd r = s.rd r := fun r hr =>
    (hregs r hr).trans (s.rd_volatileGone ((by decide : ∀ r ∈ storeRegs, r ∈ keptRegs) r hr))
  rw [resetLeaves, hseq, hbanks, hmram, hfifo, hcap, vseq, vbanks, vmram, vcap]
  exact ⟨hstate, rfl, rfl, rfl, rfl, rfl, rfl, rfl, rfl, rfl, hrd _ (by decide), hrd _ (by decide), hrd _ (by decide)⟩

section
variable (s : State) (cause boot : Nat)

/-- The entry to BOOT changes no part of the view but the registers and the staged events. -/
theorem State.parts_enterBoot :
    (s.enterBoot cause boot).seq = s.seq ∧ (s.enterBoot cause boot).banks = s.banks ∧ (s.enterBoot cause boot).pmu = s.pmu ∧
      (s.enterBoot cause boot).silt.mram = s.silt.mram ∧ (s.enterBoot cause boot).silt.fifo = [] ∧
      (s.enterBoot cause boot).cap.mem = s.cap.mem := by
  have hview := s.bootView_enterBoot cause boot
  simp only [State.bootView, bootViewOf, BootView.mk.injEq] at hview
  obtain ⟨-, hseq, hbanks, hpmu, hmram, hfifo, hcap⟩ := hview
  rw [hseq, hbanks, hpmu, hmram, hfifo, hcap, State.bootLatched]
  split_ifs <;> simp

theorem State.resetLeaves_hubReset : resetLeaves s (s.hubReset cause boot) stBoot := by
  refine State.resetLeaves_of_volatileGone (s.hubState_hubReset cause boot) ?_ fun r hr => ?_
  · obtain ⟨hseq, hbanks, -, hmram, hfifo, hcap⟩ := (s.volatileGone.put Fld.GLB_STATE.STATE stBoot).parts_enterBoot
      (if s.pmu.resetLow then min 1 cause else cause) boot
    exact ⟨hseq, hbanks, hmram, hfifo, hcap⟩
  · have hdisjoint : Fld.GLB_STATE.STATE.reg.disjoint r = true :=
      (by decide : ∀ r ∈ storeRegs, Fld.GLB_STATE.STATE.reg.disjoint r = true) r hr
    exact (State.rd_enterBoot_kept _ _ _ hr).trans (State.rd_put_disjoint _ _ _ _ _ _ hdisjoint)

end

/-- A hub reset that is not held low by RESET_N, or has that cause, records its cause and counts the BOOT. -/
theorem State.booted_hubReset (s : State) {cause boot : Nat} (hcause : cause < 16) (hlow : s.pmu.resetLow = true → cause ≤ 1) :
    (s.hubReset cause boot).get Fld.PMU_STAT.RST_CAUSE = cause ∧ (s.hubReset cause boot).get Fld.PMU_STAT.MODE = boot % 4 ∧
      (s.hubReset cause boot).get Fld.PMU_BOOT_CNT.COUNT = (s.get Fld.PMU_BOOT_CNT.COUNT + 1) % 2 ^ 32 := by
  have hshown : (if s.pmu.resetLow then min 1 cause else cause) = cause := by
    split
    · next h => exact Nat.min_eq_right (hlow h)
    · rfl
  have hcount : (s.volatileGone.put Fld.GLB_STATE.STATE stBoot).get Fld.PMU_BOOT_CNT.COUNT = s.get Fld.PMU_BOOT_CNT.COUNT :=
    (State.get_put_indep _ _ _ _ _ _ (by decide)).trans
      (State.get_of_rd (f := Fld.PMU_BOOT_CNT.COUNT) 0 0 (s.rd_volatileGone (by decide)))
  rw [State.hubReset, hshown, ← hcount]
  exact State.booted_enterBoot _ _ _ hcause

/-! ## Loss of a rail -/

theorem bit_maskBit_false (m i : Nat) : bit (maskBit m i false) i = false := by
  unfold maskBit
  split
  · next h => exact beq_iff_eq.mp h
  · next h =>
    have hset : m / 2 ^ i % 2 = 1 := by
      simpa [bit, Nat.testBit_eq_decide_div_mod_eq] using h
    have hless : (m - 2 ^ i) / 2 ^ i = m / 2 ^ i - 1 := by
      simpa using Nat.sub_mul_div m (2 ^ i) 1
    simp only [Bool.false_eq_true, if_false, bit, Nat.testBit_eq_decide_div_mod_eq, hless, decide_eq_false_iff_not]
    omega

theorem State.resetLeaves_railDown (s : State) (rail : Nat) : resetLeaves s (s.railDown rail) stOff := by
  have hview := fun t : State => t.bootView_pdEval
  simp only [State.bootView, bootViewOf, BootView.mk.injEq] at hview
  refine State.resetLeaves_of_volatileGone (s.hubState_railDown rail) ?_ fun r hr => ?_
  · obtain ⟨-, -, -, -, hnoFifo, -⟩ := s.view_volatileGone
    obtain ⟨-, hseq, hbanks, -, hmram, hfifo, hcap⟩ := hview ((((s.volatileGone.put Fld.GLB_STATE.STATE stOff).put
      Fld.PMU_STAT.PG 0).put Fld.PMU_RAIL_STAT.RAIL (maskBit (((s.volatileGone.put Fld.GLB_STATE.STATE stOff).put
      Fld.PMU_STAT.PG 0).get Fld.PMU_RAIL_STAT.RAIL) rail false)).put Fld.PMU_CLK_STAT.MOD 0)
    exact ⟨hseq, hbanks, hmram, hfifo.trans hnoFifo, hcap⟩
  · have hboot : r ∈ bootRegs := List.mem_append_left _ hr
    rw [State.railDown, State.rd_of_bootView (State.bootView_pdEval _) hboot]
    simp only [storeRegs, List.mem_cons, List.not_mem_nil, or_false] at hr
    rcases hr with rfl | rfl | rfl | rfl <;> simp +decide [State.rd_put_disjoint]

theorem State.rails_railDown (s : State) (rail : Nat) :
    (s.railDown rail).get Fld.PMU_STAT.PG = 0 ∧ bit ((s.railDown rail).get Fld.PMU_RAIL_STAT.RAIL) rail = false := by
  have hwidth : Fld.PMU_RAIL_STAT.RAIL.width = 14 := rfl
  rw [State.railDown, State.get_of_bootView (f := Fld.PMU_STAT.PG) (State.bootView_pdEval _) (by decide),
    State.get_of_bootView (f := Fld.PMU_RAIL_STAT.RAIL) (State.bootView_pdEval _) (by decide)]
  constructor
  · simp +decide [State.get_put_indep, State.get_put_same]
  · simp +decide only [State.get_put_indep, State.get_put_same, hwidth]
    rw [bit, Nat.testBit_mod_two_pow, Bool.and_eq_false_iff]
    exact .inr (bit_maskBit_false _ rail)

/-! ## Power good -/

/-- The operating time of the power good is kept. -/
def State.powerMarked (s : State) : State := { s with pmu.bootNs := s.silt.opNs }

theorem State.siltPowerUp_eq (s : State) : ∃ op : Nat, s.siltPowerUp = { s with silt.opNs := op } := ⟨_, rfl⟩

theorem State.parts_powerMarked (s : State) :
    (∀ f, s.siltPowerUp.powerMarked.get f = s.get f) ∧ s.siltPowerUp.powerMarked.silt.mram = s.silt.mram ∧
      s.siltPowerUp.powerMarked.pmu.resetLow = s.pmu.resetLow := by
  obtain ⟨op, hop⟩ := s.siltPowerUp_eq
  rw [hop]
  exact ⟨fun _ => rfl, rfl, rfl⟩

section
variable (s : State) (boot : Nat)

theorem State.powerBoot_eq :
    s.powerBoot boot = ((s.wrap Fld.SLT_PCC.PCC).enterBoot 0 boot).siltPowerUp.powerMarked := rfl

/-- The power-up is an entry to BOOT but for the operating time. -/
theorem State.parts_powerBoot :
    (∀ f, (s.powerBoot boot).get f = ((s.wrap Fld.SLT_PCC.PCC).enterBoot 0 boot).get f) ∧
      (s.powerBoot boot).silt.mram = s.silt.mram ∧ (s.powerBoot boot).pmu.resetLow = s.pmu.resetLow := by
  obtain ⟨-, -, hpmu, hmram, -, -⟩ := (s.wrap Fld.SLT_PCC.PCC).parts_enterBoot 0 boot
  rw [State.wrap_pmu] at hpmu
  rw [State.wrap_silt] at hmram
  obtain ⟨hget, hlog, hlow⟩ := ((s.wrap Fld.SLT_PCC.PCC).enterBoot 0 boot).parts_powerMarked
  rw [State.powerBoot_eq]
  exact ⟨hget, hlog.trans hmram, hlow.trans (congrArg Pmu.resetLow hpmu)⟩

theorem State.booted_powerBoot :
    (s.powerBoot boot).get Fld.PMU_STAT.RST_CAUSE = 0 ∧ (s.powerBoot boot).get Fld.PMU_STAT.MODE = boot % 4 ∧
      (s.powerBoot boot).get Fld.PMU_BOOT_CNT.COUNT = (s.get Fld.PMU_BOOT_CNT.COUNT + 1) % 2 ^ 32 := by
  have hcount : (s.wrap Fld.SLT_PCC.PCC).get Fld.PMU_BOOT_CNT.COUNT = s.get Fld.PMU_BOOT_CNT.COUNT :=
    State.get_put_indep _ _ _ _ _ _ (by decide)
  simp only [(s.parts_powerBoot boot).1, ← hcount]
  exact State.booted_enterBoot _ 0 boot (by decide)

theorem State.pcc_powerBoot :
    (s.powerBoot boot).get Fld.SLT_PCC.PCC = (s.get Fld.SLT_PCC.PCC + 1) % 2 ^ Fld.SLT_PCC.PCC.width := by
  have hkept := (s.wrap Fld.SLT_PCC.PCC).rd_enterBoot_kept 0 boot (r := Fld.SLT_PCC.PCC.reg) (by decide)
  rw [(s.parts_powerBoot boot).1, State.get_of_rd 0 0 hkept]
  exact State.get_put_same _ _ _ _ (by decide) (by decide)

end

/-! ## The rows -/

theorem execResetNAssert_on {s : State} (boot : Nat) (hoff : s.hubState ≠ stOff) (hlow : s.pmu.resetLow = false) :
    execResetNAssert boot s = .next (({ s with pmu.resetLow := true } : State).hubReset 1 boot) := by
  have hsame : ({ s with pmu.resetLow := true } : State).hubState = s.hubState := rfl
  simp [execResetNAssert, hlow, hsame, hoff]

theorem execWatchdogReset_on {s : State} (boot : Nat) (hoff : s.hubState ≠ stOff) :
    execWatchdogReset boot s = .next (s.hubReset 2 boot) := by
  simp [execWatchdogReset, hoff]

theorem execXtalLoss_on {s : State} (boot : Nat) (hoff : s.hubState ≠ stOff) :
    execXtalLoss boot s = .next (({ s with pmu.xtalLost := true } : State).hubReset 2 boot) := by
  simp [execXtalLoss, hoff]

theorem execRailLoss_on {s : State} {rail : Nat} (hoff : s.hubState ≠ stOff) (hrail : rail ≤ 9) :
    execRailLoss rail s = .next (({ s with pmu.xtalLost := false } : State).railDown rail) := by
  have hstep : ¬ 9 < rail := by omega
  have hrun : ¬ (decide (9 < rail) || s.hubState == stOff) = true := by simp [hstep, hoff]
  exact if_neg hrun

/-- XTAL_OK shows a crystal that is lost when the hub is reset. -/
theorem State.xtalOk_hubReset {s : State} (cause boot : Nat) (h : s.pmu.xtalLost = true) :
    (s.hubReset cause boot).pmu.xtalLost = true ∧ (s.hubReset cause boot).get Fld.PMU_STAT.XTAL_OK = 0 := by
  obtain ⟨-, -, vpmu, -, -, -⟩ := s.view_volatileGone
  have hlost : (s.volatileGone.put Fld.GLB_STATE.STATE stBoot).pmu.xtalLost = true := by simp [vpmu, h]
  obtain ⟨-, -, hpmu, -, -, -⟩ := (s.volatileGone.put Fld.GLB_STATE.STATE stBoot).parts_enterBoot
    (if s.pmu.resetLow then min 1 cause else cause) boot
  refine ⟨(congrArg Pmu.xtalLost hpmu).trans hlost, ?_⟩
  rw [State.hubReset, State.get_enterBoot _ _ _ (by decide), State.bootLatched, if_pos hlost]
  simp +decide [State.get_put_indep, State.get_put_same]

theorem State.resetLow_hubReset (s : State) (cause boot : Nat) : (s.hubReset cause boot).pmu.resetLow = s.pmu.resetLow := by
  obtain ⟨-, -, vpmu, -, -, -⟩ := s.view_volatileGone
  obtain ⟨-, -, hpmu, -, -, -⟩ := (s.volatileGone.put Fld.GLB_STATE.STATE stBoot).parts_enterBoot
    (if s.pmu.resetLow then min 1 cause else cause) boot
  exact (congrArg Pmu.resetLow hpmu).trans (by simp [vpmu])

/-- The rise of RESET_N in BOOT: the straps are latched, and the lanes start again. -/
theorem execResetNDeassert_boot {s : State} (boot : Nat) (hboot : s.hubState = stBoot) (hlow : s.pmu.resetLow = true) :
    ∃ t, execResetNDeassert boot s = .next t ∧ t.hubState = stBoot ∧ t.pmu.resetLow = false ∧
      t.get Fld.PMU_STAT.MODE = boot % 4 := by
  let u := ({ s with pmu.resetLow := false } : State).put Fld.PMU_STAT.MODE boot
  let t := (u.lanesOff.when (boot % 4 == 3) (·.lanesStart)).pdEval
  have hexec : execResetNDeassert boot s = .next t := by
    have hsame : ({ s with pmu.resetLow := false } : State).hubState ≠ stOff := by
      change s.hubState ≠ stOff
      rw [hboot]
      decide
    simp [execResetNDeassert, hlow, hsame, t, u]
  have hview : t.bootView = u.bootView := by
    rw [State.bootView_pdEval, State.bootView_when _ _ _ State.bootView_lanesStart, State.bootView_lanesOff]
  have hclock : t.clock = u.clock := by
    rw [State.clock_pdEval, State.clock_when _ _ _ State.clock_lanesStart, State.clock_lanesOff]
  have hstate : u.hubState = s.hubState := State.get_put_indep _ _ _ _ _ _ (by decide)
  have hpmu : t.pmu = u.pmu := congrArg BootView.pmu hview
  refine ⟨t, hexec, (State.hubState_of_clock hclock).trans (hstate.trans hboot), ?_, ?_⟩
  · rw [hpmu]
    simp [u]
  · rw [State.get_of_bootView hview (by decide)]
    exact State.get_put_same _ _ _ _ (by decide) (by decide)

theorem execXtalRestored_row (s : State) :
    ∃ t, execXtalRestored s = .next t ∧ t.pmu = { s.pmu with xtalLost := false } ∧ t.get Fld.PMU_STAT.XTAL_OK = 1 ∧
      t.get Fld.PMU_CLK_STAT.TIME = 1 ∧ t.get Fld.PMU_CLK_STAT.CORE = 1 ∧ t.get Fld.PMU_CLK_STAT.MEM = 1 ∧
      RegsOnly [Reg.PMU_STAT.base, Reg.PMU_CLK_STAT.base] { s with pmu := t.pmu } t := by
  let u := ({ s with pmu.xtalLost := false } : State)
  let t := (((u.put Fld.PMU_STAT.XTAL_OK 1).put Fld.PMU_CLK_STAT.TIME 1).put Fld.PMU_CLK_STAT.CORE 1).put Fld.PMU_CLK_STAT.MEM 1
  have hpmu : t.pmu = u.pmu := by simp [t]
  have hregs : RegsOnly [Reg.PMU_STAT.base, Reg.PMU_CLK_STAT.base, Reg.PMU_CLK_STAT.base, Reg.PMU_CLK_STAT.base] u t :=
    (((State.put_regsOnly _ _ _ _ _).trans (State.put_regsOnly _ _ _ _ _)).trans (State.put_regsOnly _ _ _ _ _)).trans
      (State.put_regsOnly _ _ _ _ _)
  refine ⟨t, rfl, hpmu, ?_, ?_, ?_, ?_, ?_⟩
  · simp +decide [t, State.get_put_indep, State.get_put_same]
  · simp +decide [t, State.get_put_indep, State.get_put_same]
  · simp +decide [t, State.get_put_indep, State.get_put_same]
  · simp +decide [t, State.get_put_same]
  · rw [hpmu]
    exact ⟨hregs.1, fun a ha => hregs.2 a (by simpa using ha)⟩

theorem execPowerGood_off {s : State} (boot : Nat) (hoff : s.hubState = stOff) (hpg : s.is Fld.PMU_STAT.PG = false) :
    let t := (s.put Fld.PMU_STAT.PG 1).put Fld.PMU_RAIL_STAT.RAIL 0xFFF
    execPowerGood boot s = .next (if s.pmu.resetLow then t else (t.put Fld.GLB_STATE.STATE stBoot).powerBoot boot) := by
  cases hlow : s.pmu.resetLow <;> simp [execPowerGood, hoff, hpg, hlow]

theorem execResetNDeassert_off {s : State} (boot : Nat) (hoff : s.hubState = stOff) (hpg : s.is Fld.PMU_STAT.PG = true)
    (hlow : s.pmu.resetLow = true) : execResetNDeassert boot s =
      .next ((({ s with pmu.resetLow := false } : State).put Fld.GLB_STATE.STATE stBoot).powerBoot boot) := by
  have hsame : ({ s with pmu.resetLow := false } : State).hubState = stOff := hoff
  have hgood : ({ s with pmu.resetLow := false } : State).is Fld.PMU_STAT.PG = true := hpg
  simp [execResetNDeassert, hsame, hgood, hlow]

/-- Settles O32: a hub reset for each cause, the loss of a rail, the power-up, and the return of RESET_N and of the crystal. -/
theorem resetRows : Obligations.ResetRows := by
  unfold Obligations.ResetRows
  intro s boot rail booted
  refine ⟨fun hoff hlow => ⟨⟨_, execResetNAssert_on boot hoff hlow, ?resetN⟩, ⟨_, execWatchdogReset_on boot hoff, ?watchdog⟩,
    _, execXtalLoss_on boot hoff, ?xtal⟩, fun hoff hrail => ⟨_, execRailLoss_on hoff hrail, ?rail⟩,
    fun hoff hpg hlow => ⟨_, execPowerGood_off boot hoff hpg, ?power⟩, fun hoff hpg hlow => ?powerHeld,
    fun hoff hpg hlow => ⟨_, execResetNDeassert_off boot hoff hpg hlow, ?release⟩,
    fun hboot hlow => execResetNDeassert_boot boot hboot hlow, execXtalRestored_row s⟩
  case resetN =>
    exact ⟨State.resetLeaves_hubReset _ 1 boot, State.booted_hubReset _ (by decide) fun _ => Nat.le_refl 1,
      State.resetLow_hubReset _ 1 boot⟩
  case watchdog =>
    exact ⟨State.resetLeaves_hubReset s 2 boot, State.booted_hubReset s (by decide) fun h => by simp [hlow] at h⟩
  case xtal =>
    exact ⟨State.resetLeaves_hubReset _ 2 boot, State.booted_hubReset _ (by decide) fun h => by simp [hlow] at h,
      State.xtalOk_hubReset 2 boot rfl⟩
  case rail => exact ⟨State.resetLeaves_railDown _ rail, State.rails_railDown _ rail⟩
  case power =>
    rw [hlow, if_neg Bool.false_ne_true]
    generalize hup : ((s.put Fld.PMU_STAT.PG 1).put Fld.PMU_RAIL_STAT.RAIL 0xFFF).put Fld.GLB_STATE.STATE stBoot = u
    have hcount : u.get Fld.PMU_BOOT_CNT.COUNT = s.get Fld.PMU_BOOT_CNT.COUNT := by
      rw [← hup]
      simp +decide [State.get_put_indep]
    have hpcc : u.get Fld.SLT_PCC.PCC = s.get Fld.SLT_PCC.PCC := by
      rw [← hup]
      simp +decide [State.get_put_indep]
    have hmram : u.silt.mram = s.silt.mram := by
      rw [← hup]
      simp
    have hstate : (u.powerBoot boot).hubState = stBoot := hup ▸ State.hubState_powerBoot_state _ boot
    obtain ⟨hcause, hmode, hboots⟩ := u.booted_powerBoot boot
    obtain ⟨-, hlog, -⟩ := u.parts_powerBoot boot
    exact ⟨hstate, ⟨hcause, hmode, hcount ▸ hboots⟩, hpcc ▸ u.pcc_powerBoot boot, hlog.trans hmram⟩
  case powerHeld =>
    have hexec : exec (.powerGood boot) s = _ := execPowerGood_off boot hoff hpg
    rw [hexec, if_pos hlow]
  case release =>
    generalize hup : ({ s with pmu.resetLow := false } : State).put Fld.GLB_STATE.STATE stBoot = u
    have hcount : u.get Fld.PMU_BOOT_CNT.COUNT = s.get Fld.PMU_BOOT_CNT.COUNT := by
      rw [← hup]
      exact State.get_put_indep _ _ _ _ _ _ (by decide)
    have hrise : u.pmu.resetLow = false := by
      rw [← hup]
      simp
    have hstate : (u.powerBoot boot).hubState = stBoot := hup ▸ State.hubState_powerBoot_state _ boot
    obtain ⟨hcause, hmode, hboots⟩ := u.booted_powerBoot boot
    obtain ⟨-, -, hlow⟩ := u.parts_powerBoot boot
    exact ⟨hstate, ⟨hcause, hmode, hcount ▸ hboots⟩, hlow.trans hrise⟩

end Sys2Proof.Machine
end

section
/-! PROOFS. Front-end rows: writes of AFE_CHn_CTRL, overloads, excitation drivers and the modulator's run-in (R193 to R195, R210,
R211, R226, R229, R232). -/

open Sys2Proof Sys2Proof.Machine

namespace Sys2Proof.Machine

/-! ## Fields, channels and chains past other parts of the state -/

theorem State.get_sat_indep (s : State) {f g : Field} (k i j a b : Nat) (h : f.indep g = true) :
    (s.sat f k i j).get g a b = s.get g a b := State.get_put_indep _ _ _ _ _ _ h

/-- A one-bit field of a channel's register shows the 1 that was put there. -/
theorem State.get_put_channelFlag (s : State) {f : Field} {ch : Nat}
    (hf : f.reg.n1 = 100 ∧ f.reg.n2 = 1 ∧ f.width = 1 ∧ f.lsb < 32) (hch : ch < 100) : (s.put f 1 ch).get f ch = 1 := by
  obtain ⟨hn1, hn2, hw, hl⟩ := hf
  simpa [hw] using State.get_put_same s (f := f) 1 ch 0 (by omega) (by simp [RegDef.has, hn1, hn2, hch])

theorem State.when_true (s : State) (f : State → State) : s.when true f = f s := rfl

theorem State.get_when (s : State) (c : Bool) (f : State → State) (g : Field) (a b : Nat)
    (h : ∀ t : State, (f t).get g a b = t.get g a b) : (s.when c f).get g a b = s.get g a b := by
  cases c
  · rfl
  · exact h s

theorem State.get_setChan (s : State) (n : Nat) (x : Chan) (g : Field) (a b : Nat) :
    (s.setChan n x).get g a b = s.get g a b := rfl

theorem State.get_setChain (s : State) (c : Nat) (x : Chain) (g : Field) (a b : Nat) :
    (s.setChain c x).get g a b = s.get g a b := rfl

/-- A one-bit field is its truth value. -/
theorem State.get_eq_b2n_is (s : State) {f : Field} (i j : Nat) (hw : f.width = 1) : s.get f i j = b2n (s.is f i j) := by
  have hlt : s.get f i j < 2 ^ f.width := ((s.rd f.reg i j).extractLsb' f.lsb f.width).isLt
  rw [hw] at hlt
  obtain h | h : s.get f i j = 0 ∨ s.get f i j = 1 := by omega
  all_goals simp [State.is, h, b2n]

theorem b2n_beq_one (b : Bool) : (b2n b == 1) = b := by cases b <;> rfl

@[simp] theorem State.chan_put (s : State) (f : Field) (v i j n : Nat) : (s.put f v i j).chan n = s.chan n := by
  simp [State.chan]

@[simp] theorem State.chain_put (s : State) (f : Field) (v i j c : Nat) : (s.put f v i j).chain c = s.chain c := by
  simp [State.chain]

@[simp] theorem State.chain_sat (s : State) (f : Field) (k i j c : Nat) : (s.sat f k i j).chain c = s.chain c := by
  simp [State.chain]

@[simp] theorem State.chain_setChan (s : State) (n c : Nat) (x : Chan) : (s.setChan n x).chain c = s.chain c := rfl

/-! ## Writes of AFE_CHn_CTRL (R194, R211, R226) -/

theorem regAt_AFE_CHn_CTRL {ch : Nat} (hch : ch < 100) : regAt (Reg.AFE_CHn_CTRL.at ch 0) = some (Reg.AFE_CHn_CTRL, ch, 0) := by
  have hblock : blockAt (Reg.AFE_CHn_CTRL.at ch 0) = Reg.blockAfe := by
    have hb : Reg.AFE_CHn_CTRL.at ch 0 / 0x10000 = 8 := by
      simp only [RegDef.at, Reg.AFE_CHn_CTRL]
      omega
    simp only [blockAt, hb]
    rfl
  exact regAt_of_misses (pre := Reg.blockAfe.take 10) (post := Reg.blockAfe.drop 11) hblock (by decide)
    (by simp [RegDef.has, Reg.AFE_CHn_CTRL, hch]) (by decide)

theorem State.writeReg_AFE_CHn_CTRL (s : State) (p : Path) {ch : Nat} (v : Nat) (hf : s.fused Reg.AFE_CHn_CTRL ch = false) :
    s.writeReg p Reg.AFE_CHn_CTRL ch 0 v = s.wrAfeCtrl ch v := by
  unfold State.writeReg
  rw [hf]
  rfl

theorem State.writeAt_AFE_CHn_CTRL {s : State} (p : Path) {ch v : Nat} (h : s.mapOpen = true) (hch : ch < 100)
    (hf : s.fused Reg.AFE_CHn_CTRL ch = false) (hv : v < 2 ^ 32) :
    s.writeAt p Reg.AFE_CHn_CTRL ch v = s.wrAfeCtrl ch v := by
  have ha : Reg.AFE_CHn_CTRL.at ch 0 = 0x80028 + 0x100 * ch := rfl
  rw [State.writeAt_eq h hch (regAt_AFE_CHn_CTRL hch) (by omega) (by simp [inMbx, ha]; omega) (by simp [inMsix, ha]; omega)
    (by omega), Nat.mod_eq_of_lt hv, State.writeReg_AFE_CHn_CTRL s p v hf]

/-- RANGE_HOLD of a channel takes a value; at 1 it cancels a step down that is pending (R194). -/
def State.rangeHold (s : State) (ch : Nat) (on : Bool) : State :=
  (s.put Fld.AFE_CHn_CTRL.RANGE_HOLD (b2n on) ch).when on fun s => s.put Fld.AFE_CHn_STAT.DOWN_PEND 0 ch

@[simp] theorem State.chan_rangeHold (s : State) (ch n : Nat) (on : Bool) : (s.rangeHold ch on).chan n = s.chan n := by
  cases on <;> simp [State.rangeHold, State.when]

theorem State.wrAfeCtrl_hold (s : State) (ch : Nat) (on : Bool) : s.wrAfeCtrl ch (b2n on) = s.rangeHold ch on := by
  cases on <;> rfl

theorem State.wrAfeCtrl_cntClr (s : State) (ch : Nat) (on : Bool) : s.wrAfeCtrl ch (2 + b2n on) =
    ((s.rangeHold ch on).put Fld.AFE_CHn_RCNT.UP_CNT 0 ch).put Fld.AFE_CHn_RCNT.DOWN_CNT 0 ch := by
  cases on <;> rfl

theorem State.wrAfeCtrl_excRetry (s : State) (ch : Nat) (on : Bool) :
    s.wrAfeCtrl ch (4 + b2n on) = (s.rangeHold ch on).excRetry ch := by
  cases on <;> rfl

/-- A driver that is off for overcurrent ramps again where excitation is wanted (R211). -/
theorem State.excRetry_wanted {s : State} {ch : Nat} (hoff : (s.chan ch).drive = .ocOff)
    (hw : (s.setChan ch { s.chan ch with ocBreak := false }).excWanted ch = true) :
    s.excRetry ch = (s.setChan ch { s.chan ch with ocBreak := false }).excRamp ch := by
  unfold State.excRetry
  rw [if_pos hoff]
  exact if_pos hw

section
variable {s : State} {ch : Nat} (h : s.mapOpen = true) (hch : ch < 100) (hf : s.fused Reg.AFE_CHn_CTRL ch = false)
include h hch hf

theorem exec_rangeHoldWrite (on : Bool) : exec (.rangeHoldWrite ch on) s = .next (s.rangeHold ch on) := by
  have hle := b2n_le_one on
  rw [← State.wrAfeCtrl_hold, ← State.writeAt_AFE_CHn_CTRL .pcie h hch hf (by omega)]
  rfl

theorem exec_afeCntClr : exec (.afeCntClr ch) s = .next
    (((s.rangeHold ch (s.is Fld.AFE_CHn_CTRL.RANGE_HOLD ch)).put Fld.AFE_CHn_RCNT.UP_CNT 0 ch).put
      Fld.AFE_CHn_RCNT.DOWN_CNT 0 ch) := by
  have hle := b2n_le_one (s.is Fld.AFE_CHn_CTRL.RANGE_HOLD ch)
  rw [← State.wrAfeCtrl_cntClr, ← State.writeAt_AFE_CHn_CTRL .pcie h hch hf (by omega), ← State.get_eq_b2n_is s ch 0 rfl]
  rfl

theorem exec_afeExcRetry :
    exec (.afeExcRetry ch) s = .next ((s.rangeHold ch (s.is Fld.AFE_CHn_CTRL.RANGE_HOLD ch)).excRetry ch) := by
  have hle := b2n_le_one (s.is Fld.AFE_CHn_CTRL.RANGE_HOLD ch)
  rw [← State.wrAfeCtrl_excRetry, ← State.writeAt_AFE_CHn_CTRL .pcie h hch hf (by omega), ← State.get_eq_b2n_is s ch 0 rfl]
  rfl

end

/-! ## Overloads (R193, R195, R232) -/

/-- The marked period is on the chain, whether it was there before or not. -/
theorem State.mem_ovl_markOvl (s : State) (c k : Nat) : ((k * 256 : Nat) : Int) ∈ ((s.markOvl c k).chain c).ovl := by
  unfold State.markOvl
  dsimp only
  split
  · next h => exact List.contains_iff_mem.mp h
  · simp

theorem State.get_markOvl (s : State) (c k : Nat) (g : Field) (a b : Nat) : (s.markOvl c k).get g a b = s.get g a b := by
  unfold State.markOvl
  dsimp only
  split <;> rfl

/-- The flags of an overloaded modulator period: the period on the chain, the modulator's bits and count, and CLIP (R195,
R232). -/
def State.overloadFlags (s : State) (n k : Nat) (clamp : Bool) : State :=
  let again := k != 0 && (s.chain n).ovl.contains (((k - 1) * 256 : Nat) : Int)
  let s := ((s.markOvl n k).put Fld.SAR_MODn_STAT.OVL 1 n).put Fld.SAR_MODn_STAT.OVL_SEEN 1 n
  let s := s.when (!again) (·.sat Fld.SAR_MODn_STAT.OVL_CNT 1 n)
  (s.when clamp (·.put Fld.SAR_MODn_STAT.CLAMP 1 n)).put Fld.AFE_CHn_EVT.CLIP 1 n

/-- What an overloaded period does to the range of its channel (R194, R195, R198). -/
def State.overloadRange (s : State) (n k : Nat) : State :=
  let s := s.when (s.is Fld.AFE_CHn_CTRL.RANGE_HOLD n) (·.cancelDown n)
  let s := s.when (s.is Fld.AFE_CHn_STAT.DOWN_PEND n) fun s => (s.cancelDown n).put Fld.AFE_CHn_EVT.DOWN_CANCEL 1 n
  s.when (s.autoRange n && s.get Fld.AFE_CHn_STAT.RANGE n != 0 && (s.chan n).settleEnd ≤ k) (·.upRange n k)

theorem State.overload_eq (s : State) (n k : Nat) (clamp : Bool) :
    s.overload n k clamp = (s.overloadFlags n k clamp).overloadRange n k := rfl

theorem State.ovl_upRange (s : State) (n k : Nat) : ((s.upRange n k).chain n).ovl = (s.chain n).ovl := by
  simp [State.upRange, State.switchAt]

theorem State.ovl_when (s : State) (c : Bool) (f : State → State) (n : Nat)
    (h : ∀ t : State, ((f t).chain n).ovl = (t.chain n).ovl) : ((s.when c f).chain n).ovl = (s.chain n).ovl := by
  cases c
  · rfl
  · exact h s

theorem State.ovl_overloadRange (s : State) (n k : Nat) : ((s.overloadRange n k).chain n).ovl = (s.chain n).ovl := by
  simp [State.overloadRange, State.ovl_when, State.ovl_upRange, State.cancelDown]

theorem State.ovl_overloadFlags (s : State) (n k : Nat) (clamp : Bool) :
    ((s.overloadFlags n k clamp).chain n).ovl = ((s.markOvl n k).chain n).ovl := by
  simp [State.overloadFlags, State.ovl_when]

/-- The fields that ranging may change at an overload. -/
def rangingFields : List Field :=
  [Fld.AFE_CHn_STAT.RANGE, Fld.AFE_CHn_STAT.SETTLE, Fld.AFE_CHn_STAT.DOWN_PEND, Fld.AFE_CHn_DWELL.COUNT, Fld.AFE_CHn_EVT.UP,
   Fld.AFE_CHn_EVT.DOWN_CANCEL, Fld.AFE_CHn_RCNT.UP_CNT]

/-- Ranging changes its own fields only. -/
theorem State.get_overloadRange (s : State) (n k : Nat) {g : Field} (a b : Nat)
    (hg : rangingFields.all (·.indep g) = true) : (s.overloadRange n k).get g a b = s.get g a b := by
  simp only [rangingFields, List.all_cons, List.all_nil, Bool.and_eq_true] at hg
  obtain ⟨hrange, hsettle, hpend, hdwell, hup, hcancel, hcnt, -⟩ := hg
  simp [State.overloadRange, State.upRange, State.switchAt, State.cancelDown, State.get_when, State.get_put_indep,
    State.get_sat_indep, State.get_setChan, State.get_setChain, hrange, hsettle, hpend, hdwell, hup, hcancel, hcnt]

section
variable {s : State} {ch : Nat} (hch : ch < 100)
include hch

theorem State.overloadFlags_shown (k : Nat) :
    let t := s.overloadFlags ch k true
    t.get Fld.SAR_MODn_STAT.OVL ch = 1 ∧ t.get Fld.SAR_MODn_STAT.OVL_SEEN ch = 1 ∧ t.get Fld.SAR_MODn_STAT.CLAMP ch = 1 ∧
    t.get Fld.AFE_CHn_EVT.CLIP ch = 1 := by
  simp +decide [State.overloadFlags, State.when_true, State.get_when, State.get_put_indep, State.get_sat_indep,
    State.get_put_channelFlag, hch]

/-- An overloaded period with the clamp active shows the flags of the modulator and CLIP, and stays on the chain. -/
theorem State.overload_row (k : Nat) :
    let t := s.overload ch k true
    t.get Fld.SAR_MODn_STAT.OVL ch = 1 ∧ t.get Fld.SAR_MODn_STAT.OVL_SEEN ch = 1 ∧ t.get Fld.SAR_MODn_STAT.CLAMP ch = 1 ∧
    t.get Fld.AFE_CHn_EVT.CLIP ch = 1 ∧ ((k * 256 : Nat) : Int) ∈ (t.chain ch).ovl := by
  obtain ⟨hlive, hseen, hclamp, hclip⟩ := State.overloadFlags_shown (s := s) hch k
  simp +decide only [State.overload_eq, State.get_overloadRange, State.ovl_overloadRange, State.ovl_overloadFlags]
  exact ⟨hlive, hseen, hclamp, hclip, s.mem_ovl_markOvl ch k⟩

/-- A common-mode overload flags its period, which is on the chain, and leaves the range (R193). -/
theorem cmOverload_row (j : Nat) :
    let k := s.seq.frame * s.nPer + j
    ∃ t, exec (.cmOverload ch j) s = .next t ∧ t.get Fld.AFE_CHn_STAT.CM_OVR ch = 1 ∧ t.get Fld.AFE_CHn_EVT.CM_OVR ch = 1 ∧
      (t.chan ch).cmoAt = some k ∧ ((k * 256 : Nat) : Int) ∈ (t.chain ch).ovl ∧
      t.get Fld.AFE_CHn_STAT.RANGE ch = s.get Fld.AFE_CHn_STAT.RANGE ch := by
  intro k
  refine ⟨_, rfl, ?stat, ?evt, ?period, ?chain, ?range⟩
  case stat => simp +decide [State.get_put_indep, State.get_put_channelFlag, hch]
  case evt => exact State.get_put_channelFlag _ (by decide) hch
  case period => simp [k]
  case chain => simpa using s.mem_ovl_markOvl ch k
  case range => simp +decide [State.get_put_indep, State.get_setChan, State.get_markOvl]

end

/-! ## Excitation drivers and the modulator's run-in (R210, R211, R229) -/

theorem execExcRampEnd_ramping {s : State} {ch : Nat} (h : (s.chan ch).drive = .ramping) :
    execExcRampEnd ch s = .next ((s.setChan ch { s.chan ch with drive := .on }).resetNext ch 3) := if_pos h

theorem execModulatorRunInEnd_running {s : State} {ch : Nat} (hrun : s.is Fld.SAR_MODn_STAT.RUNNING ch = true)
    (hin : (s.chan ch).runIn = false) :
    execModulatorRunInEnd ch s = .next ((s.setChan ch { s.chan ch with runIn := true }).resetNext ch 2) :=
  if_pos (by simp [hrun, hin])

/-- Settles O20: the writes of AFE_CHn_CTRL reach its rule; an overload's flags pass the ranging behind them; each row of a driver
and of the run-in is its rule in the case that the row names. -/
theorem frontEndRows : Obligations.FrontEndRows := by
  unfold Obligations.FrontEndRows
  refine ⟨fun s ch hopen hch hfused => ?control, fun s ch j hch => ?overloads, fun s ch => ?drivers⟩
  case control =>
    intro held kept
    have hkept : kept = s.rangeHold ch (s.is Fld.AFE_CHn_CTRL.RANGE_HOLD ch) := by
      simp only [kept, held, State.rangeHold, State.get_eq_b2n_is s (f := Fld.AFE_CHn_CTRL.RANGE_HOLD) ch 0 rfl, b2n_beq_one]
    have hchan : kept.chan ch = s.chan ch := by rw [hkept, State.chan_rangeHold]
    have hretry : exec (.afeExcRetry ch) s = .next (kept.excRetry ch) := hkept ▸ exec_afeExcRetry hopen hch hfused
    refine ⟨exec_rangeHoldWrite hopen hch hfused, hkept ▸ exec_afeCntClr hopen hch hfused, hretry, fun hoff hwanted => ?_⟩
    rw [← hchan] at hoff hwanted ⊢
    rw [hretry, State.excRetry_wanted hoff hwanted]
  case overloads =>
    exact ⟨⟨_, rfl, State.overload_row hch _⟩, cmOverload_row hch j⟩
  case drivers =>
    refine ⟨execExcRampEnd_ramping, rfl, fun hoff hwanted => ?_, execModulatorRunInEnd_running⟩
    exact congrArg Host.Outcome.next (State.excRetry_wanted hoff hwanted)

end Sys2Proof.Machine
end

section
/-! PROOFS. Converter rows: writes of control registers of the filter engine, the auxiliary converter, the modulator bank and the
TDC (R257, R259, R280, R296, R387), the points of the auxiliary converter's system calibration (R255), and the sequences of the
auxiliary converter (R242 to R248). -/

open Sys2Proof Sys2Proof.Machine

namespace Sys2Proof.Machine

/-! ## A write at the address of a register of a family (R715) -/

/-- The whole family stands at aligned offsets between the mailboxes and the MSI-X table, and the families `pre`, which its
block lists before it, have no register where it has one. -/
def RegDef.writableAfter (r : RegDef) (pre : List RegDef) : Bool :=
  decide (0 < r.s1) && r.s1 % 4 == 0 && r.base % 4 == 0 && decide (0 < r.n2) && decide (0x300 ≤ r.base) &&
    decide (r.base + r.s1 * (r.n1 - 1) + r.s2 * (r.n2 - 1) < 0x250000) && pre.all (·.misses r)

/-- A write at the address of a register of such a family, while the map responds, is the register's write. -/
theorem State.writeAt_family {s : State} (p : Path) {r : RegDef} {pre post : List RegDef} {i v : Nat} (h : s.mapOpen = true)
    (hr : r.writableAfter pre = true) (hi : i < r.n1) (hblock : blockAt (r.at i 0) = pre ++ r :: post) (hv : v < 2 ^ 32) :
    s.writeAt p r i v = s.writeReg p r i 0 v := by
  simp only [RegDef.writableAfter, Bool.and_eq_true, decide_eq_true_eq, beq_iff_eq, List.all_eq_true] at hr
  obtain ⟨⟨⟨⟨⟨⟨hstride, hstride4⟩, hbase4⟩, hn2⟩, hlow⟩, hhigh⟩, hpre⟩ := hr
  have hhas : r.has i 0 = true := by simp [RegDef.has, hi, hn2]
  obtain ⟨hge, hle⟩ := RegDef.at_le hhas
  have haligned : r.at i 0 % 4 = 0 := by simp [RegDef.at, Nat.add_mod, Nat.mul_mod, hstride4, hbase4]
  rw [State.writeAt_eq h hi (regAt_of_misses hblock hpre hhas hstride) haligned (by simp [inMbx]; omega)
    (by simp [inMsix]; omega) (by omega), Nat.mod_eq_of_lt hv]

theorem blockAt_tdc {a : Nat} (h : a / 0x10000 = 5) : blockAt a = Reg.blockTdc := by
  simp only [blockAt, h]
  rfl

theorem blockAt_sar {a : Nat} (h : a / 0x10000 = 6) : blockAt a = Reg.blockSar := by
  simp only [blockAt, h]
  rfl

/-- The FLT block spans four of the map's 64 KiB parts. -/
theorem blockAt_flt {a : Nat} (hlo : 0xC ≤ a / 0x10000) (hhi : a / 0x10000 < 0x10) : blockAt a = Reg.blockFlt := by
  have h4 : ¬ a / 0x10000 < 4 := by omega
  have h8 : ¬ a / 0x10000 < 8 := by omega
  have hC : ¬ a / 0x10000 < 0xC := by omega
  simp only [blockAt, h4, h8, hC, hhi, if_true, if_false]

/-- A write of a register of the SAR, AFE, CAL or FLT block that is not fused is that of its block. -/
theorem State.writeReg_front {s : State} (p : Path) {r : RegDef} {i : Nat} (j v : Nat) (hf : s.fused r i = false)
    (hlo : 0x60000 ≤ r.base) (hhi : r.base < 0x100000) : s.writeReg p r i j v = s.writeFront r i j v := by
  have hsys : ¬ r.base < 0x40000 := by omega
  have htime : ¬ r.base < 0x60000 := by omega
  simp only [State.writeReg, hf, hsys, htime, hhi, Bool.false_eq_true, if_true, if_false]

/-! ## The rows that write a control register -/

theorem State.writeFront_SAR_SCAL_CTRL (s : State) (v : Nat) :
    s.writeFront Reg.SAR_SCAL_CTRL 0 0 v = s.wrScalCtrl v := rfl

/-- The low half of SAR_SCAL_CTRL with START set starts a point, with AVG_LOG2 clamped first (R258). -/
theorem State.wrScalCtrl_start (s : State) (v : Nat) : s.wrScalCtrl (v % 2 ^ 16 + 2 ^ 16) =
    ((s.writeByCode Reg.SAR_SCAL_CTRL (v % 2 ^ 16 + 2 ^ 16)).put Fld.SAR_SCAL_CTRL.AVG_LOG2 (min 10 (field v 12 4))).scalStart := by
  have havg : field (v % 2 ^ 16 + 2 ^ 16) 12 4 = field v 12 4 := by simp only [field]; omega
  have hstart : bit (v % 2 ^ 16 + 2 ^ 16) 16 = true := by
    rw [bit, Nat.testBit_eq_decide_div_mod_eq, decide_eq_true_eq]
    omega
  rw [State.wrScalCtrl, havg, hstart, State.when_true]

section
variable {s : State} (h : s.mapOpen = true)
include h

theorem State.writeAt_FLT_CHc_CTRL (p : Path) {c v : Nat} (hc : c < 612) (hf : s.fused Reg.FLT_CHc_CTRL c = false)
    (hv : v < 2 ^ 32) : s.writeAt p Reg.FLT_CHc_CTRL c v = s.wrFltCtrl c v := by
  have ha : Reg.FLT_CHc_CTRL.at c 0 = 0xC002C + 0x100 * c := rfl
  have hblock := blockAt_flt (a := Reg.FLT_CHc_CTRL.at c 0) (by omega) (by omega)
  rw [State.writeAt_family p (pre := Reg.blockFlt.take 11) (post := Reg.blockFlt.drop 12) h (by decide) hc hblock hv,
    State.writeReg_front p 0 v hf (by decide) (by decide)]
  rfl

theorem exec_fltSyncReset {c : Nat} (hc : c < 612) (hf : s.fused Reg.FLT_CHc_CTRL c = false) (hruns : s.chainRuns c = true) :
    exec (.fltSyncReset c) s = .next (s.resetNext c 8) := by
  have hwrite : s.wrFltCtrl c 1 = s.when (s.chainRuns c) (·.resetNext c 8) := rfl
  show Host.Outcome.next (s.writeAt .pcie Reg.FLT_CHc_CTRL c 1) = _
  rw [State.writeAt_FLT_CHc_CTRL h .pcie hc hf (by decide), hwrite, hruns, State.when_true]

theorem exec_fltCntClr {c : Nat} (hc : c < 612) (hf : s.fused Reg.FLT_CHc_CTRL c = false) : exec (.fltCntClr c) s =
    .next (((s.wr Reg.FLT_CHc_CNT 0 c).put Fld.FLT_CHc_THRd.SET_CNT 0 c 0).put Fld.FLT_CHc_THRd.SET_CNT 0 c 1) := by
  show Host.Outcome.next (s.writeAt .pcie Reg.FLT_CHc_CTRL c 2) = _
  rw [State.writeAt_FLT_CHc_CTRL h .pcie hc hf (by decide)]
  rfl

theorem exec_sarCoefWrite_gain {m v : Nat} (hm : m < 16) (hv : v < 2 ^ 32) :
    exec (.sarCoefWrite m false v) s = .next (s.writeByCode Reg.SAR_GAINm v m) := by
  have ha : Reg.SAR_GAINm.at m 0 = 0x60300 + 8 * m := rfl
  have hblock := blockAt_sar (a := Reg.SAR_GAINm.at m 0) (by omega)
  have hf : s.fused Reg.SAR_GAINm m = false := Bool.and_false _
  show Host.Outcome.next (s.writeAt .pcie Reg.SAR_GAINm m v) = _
  rw [State.writeAt_family .pcie (pre := Reg.blockSar.take 9) (post := Reg.blockSar.drop 10) h (by decide) hm hblock hv,
    State.writeReg_front .pcie 0 v hf (by decide) (by decide)]
  rfl

theorem exec_sarCoefWrite_offset {m v : Nat} (hm : m < 16) (hv : v < 2 ^ 32) :
    exec (.sarCoefWrite m true v) s = .next (s.writeByCode Reg.SAR_OFFm v m) := by
  have ha : Reg.SAR_OFFm.at m 0 = 0x60304 + 8 * m := rfl
  have hblock := blockAt_sar (a := Reg.SAR_OFFm.at m 0) (by omega)
  have hf : s.fused Reg.SAR_OFFm m = false := Bool.and_false _
  show Host.Outcome.next (s.writeAt .pcie Reg.SAR_OFFm m v) = _
  rw [State.writeAt_family .pcie (pre := Reg.blockSar.take 10) (post := Reg.blockSar.drop 11) h (by decide) hm hblock hv,
    State.writeReg_front .pcie 0 v hf (by decide) (by decide)]
  rfl

theorem exec_sarModCntClr :
    exec .sarModCntClr s = .next (s.forEach (List.range 100) fun n s => s.put Fld.SAR_MODn_STAT.OVL_CNT 0 n) := by
  have hf : s.fused Reg.SAR_MOD_CTRL 0 = false := Bool.and_false _
  show Host.Outcome.next (s.writeAt .pcie Reg.SAR_MOD_CTRL 0 1) = _
  rw [State.writeAt_one h (by decide), State.writeReg_front .pcie 0 _ hf (by decide) (by decide)]
  rfl

theorem exec_sarScalStart (v : Nat) : exec (.sarScalStart v) s = .next
    ((s.writeByCode Reg.SAR_SCAL_CTRL (v % 2 ^ 16 + 2 ^ 16)).put Fld.SAR_SCAL_CTRL.AVG_LOG2 (min 10 (field v 12 4))).scalStart := by
  have hv : (v % 2 ^ 16 + 2 ^ 16) % 2 ^ 32 = v % 2 ^ 16 + 2 ^ 16 := Nat.mod_eq_of_lt (by omega)
  have hf : s.fused Reg.SAR_SCAL_CTRL 0 = false := Bool.and_false _
  show Host.Outcome.next (s.writeAt .pcie Reg.SAR_SCAL_CTRL 0 (v % 2 ^ 16 + 2 ^ 16)) = _
  rw [State.writeAt_one h (by decide), hv, State.writeReg_front .pcie 0 _ hf (by decide) (by decide),
    State.writeFront_SAR_SCAL_CTRL, State.wrScalCtrl_start]

/-- Nothing of the TDC is fused. -/
theorem State.writeAt_TDC_CHk_CTRL (p : Path) {k v : Nat} (hk : k < 16) (hv : v < 2 ^ 32) :
    s.writeAt p Reg.TDC_CHk_CTRL k v = s.wrTdcCtrl k v := by
  have ha : Reg.TDC_CHk_CTRL.at k 0 = 0x50118 + 0x40 * k := rfl
  have hblock := blockAt_tdc (a := Reg.TDC_CHk_CTRL.at k 0) (by omega)
  rw [State.writeAt_family p (pre := Reg.blockTdc.take 12) (post := Reg.blockTdc.drop 13) h (by decide) hk hblock hv]
  have hf : s.fused Reg.TDC_CHk_CTRL k = false := Bool.and_false _
  unfold State.writeReg
  rw [hf]
  rfl

theorem exec_tdcFlush {k : Nat} (hk : k < 16) :
    exec (.tdcFlush k) s = .next (s.setTdc k { s.tdcIn k with fifo := [] }) := by
  show Host.Outcome.next (s.writeAt .pcie Reg.TDC_CHk_CTRL k 2) = _
  rw [State.writeAt_TDC_CHk_CTRL h .pcie hk (by decide)]
  rfl

theorem exec_tdcCntClr {k : Nat} (hk : k < 16) : exec (.tdcCntClr k) s = .next (s.wr Reg.TDC_CHk_CNT 0 k) := by
  show Host.Outcome.next (s.writeAt .pcie Reg.TDC_CHk_CTRL k 1) = _
  rw [State.writeAt_TDC_CHk_CTRL h .pcie hk (by decide)]
  rfl

end

/-! ## A zero point of the system calibration starts (R255) -/

theorem RegsOnly.mono {l m : List Nat} {s t : State} (h : RegsOnly l s t) (hlm : l ⊆ m) : RegsOnly m s t :=
  ⟨h.1, fun a ha => h.2 a fun hl => ha (hlm hl)⟩

/-- A put of a field passes a change of the auxiliary converter's own state. -/
theorem State.put_setAux (s : State) (x : Aux) (f : Field) (v i j : Nat) :
    ({ s with aux := x } : State).put f v i j = { s.put f v i j with aux := x } := by
  unfold State.put State.wr
  dsimp only
  split <;> rfl

/-- The results that a zero point of input `m` opens again: the full-scale point's, and the zero point's unless it was of
this input (R255). -/
def State.scalZeroOpen (s : State) (m : Nat) : State :=
  (s.put Fld.SAR_SCAL_STAT.DONE1 0).when (s.aux.zeroOf != some m) (·.put Fld.SAR_SCAL_STAT.DONE0 0)

theorem State.aux_scalZeroOpen (s : State) (m : Nat) : (s.scalZeroOpen m).aux = s.aux := by
  unfold State.scalZeroOpen
  cases s.aux.zeroOf != some m <;> simp [State.when]

theorem State.done1_scalZeroOpen (s : State) (m : Nat) : (s.scalZeroOpen m).get Fld.SAR_SCAL_STAT.DONE1 = 0 := by
  rw [State.scalZeroOpen, State.get_when _ _ _ _ _ _ fun t => State.get_put_indep _ _ _ _ _ _ (by decide)]
  exact State.get_put_same _ 0 0 0 (by decide) (by decide)

theorem State.scalZeroOpen_regsOnly (s : State) (m : Nat) : RegsOnly [Reg.SAR_SCAL_STAT.base] s (s.scalZeroOpen m) := by
  have hfull : RegsOnly [Reg.SAR_SCAL_STAT.base] s (s.put Fld.SAR_SCAL_STAT.DONE1 0) := State.put_regsOnly _ _ _ 0 0
  unfold State.scalZeroOpen
  cases s.aux.zeroOf != some m
  · exact hfull
  · exact (hfull.trans (State.put_regsOnly _ Fld.SAR_SCAL_STAT.DONE0 0 0 0)).mono (by decide)

theorem State.scalZeroOpen_busy_regsOnly (s : State) (m : Nat) :
    RegsOnly [Reg.SAR_SCAL_STAT.base] s ((s.scalZeroOpen m).put Fld.SAR_SCAL_STAT.BUSY 1) :=
  ((s.scalZeroOpen_regsOnly m).trans (State.put_regsOnly _ Fld.SAR_SCAL_STAT.BUSY 1 0 0)).mono (by decide)

/-- A zero point of an input of the regular sequence starts where none is in progress and the sequence runs: its input is
taken, and the sum and the count are 0. -/
theorem State.scalStart_zero {s : State} (hbusy : s.is Fld.SAR_SCAL_STAT.BUSY = false) (hruns : s.auxRuns = true)
    (hpoint : s.get Fld.SAR_SCAL_CTRL.POINT = 0) (hin : s.inSeq (s.get Fld.SAR_SCAL_CTRL.INPUT) = true) :
    s.scalStart = { (s.scalZeroOpen (s.get Fld.SAR_SCAL_CTRL.INPUT)).put Fld.SAR_SCAL_STAT.BUSY 1 with
      aux := { s.aux with scal := some (s.get Fld.SAR_SCAL_CTRL.INPUT, 0), sum := 0, cnt := 0, bad0 := false } } := by
  have hstart : s.scalStart = ({ s.scalZeroOpen (s.get Fld.SAR_SCAL_CTRL.INPUT) with
      aux := { (s.scalZeroOpen (s.get Fld.SAR_SCAL_CTRL.INPUT)).aux with
        scal := some (s.get Fld.SAR_SCAL_CTRL.INPUT, 0), sum := 0, cnt := 0, bad0 := false } } : State).put
      Fld.SAR_SCAL_STAT.BUSY 1 := by
    unfold State.scalStart
    simp only [hbusy, hruns, hpoint, hin, Bool.not_true, Bool.false_or, Bool.false_eq_true, if_false, if_true,
      Nat.reduceBEq, Bool.false_and]
    rfl
  rw [hstart, State.put_setAux, State.aux_scalZeroOpen]

/-! ## A point of the system calibration completes (R255) -/

/-- The mean of the point in progress, to the nearest unit (R255; log entry 4). -/
def State.scalMean (s : State) : Nat :=
  unsigned 32 (roundDiv s.aux.sum (2 ^ s.get Fld.SAR_SCAL_CTRL.AVG_LOG2))

section
variable {s : State} {m : Nat} (hcnt : 2 ^ s.get Fld.SAR_SCAL_CTRL.AVG_LOG2 ≤ s.aux.cnt)
include hcnt

theorem execSarScalPointDone_zero (hpoint : s.aux.scal = some (m, 0)) : execSarScalPointDone s = .next
    ((({ s.put Fld.SAR_SCAL_STAT.BUSY 0 with aux.scal := none, aux.zeroOf := some m } : State).put Fld.SAR_SCAL_N0.N0
      s.scalMean).put Fld.SAR_SCAL_STAT.DONE0 1) := by
  unfold execSarScalPointDone
  simp only [hpoint, Nat.not_lt.mpr hcnt, if_false, if_true]
  rfl

theorem execSarScalPointDone_fullScale (hpoint : s.aux.scal = some (m, 1)) : execSarScalPointDone s = .next
    ((({ s.put Fld.SAR_SCAL_STAT.BUSY 0 with aux.scal := none, aux.ready := true } : State).put Fld.SAR_SCAL_N1.N1
      s.scalMean).put Fld.SAR_SCAL_STAT.DONE1 1) := by
  unfold execSarScalPointDone
  simp only [hpoint, Nat.not_lt.mpr hcnt, if_false, one_ne_zero]
  rfl

end

/-! ## The sequences of the auxiliary converter (R242 to R248) -/

/-- A regular entry that is not the last stores its result, and the next entry starts. -/
theorem execAuxConversionDone_regular {s : State} {e : Nat} (code : Int) (hact : s.aux.act = .regular e)
    (hmore : e + 1 < (s.auxRegular (some e) (s.auxMux 0 e) code false).auxEntries 0) :
    execAuxConversionDone code false s =
      .next ((s.auxRegular (some e) (s.auxMux 0 e) code false).auxGo (.regular (e + 1))) := by
  unfold execAuxConversionDone
  simp only [hact, hmore, if_true]

section
variable {s : State} {u : PatUnit} (hu : s.unitAt cAUX 1 = some u) (hruns : s.auxRuns = true)
include hu hruns

/-- The injected sequence interrupts the regular one, which resumes at the entry it was in. -/
theorem execAuxInjectStart_regular {k : Nat} (hact : s.aux.act = .regular k) :
    execAuxInjectStart s = .next (({ s with aux.resume := .regular k } : State).auxGo (.injected 0)) := by
  unfold execAuxInjectStart
  simp [hu, hruns, hact]

/-- A start event while injected entries run is missed, counted and flagged. -/
theorem execAuxInjectStart_injected {k : Nat} (hact : s.aux.act = .injected k) : execAuxInjectStart s =
    .next (((s.sat Fld.SAR_INJ_CNT.MISS_CNT).uPut Fld.UNIT_STAT.CLASS_EVT 1 u.id).put Fld.SAR_STAT.INJ_MISS 1) := by
  unfold execAuxInjectStart
  simp [hu, hruns, hact]

end

/-! ## The statement -/

/-- Settles O22: each row that writes a register reaches that register's rule; a zero point starts by `State.scalStart_zero`; a
point that completes and the sequences are their rules in the case that the row names. -/
theorem converterRows : Obligations.ConverterRows := by
  unfold Obligations.ConverterRows
  refine ⟨fun s c m k v hopen hv => ⟨?filter, ?coefficients, ?modulators, ?scal, ?tdc⟩,
    fun s hbusy hruns hpoint hin => ?start, fun s m hcnt => ?point, fun s e code u => ?sequences⟩
  case filter => exact fun hc hf => ⟨exec_fltSyncReset hopen hc hf, exec_fltCntClr hopen hc hf⟩
  case coefficients => exact fun hm => ⟨exec_sarCoefWrite_gain hopen hm hv, exec_sarCoefWrite_offset hopen hm hv⟩
  case modulators => exact exec_sarModCntClr hopen
  case scal => exact exec_sarScalStart hopen v
  case tdc => exact fun hk => ⟨exec_tdcFlush hopen hk, exec_tdcCntClr hopen hk⟩
  case start =>
    obtain ⟨hframe, hregs⟩ := s.scalZeroOpen_busy_regsOnly (s.get Fld.SAR_SCAL_CTRL.INPUT)
    rw [State.scalStart_zero hbusy hruns hpoint hin]
    refine ⟨rfl, rfl, rfl, State.get_put_same _ 1 0 0 (by decide) (by decide), ?done1, ?frame, fun a ha => ?others⟩
    case done1 => exact (State.get_put_indep _ _ _ _ _ _ (by decide)).trans (s.done1_scalZeroOpen _)
    case frame => rw [hframe]
    case others => exact hregs a (by simpa using ha)
  case point => exact ⟨execSarScalPointDone_zero hcnt, execSarScalPointDone_fullScale hcnt⟩
  case sequences =>
    exact ⟨fun hact hmore hkept => execAuxConversionDone_regular code hact (hkept ▸ hmore),
      fun hu hruns _ => execAuxInjectStart_regular hu hruns, fun hu hruns _ => execAuxInjectStart_injected hu hruns⟩

end Sys2Proof.Machine
end

section
/-! PROOFS. The calibration and time commands (R314, R318, R323, R364): a new record of each, and its effect. -/

open Sys2Proof Sys2Proof.Machine

namespace Sys2Proof.Machine

/-! ## Signed words -/

theorem unsigned_lt (width : Nat) (x : Int) : unsigned width x < 2 ^ width := by
  have hpos : (0 : Int) < ((2 ^ width : Nat) : Int) := by exact_mod_cast Nat.two_pow_pos width
  have hnonneg := Int.emod_nonneg x hpos.ne'
  have hlt := Int.emod_lt_of_pos x hpos
  unfold unsigned
  omega

/-- A signed word that is not negative reads as it was written. -/
theorem signed_unsigned_of_nonneg {width : Nat} {x : Int} (h0 : 0 ≤ x) (hx : x < 2 ^ (width - 1)) :
    signed width (unsigned width x) = x := by
  lift x to Nat using h0
  have hhalf : x < 2 ^ (width - 1) := by exact_mod_cast hx
  have hfull : x < 2 ^ width := hhalf.trans_le (Nat.pow_le_pow_right (by decide) (Nat.sub_le width 1))
  have hword : unsigned width x = x := by
    rw [unsigned, ← Int.natCast_emod, Int.toNat_natCast, Nat.mod_eq_of_lt hfull]
  rw [hword, signed, Nat.mod_eq_of_lt hfull]
  exact if_pos hhalf

/-! ## A new record of a command from 0x30 to 0x6F -/

/-- A new record of a command in one of its states: the command's effect, then the answer. -/
theorem State.runCommand_mid {s t : State} {o : Origin} {op : Nat} {args : List Byte} {a : Answer} (h : s.fresh o = true)
    (hop : (decide (0x30 ≤ op) && decide (op < 0x70) && opKnown op) = true) (hstate : s.hubState ∈ opStates op)
    (hl : args.length ≤ 240) (h4 : args.length % 4 = 0) (hargs : argsOk op args = true)
    (heff : s.commandMid op args = (a, t)) : s.runCommand o op args = t.settle o op args s.hubState a := by
  simp only [Bool.and_eq_true, decide_eq_true_eq] at hop
  obtain ⟨⟨hlow, hhigh⟩, hknown⟩ := hop
  have hcmd : s.command op args o = (a, t) := by
    simp [State.command, hknown, State.inStates_of_mem hstate, Nat.not_lt.mpr hlow, hhigh, heff]
  rw [State.runCommand_fresh h (by omega) hl h4 hargs, hcmd]

/-! ## The effects of the calibration commands (R314, R318, R323) -/

/-- Without FORCE, and with no swap to wait for, the channel comes to the head of the schedule. -/
theorem State.calRunCmd_noSwap {s : State} {ch : Nat} (hch : ch < 100) (hbig : s.small = false) (hswap : s.cal.swap = none)
    (hunit : 96 ≤ ch ∨ (s.unitAt cINPUT ch).isSome = true) :
    s.calRunCmd ch =
      ({ status := 0 }, { s with cal.queue := (ch, false) :: s.cal.queue.filter fun q => q.1 != ch }) := by
  have hchannel : ch % 128 = ch := Nat.mod_eq_of_lt (by omega)
  have hforce : bit ch 8 = false := Nat.testBit_lt_two_pow (by omega)
  have hle : ¬ 99 < ch := by omega
  have hinput : (decide (ch < 96) && (s.unitAt cINPUT ch).isNone) = false := by
    rcases hunit with hmend | hsome
    · simp [Nat.not_lt.mpr hmend]
    · simp [Option.isNone_eq_false_iff.mpr hsome]
  have hshape : (decide (ch % 2 ^ 32 ≠ ch + 256 * b2n false) || decide (99 < ch) || (s.small && fusedChain ch)) = false := by
    simp [hle, hbig, b2n]
    omega
  simp only [State.calRunCmd, hchannel, hforce, hshape, hinput, hswap, Bool.false_and, Bool.false_eq_true, if_false]

/-- Before its measurement a swap is aborted at the channel's next own tick. -/
theorem State.calAbortCmd_queued {s : State} {w : Swap} (hw : s.cal.swap = some w) (hch : w.ch < 100)
    (hphase : s.cal.phase = .shadow ∨ s.cal.phase = .matchIn) :
    s.calAbortCmd w.ch = ({ status := 0 }, s.abortAt w 0xE) := by
  have hle : ¬ 99 < w.ch := by omega
  rcases hphase with hphase | hphase <;> simp [State.calAbortCmd, hle, hw, hphase]

/-- A measurement that is aborted is followed by the reconnection at the channel's next own tick. -/
theorem State.calAbortCmd_measure {s : State} {w : Swap} (hw : s.cal.swap = some w) (hch : w.ch < 100)
    (hphase : s.cal.phase = .measure) :
    s.calAbortCmd w.ch = ({ status := 0 }, s.calGo .measure (some { w with
      step := 99, due := some (s.nextOwn w.ch s.seq.frame), ended := none, result := 0xE })) := by
  have hle : ¬ 99 < w.ch := by omega
  simp [State.calAbortCmd, hle, hw, hphase]

/-- A measurement of a pod chain as it starts (R323). -/
def State.podStart (s : State) (chain range point : Nat) (t : Int) : PodPoint :=
  { chain := chain, range := range, point := point, t := t, sum := 0, words := 0, start := s.seq.frame, ovld := false }

theorem State.calPodCmd_idle {s : State} {chain range point : Nat} (t : Int) (hpod : s.cal.pod = none)
    (hbig : s.small = false) (hlow : 100 ≤ chain) (hhigh : chain ≤ 611) (hrange : range ≤ 3) (hpoint : point ≤ 1) :
    s.calPodCmd chain range point t =
      ({ status := 0 }, ({ s with cal.pod := some (s.podStart chain range point t) } : State).calShow) := by
  have hshape : (decide (chain < 100) || decide (611 < chain) || (s.small && fusedChain chain) || decide (3 < range)
      || decide (1 < point)) = false := by
    simp [hbig]
    omega
  simp only [State.calPodCmd, hshape, hpod, Option.isSome_none, Bool.false_eq_true, if_false, State.podStart]

/-! ## The effects of the time commands (R355, R364) -/

/-- Before the counter exists a root without PPS_IN takes a time of day. -/
theorem State.todCmd_root {s : State} {d sec ns : Nat} (hcounter : s.seq.counter = false) (hd : d < 2) (hsec : sec < 2 ^ 48)
    (hns : ns < 1000000000) (hroot : s.isRoot d = true) (hpps : s.ppsSrc d = false) :
    s.todCmd d sec ns =
      ({ status := 0 }, s.setDom d { s.dom d with t := { s := sec, ns := ns, frac := 0 }, todDone := true }) := by
  have hshape : (decide (1 < d) || decide (2 ^ 48 ≤ sec)) = false := by
    simp
    omega
  simp only [State.todCmd, hcounter, hshape, Nat.not_le.mpr hns, hroot, hpps, Bool.not_true, Bool.false_eq_true, if_false]

theorem tu_nonneg (t : TimeVal) : 0 ≤ tu t := Int.natCast_nonneg _

/-- A step forward by whole seconds waits for its tick. -/
theorem State.stepCmd_forward {s : State} {f flags : Nat} {dS : Int} (hcounter : s.seq.counter = true)
    (hfree : s.time.step = none) (hlate : s.seq.frame + 2 ≤ f) (hf : f < 2 ^ 48) (hflags : flags ≤ 1) (h0 : 0 ≤ dS)
    (hdS : dS < 2 ^ 47) (hl : tu s.time.l + dS * 1000000000 * 2 ^ 32 < 2 ^ 48 * 1000000000 * 2 ^ 32) :
    s.stepCmd f dS 0 flags = ({ status := 0 },
      (({ s with time.step := some { f := f, delta := dS * 1000000000 * 2 ^ 32, lOnly := flags == 1 } } : State).put
        Fld.TIM_STAT.STEP_PEND 1).put Fld.TIM_STEP_F_LO.FRAME_LO f) := by
  have hdelta : (dS * 1000000000 + 0) * 2 ^ 32 = dS * 1000000000 * 2 ^ 32 := by rw [Int.add_zero]
  have hshape : (decide (2 ^ 48 ≤ f) || decide (2 ^ 47 ≤ dS.natAbs) || decide (999999999 < (0 : Int).natAbs)
      || (decide (dS > 0) && decide ((0 : Int) < 0)) || (decide (dS < 0) && decide ((0 : Int) > 0)) || decide (1 < flags))
      = false := by
    simp
    omega
  have hrange : (decide (tu s.time.l + dS * 1000000000 * 2 ^ 32 < 0)
      || decide (2 ^ 48 * 1000000000 * 2 ^ 32 ≤ tu s.time.l + dS * 1000000000 * 2 ^ 32)) = false := by
    have hnow := tu_nonneg s.time.l
    simp
    omega
  have hplace : ¬ f < s.seq.frame + 2 := by omega
  simp only [State.stepCmd, hcounter, hfree, hdelta, hshape, hrange, hplace, ne_eq, not_true_eq_false, decide_false,
    Bool.false_and, Bool.or_false, Bool.not_true, Option.isSome_none, Bool.false_eq_true, if_false]

theorem State.selectCmd_later {s : State} {f mode : Nat} (hcounter : s.seq.counter = true) (hlate : s.seq.frame + 2 ≤ f)
    (hf : f < 2 ^ 48) (hmode : mode ≤ 2) :
    s.selectCmd f mode = ({ status := 0 }, { s with time.select := some (some f, mode) }) := by
  have hshape : (decide (2 < mode) || decide (2 ^ 48 ≤ f)) = false := by
    simp
    omega
  have hplace : ¬ f < s.seq.frame + 2 := by omega
  simp only [State.selectCmd, hshape, hcounter, hplace, Bool.not_true, Bool.false_eq_true, if_false]

theorem State.stepCancelCmd_pending {s : State} {x : TimeStep} (hcounter : s.seq.counter = true)
    (hx : s.time.step = some x) (hlate : s.seq.frame + 2 ≤ x.f) :
    s.stepCancelCmd = ({ status := 0 }, ({ s with time.step := none } : State).put Fld.TIM_STAT.STEP_PEND 0) := by
  simp [State.stepCancelCmd, hx, hcounter, hlate]

/-! ## The words of each command's arguments -/

section
variable (s : State)

theorem State.commandMid_calRun {ch : Nat} (hch : ch < 2 ^ 32) : s.commandMid 0x30 (leBytes 4 ch) = s.calRunCmd ch := by
  have hword : leAt (leBytes 4 ch) 0 4 = ch := leAt_leBytes_nil_of_lt (by omega)
  simp [State.commandMid, hword]

theorem State.commandMid_calAbort {ch : Nat} (hch : ch < 2 ^ 32) :
    s.commandMid 0x31 (leBytes 4 ch) = s.calAbortCmd ch := by
  have hword : leAt (leBytes 4 ch) 0 4 = ch := leAt_leBytes_nil_of_lt (by omega)
  simp [State.commandMid, hword]

theorem State.commandMid_calPodPoint {chain range point : Nat} {t : Int} (hchain : chain < 2 ^ 32) (hrange : range < 2 ^ 32)
    (hpoint : point < 2 ^ 32) (ht : signed 64 (unsigned 64 t) = t) :
    s.commandMid 0x32 (leBytes 4 chain ++ leBytes 4 range ++ leBytes 4 point ++ leBytes 8 (unsigned 64 t)) =
      s.calPodCmd chain range point t := by
  have hlt := unsigned_lt 64 t
  simp (disch := omega) [State.commandMid, leAt_skip, leAt_leBytes_of_lt, leAt_leBytes_nil_of_lt, ht]

theorem State.commandMid_timeSetTod {d sec ns : Nat} (hd : d < 2 ^ 32) (hsec : sec < 2 ^ 64) (hns : ns < 2 ^ 32) :
    s.commandMid 0x40 (leBytes 4 d ++ leBytes 8 sec ++ leBytes 4 ns) = s.todCmd d sec ns := by
  simp (disch := omega) [State.commandMid, leAt_skip, leAt_leBytes_of_lt, leAt_leBytes_nil_of_lt]

theorem State.commandMid_timeStep {f flags : Nat} {dS dNs : Int} (hf : f < 2 ^ 64) (hflags : flags < 2 ^ 32)
    (hdS : signed 64 (unsigned 64 dS) = dS) (hdNs : signed 32 (unsigned 32 dNs) = dNs) :
    s.commandMid 0x41 (leBytes 8 f ++ leBytes 8 (unsigned 64 dS) ++ leBytes 4 (unsigned 32 dNs) ++ leBytes 4 flags) =
      s.stepCmd f dS dNs flags := by
  have hlt := unsigned_lt 64 dS
  have hlt' := unsigned_lt 32 dNs
  simp (disch := omega) [State.commandMid, leAt_skip, leAt_leBytes_of_lt, leAt_leBytes_nil_of_lt, hdS, hdNs]

theorem State.commandMid_timeSelect {f mode : Nat} (hf : f < 2 ^ 64) (hmode : mode < 2 ^ 32) :
    s.commandMid 0x42 (leBytes 8 f ++ leBytes 4 mode) = s.selectCmd f mode := by
  simp (disch := omega) [State.commandMid, leAt_skip, leAt_leBytes_of_lt, leAt_leBytes_nil_of_lt]

theorem State.commandMid_timeStepCancel : s.commandMid 0x43 [] = s.stepCancelCmd := by
  simp [State.commandMid]

end

/-! ## The rows -/

section
variable {s : State} {o : Origin} (h : s.fresh o = true)
include h

theorem State.hubState_mem_all : s.hubState ∈ [stHeld, stArmed, stRun, stSafe, stMaint] :=
  List.contains_iff_mem.mp (State.inStates_all h)

theorem exec_calRun {ch : Nat} (hstate : s.hubState = stArmed ∨ s.hubState = stRun ∨ s.hubState = stMaint) (hch : ch < 100)
    (hbig : s.small = false) (hswap : s.cal.swap = none) (hunit : 96 ≤ ch ∨ (s.unitAt cINPUT ch).isSome = true) :
    exec (.calRun o ch) s = .next
      (({ s with cal.queue := (ch, false) :: s.cal.queue.filter fun q => q.1 != ch } : State).settle o 0x30 (leBytes 4 ch)
        s.hubState { status := 0 }) := by
  refine congrArg Host.Outcome.next (State.runCommand_mid h rfl ?state ?_ ?_ ?args ?effect)
  case state => simpa [opStates] using hstate
  case args => simp [argsOk, argLens]
  case effect => rw [State.commandMid_calRun s (by omega), State.calRunCmd_noSwap hch hbig hswap hunit]
  all_goals simp

/-- CAL_ABORT of a channel, with its effect known. -/
theorem exec_calAbort {t : State} {ch : Nat}
    (hstate : s.hubState = stArmed ∨ s.hubState = stRun ∨ s.hubState = stSafe ∨ s.hubState = stMaint) (hch : ch < 100)
    (heff : s.calAbortCmd ch = ({ status := 0 }, t)) :
    exec (.calAbort o ch) s = .next (t.settle o 0x31 (leBytes 4 ch) s.hubState { status := 0 }) := by
  refine congrArg Host.Outcome.next (State.runCommand_mid h rfl ?state ?_ ?_ ?args ?effect)
  case state => simpa [opStates] using hstate
  case args => simp [argsOk, argLens]
  case effect => rw [State.commandMid_calAbort s (by omega), heff]
  all_goals simp

theorem exec_calPodPoint {chain range point : Nat} {t : Int} (hstate : s.hubState = stArmed ∨ s.hubState = stRun)
    (hpod : s.cal.pod = none) (hbig : s.small = false) (hlow : 100 ≤ chain) (hhigh : chain ≤ 611) (hrange : range ≤ 3)
    (hpoint : point ≤ 1) (ht : signed 64 (unsigned 64 t) = t) :
    exec (.calPodPoint o chain range point t) s = .next
      ((({ s with cal.pod := some (s.podStart chain range point t) } : State).calShow).settle o 0x32
        (leBytes 4 chain ++ leBytes 4 range ++ leBytes 4 point ++ leBytes 8 (unsigned 64 t)) s.hubState { status := 0 }) := by
  refine congrArg Host.Outcome.next (State.runCommand_mid h rfl ?state ?_ ?_ ?args ?effect)
  case state => simpa [opStates] using hstate
  case args => simp [argsOk, argLens]
  case effect =>
    rw [State.commandMid_calPodPoint s (by omega) (by omega) (by omega) ht,
      State.calPodCmd_idle t hpod hbig hlow hhigh hrange hpoint]
  all_goals simp

theorem exec_timeSetTod {d sec ns : Nat} (hstate : s.hubState = stHeld ∨ s.hubState = stArmed ∨ s.hubState = stMaint)
    (hcounter : s.seq.counter = false) (hd : d < 2) (hsec : sec < 2 ^ 48) (hns : ns < 1000000000) (hroot : s.isRoot d = true)
    (hpps : s.ppsSrc d = false) :
    exec (.timeSetTod o d sec ns) s = .next
      ((s.setDom d { s.dom d with t := { s := sec, ns := ns, frac := 0 }, todDone := true }).settle o 0x40
        (leBytes 4 d ++ leBytes 8 sec ++ leBytes 4 ns) s.hubState { status := 0 }) := by
  refine congrArg Host.Outcome.next (State.runCommand_mid h rfl ?state ?_ ?_ ?args ?effect)
  case state => simpa [opStates] using hstate
  case args => simp [argsOk, argLens]
  case effect =>
    rw [State.commandMid_timeSetTod s (by omega) (by omega) (by omega),
      State.todCmd_root hcounter hd hsec hns hroot hpps]
  all_goals simp

theorem exec_timeStep {f flags : Nat} {dS : Int} (hcounter : s.seq.counter = true) (hfree : s.time.step = none)
    (hlate : s.seq.frame + 2 ≤ f) (hf : f < 2 ^ 48) (hflags : flags ≤ 1) (h0 : 0 ≤ dS) (hdS : dS < 2 ^ 47)
    (hl : tu s.time.l + dS * 1000000000 * 2 ^ 32 < 2 ^ 48 * 1000000000 * 2 ^ 32) :
    exec (.timeStep o f dS 0 flags) s = .next
      (((({ s with time.step := some { f := f, delta := dS * 1000000000 * 2 ^ 32, lOnly := flags == 1 } } : State).put
        Fld.TIM_STAT.STEP_PEND 1).put Fld.TIM_STEP_F_LO.FRAME_LO f).settle o 0x41
        (leBytes 8 f ++ leBytes 8 (unsigned 64 dS) ++ leBytes 4 (unsigned 32 0) ++ leBytes 4 flags) s.hubState
        { status := 0 }) := by
  have hword : signed 64 (unsigned 64 dS) = dS := signed_unsigned_of_nonneg h0 (by omega)
  refine congrArg Host.Outcome.next (State.runCommand_mid h rfl (State.hubState_mem_all h) ?_ ?_ ?args ?effect)
  case args => simp [argsOk, argLens]
  case effect =>
    rw [State.commandMid_timeStep s (by omega) (by omega) hword (signed_unsigned_of_nonneg (by decide) (by decide)),
      State.stepCmd_forward hcounter hfree hlate hf hflags h0 hdS hl]
  all_goals simp

theorem exec_timeSelect {f mode : Nat} (hcounter : s.seq.counter = true) (hlate : s.seq.frame + 2 ≤ f) (hf : f < 2 ^ 48)
    (hmode : mode ≤ 2) :
    exec (.timeSelect o f mode) s = .next (({ s with time.select := some (some f, mode) } : State).settle o 0x42
      (leBytes 8 f ++ leBytes 4 mode) s.hubState { status := 0 }) := by
  refine congrArg Host.Outcome.next (State.runCommand_mid h rfl (State.hubState_mem_all h) ?_ ?_ ?args ?effect)
  case args => simp [argsOk, argLens]
  case effect =>
    rw [State.commandMid_timeSelect s (by omega) (by omega), State.selectCmd_later hcounter hlate hf hmode]
  all_goals simp

theorem exec_timeStepCancel {x : TimeStep} (hcounter : s.seq.counter = true) (hx : s.time.step = some x)
    (hlate : s.seq.frame + 2 ≤ x.f) :
    exec (.timeStepCancel o) s = .next ((({ s with time.step := none } : State).put Fld.TIM_STAT.STEP_PEND 0).settle o 0x43 []
      s.hubState { status := 0 }) :=
  congrArg Host.Outcome.next (State.runCommand_mid h rfl (State.hubState_mem_all h) (Nat.zero_le _) rfl rfl
    ((State.commandMid_timeStepCancel s).trans (State.stepCancelCmd_pending hcounter hx hlate)))

end

/-- Settles O40: each command is a new record in one of its states, its arguments are read back as they were written, and its
effect is that of its row. -/
theorem calibrationAndTimeCommandRows : Obligations.CalibrationAndTimeCommandRows := by
  unfold Obligations.CalibrationAndTimeCommandRows
  intro s o h
  refine ⟨fun hstate ch hch hbig hswap hunit => exec_calRun h hstate hch hbig hswap hunit,
    fun hstate w hw hch => ⟨fun hphase => ?queued, fun hphase => ?measure⟩,
    fun hstate hpod hbig chain range point t hlow hhigh hrange hpoint ht =>
      exec_calPodPoint h hstate hpod hbig hlow hhigh hrange hpoint ht,
    fun hstate hcounter d sec ns hd hsec hns hroot hpps => exec_timeSetTod h hstate hcounter hd hsec hns hroot hpps,
    fun hcounter hfree f dS flags hlate hf hflags h0 hdS hl => exec_timeStep h hcounter hfree hlate hf hflags h0 hdS hl,
    fun hcounter f mode hlate hf hmode => exec_timeSelect h hcounter hlate hf hmode,
    fun hcounter x hx hlate => exec_timeStepCancel h hcounter hx hlate⟩
  case queued => exact exec_calAbort h hstate hch (State.calAbortCmd_queued hw hch hphase)
  case measure => exact exec_calAbort h hstate hch (State.calAbortCmd_measure hw hch hphase)

end Sys2Proof.Machine
end

section
/-! PROOFS. Calibration rows: coefficient writes (R300, R301, R319), the ends of steps and matches (R304, R311), wire breaks (R218,
R221, R314) and pod points (R323). -/

open Sys2Proof Sys2Proof.Machine

namespace Sys2Proof.Machine

/-! ## Coefficient writes and CAL_CTRL (R300, R301, R319) -/

theorem tabGet?_set {α : Type} (t : Tab α) (k j : Nat) (v : α) :
    tabGet? (tabSet t k v) j = if j = k then some v else tabGet? t j := by
  induction t with
  | nil => simp [tabSet, tabGet?, eq_comm]
  | cons e t ih =>
    obtain ⟨i, w⟩ := e
    obtain hlt | rfl | hgt := Nat.lt_trichotomy k i
    · simp [tabSet, tabGet?, hlt, eq_comm]
    · by_cases hj : k = j
      · simp [tabSet, tabGet?, hj]
      · simp [tabSet, tabGet?, hj, Ne.symm hj]
    · have hpast : tabSet ((i, w) :: t) k v = (i, w) :: tabSet t k v := by
        simp [tabSet, Nat.lt_asymm hgt, hgt.ne']
      by_cases hj : i = j
      · subst hj
        simp [hpast, tabGet?, hgt.ne]
      · simp [hpast, tabGet?, hj, ih]

/-- A read of a coefficient word shows the staged value (R300). -/
theorem State.readCoef_stageCoef (s : State) (c off v : Nat) : (s.stageCoef c off v).readCoef c off = v % 2 ^ 32 := by
  have hstaged : tabGet? (s.stageCoef c off v).cal.staged (64 * c + off) = some (BitVec.ofNat 32 v) := by
    simp [State.stageCoef, tabGet?_set]
  rw [State.readCoef, hstaged]
  exact BitVec.toNat_ofNat v 32

section
variable {s : State} {c off : Nat} (v : Nat) (hopen : s.mapOpen = true) (hc : c < 100) (h4 : off % 4 = 0)
include hopen hc h4

theorem exec_calCoefWrite : exec (.calCoefWrite c off v) s = .next (s.wrCoef c off v 5) := by
  have hchain : c < 612 := by omega
  show execCalCoefWrite c off v s = _
  simp [execCalCoefWrite, hopen, hchain, h4]

variable (hoff : off < 32)
include hoff

theorem exec_calCoefWrite_staged (hfree : s.inSwap c = false) :
    exec (.calCoefWrite c off v) s = .next ((s.stageCoef c off v).put Fld.CAL_CHc_RESULT.SOURCE 5 c) := by
  have hlast : ¬ 36 < off := by omega
  have hdelay : off ≠ 32 := by omega
  have hvalid : off ≠ 36 := by omega
  rw [exec_calCoefWrite v hopen hc h4]
  simp [State.wrCoef, hlast, hdelay, hvalid, hfree, hc]

theorem exec_calCoefWrite_dropped (hswap : s.inSwap c = true) :
    exec (.calCoefWrite c off v) s = .next (s.put Fld.CAL_STAT.WR_DROP 1) := by
  have hlast : ¬ 36 < off := by omega
  have hdelay : off ≠ 32 := by omega
  rw [exec_calCoefWrite v hopen hc h4]
  simp [State.wrCoef, hlast, hdelay, hswap]

end

/-- A write of a register without locked fields stores what the access codes leave (R5). -/
theorem State.writeByCode_unlocked (s : State) {r : RegDef} (v i j : Nat) (hrwl : r.rwl = 0) :
    s.writeByCode r v i j =
      s.wr r (writeCodes r (s.hubState == stRun) (s.rd r i j) (BitVec.ofNat 32 v)) i j := by
  simp [State.writeByCode, State.when, hrwl]

/-- A field of one bit is that bit of its word. -/
theorem getBits_one (w : Word) (l : Nat) : getBits w l 1 = b2n (w.getLsbD l) := by
  have hbit : w.extractLsb' l 1 = BitVec.ofBool (w.getLsbD l) := by
    apply BitVec.eq_of_getLsbD_eq
    intro k hk
    obtain rfl : k = 0 := by omega
    simp
  rw [getBits, hbit]
  cases w.getLsbD l <;> rfl

theorem State.suspend_wrCalCtrl (s : State) (on : Bool) : (s.wrCalCtrl (b2n on)).get Fld.CAL_CTRL.SUSPEND = b2n on := by
  have hword : (s.wrCalCtrl (b2n on)).rd Reg.CAL_CTRL =
      writeCodes Reg.CAL_CTRL (s.hubState == stRun) (s.rd Reg.CAL_CTRL) (BitVec.ofNat 32 (b2n on)) := by
    rw [State.wrCalCtrl, State.writeByCode_unlocked _ _ _ _ rfl, State.rd_wr_same _ _ _ _ _ (by decide)]
  have hfield : (s.wrCalCtrl (b2n on)).get Fld.CAL_CTRL.SUSPEND = getBits ((s.wrCalCtrl (b2n on)).rd Reg.CAL_CTRL) 0 1 := rfl
  have hcode : Reg.CAL_CTRL.rw.testBit 0 = true := rfl
  have hset : Reg.CAL_CTRL.w1s = 0 := rfl
  have hclear : Reg.CAL_CTRL.w1c = 0 := rfl
  rw [hfield, hword, getBits_one, getLsbD_writeCodes _ _ _ _ (by decide), hcode, hset, hclear]
  cases on <;> rfl

theorem State.wrCalCtrl_regsOnly (s : State) (v : Nat) : RegsOnly [Reg.CAL_CTRL.base] s (s.wrCalCtrl v) := by
  rw [State.wrCalCtrl, State.writeByCode_unlocked _ _ _ _ rfl]
  exact State.wr_regsOnly _ _ _ _ _

theorem exec_calCtrlSuspend {s : State} (on : Bool) (hopen : s.mapOpen = true) :
    exec (.calCtrlSuspend on) s = .next (s.wrCalCtrl (b2n on)) := by
  show execCalCtrlSuspend on s = _
  simp [execCalCtrlSuspend, hopen]

/-! ## The ends of steps and matches (R304, R311) -/

section
variable {s : State} {w : Swap} (hw : s.cal.swap = some w)
include hw

theorem execCalStepEnd_complete {ch : Nat} (edge : Int) (hbus : s.onBus = some ch) (hfed : s.stepLen w ≤ w.fed) :
    execCalStepEnd edge s = .next { s with cal.swap := some { w with ended := some edge } } := by
  simp [execCalStepEnd, hbus, hw, Nat.not_lt.mpr hfed]

variable (hpassed : w.passed = false) (hdue : w.due = none) (hlimit : s.matchLimit w.ch ≤ w.ticks)
include hpassed hdue hlimit

theorem execMatchTimeout_matchIn (hphase : s.cal.phase = .matchIn) : execMatchTimeout s = .next (s.abortAt w 9) := by
  simp [execMatchTimeout, hw, hpassed, hdue, Nat.not_lt.mpr hlimit, hphase]

theorem execMatchTimeout_matchBack (hphase : s.cal.phase = .matchBack) (happlied : w.applied = true) :
    execMatchTimeout s = .next (s.calGo .matchBack
      (some { w with result := 0xA, due := some (s.nextOwn w.ch s.seq.frame) })) := by
  simp [execMatchTimeout, hw, hpassed, hdue, Nat.not_lt.mpr hlimit, hphase, happlied]

end

/-! ## What the log's staging and a unit's event leave of the registers below their blocks -/

/-- The whole family stands below the blocks of the silt log and of the units' status. -/
def RegDef.belowLog (r : RegDef) : Bool := decide (r.base + r.s1 * (r.n1 - 1) + r.s2 * (r.n2 - 1) < 0x280000)

section
variable (s : State) {g : Field} (a b : Nat) (hg : g.reg.belowLog = true)
include hg

theorem State.get_put_log {f : Field} (v i j : Nat) (hf : 0x280000 ≤ f.reg.base) :
    (s.put f v i j).get g a b = s.get g a b := by
  have hbelow : g.reg.base + g.reg.s1 * (g.reg.n1 - 1) + g.reg.s2 * (g.reg.n2 - 1) < 0x280000 := of_decide_eq_true hg
  have hapart : f.reg.disjoint g.reg = true := by
    rw [RegDef.disjoint, decide_eq_true (p := _ < f.reg.base) (hbelow.trans_le hf), Bool.or_true, Bool.true_or]
  exact State.get_wr_disjoint _ _ _ _ _ _ hapart

theorem State.get_sat_log {f : Field} (k i j : Nat) (hf : 0x280000 ≤ f.reg.base) :
    (s.sat f k i j).get g a b = s.get g a b := s.get_put_log a b hg _ i j hf

theorem State.get_uPut (f : Field) (v id : Nat) (hf : 0x280000 ≤ f.reg.base) : (s.uPut f v id).get g a b = s.get g a b := by
  have hbelow : g.reg.base + g.reg.s1 * (g.reg.n1 - 1) + g.reg.s2 * (g.reg.n2 - 1) < 0x280000 := of_decide_eq_true hg
  unfold State.get State.rd
  split
  · next hhas =>
    obtain ⟨-, hle⟩ := RegDef.at_le hhas
    have hne : g.reg.at a b ≠ f.reg.base + unitBlock id := by omega
    have hword : tabGet (s.uPut f v id).regs 0 (g.reg.at a b) = tabGet s.regs 0 (g.reg.at a b) := by
      unfold State.uPut
      dsimp only
      split
      · split
        · exact (tabGet_erase _ _ _ _).trans (if_neg hne)
        · exact (tabGet_set _ _ _ _ _).trans (if_neg hne)
      · rfl
    rw [hword]
  · rfl

theorem State.get_setJob (e : SiltEvent) (copies : List Bool) : (s.setJob e copies).get g a b = s.get g a b :=
  (State.get_put_log _ a b hg _ _ _ (by decide)).trans (s.get_sat_log a b hg _ _ _ (by decide))

theorem State.get_startLogFull : s.startLogFull.get g a b = s.get g a b := s.get_setJob a b hg _ _

theorem State.get_startRecord (e : SiltEvent) : (s.startRecord e).get g a b = s.get g a b := by
  unfold State.startRecord
  dsimp only
  split
  · exact s.get_setJob a b hg _ _
  · split
    · exact s.get_setJob a b hg _ _
    · split
      · rfl
      · exact (State.get_startLogFull _ a b hg).trans (s.get_sat_log a b hg _ _ _ (by decide))

theorem State.get_suppress (cls t : Nat) : (s.suppress cls t).get g a b = s.get g a b :=
  State.get_sat_log _ a b hg _ _ _ (by decide)

theorem State.get_fifoLevel : s.fifoLevel.get g a b = s.get g a b :=
  (State.get_when _ _ _ _ _ _ fun t => t.get_put_log a b hg _ _ _ (by decide)).trans
    (s.get_put_log a b hg _ _ _ (by decide))

theorem State.get_stage_below (code : Nat) (data : List Byte) : (s.stage code data).get g a b = s.get g a b := by
  unfold State.stage
  dsimp only
  split
  · exact s.get_suppress a b hg _ _
  · generalize hu : s.when _ _ = u
    have hdrop : u.get g a b = s.get g a b :=
      hu ▸ State.get_when _ _ _ _ _ _ fun t => t.get_sat_log a b hg _ _ _ (by decide)
    rw [← hdrop]
    split
    · rfl
    · split
      · exact u.get_startRecord a b hg _
      · split
        · exact State.get_fifoLevel _ a b hg
        · exact u.get_suppress a b hg _ _

theorem State.get_classEvt (id : Nat) : (s.classEvt id).get g a b = s.get g a b :=
  (State.get_uPut _ a b hg _ _ _ (by decide)).trans (s.get_uPut a b hg _ _ _ (by decide))

end

/-! ## A wire break is confirmed (R218, R221, R314) -/

/-- The registers of a channel after the confirmation of a wire break, before its record and its unit's event. -/
def State.breakShown (s : State) (n cause : Nat) : State :=
  let s := s.put Fld.AFE_CHn_STAT.WB_CONF 1 n
  let s := (s.put Fld.AFE_CHn_STAT.RECOVERING 0 n).setChan n { s.chan n with clean := 0 }
  let f := s.seq.frame + b2n ((s.chan n).atFt && s.seq.counter)
  let s := (s.put Fld.AFE_CHn_WB_LO.FRAME_LO f n).put Fld.AFE_CHn_WB_HI.FRAME_HI (f / 2 ^ 32) n
  let s := s.put Fld.AFE_CHn_WB_HI.CAUSE cause n
  let s := s.when (cause == 3 || cause == 4) (·.put Fld.AFE_CHn_STAT.FALLBACK_4W 1 n)
  s.put Fld.AFE_CHn_EVT.WB 1 n

theorem State.get_confirmBreak (s : State) (n cause : Nat) {g : Field} (a b : Nat) (hg : g.reg.belowLog = true) :
    (s.confirmBreak n cause).get g a b = (s.breakShown n cause).get g a b := by
  have hrecord := (s.breakShown n cause).get_stage_below a b hg 0x0701 (leBytes 1 n ++ leBytes 1 cause)
  unfold State.confirmBreak
  dsimp only
  split
  · exact (State.get_classEvt _ a b hg _).trans hrecord
  · exact hrecord

theorem State.breakShown_fields (s : State) {n : Nat} (cause : Nat) (hn : n < 100) :
    (s.breakShown n cause).get Fld.AFE_CHn_STAT.WB_CONF n = 1 ∧
    (s.breakShown n cause).get Fld.AFE_CHn_WB_HI.CAUSE n = cause % 16 ∧
    (s.breakShown n cause).get Fld.AFE_CHn_EVT.WB n = 1 := by
  have hcause : ∀ t : State, (t.put Fld.AFE_CHn_WB_HI.CAUSE cause n).get Fld.AFE_CHn_WB_HI.CAUSE n = cause % 16 :=
    fun t => t.get_put_same cause n 0 (by decide) (by simp [RegDef.has, Fld.AFE_CHn_WB_HI.CAUSE, Reg.AFE_CHn_WB_HI, hn])
  simp +decide [State.breakShown, State.get_when, State.get_put_indep, State.get_setChan, State.get_put_channelFlag, hn,
    hcause]

theorem State.confirmBreak_fields (s : State) {n : Nat} (cause : Nat) (hn : n < 100) :
    (s.confirmBreak n cause).is Fld.AFE_CHn_STAT.WB_CONF n = true ∧
    (s.confirmBreak n cause).get Fld.AFE_CHn_WB_HI.CAUSE n = cause % 16 ∧
    (s.confirmBreak n cause).is Fld.AFE_CHn_EVT.WB n = true := by
  obtain ⟨hconf, hcause, hevent⟩ := s.breakShown_fields cause hn
  simp +decide only [State.is, State.get_confirmBreak, hconf, hcause, hevent, and_self]

theorem State.wireBreak_first {s : State} {n cause : Nat} {more : List Nat} (hfirst : s.confirmable n = cause :: more)
    (hnew : s.is Fld.AFE_CHn_STAT.WB_CONF n = false) : s.wireBreak n = s.confirmBreak n cause := by
  simp [State.wireBreak, hfirst, hnew]

theorem execWireBreakConfirm_first {s : State} {n cause : Nat} {more : List Nat} (hn : n < 100)
    (hfirst : s.confirmable n = cause :: more) (hnew : s.is Fld.AFE_CHn_STAT.WB_CONF n = false) :
    execWireBreakConfirm n s = .next ((s.confirmBreak n cause).calWireBreak n) := by
  simp [execWireBreakConfirm, State.wireBreak_first hfirst hnew, hnew, (s.confirmBreak_fields cause hn).1]

/-! ## System calibration points of a pod chain (R323) -/

section
variable {s : State} {p : PodPoint} (hp : s.cal.pod = some p)
include hp

theorem execCalPodPointDone_overload (hwords : s.podN ≤ p.words) (hovld : p.ovld = true) :
    execCalPodPointDone s = .next (s.podResult p.chain 2) := by
  simp [execCalPodPointDone, hp, Nat.not_lt.mpr hwords, hovld]

/-- The first of two points keeps its mean. -/
theorem execCalPodPointDone_first (hwords : s.podN ≤ p.words) (hovld : p.ovld = false) (hzero : p.point = 0)
    (hother : tabGet? s.cal.podMeans (podKey p.chain p.range 1) = none) :
    let means := tabSet s.cal.podMeans (podKey p.chain p.range 0) { t := p.t, sum := p.sum, n := p.words }
    execCalPodPointDone s = .next (({ s with cal.pod := none, cal.podMeans := means } : State).calShow) := by
  intro means
  have hkeys : podKey p.chain p.range 1 ≠ podKey p.chain p.range 0 := by simp [podKey]
  simp only [execCalPodPointDone, hp, Nat.not_lt.mpr hwords, hovld, hzero, Bool.false_eq_true, if_false, if_true, tabGet?_set,
    hkeys, hother, means]

theorem execCalPodPointTimeout_late (hwords : p.words < s.podN) (hlate : 16 * s.podN ≤ (s.seq.frame - p.start) * s.nPer) :
    execCalPodPointTimeout s = .next (s.podResult p.chain 2) := by
  simp [execCalPodPointTimeout, hp, hwords, hlate]

end

/-! ## The statement -/

/-- Settles O23: each row is its rule in the case that the row names; what the confirmation of a wire break shows passes its
record and its unit's event. -/
theorem calibrationRows : Obligations.CalibrationRows := by
  unfold Obligations.CalibrationRows
  refine ⟨fun s c off v on hopen hc hoff h4 => ⟨fun hfree => ?staged, fun hswap => ?dropped, ?suspend⟩,
    fun s w edge hw => ⟨fun ch hbus hfed => ?step, fun hpassed hdue hlimit hphase => ?matchIn,
      fun hpassed hdue hlimit hphase happlied => ?matchBack⟩,
    fun s ch cause more hch hfirst hnew => ?wireBreak, fun s p hp => ⟨?overload, ?first, ?late⟩⟩
  case staged => exact ⟨exec_calCoefWrite_staged v hopen hc h4 hoff hfree, s.readCoef_stageCoef c off v⟩
  case dropped => exact exec_calCoefWrite_dropped v hopen hc h4 hoff hswap
  case suspend => exact ⟨_, exec_calCtrlSuspend on hopen, s.suspend_wrCalCtrl on, s.wrCalCtrl_regsOnly _⟩
  case step => exact execCalStepEnd_complete hw edge hbus hfed
  case matchIn =>
    have habort := execMatchTimeout_matchIn hw hpassed hdue hlimit hphase
    rw [State.abortAt, hphase] at habort
    exact habort
  case matchBack => exact execMatchTimeout_matchBack hw hpassed hdue hlimit hphase happlied
  case wireBreak =>
    exact ⟨execWireBreakConfirm_first (by omega) hfirst hnew, s.confirmBreak_fields cause (by omega)⟩
  case overload => exact execCalPodPointDone_overload hp
  case first => exact execCalPodPointDone_first hp
  case late => exact execCalPodPointTimeout_late hp

end Sys2Proof.Machine
end

section
/-! PROOFS. One edge of the time clock (R328, R329; log entry 21): the step of a hub with an empty queue. -/

open Sys2Proof Sys2Proof.Machine

namespace Sys2Proof.Machine

theorem step_empty {s : State} (h : s.pending = []) : step s = .next s.clockEdge := by
  simp only [step, h]

/-- An edge moves L, its increment, both domain counters and operating time, and then shows whether L slews. With no domain to
follow L keeps its increment. -/
theorem State.clockEdge_eq (s : State) : ∃ (l : TimeVal) (incL slewing : Nat),
    s.clockEdge = ({ s with
      time.l := l, time.incL := incL, silt.opNs := s.silt.opNs + 2
      time.doms := [{ s.dom 0 with t := addTu (s.dom 0).t (s.dom 0).inc },
        { s.dom 1 with t := addTu (s.dom 1).t (s.dom 1).inc }] } : State).put Fld.TIM_STAT.SLEWING slewing ∧
    (s.time.follow = none → l = addTu s.time.l s.time.incL) := by
  refine ⟨_, _, _, rfl, fun hfollow => ?_⟩
  simp only [hfollow]

/-- Settles O2: the step is one edge of the clock, whose parts `State.clockEdge_eq` lists and whose one put is SLEWING. -/
theorem emptyQueueStepIsOneClockEdge : Obligations.EmptyQueueStepIsOneClockEdge := by
  intro s hempty
  obtain ⟨l, incL, slewing, hedge, hl⟩ := s.clockEdge_eq
  refine ⟨s.clockEdge, step_empty hempty, ?_⟩
  rw [hedge]
  refine ⟨by simp, by simp, fun hfollow => ?l, ?frame, fun a ha => ?registers⟩
  case l => simpa using hl hfollow
  case frame =>
    rw [State.put_time]
    exact State.put_frame _ _ _ _ _
  case registers =>
    exact (State.put_regsOnly _ Fld.TIM_STAT.SLEWING slewing 0 0).2 a fun hmem => ha (List.mem_singleton.mp hmem)

end Sys2Proof.Machine
end

section
/-! PROOFS. The time unit's control registers and pins: writes of the TIM and TDC blocks (R329, R344, R358, R369, R727), IRQ_N,
TIME_IN and TIME_OUT (R358 to R361). -/

open Sys2Proof Sys2Proof.Machine

namespace Sys2Proof.Machine

/-! ## Writes of the TIM and TDC blocks -/

/-- A register of the TIM or TDC block that stands alone at its offset and is never fused. -/
def RegDef.timeRegister (r : RegDef) : Bool :=
  (decide (0 < r.n1) && regAt (r.at 0 0) == some (r, 0, 0) && r.at 0 0 % 4 == 0 && !inMbx (r.at 0 0) && !inMsix (r.at 0 0)
    && decide (r.at 0 0 < 0x400000)) && !fusedReg r 0 && decide (0x40000 ≤ r.base) && decide (r.base < 0x60000)

/-- A write of such a register, while the map responds, is that of its block. -/
theorem State.writeAt_time {s : State} (p : Path) {r : RegDef} {v : Nat} (h : s.mapOpen = true) (hr : r.timeRegister = true)
    (hv : v < 2 ^ 32) : s.writeAt p r 0 v = s.writeTime r 0 0 v := by
  rw [RegDef.timeRegister, Bool.and_eq_true, Bool.and_eq_true, Bool.and_eq_true, Bool.not_eq_true', decide_eq_true_eq,
    decide_eq_true_eq] at hr
  obtain ⟨⟨⟨halone, hfused⟩, hlo⟩, hhi⟩ := hr
  have hopen : s.fused r 0 = false := by rw [State.fused, hfused, Bool.and_false]
  rw [State.writeAt_one h halone, Nat.mod_eq_of_lt hv]
  simp [State.writeReg, hopen, Nat.not_lt.mpr hlo, hhi]

/-! ## Increments and corrections in host mode (R329, R344) -/

/-- HOST of a domain. -/
def hostMode (d : Nat) : Field := ab d Fld.TIM_SERVO_CTRL.HOST_A Fld.TIM_SERVO_CTRL.HOST_B

/-- The low word of a domain's increment. -/
def incFrac (d : Nat) : Field := ab d Fld.TIM_INC_A_LO.FRAC Fld.TIM_INC_B_LO.FRAC

theorem incFrac_indep_hostMode (d : Nat) : (incFrac d).indep (hostMode d) = true := by
  unfold incFrac hostMode ab
  split <;> decide

/-- A low word of an increment shows what was put there. -/
theorem State.get_put_incFrac (s : State) (d v : Nat) : (s.put (incFrac d) v).get (incFrac d) = v % 2 ^ 32 := by
  unfold incFrac ab
  split <;> exact State.get_put_same _ v 0 0 (by decide) (by decide)

theorem State.doms_setInc (s : State) (d inc : Nat) :
    (s.setInc d inc).time.doms = s.time.doms.set d { s.dom d with inc := inc } := by
  simp [State.setInc, State.showInc, State.setDom]

theorem State.frac_setInc (s : State) (d inc : Nat) : (s.setInc d inc).get (incFrac d) = inc % 2 ^ 32 := by
  have hapart : (ab d Fld.TIM_INC_A_HI.INT Fld.TIM_INC_B_HI.INT).indep (incFrac d) = true := by
    unfold incFrac ab
    split <;> decide
  exact (State.get_put_indep _ _ _ _ _ _ hapart).trans (State.get_put_incFrac _ d inc)

section
variable {s : State} {d : Nat}

theorem State.wrAdj_host (v : Nat) (hhost : s.is (hostMode d) = true) :
    s.wrAdj d v = s.setDom d { s.dom d with t := addTu (s.dom d).t (signed 32 v * 2 ^ 32) } := by
  rw [hostMode] at hhost
  simp [State.wrAdj, hhost]

theorem State.wrInc_low (v : Nat) (hhost : s.is (hostMode d) = true) : s.wrInc d false v = s.put (incFrac d) v := by
  rw [hostMode] at hhost
  simp [State.wrInc, hhost, incFrac]

/-- The high word applies both words where they are within the clamp. -/
theorem State.wrInc_high {inc : Nat} (hhost : s.is (hostMode d) = true) (hlow : s.get (incFrac d) = inc % 2 ^ 32)
    (hclamp : incClamp (inc : Nat) = inc) (hinc : inc < 2 ^ 40) : s.wrInc d true (inc / 2 ^ 32) = s.setInc d inc := by
  have hword : inc / 2 ^ 32 % 256 * 2 ^ 32 + inc % 2 ^ 32 = inc := by omega
  rw [hostMode] at hhost
  rw [incFrac] at hlow
  simp only [State.wrInc, hhost, hlow, hword, hclamp, bne_self_eq_false, Bool.not_true, Bool.false_eq_true, if_false]
  rfl

variable (h : s.mapOpen = true) (hd : d < 2)
include h hd

theorem State.writeAt_incLow {v : Nat} (hv : v < 2 ^ 32) :
    s.writeAt .pcie (if d = 0 then Reg.TIM_INC_A_LO else Reg.TIM_INC_B_LO) 0 v = s.wrInc d false v := by
  have hreg : (if d = 0 then Reg.TIM_INC_A_LO else Reg.TIM_INC_B_LO).timeRegister = true := by split <;> decide
  rw [State.writeAt_time .pcie h hreg hv]
  obtain rfl | rfl : d = 0 ∨ d = 1 := by omega
  all_goals simp +decide [State.writeTime]

theorem State.writeAt_incHigh {v : Nat} (hv : v < 2 ^ 32) :
    s.writeAt .pcie (if d = 0 then Reg.TIM_INC_A_HI else Reg.TIM_INC_B_HI) 0 v = s.wrInc d true v := by
  have hreg : (if d = 0 then Reg.TIM_INC_A_HI else Reg.TIM_INC_B_HI).timeRegister = true := by split <;> decide
  rw [State.writeAt_time .pcie h hreg hv]
  obtain rfl | rfl : d = 0 ∨ d = 1 := by omega
  all_goals simp +decide [State.writeTime]

variable (hhost : s.is (hostMode d) = true)
include hhost

theorem exec_timAdjWrite {v : Nat} (hv : v < 2 ^ 32) : exec (.timAdjWrite d v) s =
    .next (s.setDom d { s.dom d with t := addTu (s.dom d).t (signed 32 v * 2 ^ 32) }) := by
  rw [← State.wrAdj_host v hhost]
  obtain rfl | rfl : d = 0 ∨ d = 1 := by omega
  all_goals exact congrArg Host.Outcome.next (State.writeAt_time .pcie h (by decide) hv)

theorem exec_timIncWrite {inc : Nat} (hclamp : incClamp (inc : Nat) = inc) (hinc : inc < 2 ^ 40) :
    exec (.timIncWrite d inc) s = .next ((s.put (incFrac d) (inc % 2 ^ 32)).setInc d inc) := by
  have hhost' : (s.put (incFrac d) (inc % 2 ^ 32)).is (hostMode d) = true := by
    rw [State.is, State.get_put_indep _ _ _ _ _ _ (incFrac_indep_hostMode d)]
    exact hhost
  have hlow : (s.put (incFrac d) (inc % 2 ^ 32)).get (incFrac d) = inc % 2 ^ 32 := by
    rw [State.get_put_incFrac, Nat.mod_mod]
  have hopen : (s.wrInc d false (inc % 2 ^ 32)).mapOpen = true := by
    rw [State.mapOpen, State.hubState_of_clock (State.clock_wrInc s d false _)]
    exact h
  show execTimIncWrite d inc s = _
  rw [execTimIncWrite, State.writeAt_incLow h hd (by omega), State.writeAt_incHigh hopen hd (by omega),
    State.wrInc_low _ hhost, State.wrInc_high hhost' hlow hclamp hinc]

theorem exec_timIncWrite_row {inc : Nat} (hclamp : incClamp (inc : Nat) = inc) (hinc : inc < 2 ^ 40) :
    ∃ u, exec (.timIncWrite d inc) s = .next u ∧ u.time.doms = s.time.doms.set d { s.dom d with inc := inc } ∧
      u.get (incFrac d) = inc % 2 ^ 32 := by
  refine ⟨_, exec_timIncWrite h hd hhost hclamp hinc, ?_, State.frac_setInc _ d inc⟩
  simp [State.doms_setInc, State.dom]

end

/-! ## Other control registers (R344, R358, R369, R727) -/

section
variable {s : State} (h : s.mapOpen = true)
include h

theorem exec_timServoTakeover {v : Nat} (hv : v < 2 ^ 32) :
    exec (.timServoTakeover v) s = .next (s.writeByCode Reg.TIM_SERVO_CTRL v) :=
  congrArg Host.Outcome.next (State.writeAt_time .pcie h (by decide) hv)

theorem exec_timHostQWrite {v : Nat} (hv : v < 2 ^ 32) (hA : field v 0 8 = 0x30 ∨ field v 0 8 = 0x60)
    (hB : field v 8 8 = 0x30 ∨ field v 8 8 = 0x60) : exec (.timHostQWrite v) s =
      .next (((((s.put Fld.TIM_HOST_Q.CLASS_A (field v 0 8)).put Fld.TIM_HOST_Q.CLASS_B (field v 8 8)).rootLock 0).rootLock
        1).rootClass 0 |>.rootClass 1) := by
  have hwrite : s.writeAt .pcie Reg.TIM_HOST_Q 0 v = s.wrHostQ v := State.writeAt_time .pcie h (by decide) hv
  show Host.Outcome.next (s.writeAt .pcie Reg.TIM_HOST_Q 0 v) = _
  rw [hwrite]
  simp [State.wrHostQ, hA, hB]

theorem exec_timIrqRearm : exec .timIrqRearm s = .next (s.put Fld.TIM_IRQ_STAT.FULL 0) :=
  congrArg Host.Outcome.next (State.writeAt_time .pcie h (by decide) (by decide))

end

/-- The validity of a source is shown in TDC_STAT only (R370, R371). -/
theorem State.tdcSrcOk_put (s : State) {f : Field} (v i j src : Nat) (h : f.reg.disjoint Reg.TDC_STAT = true) :
    (s.put f v i j).tdcSrcOk src = s.tdcSrcOk src := by
  have hflag : ∀ g : Field, g.reg = Reg.TDC_STAT → (s.put f v i j).is g = s.is g := fun g hg => by
    rw [State.is, State.is, State.put, State.get_wr_disjoint _ _ _ _ _ _ (hg ▸ h)]
  unfold State.tdcSrcOk
  split
  · rfl
  · rw [hflag _ rfl, hflag _ rfl]
  · rw [hflag _ rfl]

/-- Outside RUN another valid source becomes the base (R369, R372). -/
theorem State.wrTdcCfg_source {s : State} {v : Nat} (hrun : s.hubState ≠ stRun) (hrate : field v 3 2 ≠ 3)
    (hsrc : field v 0 2 ≠ 3) (hnew : field v 0 2 ≠ s.get Fld.TDC_CFG.SRC) (hok : s.tdcSrcOk (field v 0 2) = true) :
    s.wrTdcCfg v = (({ ((s.put Fld.TDC_CFG.AUTO_RETURN (field v 7 1)).put Fld.TDC_CFG.REFIN_RATE (field v 3 2)) with
      tdc.ret := true } : State).put Fld.TDC_CFG.SRC (field v 0 2)).tdcRebase (field v 0 2) false := by
  generalize hu : (s.put Fld.TDC_CFG.AUTO_RETURN (field v 7 1)).put Fld.TDC_CFG.REFIN_RATE (field v 3 2) = u
  have hstate : ((s.put Fld.TDC_CFG.AUTO_RETURN (field v 7 1)).hubState == stRun) = false := by
    rw [State.hubState, State.get_put_indep _ _ _ _ _ _ (by decide)]
    exact beq_false_of_ne hrun
  have hold : u.get Fld.TDC_CFG.SRC = s.get Fld.TDC_CFG.SRC := by
    rw [← hu, State.get_put_indep _ _ _ _ _ _ (by decide), State.get_put_indep _ _ _ _ _ _ (by decide)]
  have hkept : u.tdcSrcOk (field v 0 2) = s.tdcSrcOk (field v 0 2) := by
    rw [← hu, State.tdcSrcOk_put _ _ _ _ _ (by decide), State.tdcSrcOk_put _ _ _ _ _ (by decide)]
  have hvalid : (({ u with tdc.ret := true } : State).put Fld.TDC_CFG.SRC (field v 0 2)).tdcSrcOk (field v 0 2) = true :=
    (State.tdcSrcOk_put _ _ _ _ _ (by decide)).trans (hkept.trans hok)
  simp [State.wrTdcCfg, hstate, hrate, hu, hsrc, hold, hnew, hvalid]

theorem exec_tdcSrcWrite {s : State} {v : Nat} (h : s.mapOpen = true) (hv : v < 2 ^ 32) :
    exec (.tdcSrcWrite v) s = .next (s.wrTdcCfg v) :=
  congrArg Host.Outcome.next (State.writeAt_time .pcie h (by decide) hv)

/-! ## IRQ_N (R358) -/

theorem State.irqCapture_full {s : State} (h : s.is Fld.TIM_IRQ_STAT.FULL = true) :
    s.irqCapture = (s.put Fld.TIM_IRQ_STAT.MISS 1).sat Fld.TIM_IRQ_STAT.MISS_CNT := if_pos h

/-- The first edge keeps the time and the frame. -/
theorem State.irqCapture_first {s : State} (h : s.is Fld.TIM_IRQ_STAT.FULL = false) :
    s.irqCapture.is Fld.TIM_IRQ_STAT.FULL = true ∧
    s.irqCapture.get Fld.TIM_IRQ_CAP_S_LO.S_LO = s.time.l.s % 2 ^ 32 ∧
    s.irqCapture.get Fld.TIM_IRQ_FRAME.FRAME_LO = s.seq.frame % 2 ^ 32 ∧
    s.irqCapture.get Fld.TIM_IRQ_CAP_S_HI.VALID = 1 := by
  rw [State.irqCapture, h, if_neg Bool.false_ne_true]
  refine ⟨?full, ?time, ?frame, ?valid⟩
  case full => simp +decide only [State.is, State.get_put_same]
  case time =>
    simp +decide only [State.putTime, State.get_put_indep, State.get_put_same]
    rfl
  case frame =>
    simp +decide only [State.get_put_indep, State.get_put_same]
    rfl
  case valid => simp +decide only [State.putTime, State.get_put_indep, State.get_put_same]

/-! ## TIME_IN and TIME_OUT (R359 to R361) -/

/-- A field of one of the eight pins' registers reads what was put there. -/
theorem State.get_put_pin (s : State) {f : Field} (v : Nat) {k : Nat}
    (hf : f.reg.n1 = 8 ∧ f.reg.n2 = 1 ∧ f.lsb + f.width ≤ 32) (hk : k < 8) : (s.put f v k).get f k = v % 2 ^ f.width := by
  obtain ⟨hn1, hn2, hbits⟩ := hf
  exact State.get_put_same s v k 0 hbits (by simp [RegDef.has, hn1, hn2, hk])

section
variable {s : State} {k : Nat} {u : PatUnit} (hu : s.unitAt cTIME_IN k = some u) (hsel : u.p 0 0 2 = 2)
include hu hsel

/-- An edge that finds 16 captures not delivered is lost, flagged and counted. -/
theorem execTinEdge_lost (falling : Bool) (ago : Nat) (hfull : 16 ≤ (tabGet s.time.tin ⟨[], none⟩ k).fifo.length) :
    execTinEdge k falling ago s = .next ((s.put Fld.TIM_TINk_STAT.OVF 1 k).sat Fld.TIM_TINk_STAT.LOST_CNT 1 k) := by
  simp [execTinEdge, hu, hsel, hfull]

/-- The first edge of a pin, of either polarity, is kept with its time. -/
theorem execTinEdge_first (falling : Bool) (ago : Nat) (hk : k < 8)
    (hroom : (tabGet s.time.tin ⟨[], none⟩ k).fifo.length < 16) (hfirst : (tabGet s.time.tin ⟨[], none⟩ k).last = none) :
    let pin := tabGet s.time.tin ⟨[], none⟩ k
    let at_ := addTu s.time.l (-(ago : Int))
    ∃ t, execTinEdge k falling ago s = .next t ∧
      tabGet t.time.tin ⟨[], none⟩ k = { fifo := pin.fifo ++ [(at_, falling)], last := some (tu at_) } ∧
      t.get Fld.TIM_TINk_STAT.LEVEL k = pin.fifo.length + 1 ∧ t.get Fld.TIM_TINk_FRAC.POL k = b2n falling := by
  intro pin at_
  simp only [execTinEdge, hu, hsel, hfirst, Nat.not_le.mpr hroom]
  refine ⟨_, rfl, ?pin, ?level, ?polarity⟩
  case pin => simp +decide [State.putTime, State.countEvt, tabGet_set, pin, at_]
  case level =>
    rw [State.get_put_pin _ _ (by decide) hk, List.length_append]
    exact Nat.mod_eq_of_lt (show _ < 32 by simp; omega)
  case polarity =>
    simp +decide only [State.get_put_indep, State.get_put_pin, hk]
    cases falling <;> rfl

end

theorem execToutPulse_due {s : State} {k : Nat} {u : PatUnit} {t0 : TimeVal} (hu : s.unitAt cTIME_OUT k = some u)
    (hnext : (tabGet s.time.tout ⟨none, false⟩ k).next = some t0) (hdue : tu t0 ≤ tu s.time.l) (hon : s.acquires = true)
    (honce : toutPeriodic u = false) :
    let v := { s with time.tout := tabSet s.time.tout k { next := none, high := true } }
    execToutPulse k s =
      .next (((v.put Fld.TIM_TOUTk_STAT.LEVEL (1 - v.toutIdle k) k).wrap Fld.TIM_TOUTk_STAT.PULSE_CNT 1 k).countEvt u.id) := by
  simp [execToutPulse, hu, hnext, Int.not_lt.mpr hdue, hon, honce]

/-! ## The statement -/

/-- Settles O24: each row that writes a register reaches that register's rule; an edge or a pulse is its rule in the case that
the row names. -/
theorem timeControlAndEdgeRows : Obligations.TimeControlAndEdgeRows := by
  unfold Obligations.TimeControlAndEdgeRows
  refine ⟨fun s v hopen hv => ⟨?hostA, ?hostB, exec_timServoTakeover hopen hv, exec_timHostQWrite hopen hv,
    exec_timIrqRearm hopen, ?source⟩, fun s k u => ⟨?missed, ?first, ?edge, ?pulse, rfl⟩⟩
  case hostA =>
    exact fun hhost => ⟨exec_timAdjWrite (d := 0) hopen (by decide) hhost hv,
      fun inc hclamp hinc => exec_timIncWrite_row (d := 0) hopen (by decide) hhost hclamp hinc⟩
  case hostB =>
    exact fun hhost => ⟨exec_timAdjWrite (d := 1) hopen (by decide) hhost hv,
      fun inc hclamp hinc => exec_timIncWrite_row (d := 1) hopen (by decide) hhost hclamp hinc⟩
  case source =>
    intro hrun hrate hsrc hnew hok
    rw [exec_tdcSrcWrite hopen hv, State.wrTdcCfg_source hrun hrate hsrc hnew hok]
  case missed => exact fun hfull => congrArg Host.Outcome.next (State.irqCapture_full hfull)
  case first => exact fun hempty => ⟨_, rfl, State.irqCapture_first hempty⟩
  case edge =>
    exact fun falling ago hu hsel hk =>
      ⟨execTinEdge_lost hu hsel falling ago, execTinEdge_first hu hsel falling ago hk⟩
  case pulse => exact fun t0 hu hnext hdue hon honce => execToutPulse_due hu hnext hdue hon honce

end Sys2Proof.Machine
end

section
/-! PROOFS. What notices, degraded causes and the log's staging (R153, R581, R622) leave of the registers apart from their own,
and of the time unit. -/

open Sys2Proof Sys2Proof.Machine

namespace Sys2Proof.Machine

/-! ## Control -/

/-- A part of the state that each element's operation keeps is kept by all of them in turn. -/
theorem State.view_forEach {α β : Type} (view : State → β) (s : State) (l : List α) (f : α → State → State)
    (h : ∀ a (t : State), view (f a t) = view t) : view (s.forEach l f) = view s := by
  unfold State.forEach
  induction l generalizing s with
  | nil => rfl
  | cons a l ih => exact (ih _).trans (h a s)

theorem State.view_when {β : Type} (view : State → β) (s : State) (c : Bool) (f : State → State)
    (h : ∀ t : State, view (f t) = view t) : view (s.when c f) = view s := by
  cases c
  · rfl
  · exact h s

/-! ## Registers -/

section
variable (s : State) {g : Field} (a b : Nat) (hg : Reg.DMA_NPENDj.disjoint g.reg = true)
include hg

theorem State.get_raise_apart (k : Nat) : (s.raise k).get g a b = s.get g a b := by
  unfold State.raise
  dsimp only
  split
  · rfl
  · generalize hu : s.put _ _ _ = u
    have hshown : u.get g a b = s.get g a b := hu ▸ State.get_wr_disjoint _ _ _ _ _ _ hg
    have hring : ∀ t : State, ({ t with host.ringNotice := true } : State).get g a b = t.get g a b := fun _ => rfl
    rw [State.get_when _ _ _ _ _ _ hring]
    split_ifs <;> exact hshown

theorem State.get_evt_apart {f : Field} (src i j : Nat) (hf : f.indep g = true) :
    (s.evt f src i j).get g a b = s.get g a b := by
  unfold State.evt
  split
  · rfl
  · exact (State.get_raise_apart _ a b hg src).trans (State.get_put_indep _ _ _ _ _ _ hf)

theorem State.get_degrade {live sticky : Field} (on : Bool) (hlive : live.indep g = true) (hsticky : sticky.indep g = true)
    (hstate : Fld.GLB_STATE.DEGRADED.indep g = true) : (s.degrade live sticky on).get g a b = s.get g a b := by
  have hshown : (s.put live (b2n on)).get g a b = s.get g a b := State.get_put_indep _ _ _ _ _ _ hlive
  cases on
  · exact (State.get_put_indep _ _ _ _ _ _ hstate).trans hshown
  · exact (State.get_put_indep _ _ _ _ _ _ hstate).trans ((State.get_evt_apart _ a b hg 108 0 0 hsticky).trans hshown)

end

/-- A one-bit event flag is 1 after its event. -/
theorem State.is_evt_same (s : State) {f : Field} (src : Nat) (hf : f.lsb + f.width ≤ 32 ∧ f.width = 1)
    (hhas : f.reg.has 0 0 = true) (hapart : Reg.DMA_NPENDj.disjoint f.reg = true) : (s.evt f src).is f = true := by
  unfold State.evt
  split
  · assumption
  · rw [State.is, State.get_raise_apart _ 0 0 hapart, State.get_put_same _ _ _ _ hf.1 hhas, hf.2]
    rfl

/-! ## The time unit -/

section
variable (s : State)

theorem State.time_raise (i : Nat) : (s.raise i).time = s.time := by
  have h := congrArg State.time (s.aside_raise i)
  exact h

theorem State.time_evt (f : Field) (src i j : Nat) : (s.evt f src i j).time = s.time := by
  unfold State.evt
  split
  · rfl
  · rw [State.time_raise, State.put_time]

theorem State.time_stage (code : Nat) (data : List Byte) : (s.stage code data).time = s.time := by
  have h := congrArg State.time (s.aside_stage code data)
  exact h

theorem State.time_degrade (live sticky : Field) (on : Bool) : (s.degrade live sticky on).time = s.time := by
  cases on <;> simp [State.degrade, State.formDegraded, State.time_evt]

end

end Sys2Proof.Machine
end

section
/-! PROOFS. The frame counter's start and adoption (R352), and loss, holdover, steps and selection of time (R335, R342, R355,
R364, R727). -/

open Sys2Proof Sys2Proof.Machine

namespace Sys2Proof.Machine

/-! ## The frame counter begins (R352) -/

theorem State.seq_showLock (s : State) : s.showLock.seq = s.seq := by simp [State.showLock]

theorem State.counter_showLock (s : State) : s.showLock.get Fld.TIM_STAT.COUNTER = b2n s.seq.counter := by
  rw [State.showLock, State.get_put_same _ _ _ _ (by decide) (by decide)]
  cases s.seq.counter <;> rfl

/-- Past the lock and the counter that it shows, a register keeps its value. -/
theorem State.get_showLock (s : State) {g : Field} (a b : Nat) (hlock : Fld.GLB_STATE.TIME_LOCK.indep g = true)
    (hcounter : Fld.TIM_STAT.COUNTER.indep g = true) : s.showLock.get g a b = s.get g a b :=
  (State.get_put_indep _ _ _ _ _ _ hcounter).trans (State.get_put_indep _ _ _ _ _ _ hlock)

/-- The counter exists with its value, is shown, and the state code stays. -/
theorem State.setCounter_shows (s : State) (n : Nat) :
    (s.setCounter n).seq.counter = true ∧ (s.setCounter n).seq.frame = n ∧ (s.setCounter n).hubState = s.hubState ∧
    (s.setCounter n).get Fld.TIM_STAT.COUNTER = 1 := by
  refine ⟨?counter, ?frame, s.hubState_setCounter n, State.counter_showLock _⟩
  all_goals rw [State.setCounter, State.seq_showLock]

/-- The domain whose root starts the counter: A's, or B's where it takes over (R352). -/
def State.startDomain (s : State) : Option Nat :=
  if s.isRoot 0 then some 0 else if s.isRoot 1 && s.time.takeover then some 1 else none

/-- A root whose domain is locked starts the counter at 0 where no counter was heard and no time of day is awaited. -/
theorem execFrameCounterStart_go {s : State} {d : Nat} (hd : s.startDomain = some d) (hnew : s.seq.counter = false)
    (hlock : s.locked d = true) (hquiet : s.time.heardAt = none) (htod : s.policy 0x020C 0 = 0) :
    execFrameCounterStart s = .next (s.setCounter 0) := by
  rw [State.startDomain] at hd
  simp only [execFrameCounterStart, hd, hquiet]
  simp [hnew, hlock, htod]

theorem execFrameCounterAdopt_go {s : State} {m : Nat × TimeVal} (hheard : s.time.heard = some m)
    (hnew : s.seq.counter = false) (hacq : s.time.acquired = true) (hheld : stHeld ≤ s.hubState) :
    execFrameCounterAdopt s = .next (s.setCounter (s.counterHere m).toNat) := by
  simp [execFrameCounterAdopt, hheard, hnew, hacq, hheld]

theorem execRootBTakeover_go {s : State} {b : Nat} (hroot : s.isRoot 1 = true) (hlock : s.locked 1 = true)
    (hsince : (s.dom 1).lockedAt = some b) (hlong : b + 10000000000 ≤ s.silt.opNs) :
    execRootBTakeover s = .next { s with time.takeover := true } := by
  simp [execRootBTakeover, hroot, hlock, hsince, hlong]

/-! ## Loss and holdover (R335, R342, R727) -/

/-- Putting a class in force leaves the fields apart from the class, the degraded causes and the notices. -/
theorem State.get_setCls (s : State) (d c : Nat) {g : Field} (a b : Nat)
    (hcls : (ab d Fld.TIM_SEL.CLASS_A Fld.TIM_SEL.CLASS_B).indep g = true)
    (hstate : Fld.GLB_STATE.DEGRADED.indep g = true) (hlive : Fld.GLB_DEGRADED.TIME_DOMAIN.indep g = true)
    (hsticky : Fld.GLB_DEGRADED_STICKY.TIME_DOMAIN.indep g = true) (hg : Reg.DMA_NPENDj.disjoint g.reg = true) :
    (s.setCls d c).get g a b = s.get g a b :=
  (State.get_degrade _ a b hg _ hlive hsticky hstate).trans (State.get_put_indep _ _ _ _ _ _ hcls)

theorem State.cls_setCls (s : State) {d c : Nat} (hd : d < 2) (hc : c < 256) : (s.setCls d c).cls d = c := by
  obtain rfl | rfl : d = 0 ∨ d = 1 := by omega
  all_goals
    refine (State.get_degrade _ 0 0 (by decide) _ (by decide) (by decide) (by decide)).trans ?_
    exact (State.get_put_same _ c 0 0 (by decide) (by decide)).trans (Nat.mod_eq_of_lt hc)

theorem State.locked_setLock (s : State) {d : Nat} (on : Bool) (hd : d < 2) : (s.setLock d on).locked d = on := by
  obtain rfl | rfl : d = 0 ∨ d = 1 := by omega
  all_goals
    rw [State.locked, State.is]
    refine (congrArg (· != 0) (State.get_put_same _ (b2n on) 0 0 (by decide) (by decide))).trans ?_
    cases on <;> rfl

/-- A domain without SYNC is unlocked, of class 0xFF, and its loss is flagged (R342). -/
theorem execDomainLoss_lost {s : State} {d : Nat} (hd : d < 2) (hroot : s.isRoot d = false) (hcls : s.cls d ≠ 0xFF) :
    ∃ t, execDomainLoss d s = .next t ∧ t.locked d = false ∧ t.cls d = 0xFF ∧
      t.is (ab d Fld.TIM_EVT.LOSS_A Fld.TIM_EVT.LOSS_B) = true ∧ t.seq.frame = s.seq.frame := by
  generalize hu : (s.setDom d { s.dom d with good := 0, bad := 0, held := none }).setLock d false = u
  have hexec : execDomainLoss d s =
      .next ((u.setCls d 0xFF).evt (ab d Fld.TIM_EVT.LOSS_A Fld.TIM_EVT.LOSS_B) 101).showLock := by
    simp [execDomainLoss, hroot, hcls, Nat.not_le.mpr hd, ← hu]
  have hframe := clockAfter_execDomainLoss s d
  rw [hexec, clockAfter_next, Option.some_inj] at hframe
  have hunlocked : u.locked d = false := hu ▸ State.locked_setLock _ false hd
  refine ⟨_, hexec, ?lock, ?cls, ?event, congrArg (·.1) hframe⟩
  case lock =>
    rw [← hunlocked]
    obtain rfl | rfl : d = 0 ∨ d = 1 := by omega
    all_goals simp +decide [State.locked, State.is, ab, State.get_showLock, State.get_evt_apart, State.get_setCls]
  case cls =>
    refine Eq.trans ?_ (u.cls_setCls hd (c := 0xFF) (by decide))
    obtain rfl | rfl : d = 0 ∨ d = 1 := by omega
    all_goals simp +decide [State.cls, ab, State.get_showLock, State.get_evt_apart]
  case event =>
    obtain rfl | rfl : d = 0 ∨ d = 1 := by omega
    all_goals
      rw [State.is, State.get_showLock _ 0 0 (by decide) (by decide)]
      exact State.is_evt_same _ 101 (by decide) (by decide) (by decide)

theorem execRootHoldover_begins {s : State} {d : Nat} (hd : d < 2) (hroot : s.isRoot d = true)
    (hsrc : s.srcOf d = 1 ∨ s.srcOf d = 2) (hfree : (s.dom d).holdSince = none) (hlock : s.locked d = true) :
    execRootHoldover d s = .next ((s.setDom d { s.dom d with
      holdSince := some s.silt.opNs, holdErr := s.rootErr d, spaced := 0, lastEdge := none }).rootClass d) := by
  have hpps : (s.srcOf d == 1 || s.srcOf d == 2) = true := by simpa using hsrc
  simp [execRootHoldover, Nat.not_le.mpr hd, hroot, hpps, hfree, hlock]

/-! ## Steps and selection of time (R355, R364) -/

/-- A state without its registers and the TIME_OUT pins, which are all that the plan of a pulse touches. -/
def State.offPins (s : State) : State := { s with regs := [], time.tout := [] }

theorem State.offPins_put (s : State) (f : Field) (v i j : Nat) : (s.put f v i j).offPins = s.offPins := by
  rw [State.put_frame]
  rfl

theorem State.offPins_toutLate (s : State) (k : Nat) : (s.toutLate k).offPins = s.offPins :=
  (State.offPins_put _ _ _ _ _).trans (s.offPins_put _ _ _ _)

theorem State.offPins_toutPlan (s : State) (u : PatUnit) (start lim : Int) : (s.toutPlan u start lim).offPins = s.offPins := by
  unfold State.toutPlan
  dsimp only
  split
  · rfl
  · split
    · exact State.offPins_toutLate _ _
    · rfl

theorem State.offPins_toutStep (s : State) : s.toutStep.offPins = s.offPins := by
  refine State.view_forEach State.offPins _ _ _ fun u t => ?_
  split
  · rfl
  · exact t.offPins_toutPlan u _ _

/-- The plan of a pulse changes no registers but those of its pin. -/
theorem State.get_toutPlan (s : State) (u : PatUnit) (start lim : Int) {g : Field} (a b : Nat)
    (hg : Reg.TIM_TOUTk_STAT.disjoint g.reg = true) : (s.toutPlan u start lim).get g a b = s.get g a b := by
  unfold State.toutPlan
  dsimp only
  split
  · rfl
  · split
    · exact (State.get_wr_disjoint _ _ _ _ _ _ hg).trans (State.get_wr_disjoint _ _ _ _ _ _ hg)
    · rfl

theorem State.get_toutStep (s : State) {g : Field} (a b : Nat) (hg : Reg.TIM_TOUTk_STAT.disjoint g.reg = true) :
    s.toutStep.get g a b = s.get g a b := by
  refine State.view_forEach (fun t : State => t.get g a b) _ _ _ fun u t => ?_
  split
  · rfl
  · exact t.get_toutPlan u _ _ a b hg

/-- A reset that is due stays due, and the one that is asked for becomes due. -/
theorem State.mem_resets_resetNext {s : State} {c e cause : Nat} (h : cause ∈ (s.chain c).resets ∨ e = c) :
    cause ∈ ((s.resetNext e cause).chain c).resets := by
  rw [State.resetNext, State.chain_setChain]
  by_cases hce : c = e
  · subst hce
    by_cases hdue : cause ∈ (s.chain c).resets <;> simp [hdue]
  · simpa [hce] using h.resolve_right (Ne.symm hce)

/-- Every chain of a list is reset. -/
theorem State.mem_resets_forEach {l : List Nat} {s : State} {c cause : Nat} (h : cause ∈ (s.chain c).resets ∨ c ∈ l) :
    cause ∈ ((s.forEach l fun e t => t.resetNext e cause).chain c).resets := by
  induction l generalizing s with
  | nil => exact h.resolve_right List.not_mem_nil
  | cons e l ih =>
    refine ih (s := s.resetNext e cause) ?_
    rcases h with hdue | hc
    · exact .inl (State.mem_resets_resetNext (.inl hdue))
    · rcases List.mem_cons.mp hc with rfl | hl
      · exact .inl (State.mem_resets_resetNext (.inr rfl))
      · exact .inr hl

/-- A domain moved by a step, with the time of its last PPS edge (R355). -/
def Domain.stepped (e : Domain) (delta : Int) : Domain :=
  { e with t := addTu e.t delta, lastEdge := e.lastEdge.map (· + delta / 65536) }

/-- The hub once the counters have moved by a step, before its pulses and chains follow. -/
def State.steppedTime (s : State) (x : TimeStep) : State :=
  ({ s with
      time.l := addTu s.time.l x.delta
      time.doms := s.time.doms.map fun e => if x.lOnly then e else e.stepped x.delta
      time.step := none, time.lastStep := some x.f
      time.stepDone := some { f := x.f, oldL := s.time.l, newL := addTu s.time.l x.delta, lOnly := x.lOnly }
      time.tstep := (s.units cSTREAM).map (·.inst), fieldPorts.step := true } : State).put Fld.TIM_STAT.STEP_PEND 0

theorem execTimeStepApply_due {s : State} {x : TimeStep} (hx : s.time.step = some x) : execTimeStepApply s =
    .next ((s.steppedTime x).toutStep.forEach (s.steppedTime x).toutStep.localChains fun c t => t.resetNext c 4) := by
  simp only [execTimeStepApply, hx]
  rfl

theorem State.steppedTime_parts (s : State) (x : TimeStep) :
    (s.steppedTime x).time.l = addTu s.time.l x.delta ∧
    (s.steppedTime x).time.doms = (s.time.doms.map fun e => if x.lOnly then e else e.stepped x.delta) ∧
    (s.steppedTime x).time.step = none ∧ (s.steppedTime x).banks = s.banks := by
  simp [State.steppedTime]

/-- The pulses' plan leaves the counters, the scheduled step and the banks. -/
theorem State.toutStep_parts (s : State) : s.toutStep.time.l = s.time.l ∧ s.toutStep.time.doms = s.time.doms ∧
    s.toutStep.time.step = s.time.step ∧ s.toutStep.banks = s.banks := by
  have hparts : ({ s.toutStep.time with tout := [] } : Timing) = { s.time with tout := [] } ∧ s.toutStep.banks = s.banks := by
    have h := congrArg (fun t : State => (t.time, t.banks)) s.offPins_toutStep
    exact Prod.mk.inj h
  obtain ⟨htime, hbanks⟩ := hparts
  obtain ⟨hl, -, hdoms, -, -, -, -, -, hstep, -⟩ := Timing.mk.inj htime
  exact ⟨hl, hdoms, hstep, hbanks⟩

theorem State.localChains_of_banks {s t : State} (h : t.banks = s.banks) : t.localChains = s.localChains := by
  simp only [State.localChains, State.units, h]

/-- Resets of chains change the chains only. -/
theorem State.time_resets (s : State) (l : List Nat) : (s.forEach l fun c t => t.resetNext c 4).time = s.time :=
  State.view_forEach State.time _ _ _ fun _ _ => rfl

theorem State.get_resets (s : State) (l : List Nat) (g : Field) (a b : Nat) :
    (s.forEach l fun c t => t.resetNext c 4).get g a b = s.get g a b :=
  State.view_forEach (fun t : State => t.get g a b) _ _ _ fun _ _ => State.get_setChain _ _ _ _ _ _

theorem timeStepApply_row {s : State} {x : TimeStep} (hx : s.time.step = some x) :
    ∃ t, exec .timeStepApply s = .next t ∧ t.time.l = addTu s.time.l x.delta ∧ t.time.step = none ∧
      t.time.doms = (if x.lOnly then s.time.doms else s.time.doms.map fun e => e.stepped x.delta) ∧
      t.get Fld.TIM_STAT.STEP_PEND = 0 ∧ ∀ c ∈ s.localChains, 4 ∈ (t.chain c).resets := by
  obtain ⟨hl, hdoms, hstep, hbanks⟩ := (s.steppedTime x).toutStep_parts
  obtain ⟨hl', hdoms', hstep', hbanks'⟩ := s.steppedTime_parts x
  refine ⟨_, execTimeStepApply_due hx, ?l, ?step, ?doms, ?shown, fun c hc => State.mem_resets_forEach (.inr ?chains)⟩
  case l => rw [State.time_resets, hl, hl']
  case step => rw [State.time_resets, hstep, hstep']
  case doms =>
    rw [State.time_resets, hdoms, hdoms']
    cases x.lOnly <;> simp
  case shown =>
    rw [State.get_resets, State.get_toutStep _ 0 0 (by decide)]
    exact State.get_put_same _ 0 0 0 (by decide) (by decide)
  case chains =>
    rw [State.localChains_of_banks (hbanks.trans hbanks')]
    exact hc

section
variable {s : State} {f mode : Nat} (hsel : s.time.select = some (some f, mode))
include hsel

theorem execTimeSelectEffect_due (h : f ≤ s.seq.frame) : execTimeSelectEffect s =
    .next (({ s with time.select := none, time.modeCmd := true } : State).put Fld.TIM_SEL.MODE mode) := by
  simp [execTimeSelectEffect, hsel, h]

theorem execTimeSelectEffect_early (h : s.seq.frame < f) : execTimeSelectEffect s = .next s := by
  simp [execTimeSelectEffect, hsel, Nat.not_le.mpr h]

end

/-! ## The statement -/

/-- Settles O25: the counter begins by `State.setCounter_shows`; each change of time is its rule in the case that the row
names. -/
theorem frameCounterAndTimeChangeRows : Obligations.FrameCounterAndTimeChangeRows := by
  unfold Obligations.FrameCounterAndTimeChangeRows
  refine ⟨fun s m hnew => ⟨fun hroot hlock hquiet htod => ?rootA, fun hrootA hrootB htake hlock hquiet htod => ?rootB,
      fun hheard hacq hheld => ?adopt, fun b => execRootBTakeover_go⟩,
    fun s d hd => ⟨execDomainLoss_lost hd, execRootHoldover_begins hd, fun x hx => timeStepApply_row hx,
      fun f mode hsel => ⟨execTimeSelectEffect_due hsel, execTimeSelectEffect_early hsel⟩⟩⟩
  case rootA =>
    have hexec := execFrameCounterStart_go (d := 0) (by simp [State.startDomain, hroot]) hnew hlock hquiet htod
    exact ⟨_, hexec, s.setCounter_shows 0⟩
  case rootB =>
    exact execFrameCounterStart_go (d := 1) (by simp [State.startDomain, hrootA, hrootB, htake]) hnew hlock hquiet htod
  case adopt =>
    obtain ⟨hcounter, hframe, hstate, -⟩ := s.setCounter_shows (s.counterHere m).toNat
    exact ⟨_, execFrameCounterAdopt_go hheard hnew hacq hheld, hcounter, hframe, hstate⟩

end Sys2Proof.Machine
end

section
/-! PROOFS. Delay measurement and SYNC messages (R339 to R343). -/

open Sys2Proof Sys2Proof.Machine

namespace Sys2Proof.Machine

/-! ## Ports (R340) -/

/-- The delay measurement of a ring port past a change of other parts. -/
theorem State.pd_of_ports {s t : State} (h : t.time.ports = s.time.ports) (p : Nat) : t.pd p = s.pd p := by
  rw [State.pd, State.pd, h]

theorem State.pd_of_time {s t : State} (h : t.time = s.time) (p : Nat) : t.pd p = s.pd p :=
  State.pd_of_ports (congrArg Timing.ports h) p

/-- A port whose request waits is one of the hub's ports. -/
theorem State.port_lt_of_sent {s : State} {p : Nat} {x : Nat × Int} (h : (s.pd p).sent = some x) : p < s.time.ports.length := by
  by_contra hp
  rw [State.pd, List.getD_eq_default _ _ (Nat.not_lt.mp hp)] at h
  cases h

theorem State.pd_setPd {s : State} {p : Nat} (hp : p < s.time.ports.length) (x : PdPort) : (s.setPd p x).pd p = x := by
  simp [State.pd, State.setPd, hp]

section
variable (s : State)

theorem State.length_setPd (p : Nat) (x : PdPort) : (s.setPd p x).time.ports.length = s.time.ports.length := by
  simp [State.setPd]

theorem State.time_showPd (p : Nat) : (s.showPd p).time = s.time := by simp [State.showPd]

theorem State.time_krMargin (p delay : Nat) : (s.krMargin p delay).time = s.time := by
  unfold State.krMargin
  split
  · exact s.time_degrade _ _ _
  · rfl

theorem State.time_judgeTun : s.judgeTun.time = s.time := by
  unfold State.judgeTun
  dsimp only
  refine (State.view_when State.time _ _ _ fun t => ?_).trans (State.put_time _ _ _ _ _)
  rw [State.time_stage, State.time_evt]

end

/-! ## A message with the sender's counter is heard (R352, R353) -/

section
variable (s : State) (m : Option (Nat × TimeVal)) (hub : Nat)

/-- Hearing a counter changes nothing of the time unit but what was heard. -/
theorem State.hear_parts : (s.hear m hub).time.ports = s.time.ports ∧ (s.hear m hub).time.l = s.time.l := by
  cases m with
  | none => exact ⟨rfl, rfl⟩
  | some m =>
    unfold State.hear
    dsimp only
    split
    · split <;> exact ⟨rfl, rfl⟩
    · split
      · exact ⟨rfl, rfl⟩
      · rw [State.time_stage, State.time_evt]
        exact ⟨rfl, rfl⟩

theorem State.get_hear {g : Field} (a b : Nat) (hlog : g.reg.belowLog = true) (hg : Reg.DMA_NPENDj.disjoint g.reg = true)
    (hflag : Fld.TIM_EVT.CNT_CONFLICT.indep g = true) : (s.hear m hub).get g a b = s.get g a b := by
  cases m with
  | none => rfl
  | some m =>
    unfold State.hear
    dsimp only
    split
    · split <;> rfl
    · split
      · rfl
      · exact (State.get_stage_below _ a b hlog _ _).trans (State.get_evt_apart _ a b hg 101 0 0 hflag)

end

/-- The neighbour's lock at a port is shown, and the counter of its message is heard. -/
def State.meet (s : State) (p : Nat) (m : PdMsg) : State :=
  (s.put (if p = 0 then Fld.TIM_STAT.NEIGH_E_LOCK else Fld.TIM_STAT.NEIGH_W_LOCK) (b2n m.lock)).hear m.counter m.hub

theorem State.pd_meet (s : State) (p : Nat) (m : PdMsg) (q : Nat) : (s.meet p m).pd q = s.pd q :=
  State.pd_of_ports (by rw [State.meet, (State.hear_parts _ _ _).1, State.put_time]) q

theorem State.l16_meet (s : State) (p : Nat) (m : PdMsg) : (s.meet p m).l16 = s.l16 := by
  rw [State.l16, State.l16, State.meet, (State.hear_parts _ _ _).2, State.put_time]

/-- The correction of a port for the asymmetry of its cable (R340). -/
def State.asym (s : State) (p : Nat) : Int :=
  signed 16 (s.get (if p = 0 then Fld.TIM_PORTE_ASYM.ASYM else Fld.TIM_PORTW_ASYM.ASYM)) * 65536

theorem State.asym_meet (s : State) (p : Nat) (m : PdMsg) : (s.meet p m).asym p = s.asym p := by
  rw [State.asym, State.asym, State.meet]
  split <;> rw [State.get_hear _ _ _ 0 0 (by decide) (by decide) (by decide), State.get_put_indep _ _ _ _ _ _ (by decide)]

/-! ## Requests (R339) -/

theorem execPdReqSend_up {s : State} {p : Nat} (hheld : stHeld ≤ s.hubState) (hup : s.portUp p = true) :
    let q := ((s.pd p).seq + 1) % 65536
    let u := s.setPd p { s.pd p with seq := q, sent := some (q, s.l16) }
    execPdReqSend p s = .next { u with tx := u.tx ++ [.pdReq p (u.pdMsg q u.time.l)] } := by
  intro q u
  rw [execPdReqSend, if_neg (by simp [Nat.not_lt.mpr hheld, hup])]

theorem execPdReq_held {s : State} (p : Nat) (m : PdMsg) (ago turn : Int) (hheld : stHeld ≤ s.hubState) :
    execPdReq p m ago turn s = .next { s.meet p m with
      tx := (s.meet p m).tx ++ [.pdResp p ((s.meet p m).pdMsg m.seq (addTu (s.meet p m).time.l (-ago * 65536))) turn] } := by
  rw [execPdReq, if_neg (Nat.not_lt.mpr hheld)]
  rfl

/-! ## Answers (R340, R354) -/

/-- The first values of a port's delay are accepted as they are. -/
theorem State.pd_pdValue_fresh {s : State} {p : Nat} (d : Int) (hp : p < s.time.ports.length)
    (hnew : (s.pd p).valid = false) : (s.pdValue p d).pd p =
      { s.pd p with vals := (d :: (s.pd p).vals).take 16, accepted := (s.pd p).accepted + 1, discards := 0 } := by
  unfold State.pdValue
  rw [State.pd_of_time (State.time_showPd _ _), State.pd_setPd hp]
  simp [hnew]

theorem State.length_pdValue (s : State) (p : Nat) (d : Int) :
    (s.pdValue p d).time.ports.length = s.time.ports.length := by
  rw [State.pdValue, State.time_showPd, State.length_setPd]

/-- What follows a value of the delay: the margin of K_R, the neighbour's θ, and the judgement of TUN (R354, R366). -/
def State.pdJudge (s : State) (p : Nat) (m : PdMsg) (theta : Int) : State :=
  let s := s.when (s.pd p).valid (·.krMargin p ((s.pd p).delta * 2400 / pdNs).toNat)
  let s := s.putI (if p = 0 then Fld.TIM_NEIGH_E.THETA else Fld.TIM_NEIGH_W.THETA) (roundDiv (theta * 256) pdNs.toNat)
  let out := decide (theta.natAbs > s.policy 0x0208 50 * pdNs.natAbs)
  let x := s.pd p
  let s := s.setPd p { x with
    overRun := if out && m.lock then x.overRun + 1 else 0, underRun := if out || !m.lock then 0 else x.underRun + 1 }
  if m.lock then s.judgeTun else s

/-- The judgement leaves the port's request, its values and their number. -/
theorem State.pd_pdJudge {s : State} {p : Nat} (m : PdMsg) (theta : Int) (hp : p < s.time.ports.length) :
    ((s.pdJudge p m theta).pd p).sent = (s.pd p).sent ∧ ((s.pdJudge p m theta).pd p).accepted = (s.pd p).accepted ∧
    ((s.pdJudge p m theta).pd p).vals = (s.pd p).vals := by
  unfold State.pdJudge
  extract_lets +onlyGivenNames u w out x v
  have hw : w.time = s.time :=
    (State.putI_time _ _ _ _ _).trans (State.view_when State.time _ _ _ fun t => t.time_krMargin _ _)
  have hx : x = s.pd p := State.pd_of_time hw p
  have hv : (if m.lock then v.judgeTun else v).pd p = v.pd p := State.pd_of_time (by split; exacts [v.time_judgeTun, rfl]) p
  rw [hv, State.pd_setPd (hw ▸ hp), ← hx]
  exact ⟨rfl, rfl, rfl⟩

/-- An answer whose value is one of the first leaves one value more at its port. -/
theorem State.pd_pdValue_pdJudge {s : State} {p : Nat} {x : PdPort} (m : PdMsg) (d theta : Int)
    (hp : p < s.time.ports.length) (hx : s.pd p = x) (hnew : x.valid = false) :
    let t := (s.pdValue p d).pdJudge p m theta
    (t.pd p).sent = x.sent ∧ (t.pd p).accepted = x.accepted + 1 ∧ (t.pd p).vals = (d :: x.vals).take 16 := by
  intro t
  subst hx
  obtain ⟨hsent, haccepted, hvals⟩ := State.pd_pdJudge m theta (s.length_pdValue p d ▸ hp)
  rw [hsent, haccepted, hvals, State.pd_pdValue_fresh d hp hnew]
  exact ⟨rfl, rfl, rfl⟩

/-- The neighbour is met, and the request that waited at the port waits no more. -/
def State.answered (s : State) (p : Nat) (m : PdMsg) : State := (s.meet p m).setPd p { s.pd p with sent := none }

section
variable {s : State} {p : Nat} {m : PdMsg} {t1 : Int} (hheld : stHeld ≤ s.hubState) (hsent : (s.pd p).sent = some (m.seq, t1))
include hheld hsent

/-- The answer to the request that waits: above 10 µs of turnaround it ends the request only, else it gives a value of the
delay from the times t1 to t4, and an offset that is judged. -/
theorem execPdResp_answer (turn ago : Int) : execPdResp p m turn ago s =
    let u := s.answered p m
    let t2 := tu m.t / 65536
    let t4 := u.l16 - ago
    if turn > 10000 * 65536 then .next u
    else .next ((u.pdValue p (((t4 - t1) - turn) * 1000 + u.asym p)).pdJudge p m
      (((t2 - t1) - (t4 - (t2 + turn))) * 1000 + u.asym p)) := by
  have hpd : ((s.put (if p = 0 then Fld.TIM_STAT.NEIGH_E_LOCK else Fld.TIM_STAT.NEIGH_W_LOCK) (b2n m.lock)).hear m.counter
      m.hub).pd p = s.pd p := s.pd_meet p m p
  simp only [execPdResp, Nat.not_lt.mpr hheld, if_false, hpd, hsent, ne_eq, not_true_eq_false]
  rfl

theorem execPdResp_slow {turn : Int} (ago : Int) (hturn : turn > 10000 * 65536) :
    execPdResp p m turn ago s = .next (s.answered p m) := by
  rw [execPdResp_answer hheld hsent]
  exact if_pos hturn

/-- A further answer gives one more value of the delay while there are fewer than four. -/
theorem execPdResp_value {turn : Int} (ago : Int) (hturn : turn ≤ 10000 * 65536) (hnew : (s.pd p).valid = false) :
    ∃ t, execPdResp p m turn ago s = .next t ∧ (t.pd p).sent = none ∧ (t.pd p).accepted = (s.pd p).accepted + 1 ∧
      (t.pd p).vals = ((((s.l16 - ago) - t1 - turn) * 1000 + s.asym p) :: (s.pd p).vals).take 16 := by
  have hp : p < (s.answered p m).time.ports.length := by
    rw [State.answered, State.length_setPd, State.meet, (State.hear_parts _ _ _).1, State.put_time]
    exact State.port_lt_of_sent hsent
  have hport : (s.answered p m).pd p = { s.pd p with sent := none } := State.pd_setPd (State.length_setPd _ _ _ ▸ hp) _
  have hl : (s.answered p m).l16 = s.l16 := s.l16_meet p m
  have hasym : (s.answered p m).asym p = s.asym p := s.asym_meet p m
  refine ⟨_, (execPdResp_answer hheld hsent turn ago).trans (if_neg (Int.not_lt.mpr hturn)), ?_⟩
  rw [← hl, ← hasym]
  exact State.pd_pdValue_pdJudge m _ _ hp hport hnew

end

/-! ## SYNC (R339, R342, R343) -/

/-- A SYNC goes on at the other port, where that is up, with the delay of its port and its residence time added; one that came
through a port without a valid delay is marked. -/
def State.syncForwarded (s : State) (p : Nat) (m : SyncMsg) (res : Int) : State :=
  let fwd : SyncMsg := { m with
    correction := m.correction + roundDiv (s.pd p).delta 2000 + res, hops := m.hops + 1, bad := m.bad || !(s.pd p).valid }
  if s.portUp (1 - p) then { s with tx := s.tx ++ [.sync (1 - p) fwd] } else s

section
variable {s : State} {m : SyncMsg} (p : Nat) (ago res : Int) (hheld : stHeld ≤ s.hubState) (hdom : m.domain < 2)
include hheld hdom

theorem execSync_damaged : execSync p m ago res false s =
    .next ((s.sat Fld.TIM_CNT.TIME_DROP).evt Fld.TIM_EVT.TIME_DROP 101) := by
  simp [execSync, Nat.not_lt.mpr hheld, Nat.not_le.mpr hdom]

theorem execSync_root (hroot : s.isRoot m.domain = true) : execSync p m ago res true s = .next s := by
  simp [execSync, Nat.not_lt.mpr hheld, Nat.not_le.mpr hdom, hroot]

/-- At a hub that is not the root of its domain, a SYNC that is not from the other side of a step is heard, and its offset is
offered where it is usable. -/
theorem execSync_forwarded (hroot : s.isRoot m.domain = false) : execSync p m ago res true s =
    let u := s.syncForwarded p m res
    let v := u.hear m.counter m.emit
    if u.syncFiltered m then .next u
    else if m.bad || !(s.pd p).valid then .next v
    else .next (v.offerSync p m (tu (v.dom m.domain).t / 65536 - ago
      - (tu m.origin / 65536 + m.correction + roundDiv (s.pd p).delta 2000))) := by
  simp only [execSync, Nat.not_lt.mpr hheld, Nat.not_le.mpr hdom, hroot, decide_false, Bool.or_self, Bool.not_true,
    Bool.false_eq_true, if_false]
  rfl

theorem execSync_usable (hroot : s.isRoot m.domain = false) (hvalid : (s.pd p).valid = true) (hgood : m.bad = false)
    (hside : s.syncFiltered m = false) :
    let delta := roundDiv (s.pd p).delta 2000
    let fwd : SyncMsg := { m with correction := m.correction + delta + res, hops := m.hops + 1 }
    let u := if s.portUp (1 - p) then { s with tx := s.tx ++ [.sync (1 - p) fwd] } else s
    let v := u.hear m.counter m.emit
    execSync p m ago res true s = .next (v.offerSync p m
      (tu (v.dom m.domain).t / 65536 - ago - (tu m.origin / 65536 + m.correction + delta))) := by
  intro delta fwd u v
  have hu : s.syncForwarded p m res = u := by simp [State.syncForwarded, hgood, hvalid, u, fwd, delta]
  have hside' : u.syncFiltered m = false := by
    simp only [u]
    split <;> exact hside
  have huse : (m.bad || !(s.pd p).valid) = false := by simp [hgood, hvalid]
  rw [execSync_forwarded p ago res hheld hdom hroot, hu]
  simp only [hside', huse, Bool.false_eq_true, if_false]
  rfl

end

theorem execSyncSend_root {s : State} {d : Nat} (hheld : stHeld ≤ s.hubState) (hd : d < 2) (hroot : s.isRoot d = true) :
    let u := s.rootClass d
    let x := u.dom d
    let q := (x.seqOut + 1) % 65536
    let out : SyncMsg :=
      { domain := d, seq := q, origin := x.t, correction := 0, hops := 0, bad := false, cls := x.ann
        errNs := u.rootErr d, classFrame := x.annFrame, counter := u.ownCounter, emit := u.hubId }
    let v := u.setDom d { x with seqOut := q }
    execSyncSend d s = .next (v.forEach ([0, 1].filter v.portUp) fun p s => { s with tx := s.tx ++ [.sync p out] }) := by
  intro u x q out v
  rw [execSyncSend, if_neg (by simp [Nat.not_lt.mpr hheld, Nat.not_le.mpr hd, hroot])]

/-! ## The statement -/

/-- Settles O26: each message is its rule in the case that the row names; an answer's value passes what is judged behind it. -/
theorem delayAndSyncRows : Obligations.DelayAndSyncRows := by
  unfold Obligations.DelayAndSyncRows
  refine ⟨fun s p m ago turn hheld _ => ⟨execPdReqSend_up hheld, execPdReq_held p m ago turn hheld,
      fun t1 hsent => ⟨execPdResp_slow hheld hsent ago, execPdResp_value hheld hsent ago⟩⟩,
    fun s p m ago res hheld hdom => ⟨execSync_damaged p ago res hheld hdom, execSync_root p ago res hheld hdom,
      execSync_usable p ago res hheld hdom, fun d hd => execSyncSend_root hheld hd⟩⟩

end Sys2Proof.Machine
end

section
/-! PROOFS. Edge timing: edges and timeouts of the TDC inputs (R374, R376, R380, R381), REFIN, the loss of the base's source and
PPS_IN (R370 to R372). -/

open Sys2Proof Sys2Proof.Machine

namespace Sys2Proof.Machine

/-! ## Edges and timeouts of an input (R374, R376, R380, R381) -/

/-- Input k has seen one selected edge more. -/
def State.tdcSeen (s : State) (k : Nat) : State := s.setTdc k { s.tdcIn k with n := (s.tdcIn k).n + 1 }

/-- An edge at t comes less than 384 bins, which are 3.0 ns, after the last measured edge of its input (R376). -/
def TdcIn.inDeadTime (x : TdcIn) (t : Int) : Bool :=
  match x.last with
  | some p => decide (t - p < 384)
  | none => false

theorem TdcIn.inDeadTime_of_last {x : TdcIn} {p : Int} (t : Int) (h : x.last = some p) :
    x.inDeadTime t = decide (t - p < 384) := by
  rw [TdcIn.inDeadTime, h]

theorem TdcIn.inDeadTime_fresh {x : TdcIn} (t : Int) (h : x.last = none) : x.inDeadTime t = false := by
  rw [TdcIn.inDeadTime, h]

section
variable {s : State} {k : Nat} {u : PatUnit} (hunit : s.unitAt cTDC k = some u) (hacq : s.acquires = true)
  (hboth : u.p 0 2 2 = 2) (falling : Bool) (c raw r1 r2 : Nat)
include hunit hacq hboth

/-- An input that selects both edges counts an edge and converts it; the dead time of its last measured edge decides whether the
edge is lost or measured. -/
theorem execTdcEdge_both : execTdcEdge k falling c raw r1 r2 s =
    let t := ((s.tdcSeen k).tdcTime k c raw).1
    let v := ((s.tdcSeen k).tdcTime k c raw).2
    let x := v.tdcIn k
    if x.inDeadTime t then
      .next ((((v.setTdc k { x with lost := true }).sat Fld.TDC_CHk_CNT.SHORT_CNT 1 k).put Fld.TDC_CHk_STAT.SHORT 1 k).put
        Fld.TDC_EVT.SHORT 1)
    else
      let y := { x with
        cal := x.cal.set x.turn (r1, r2), turn := 1 - x.turn, last := some t
        edges := x.edges ++ [{ t := t, n := x.n, falling := falling, base := v.is Fld.TDC_STAT.FALLBACK }] }
      let w := (v.setTdc k y).wrap Fld.TDC_CHk_EDGES.EDGES 1 k
      .next ((if u.p 0 0 2 = 1 then w.tdcStop k t falling else w).tdcStarts k t) := by
  simp only [execTdcEdge, hunit, hacq, hboth, Bool.not_true, beq_self_eq_true, Bool.true_or, Bool.or_self,
    Bool.false_eq_true, if_false]
  rfl

/-- An edge in the dead time is lost: it is counted as such and flagged. -/
theorem execTdcEdge_lost {p : Int} (hlast : (((s.tdcSeen k).tdcTime k c raw).2.tdcIn k).last = some p)
    (hsoon : ((s.tdcSeen k).tdcTime k c raw).1 - p < 384) : execTdcEdge k falling c raw r1 r2 s =
    let v := ((s.tdcSeen k).tdcTime k c raw).2
    .next ((((v.setTdc k { v.tdcIn k with lost := true }).sat Fld.TDC_CHk_CNT.SHORT_CNT 1 k).put Fld.TDC_CHk_STAT.SHORT 1
      k).put Fld.TDC_EVT.SHORT 1) := by
  rw [execTdcEdge_both hunit hacq hboth]
  simp only [TdcIn.inDeadTime_of_last _ hlast, hsoon, decide_true, if_true]

/-- The first edge of an input that measures no intervals is measured. -/
theorem execTdcEdge_first (hlast : (((s.tdcSeen k).tdcTime k c raw).2.tdcIn k).last = none) (hmode : u.p 0 0 2 ≠ 1) :
    execTdcEdge k falling c raw r1 r2 s =
    let t := ((s.tdcSeen k).tdcTime k c raw).1
    let v := ((s.tdcSeen k).tdcTime k c raw).2
    let x := v.tdcIn k
    let y := { x with
      cal := x.cal.set x.turn (r1, r2), turn := 1 - x.turn, last := some t
      edges := x.edges ++ [{ t := t, n := x.n, falling := falling, base := v.is Fld.TDC_STAT.FALLBACK }] }
    .next (((v.setTdc k y).wrap Fld.TDC_CHk_EDGES.EDGES 1 k).tdcStarts k t) := by
  rw [execTdcEdge_both hunit hacq hboth]
  simp only [TdcIn.inDeadTime_fresh _ hlast, hmode, Bool.false_eq_true, if_false]

end

theorem execTdcStartTimeout_pending {s : State} {k : Nat} {b : Int} (hstart : (s.tdcIn k).start = some b) :
    execTdcStartTimeout k s =
      .next ((s.setTdc k { s.tdcIn k with start := none }).put Fld.TDC_CHk_STAT.TIMEOUT 1 k) := by
  simp [execTdcStartTimeout, hstart]

/-! ## REFIN (R370) -/

/-- A window at exactly 10 MHz, where nine good ones came before it, makes REFIN valid. -/
theorem execRefinWindow_tenth {s : State} (hheld : stHeld ≤ s.hubState) (hrate : s.get Fld.TDC_CFG.REFIN_RATE = 1)
    (hnine : 9 ≤ s.tdc.windows) : execRefinWindow true 10000000000 true s =
      .next (((((({ s with tdc.windows := 10 } : State).put Fld.TDC_STAT.REFIN_PRESENT 1).put Fld.TDC_STAT.REFIN_VALID
        1).put Fld.TDC_STAT.REFIN_100M 0).put Fld.TDC_STAT.PLL_LOCK 1).putI Fld.TDC_REF_PPM.PPM 0) := by
  have hten : min 10 (s.tdc.windows + 1) = 10 := by omega
  simp only [execRefinWindow, Nat.not_lt.mpr hheld, hrate, hten, if_true, if_false]
  rfl

theorem execRefinWindow_valid {s : State} (hheld : stHeld ≤ s.hubState) (hrate : s.get Fld.TDC_CFG.REFIN_RATE = 1)
    (hnine : 9 ≤ s.tdc.windows) : ∃ t, execRefinWindow true 10000000000 true s = .next t ∧ t.tdc.windows = 10 ∧
      t.get Fld.TDC_STAT.REFIN_PRESENT = 1 ∧ t.get Fld.TDC_STAT.REFIN_VALID = 1 ∧ t.get Fld.TDC_STAT.REFIN_100M = 0 ∧
      t.get Fld.TDC_STAT.PLL_LOCK = 1 ∧ t.get Fld.TDC_REF_PPM.PPM = 0 := by
  refine ⟨_, execRefinWindow_tenth hheld hrate hnine, ?_⟩
  simp +decide [State.putI, State.get_put_indep, State.get_put_same]

/-- With REFIN's edge lost, its windows and its flags are gone, and nothing else changes. -/
theorem execRefinPresenceLoss_clears (s : State) : ∃ t, execRefinPresenceLoss s = .next t ∧ t.tdc.windows = 0 ∧
    t.get Fld.TDC_STAT.REFIN_PRESENT = 0 ∧ t.get Fld.TDC_STAT.REFIN_VALID = 0 ∧ t.get Fld.TDC_STAT.PLL_LOCK = 0 ∧
    t = { s with regs := t.regs, tdc := t.tdc } ∧
    ∀ a, a ≠ Reg.TDC_STAT.base → tabGet t.regs 0 a = tabGet s.regs 0 a := by
  generalize hu : ({ s with tdc.windows := 0 } : State) = u
  generalize ht : ((u.put Fld.TDC_STAT.REFIN_PRESENT 0).put Fld.TDC_STAT.REFIN_VALID 0).put Fld.TDC_STAT.PLL_LOCK 0 = t
  have hregs : RegsOnly [Reg.TDC_STAT.base] u t := ht ▸ (((u.put_regsOnly Fld.TDC_STAT.REFIN_PRESENT 0 0 0).trans
    (State.put_regsOnly _ Fld.TDC_STAT.REFIN_VALID 0 0 0)).trans
    (State.put_regsOnly _ Fld.TDC_STAT.PLL_LOCK 0 0 0)).mono (by decide)
  obtain ⟨hframe, hsame⟩ := hregs
  refine ⟨t, by rw [← ht, ← hu]; rfl, ?windows, ?present, ?valid, ?lock, ?frame, fun a ha => ?regs⟩
  case windows => rw [hframe, ← hu]
  case present => simp +decide [← ht, State.get_put_indep, State.get_put_same]
  case valid => simp +decide [← ht, State.get_put_indep, State.get_put_same]
  case lock => exact ht ▸ State.get_put_same _ 0 0 0 (by decide) (by decide)
  case frame => rw [hframe, ← hu]
  case regs => rw [hsame a (by simpa using ha), ← hu]

/-! ## The loss of the base's source (R372) -/

theorem State.get_tdcRebase_base (s : State) (base : Nat) (fallback : Bool) :
    (s.tdcRebase base fallback).get Fld.TDC_STAT.BASE = base % 4 :=
  (State.get_put_indep _ _ _ _ _ _ (by decide)).trans (State.get_put_same _ base 0 0 (by decide) (by decide))

theorem State.get_tdcRebase_fallback (s : State) (base : Nat) (fallback : Bool) :
    (s.tdcRebase base fallback).get Fld.TDC_STAT.FALLBACK = b2n fallback := by
  refine (State.get_put_same _ (b2n fallback) 0 0 (by decide) (by decide)).trans ?_
  cases fallback <;> rfl

/-- The coarse clock falls back to the time clock, and the loss is flagged; its count and its record keep both. -/
theorem execTdcRefLoss_fallback {s : State} (hbase : s.get Fld.TDC_STAT.BASE ≠ 0) : ∃ t, execTdcRefLoss s = .next t ∧
    t.get Fld.TDC_STAT.BASE = 0 ∧ t.get Fld.TDC_STAT.FALLBACK = 1 ∧ t.get Fld.TDC_EVT.REF_LOSS = 1 := by
  refine ⟨_, by rw [execTdcRefLoss, if_neg hbase], ?base, ?fallback, ?loss⟩
  all_goals rw [State.get_stage_below _ 0 0 (by decide), State.get_sat_indep _ _ _ _ _ _ (by decide)]
  case base => exact (State.get_put_indep _ _ _ _ _ _ (by decide)).trans (State.get_tdcRebase_base _ 0 true)
  case fallback => exact (State.get_put_indep _ _ _ _ _ _ (by decide)).trans (State.get_tdcRebase_fallback _ 0 true)
  case loss => exact State.get_put_same _ 1 0 0 (by decide) (by decide)

/-! ## PPS_IN (R371) -/

/-- Whether the hub is a root depends on the active Pattern and its own number. -/
theorem State.isRoot_of_banks {s t : State} (hbanks : t.banks = s.banks)
    (hid : t.get Fld.GLB_STATE.HUB_ID = s.get Fld.GLB_STATE.HUB_ID) (d : Nat) : t.isRoot d = s.isRoot d := by
  simp only [State.isRoot, State.rootHub, State.policy, State.hubId, hbanks, hid]

theorem State.ppsRoot_of_not_root {s : State} {d : Nat} (ago : Int) (hroot : s.isRoot d = false) : s.ppsRoot d ago = s := by
  simp [State.ppsRoot, hroot]

/-- A PPS_IN edge in its place after two others, at a hub that is no root: PPS_IN is valid, the deviation of its period on the
time clock is shown, and the edge is kept. -/
theorem execPpsInEdge_third {s : State} {ago p : Int} (hheld : stHeld ≤ s.hubState) (hA : s.isRoot 0 = false)
    (hB : s.isRoot 1 = false) (hlast : s.tdc.ppsL = some p)
    (hplace : (s.l16 - ago - p - 1000000000 * 65536).natAbs ≤ 65536000) (hrun : s.tdc.ppsRun = 2) :
    let clk := ((s.silt.opNs * 65536 : Nat) : Int) - ago
    let u := (({ s with tdc.ppsRun := 3 } : State).put Fld.TDC_STAT.PPS_VALID 1).putI Fld.TDC_PPS_DEV.DEV
      (roundDiv (clk - s.tdc.ppsClk - 1000000000 * 65536) 256)
    execPpsInEdge ago s = .next { u with tdc.ppsL := some (s.l16 - ago), tdc.ppsClk := clk } := by
  intro clk u
  generalize hv : ({ u with tdc.ppsL := some (s.l16 - ago), tdc.ppsClk := clk } : State) = v
  have hid : u.get Fld.GLB_STATE.HUB_ID = s.get Fld.GLB_STATE.HUB_ID :=
    (State.get_put_indep _ _ _ _ _ _ (by decide)).trans (State.get_put_indep _ _ _ _ _ _ (by decide))
  have hroot (d : Nat) : v.isRoot d = s.isRoot d :=
    State.isRoot_of_banks (by simp [← hv, u]) ((congrArg (·.get Fld.GLB_STATE.HUB_ID) hv.symm).trans hid) d
  have hexec : execPpsInEdge ago s = .next ((v.ppsRoot 0 ago).ppsRoot 1 ago) := by
    simp only [execPpsInEdge, Nat.not_lt.mpr hheld, hlast, hplace, hrun, if_true, if_false, ← hv]
    rfl
  rw [hexec, State.ppsRoot_of_not_root ago ((hroot 0).trans hA), State.ppsRoot_of_not_root ago ((hroot 1).trans hB)]

/-- Settles O27: each row is its rule in the case that it names. The dead time is the 3.0 ns of R376
(384 bins), and a PPS_IN edge at a hub that is no root serves its TDC base only. -/
theorem tdcRows : Obligations.TdcRows := by
  unfold Obligations.TdcRows
  refine ⟨fun s k c raw r1 r2 u hunit hacq hboth => ⟨?lost, ?first, ?timeout, ?freq⟩,
    fun s hheld => ⟨?window, ?presence, ?loss⟩, fun s ago p hheld hA hB => ⟨?third, ?away⟩⟩
  case lost => exact fun p => execTdcEdge_lost hunit hacq hboth false c raw r1 r2
  case first => exact execTdcEdge_first hunit hacq hboth false c raw r1 r2
  case timeout => exact fun b => execTdcStartTimeout_pending
  case freq => rfl
  case window => exact execRefinWindow_valid hheld
  case presence => exact execRefinPresenceLoss_clears s
  case loss => exact execTdcRefLoss_fallback
  case third =>
    intro hlast hplace hrun
    exact ⟨_, execPpsInEdge_third hheld hA hB hlast hplace hrun, by simp, rfl,
      (State.get_put_indep _ _ _ _ _ _ (by decide)).trans (State.get_put_same _ _ _ _ (by decide) (by decide))⟩
  case away => rfl

end Sys2Proof.Machine
end

section
/-! PROOFS. Capture: the end of a holdoff, arming and aborting an engine, writes of PRE, and ECC errors (R390, R401, R407, R408, R410,
R412). -/

open Sys2Proof Sys2Proof.Machine

namespace Sys2Proof.Machine

theorem State.inst_of_unitAt {s : State} {cls inst : Nat} {u : PatUnit} (h : s.unitAt cls inst = some u) : u.inst = inst :=
  beq_iff_eq.mp (List.find?_some h :)

/-- Triggers are evaluated in RUN and SAFE only, and there the map responds (R388, R671). -/
theorem State.mapOpen_of_trigRuns {s : State} (h : s.trigRuns = true) : s.mapOpen = true := by
  have hstate : s.hubState = stRun ∨ s.hubState = stSafe := by simpa [State.trigRuns, State.inStates] using h
  rcases hstate with hstate | hstate <;> rw [State.mapOpen, hstate] <;> decide

@[simp] theorem State.engine_setEngine (s : State) (u : PatUnit) (n : Nat) (x : Engine) :
    (s.setEngine u x).engine n = if n = u.inst then x else s.engine n := by
  simp [State.setEngine, State.engine, tabGet_set]

@[simp] theorem State.engine_put (s : State) (f : Field) (v i j n : Nat) : (s.put f v i j).engine n = s.engine n := by
  simp [State.engine]

/-- A field of one of the sixteen engines' registers reads what was put there. -/
theorem State.get_put_engine (s : State) {f : Field} (v : Nat) {e : Nat}
    (hf : f.reg.n1 = 16 ∧ f.reg.n2 = 1 ∧ f.lsb + f.width ≤ 32) (he : e < 16) : (s.put f v e).get f e = v % 2 ^ f.width := by
  obtain ⟨hn1, hn2, hbits⟩ := hf
  exact State.get_put_same s v e 0 hbits (by simp [RegDef.has, hn1, hn2, he])

/-! ## Holdoffs (R390) -/

theorem execTriggerHoldoffEnd_past {s : State} {t h : Nat} (hhold : (s.trig t).holdTo = some h) (hpast : h < s.seq.frame) :
    execTriggerHoldoffEnd t s =
      .next ((s.setTrig t { s.trig t with holdTo := none }).put Fld.CAP_TRGt_STAT.HOLDOFF 0 t) := by
  simp [execTriggerHoldoffEnd, hhold, hpast]

/-! ## Arming and aborting (R401, R407, R412) -/

section
variable {s : State} {e : Nat} {u : PatUnit} (hu : s.unitAt cCAPTURE e = some u)
include hu

/-- At a record boundary from its arm time on an engine starts anew, in FILL, with PRE and POST as they stand. -/
theorem execCaptureArm_due {f : Nat} (hruns : s.trigRuns = true) (harm : (s.engine e).armAt = some f) (hdue : f ≤ s.seq.frame)
    (hboundary : capBoundary u s.seq.frame = s.seq.frame) :
    let x := { Engine.rest with
      armTick := s.seq.frame, segFirst := s.seq.frame, pre := s.get Fld.CAP_Ee_PRE.PRE e, post := s.get Fld.CAP_Ee_POST.POST e }
    execCaptureArm e s = .next ((((s.setEngine u x).put Fld.CAP_Ee_SEG.DONE 0 e).put Fld.CAP_Ee_CTRL.ARM 0 e).put
      Fld.CAP_Ee_STAT.STATE ceFILL e) := by
  simp [execCaptureArm, hu, hruns, harm, hdue, hboundary]

theorem execCaptureAbortEffect_due {f : Nat} (habort : (s.engine e).abortAt = some f) (hdue : f ≤ s.seq.frame)
    (hbusy : s.ceBusy e = true) : execCaptureAbortEffect e s = .next (s.capAbort u) := by
  simp [execCaptureAbortEffect, hu, habort, hdue, hbusy]

theorem execCapCtrlArm_free (hruns : s.trigRuns = true) (hfree : s.ceBusy e = false) : execCapCtrlArm e s =
    .next ((s.setEngine u { s.engine e with armAt := some (s.seq.frame + 1) }).put Fld.CAP_Ee_CTRL.ARM 1 e) := by
  simp [execCapCtrlArm, State.mapOpen_of_trigRuns hruns, hu, hruns, hfree]

theorem execCapCtrlArm_busy (hopen : s.mapOpen = true) (hbusy : s.ceBusy e = true) :
    execCapCtrlArm e s = .next (s.put Fld.CAP_Ee_STAT.ARM_DROP 1 e) := by
  simp [execCapCtrlArm, hopen, hu, hbusy]

theorem execCapCtrlAbort_busy (hopen : s.mapOpen = true) (hbusy : s.ceBusy e = true) : execCapCtrlAbort e s =
    .next ((s.setEngine u { s.engine e with abortAt := some (s.seq.frame + 1) }).put Fld.CAP_Ee_CTRL.ABORT 1 e) := by
  simp [execCapCtrlAbort, hopen, hu, hbusy]

end

/-! ## Writes of PRE (R408) -/

theorem State.clampPre_within {s : State} {u : PatUnit}
    (h : s.get Fld.CAP_Ee_PRE.PRE u.inst + s.get Fld.CAP_Ee_POST.POST u.inst ≤ capCs u - 1) : s.clampPre u = s := by
  simp only [State.clampPre, State.when, decide_eq_true_eq]
  exact if_neg (Nat.not_lt.mpr h)

/-- A PRE that leaves room for POST is not clamped. -/
theorem State.wrPrePost_pre {s : State} {e v : Nat} {u : PatUnit} (hu : s.unitAt cCAPTURE e = some u) (he : e < 16)
    (hv : v < 2 ^ 32) (hroom : v + s.get Fld.CAP_Ee_POST.POST e ≤ capCs u - 1) :
    s.wrPrePost e false v = s.put Fld.CAP_Ee_PRE.PRE v e := by
  have hinst : u.inst = e := State.inst_of_unitAt hu
  have hpre : (s.put Fld.CAP_Ee_PRE.PRE v e).get Fld.CAP_Ee_PRE.PRE e = v :=
    (s.get_put_engine v (by decide) he).trans (Nat.mod_eq_of_lt hv)
  have hpost : (s.put Fld.CAP_Ee_PRE.PRE v e).get Fld.CAP_Ee_POST.POST e = s.get Fld.CAP_Ee_POST.POST e :=
    State.get_put_indep s v e 0 e 0 (by decide)
  have hwrite : s.wrPrePost e false v = (s.put Fld.CAP_Ee_PRE.PRE v e).clampPre u := by
    simp only [State.wrPrePost, hu, Nat.mod_eq_of_lt hv, Bool.not_false, if_true]
  rw [hwrite, State.clampPre_within (by rwa [hinst, hpre, hpost])]

theorem execCapPrePostWrite_open {s : State} (e : Nat) (post : Bool) (v : Nat) (hopen : s.mapOpen = true) :
    execCapPrePostWrite e post v s = .next (s.wrPrePost e post v) := by
  simp [execCapPrePostWrite, hopen]

/-! ## What an abort leaves (R407) -/

section
variable (s : State) (u : PatUnit)

theorem State.get_capAbort_state (h : u.inst < 16) :
    (s.capAbort u).get Fld.CAP_Ee_STAT.STATE u.inst = ceABORTED :=
  (State.get_put_indep _ _ _ _ _ _ (by decide)).trans
    (State.get_put_engine _ ceABORTED (by decide) h)

theorem State.get_capAbort_abort (h : u.inst < 16) : (s.capAbort u).get Fld.CAP_Ee_CTRL.ABORT u.inst = 0 :=
  State.get_put_engine _ 0 (by decide) h

theorem State.abortAt_engine_capAbort : ((s.capAbort u).engine u.inst).abortAt = none := by
  simp only [State.capAbort, State.engine_put, State.engine_setEngine, if_true]
  exact (apply_ite Engine.abortAt _ _ _).trans (ite_self _)

/-- The records of the segment stay in capture memory. -/
theorem State.mem_capAbort : (s.capAbort u).cap.mem = s.cap.mem := by
  simp [State.capAbort, State.setEngine]

end

/-! ## ECC errors (R410) -/

theorem execCaptureEccError_uncorrectable {s : State} {b : Nat} (hgood : s.cap.poisoned.contains b = false) :
    execCaptureEccError b false s = .next
      ((((({ s with cap.poisoned := b :: s.cap.poisoned } : State).sat Fld.CAP_ECC_CNT.UNCORR).put Fld.CAP_ECC_ADDR.BLOCK b).put
        Fld.CAP_STAT.ECC_UE 1).stage 0x0302 (leBytes 1 0 ++ leBytes 4 b)) := by
  simp only [execCaptureEccError, hgood, Bool.false_eq_true, if_false]

/-- Settles O28: each row is its rule in the case that it names; what an abort leaves is read off its writes. -/
theorem captureRows : Obligations.CaptureRows := by
  unfold Obligations.CaptureRows
  refine ⟨fun s t h => execTriggerHoldoffEnd_past, fun s e f u hu hruns => ?_,
    fun s u hinst => ⟨s.get_capAbort_state u hinst, s.get_capAbort_abort u hinst, s.abortAt_engine_capAbort u, s.mem_capAbort u⟩,
    fun s b => ⟨rfl, execCaptureEccError_uncorrectable⟩⟩
  have hopen : s.mapOpen = true := State.mapOpen_of_trigRuns hruns
  refine ⟨execCaptureArm_due hu hruns, execCaptureAbortEffect_due hu, execCapCtrlArm_free hu hruns,
    fun hbusy => ⟨execCapCtrlArm_busy hu hopen hbusy, execCapCtrlAbort_busy hu hopen hbusy⟩, fun hpost v hroom hv he => ?_⟩
  have hfits : v + s.get Fld.CAP_Ee_POST.POST e ≤ capCs u - 1 := by omega
  exact (execCapPrePostWrite_open e false v hopen).trans (congrArg Host.Outcome.next (State.wrPrePost_pre hu he hv hfits))

end Sys2Proof.Machine
end

section
/-! PROOFS. The loop, Sluice and capture commands (R407, R436, R447, R451, R460): a new record of each, and its effect. -/

open Sys2Proof Sys2Proof.Machine

namespace Sys2Proof.Machine

/-! ## A new record of a command from 0x70 on -/

/-- A new record of a command in one of its states: the command's effect, then the answer. -/
theorem State.runCommand_high {s t : State} {o : Origin} {op : Nat} {args : List Byte} {a : Answer} (h : s.fresh o = true)
    (hop : (decide (0x70 ≤ op) && decide (op < 256) && opKnown op) = true) (hstate : s.hubState ∈ opStates op)
    (hl : args.length ≤ 240) (h4 : args.length % 4 = 0) (hargs : argsOk op args = true)
    (heff : s.commandHigh op args o = (a, t)) : s.runCommand o op args = t.settle o op args s.hubState a := by
  simp only [Bool.and_eq_true, decide_eq_true_eq] at hop
  obtain ⟨⟨hlow, hbyte⟩, hknown⟩ := hop
  have hnotLow : ¬ op < 0x30 := by omega
  have hcmd : s.command op args o = (a, t) := by
    simp [State.command, hknown, State.inStates_of_mem hstate, hnotLow, Nat.not_lt.mpr hlow, heff]
  rw [State.runCommand_fresh h hbyte hl h4 hargs, hcmd]

/-! ## The effects of the commands -/

section
variable {s : State} {k : Nat} {u : PatUnit}

theorem State.loopIntSet_unit (v : Int) (hu : s.unitAt cLOOP k = some u) :
    s.loopIntSet k v = ({ status := 0 }, s.setSlot k { s.slot k with intSet := some (s.seq.frame + 1, v) }) := by
  simp only [State.loopIntSet, hu]

theorem State.loopRet_unit (hu : s.unitAt cLOOP k = some u) (hstate : (s.slot k).lstate ≠ 1) (hgood : (s.slot k).fb1.bad = false) :
    s.loopRet k = ({ status := 0 }, s.setSlot k { s.slot k with ret := true }) := by
  simp [State.loopRet, hu, hstate, hgood]

theorem State.sluForceCmd_unit {on : Nat} (hu : s.unitAt cOUTPUT k = some u) (hk : k < 80) (hon : on ≤ 1) :
    s.sluForceCmd k on = ({ status := 0 }, s.setSlu k { s.slu k with forceNext := some (s.seq.frame + 1, on == 1) }) := by
  have hshape : (decide (1 < on) || decide (79 < k)) = false := by
    simp
    omega
  simp only [State.sluForceCmd, hshape, hu, Bool.false_eq_true, if_false]

theorem State.capForce_unit (hu : s.unitAt cTRIGGER k = some u) :
    s.capForce k = ({ status := 0 }, s.setTrig k { s.trig k with force := some (s.seq.frame + 1) }) := by
  simp only [State.capForce, hu]

/-- The record of SLU_RECLAIM holds the health that the command finds. -/
theorem State.sluReclaim_withdrawn (hlatch : s.is Fld.SLU_WD.SD = true) (hquiet : s.get Fld.SUP_SD_STAT.ACTIVE = 0) :
    s.sluReclaim = ({ status := 0 },
      ((s.put Fld.SLU_WD.SD 0).degrade Fld.GLB_DEGRADED.SELFDIAG Fld.GLB_DEGRADED_STICKY.SELFDIAG false).stage 0x0902
        (leBytes 1 3 ++ leBytes 1 (s.get Fld.SLU_HEALTH.H))) := by
  have hhealth : ((s.put Fld.SLU_WD.SD 0).degrade Fld.GLB_DEGRADED.SELFDIAG Fld.GLB_DEGRADED_STICKY.SELFDIAG false).get
      Fld.SLU_HEALTH.H = s.get Fld.SLU_HEALTH.H :=
    (State.get_degrade _ 0 0 (by decide) false (by decide) (by decide) (by decide)).trans
      (State.get_put_indep _ _ _ _ _ _ (by decide))
  simp [State.sluReclaim, hlatch, hquiet, hhealth]

/-- A mask of one engine that is not at work arms it, from the next tick on (R407). -/
theorem State.capMaskCmd_arm {f : Nat} (hk : k < 2 ^ 16) (hf : f < 2 ^ 48) (hlater : f = 0 ∨ s.seq.frame < f)
    (hone : s.capMask k = [u]) (hfree : s.ceBusy u.inst = false) : s.capMaskCmd true f k =
      ({ status := 0 }, s.setEngine u { s.engine u.inst with armAt := some (max f (s.seq.frame + 1)) }) := by
  have hshape : (decide (2 ^ 16 ≤ k) || decide (2 ^ 48 ≤ f)) = false := by
    simp
    omega
  have htime : (if f < s.seq.frame + 1 then s.seq.frame + 1 else f) = max f (s.seq.frame + 1) := by
    split <;> omega
  have hnotLate : (f != 0 && decide (f < s.seq.frame + 1)) = false := by
    simp
    omega
  have harm : s.capMaskCmd true f k = s.capArm f k := by simp only [State.capMaskCmd, hshape, Bool.false_eq_true, if_false, if_true]
  simp only [harm, State.capArm, hone, hfree, htime, hnotLate, State.forEach_singleton, List.filter_cons, List.filter_nil,
    List.foldl_nil, Bool.false_eq_true, if_false]

/-- A mask of one engine that is at work aborts it, from the next tick on (R407). -/
theorem State.capMaskCmd_abort (hk : k < 2 ^ 16) (hone : s.capMask k = [u]) (hbusy : s.ceBusy u.inst = true) :
    s.capMaskCmd false 0 k =
      ({ status := 0 }, s.setEngine u { s.engine u.inst with abortAt := some (s.seq.frame + 1) }) := by
  have hmask : ¬ 65536 ≤ k := Nat.not_le.mpr hk
  simp [State.capMaskCmd, hmask, State.capAbortCmd, hone, State.forEach_singleton, hbusy]

end

/-! ## The words of each command's arguments -/

section
variable (s : State) (o : Origin) {k : Nat} (hk : k < 2 ^ 32)
include hk

theorem State.commandHigh_loopIntSet {v : Int} (hv : signed 64 (unsigned 64 v) = v) :
    s.commandHigh 0x70 (leBytes 4 k ++ leBytes 8 (unsigned 64 v)) o = s.loopIntSet k v := by
  have hlt := unsigned_lt 64 v
  simp (disch := omega) [State.commandHigh, leAt_skip, leAt_leBytes_of_lt, leAt_leBytes_nil_of_lt, hv]

theorem State.commandHigh_loopReturn : s.commandHigh 0x71 (leBytes 4 k) o = s.loopRet k := by
  simp (disch := omega) [State.commandHigh, leAt_leBytes_nil_of_lt]

theorem State.commandHigh_sluForcePark {on : Nat} (hon : on < 2 ^ 32) :
    s.commandHigh 0x79 (leBytes 4 k ++ leBytes 4 on) o = s.sluForceCmd k on := by
  simp (disch := omega) [State.commandHigh, leAt_skip, leAt_leBytes_of_lt, leAt_leBytes_nil_of_lt]

theorem State.commandHigh_capArm {f : Nat} (hf : f < 2 ^ 64) :
    s.commandHigh 0x80 (leBytes 8 f ++ leBytes 4 k) o = s.capMaskCmd true f k := by
  simp (disch := omega) [State.commandHigh, leAt_skip, leAt_leBytes_of_lt, leAt_leBytes_nil_of_lt]

theorem State.commandHigh_capAbort : s.commandHigh 0x81 (leBytes 4 k) o = s.capMaskCmd false 0 k := by
  simp (disch := omega) [State.commandHigh, leAt_leBytes_nil_of_lt]

theorem State.commandHigh_capForce : s.commandHigh 0x82 (leBytes 4 k) o = s.capForce k := by
  simp (disch := omega) [State.commandHigh, leAt_leBytes_nil_of_lt]

end

/-! ## The rows -/

section
variable {s t : State} {o : Origin} {k : Nat} (h : s.fresh o = true)
include h

/-- A new record of a command whose one argument is the number of a unit or a mask. -/
theorem State.runCommand_highWord {op : Nat} {a : Answer}
    (hop : (decide (0x70 ≤ op) && decide (op < 256) && opKnown op) = true)
    (hlen : (argLens.find? fun e => e.1 == op) = some (op, 4)) (hstate : s.hubState ∈ opStates op)
    (heff : s.commandHigh op (leBytes 4 k) o = (a, t)) :
    s.runCommand o op (leBytes 4 k) = t.settle o op (leBytes 4 k) s.hubState a := by
  have hnotWrite : op ≠ 0x11 := by
    rintro rfl
    exact absurd hop (by decide)
  refine State.runCommand_high h hop hstate ?_ ?_ ?args heff
  case args => simp [argsOk, hnotWrite, hlen]
  all_goals simp

theorem exec_loopIntSet {u : PatUnit} {v : Int} (hstate : s.hubState = stRun) (hu : s.unitAt cLOOP k = some u)
    (hk : k < 2 ^ 16) (hv : signed 64 (unsigned 64 v) = v) :
    exec (.loopIntSet o k v) s = .next ((s.setSlot k { s.slot k with intSet := some (s.seq.frame + 1, v) }).settle o 0x70
      (leBytes 4 k ++ leBytes 8 (unsigned 64 v)) s.hubState { status := 0 }) := by
  refine congrArg Host.Outcome.next (State.runCommand_high h rfl ?state ?_ ?_ ?args ?effect)
  case state => simpa [opStates] using hstate
  case args => simp [argsOk, argLens]
  case effect => rw [State.commandHigh_loopIntSet s o (by omega) hv, State.loopIntSet_unit v hu]
  all_goals simp

theorem exec_loopReturn {u : PatUnit} (hstate : s.hubState = stRun) (hu : s.unitAt cLOOP k = some u) (hk : k < 2 ^ 16)
    (hslot : (s.slot k).lstate ≠ 1) (hgood : (s.slot k).fb1.bad = false) :
    exec (.loopReturn o k) s = .next ((s.setSlot k { s.slot k with ret := true }).settle o 0x71 (leBytes 4 k) s.hubState
      { status := 0 }) :=
  congrArg Host.Outcome.next (State.runCommand_highWord h rfl rfl (by simpa [opStates] using hstate)
    ((State.commandHigh_loopReturn s o (by omega)).trans (State.loopRet_unit hu hslot hgood)))

theorem exec_sluReclaim (hstate : s.hubState = stArmed ∨ s.hubState = stRun) (hlatch : s.is Fld.SLU_WD.SD = true)
    (hquiet : s.get Fld.SUP_SD_STAT.ACTIVE = 0) : exec (.sluReclaim o) s = .next
      ((((s.put Fld.SLU_WD.SD 0).degrade Fld.GLB_DEGRADED.SELFDIAG Fld.GLB_DEGRADED_STICKY.SELFDIAG false).stage 0x0902
        (leBytes 1 3 ++ leBytes 1 (s.get Fld.SLU_HEALTH.H))).settle o 0x78 [] s.hubState { status := 0 }) :=
  congrArg Host.Outcome.next (State.runCommand_high h rfl (by simpa [opStates] using hstate) (Nat.zero_le _) rfl rfl
    (State.sluReclaim_withdrawn hlatch hquiet))

theorem exec_sluForcePark {u : PatUnit} {on : Nat}
    (hstate : s.hubState = stArmed ∨ s.hubState = stRun ∨ s.hubState = stSafe) (hk : k < 80)
    (hu : s.unitAt cOUTPUT k = some u) (hon : on ≤ 1) :
    exec (.sluForcePark o k on) s = .next ((s.setSlu k { s.slu k with forceNext := some (s.seq.frame + 1, on == 1) }).settle o
      0x79 (leBytes 4 k ++ leBytes 4 on) s.hubState { status := 0 }) := by
  refine congrArg Host.Outcome.next (State.runCommand_high h rfl ?state ?_ ?_ ?args ?effect)
  case state => simpa [opStates] using hstate
  case args => simp [argsOk, argLens]
  case effect => rw [State.commandHigh_sluForcePark s o (by omega) (by omega), State.sluForceCmd_unit hu hk hon]
  all_goals simp

variable (hstate : s.hubState = stRun ∨ s.hubState = stSafe) {u : PatUnit}
include hstate

theorem exec_capArm {f : Nat} (hk : k < 2 ^ 16) (hf : f < 2 ^ 48) (hlater : f = 0 ∨ s.seq.frame < f)
    (hone : s.capMask k = [u]) (hfree : s.ceBusy u.inst = false) :
    exec (.capArm o f k) s = .next
      ((s.setEngine u { s.engine u.inst with armAt := some (max f (s.seq.frame + 1)) }).settle o 0x80
        (leBytes 8 f ++ leBytes 4 k) s.hubState { status := 0 }) := by
  refine congrArg Host.Outcome.next (State.runCommand_high h rfl ?state ?_ ?_ ?args ?effect)
  case state => simpa [opStates] using hstate
  case args => simp [argsOk, argLens]
  case effect => rw [State.commandHigh_capArm s o (by omega) (by omega), State.capMaskCmd_arm hk hf hlater hone hfree]
  all_goals simp

theorem exec_capAbort (hk : k < 2 ^ 16) (hone : s.capMask k = [u]) (hbusy : s.ceBusy u.inst = true) :
    exec (.capAbort o k) s = .next ((s.setEngine u { s.engine u.inst with abortAt := some (s.seq.frame + 1) }).settle o 0x81
      (leBytes 4 k) s.hubState { status := 0 }) :=
  congrArg Host.Outcome.next (State.runCommand_highWord h rfl rfl (by simpa [opStates] using hstate)
    ((State.commandHigh_capAbort s o (by omega)).trans (State.capMaskCmd_abort hk hone hbusy)))

theorem exec_capForce (hk : k < 2 ^ 16) (hu : s.unitAt cTRIGGER k = some u) :
    exec (.capForce o k) s = .next ((s.setTrig k { s.trig k with force := some (s.seq.frame + 1) }).settle o 0x82 (leBytes 4 k)
      s.hubState { status := 0 }) :=
  congrArg Host.Outcome.next (State.runCommand_highWord h rfl rfl (by simpa [opStates] using hstate)
    ((State.commandHigh_capForce s o (by omega)).trans (State.capForce_unit hu)))

end

/-- Settles O42: each command is a new record in one of its states, its arguments are read back as they were written, and its
effect is that of its row. -/
theorem loopSluiceAndCaptureCommandRows : Obligations.LoopSluiceAndCaptureCommandRows := by
  unfold Obligations.LoopSluiceAndCaptureCommandRows
  intro s o k u h hk
  exact ⟨fun hstate hu => ⟨fun v hv => exec_loopIntSet h hstate hu hk hv, exec_loopReturn h hstate hu hk⟩,
    fun hstate hlatch hquiet => exec_sluReclaim h hstate hlatch hquiet,
    fun hstate hk' hu on hon => exec_sluForcePark h hstate hk' hu hon,
    fun hstate => ⟨fun f hf hlater hone hfree => exec_capArm h hstate hk hf hlater hone hfree,
      fun hone hbusy => exec_capAbort h hstate hk hone hbusy, exec_capForce h hstate hk⟩⟩

end Sys2Proof.Machine
end

section
/-! PROOFS. The ring: the first steps for an intact frame, the frames that a hub accepts, the link layer, discovery and HELLO (R394,
R448, R510 to R515, R518, R521 to R530, R648). -/

open Sys2Proof Sys2Proof.Machine

namespace Sys2Proof.Machine

/-! ## The first steps for an intact frame (R511, R512, R524, R528, R530) -/

/-- An intact frame other than a DISC probe or a HELLO: a frame without an identity, an own one that comes back and one at the hop
limit go no further, in this order of checks; any other is accepted. -/
theorem State.receive_intact {s u : State} {p lseq type : Nat} {f : List Byte} (fwd : Bool) (hheld : stHeld ≤ s.hubState)
    (hdisc : type ≠ 6) (hhello : type ≠ 7) (hintact : s.rxLink p lseq type f = (1, u)) :
    s.receive p lseq type fwd f =
      if fb f 3 = 0xFF then (false, u)
      else if u.returns type f then (false, (u.heardHub (fb f 3)).wrap Fld.RING_Pp_RET.RETURN 1 p)
      else if u.hopLimit type - 1 ≤ fb f 2 then
        (false, ((u.heardHub (fb f 3)).sat Fld.RING_MISC.TTL_CNT).evt Fld.RING_EVT.TTL 104)
      else (true, if fwd then (u.heardHub (fb f 3)).forward p f false else u.heardHub (fb f 3)) := by
  simp [State.receive, Nat.not_lt.mpr hheld, hintact, hdisc, hhello, beq_false_of_ne hdisc]

/-! ## Frames that a hub accepts (R394, R448, R511, R518, R521, R648) -/

section
variable {s u : State} {port lseq : Nat} {f : List Byte}

/-- A STREAM frame with room at the egress port goes to the subscriptions of its hub and stream. -/
theorem execStreamFrameReceive_accepted (hrec : s.receive port lseq 1 true f = (true, u)) :
    execStreamFrameReceive port lseq false f s = .next ((u.dualMark f).forEach
      (((u.dualMark f).units cSUBSCRIBE).filter fun w => subHub w == fb f 4 && subStream w == fb f 5)
      fun w s => s.confTake w port f) := by
  simp [execStreamFrameReceive, hrec]

/-- The key under which a TRIGGER frame is kept: emitter, line and time of the event. -/
def triggerKey (f : List Byte) (kR : Nat) : SeenKey :=
  ⟨2, [fb f 3, fb f 4 % 32, leAt f 6 6, leAt f 12 6, leAt f 20 4, leAt f 18 2], leAt f 6 6 + kR⟩

/-- The first copy of a TRIGGER frame is an event of its line. -/
theorem execTriggerFrameReceive_first (hrec : s.receive port lseq 2 true f = (true, u))
    (hnew : (u.keyed (triggerKey f u.kR)).1 = false) (hpeer : (u.keyed (triggerKey f u.kR)).2.peerQuar (fb f 3) = false) :
    let v := (u.keyed (triggerKey f u.kR)).2
    let tx : Int := (((leAt f 12 6 * 1000000000 + leAt f 20 4) * 65536 + leAt f 18 2 : Nat) : Int)
    execTriggerFrameReceive port lseq f s = .next (v.lineEvent (fb f 4 % 32) ⟨leAt f 6 6, tx, fb f 5 % 8, fb f 3, true⟩
      (v.pastDecide (leAt f 6 6 + v.kR))) := by
  unfold triggerKey at *
  simp [execTriggerFrameReceive, hrec, hnew, hpeer]

/-- The key under which a CLAIM frame is kept: emitter, output and label. -/
def claimKey (f : List Byte) : SeenKey := ⟨4, [fb f 3, leAt f 6 2, leAt f 8 6], leAt f 8 6 + fb f 5⟩

/-- The first copy of a CLAIM frame for this hub is an offer to its output. -/
theorem execClaimFrameReceive_first (hrec : s.receive port lseq 4 true f = (true, u)) (hown : fb f 4 = u.hubId)
    (hnew : (u.keyed (claimKey f)).1 = false) (hpeer : (u.keyed (claimKey f)).2.peerQuar (fb f 3) = false) :
    let v := (u.keyed (claimKey f)).2
    execClaimFrameReceive port lseq f s = .next (v.claimOffer (leAt f 6 2) (fb f 3) (leAt f 8 6) (fb f 5) (leAt f 14 2)
      (leAt f 16 4) (v.pastDecide (leAt f 8 6))) := by
  unfold claimKey at *
  simp [execClaimFrameReceive, hrec, hown, hnew, hpeer]

theorem execUnknownFrameReceive_reserved (htype : fb f 0 = 0 ∨ 7 < fb f 0)
    (hrec : s.receive port lseq (fb f 0) true f = (true, u)) : execUnknownFrameReceive port lseq f s =
      .next ((u.sat Fld.RING_MISC.UNKNOWN_CNT).evt Fld.RING_EVT.UNKNOWN 104) := by
  have hreserved : (decide (1 ≤ fb f 0) && decide (fb f 0 ≤ 7)) = false := by
    simp
    omega
  simp [execUnknownFrameReceive, hreserved, hrec]

/-- A probe with this hub's serial number has come back; any other goes on. -/
theorem execDiscFrameReceive_accepted (hrec : s.receive port lseq 6 false f = (true, u)) : execDiscFrameReceive port lseq f s =
    .next (if leAt f 8 8 = u.serial then u.discBack port f else u.discPass port f) := by
  simp only [execDiscFrameReceive, hrec, Bool.not_true, Bool.false_eq_true, if_false]
  split <;> rfl

end

/-! ## The link layer (R510, R514, R515) -/

section
variable {s : State} {p lseq : Nat}

/-- A NAK whose frames are all held, or are still to be sent, has the held ones sent again and needs no SKIP. -/
theorem execLinkNak_held {count : Nat} (hup : s.portUp p = true) :
    let u := s.sat Fld.RING_Pp_RETX.NAK_RX 1 p
    let names := (List.range (min 16 count)).map fun i => (lseq + i) % 65536
    let mark := ((u.rport p).retry.head?.map (·.1)).getD (u.rport p).next
    (∀ l ∈ names, lseqDiff mark l = 0 ∨ 32768 ≤ lseqDiff mark l) → execLinkNak p lseq count s =
      .next (u.forEach ((u.rport p).retry.filter fun e => names.contains e.1) fun e s => s.resend p e) := by
  intro u names mark hnames
  have hgone : (names.any fun l => lseqDiff mark l != 0 && decide (lseqDiff mark l < 32768)) = false := by
    rw [List.any_eq_false]
    intro l hl
    have hl' := hnames l hl
    simp
    omega
  simp only [execLinkNak, hup, Bool.not_true, Bool.false_eq_true, if_false]
  exact congrArg (fun c => Host.Outcome.next (State.when _ c _)) hgone

theorem execLinkSkip_same (h : lseqDiff lseq (s.rport p).rxNext = 0) : execLinkSkip p lseq s = .next s := by
  simp [execLinkSkip, h]

theorem advance_none {x : RingPort} (h : x.rxGot = []) (fuel : Nat) : advance fuel x = x := by
  cases fuel with
  | zero => rfl
  | succ k => simp [advance, h]

/-- A SKIP at a port that holds nothing out of order moves the next expected LSEQ on and acknowledges. -/
theorem execLinkSkip_ahead (hpos : 0 < lseqDiff lseq (s.rport p).rxNext) (hlt : lseqDiff lseq (s.rport p).rxNext < 32768)
    (hgot : (s.rport p).rxGot = []) :
    let high := if lseqDiff lseq (s.rport p).rxHigh < 32768 then lseq else (s.rport p).rxHigh
    execLinkSkip p lseq s =
      .next ((s.setRport p { s.rport p with rxNext := lseq % 65536, rxHigh := high }).sendLink p 0 (lseq % 65536) 0) := by
  intro high
  have hahead : (decide (lseqDiff lseq (s.rport p).rxNext = 0) || decide (lseqDiff lseq (s.rport p).rxNext ≥ 32768)) = false := by
    simp
    omega
  simp only [execLinkSkip, hahead, hgot, List.filter_nil, advance_none, Bool.false_eq_true, if_false]
  rfl

theorem execRetransmitTimeout_oldest {e : Nat × List Byte} {rest : List (Nat × List Byte)}
    (hheld : (s.rport p).retry = e :: rest) (hup : s.portUp p = true) :
    execRetransmitTimeout p s = .next (s.resend p e) := by
  simp [execRetransmitTimeout, hheld, hup]

/-- At the deadline every waiting frame is dropped and counted, at the port and at its stream. -/
theorem execStreamFrameDeadline_waiting {e : Nat × List Byte} {rest : List (Nat × List Byte)}
    (hwait : (s.rport p).wait = e :: rest) :
    let u := (s.setRport p { s.rport p with wait := [] }).sat Fld.RING_Pp_CAP.CAP_DROP (rest.length + 1) p
    let u := u.forEach (e :: rest) fun e s => s.sat Fld.RING_STRs_CNT.CAP_DROP 1 e.1
    execStreamFrameDeadline p s = .next (({ u with ring.capTick := some u.seq.frame } : State).degrade
      Fld.GLB_DEGRADED.STREAM_CAP Fld.GLB_DEGRADED_STICKY.STREAM_CAP true) := by
  simp only [execStreamFrameDeadline, hwait, List.isEmpty_cons, List.length_cons, Bool.false_eq_true, if_false]

end

/-! ## Discovery and HELLO (R522, R524, R529) -/

/-- Probes have left on each port that is up for discovery. -/
def State.probesSent (s : State) (change : Bool) : State :=
  ({ s with ring.owed := false } : State).forEach [0, 1] fun p s => if s.discUp p then s.probe p change else s

section
variable {s : State} (hheld : stHeld ≤ s.hubState)
include hheld

theorem execDiscProbeSend_held (change : Bool) : execDiscProbeSend change s =
    .next (if change then ((s.probesSent change).put Fld.RING_STAT.DISC_DONE 0).discJudge else (s.probesSent change).discJudge) :=
  if_neg (Nat.not_lt.mpr hheld)

theorem execHelloSend_held :
    let u := { s with ring.hseq := (s.ring.hseq + 1) % 65536 }
    execHelloSend s = .next (u.sendAll u.helloFrame) :=
  if_neg (Nat.not_lt.mpr hheld)

end

theorem execDiscProbeTimeout_out {s : State} {p : Nat} {x : Probe} (hprobe : s.ring.probes.getD p none = some x)
    (hout : x.back = none) (hup : s.discUp p = true) : execDiscProbeTimeout p s = .next (s.probe p x.change) := by
  simp only [execDiscProbeTimeout, hprobe, hout, hup, Option.isNone_none, Bool.and_self, if_true]

/-- Settles O49: the first steps of an intact frame by the order of their checks, and each row as its rule in the case that it
names. -/
theorem ringRows : Obligations.RingRows := by
  unfold Obligations.RingRows
  refine ⟨fun s u p lseq type fwd f hheld hdisc hhello hintact => ?first, fun s u port lseq f => ?accepted,
    fun s p lseq count => ?link, fun s p x hheld => ?discovery⟩
  case first =>
    rw [State.receive_intact fwd hheld hdisc hhello hintact]
    refine ⟨fun hnone => if_pos hnone, fun hid hown => ?_, fun hid hother hlimit => ?_, fun hid hother hroom => ?_⟩
    · rw [if_neg hid, if_pos hown]
    · rw [if_neg hid, hother, if_neg Bool.false_ne_true, if_pos hlimit]
    · rw [if_neg hid, hother, if_neg Bool.false_ne_true, if_neg (Nat.not_le.mpr hroom)]
  case accepted =>
    exact ⟨execStreamFrameReceive_accepted, execTriggerFrameReceive_first, execClaimFrameReceive_first,
      execUnknownFrameReceive_reserved, execDiscFrameReceive_accepted⟩
  case link =>
    exact ⟨rfl, fun hup => execLinkNak_held hup, execLinkSkip_same, execLinkSkip_ahead,
      fun e rest => execRetransmitTimeout_oldest, fun e rest => execStreamFrameDeadline_waiting⟩
  case discovery =>
    exact ⟨execDiscProbeSend_held hheld false, execDiscProbeSend_held hheld true, execDiscProbeTimeout_out,
      execHelloSend_held hheld⟩

end Sys2Proof.Machine
end

section
/-! PROOFS. A step of the machine, register rows while the map is closed (R671), and rows that clear counters (R462, R490, R493, R535,
R565, R577, R596, R618, R639, R656). -/

open Sys2Proof Sys2Proof.Machine

namespace Sys2Proof.Machine

/-- Settles O1: `step` reads the queue's front and hands the rest to `exec`. -/
theorem stepRunsFrontCommand : Obligations.StepRunsFrontCommand := by
  intro c rest s
  rfl

/-- Settles O14: each row asks first whether the map is open. -/
theorem closedMapIgnoresRegisterRows : Obligations.ClosedMapIgnoresRegisterRows := by
  intro s k v on bs ds hclosed
  have hshut : (!s.mapOpen) = true := by rw [hclosed]; rfl
  exact ⟨if_pos hshut, if_pos hshut, if_pos hshut, if_pos hshut, if_pos hshut, if_pos hshut, if_pos hshut, if_pos hshut,
    if_pos hshut, if_pos hshut, if_pos hshut, if_pos hshut, if_pos hshut, if_pos hshut, if_pos hshut, if_pos hshut,
    if_pos hshut, if_pos hshut, if_pos hshut, if_pos hshut, if_pos hshut, if_pos hshut, if_pos hshut, if_pos hshut,
    if_pos hshut, if_pos hshut⟩

/-! ## Registers outside a range of addresses -/

/-- The whole family stands from address `lo` on and below `hi`. -/
def RegDef.within (r : RegDef) (lo hi : Nat) : Bool :=
  decide (lo ≤ r.base) && decide (r.base + r.s1 * (r.n1 - 1) + r.s2 * (r.n2 - 1) < hi)

/-- The words of a register file below `lo` and from `hi` on. -/
def wordsOutside (lo hi : Nat) (m : Tab Word) (a : Nat) : Word := if lo ≤ a ∧ a < hi then 0 else tabGet m 0 a

theorem tabGet_of_wordsOutside {lo hi : Nat} {m m' : Tab Word} (h : wordsOutside lo hi m' = wordsOutside lo hi m) {a : Nat}
    (ha : a < lo ∨ hi ≤ a) : tabGet m' 0 a = tabGet m 0 a := by
  have hout : ¬ (lo ≤ a ∧ a < hi) := by omega
  simpa only [wordsOutside, if_neg hout] using congrFun h a

section
variable {lo hi : Nat} (s : State) (i j : Nat)

@[simp] theorem wordsOutside_wr {r : RegDef} (v : Word) (h : r.within lo hi = true) :
    wordsOutside lo hi (s.wr r v i j).regs = wordsOutside lo hi s.regs := by
  simp only [RegDef.within, Bool.and_eq_true, decide_eq_true_eq] at h
  funext a
  unfold wordsOutside
  split
  · rfl
  · next hout =>
    have hne : ¬ (a = r.at i j ∧ r.has i j = true) := by
      rintro ⟨rfl, hhas⟩
      have := RegDef.at_le hhas
      omega
    rw [State.wr_regs, if_neg hne]

@[simp] theorem wordsOutside_put {f : Field} (v : Nat) (h : f.reg.within lo hi = true) :
    wordsOutside lo hi (s.put f v i j).regs = wordsOutside lo hi s.regs := wordsOutside_wr s i j _ h

@[simp] theorem wordsOutside_sat {f : Field} (k : Nat) (h : f.reg.within lo hi = true) :
    wordsOutside lo hi (s.sat f k i j).regs = wordsOutside lo hi s.regs := wordsOutside_wr s i j _ h

end

/-! ## Counters of the RING block (R535) -/

/-- A state without its registers. -/
@[simp] abbrev State.noRegs (s : State) : State := { s with regs := [] }

theorem State.eq_of_noRegs {s t : State} (h : t.noRegs = s.noRegs) : t = { s with regs := t.regs } := by
  have hput := congrArg (fun u : State => { u with regs := t.regs }) h
  exact hput

@[simp] theorem State.noRegs_wr (s : State) (r : RegDef) (v : Word) (i j : Nat) : (s.wr r v i j).noRegs = s.noRegs := by
  rw [State.wr_frame]

@[simp] theorem State.noRegs_put (s : State) (f : Field) (v i j : Nat) : (s.put f v i j).noRegs = s.noRegs :=
  State.noRegs_wr _ _ _ _ _

/-- A family of `n` registers with one index. -/
def RegDef.oneIndex (r : RegDef) (n : Nat) : Bool := decide (r.n1 = n) && decide (r.n2 = 1)

theorem RegDef.has_of_lt {r : RegDef} {i n : Nat} (hr : r.oneIndex n = true) (hi : i < n) : r.has i 0 = true := by
  obtain ⟨hn1, hn2⟩ : r.n1 = n ∧ r.n2 = 1 := by simpa [RegDef.oneIndex] using hr
  simp [RegDef.has, hn1, hn2, hi]

/-- What the operation of an element brings about, and the operations of the others keep, holds for every element at the end. -/
theorem State.forEach_all {α : Type} {P : α → State → Prop} {f : α → State → State} (l : List α)
    (hset : ∀ a ∈ l, ∀ t : State, P a (f a t)) (hkeep : ∀ a b (t : State), P b t → P b (f a t)) (s : State) :
    ∀ a ∈ l, P a (s.forEach l f) := by
  have hall (l : List α) (t : State) (b : α) (hb : P b t) : P b (t.forEach l f) := by
    unfold State.forEach
    induction l generalizing t with
    | nil => exact hb
    | cons c l ih => exact ih _ (hkeep c b t hb)
  induction l generalizing s with
  | nil => simp
  | cons c l ih =>
    intro a ha
    rcases List.mem_cons.mp ha with rfl | ha
    · exact hall l _ a (hset a List.mem_cons_self s)
    · exact ih (fun b hb => hset b (List.mem_cons_of_mem c hb)) (f c s) a ha

/-- A register at 0 stays there when one of its family is set to 0. -/
theorem State.rd_wr_zero {s : State} {r : RegDef} {a b : Nat} (i j : Nat) (h : s.rd r a b = 0) : (s.wr r 0 i j).rd r a b = 0 := by
  unfold State.rd at h ⊢
  split
  · next hhas =>
    rw [if_pos hhas] at h
    rw [State.wr_regs]
    split
    · simp
    · exact h
  · next hhas => rwa [if_neg hhas] at h

/-- A field at 0 stays there when it is set to 0 in another register of its family. -/
theorem State.get_put_zero {s : State} {f : Field} {a b : Nat} (i j : Nat) (hw : f.lsb + f.width ≤ 32) (h : s.get f a b = 0) :
    (s.put f 0 i j).get f a b = 0 := by
  unfold State.get State.put at *
  unfold State.rd at h ⊢
  split
  · next hhas =>
    rw [if_pos hhas] at h
    rw [State.wr_regs]
    split
    · simp [getBits_putBits _ _ _ _ hw]
    · exact h
  · next hhas => rwa [if_neg hhas] at h

/-- The saturating counts of port p are 0; RETURN wraps and stays. -/
def State.ringPortCleared (p : Nat) (s : State) : State :=
  (((((s.wr Reg.RING_Pp_ERR 0 p).wr Reg.RING_Pp_RETX 0 p).wr Reg.RING_Pp_OVR 0 p).wr Reg.RING_Pp_CAP 0 p).put
    Fld.RING_Pp_RET.NAK_TX 0 p)

/-- The saturating counts of the block and of both ports are 0. -/
def State.ringPortsCleared (s : State) : State :=
  (((s.put Fld.RING_MGMT.TIMEOUT_CNT 0).put Fld.RING_MISC.TTL_CNT 0).put Fld.RING_MISC.UNKNOWN_CNT 0).forEach [0, 1]
    State.ringPortCleared

/-- And so are those of the streams. -/
def State.ringStreamsCleared (s : State) : State :=
  s.ringPortsCleared.forEach (List.range 64) fun k s => s.put Fld.RING_STRs_CNT.CAP_DROP 0 k

/-- The state after RING_CNT_CLR: the counts of the subscriptions are 0 too. -/
def State.ringCleared (s : State) : State :=
  s.ringStreamsCleared.forEach (s.units cSUBSCRIBE) fun u s => s.wr Reg.RING_CFk_LOSS 0 u.inst

section
variable (s : State)

theorem State.noRegs_ringPortsCleared : s.ringPortsCleared.noRegs = s.noRegs :=
  (State.view_forEach State.noRegs _ _ _ fun p t => by simp only [State.ringPortCleared, State.noRegs_put, State.noRegs_wr]).trans
    (by simp only [State.noRegs_put])

theorem State.noRegs_ringStreamsCleared : s.ringStreamsCleared.noRegs = s.noRegs :=
  (State.view_forEach State.noRegs _ _ _ fun _ t => t.noRegs_put _ _ _ _).trans s.noRegs_ringPortsCleared

theorem State.noRegs_ringCleared : s.ringCleared.noRegs = s.noRegs :=
  (State.view_forEach State.noRegs _ _ _ fun _ t => t.noRegs_wr _ _ _ _).trans s.noRegs_ringStreamsCleared

theorem exec_ringCntClr {s : State} (hopen : s.mapOpen = true) : exec .ringCntClr s = .next s.ringCleared := by
  have hunits : s.ringStreamsCleared.units cSUBSCRIBE = s.units cSUBSCRIBE := by
    rw [State.eq_of_noRegs s.noRegs_ringStreamsCleared]
    rfl
  have hshut : ¬ (!s.mapOpen) = true := by simp [hopen]
  rw [State.ringCleared, ← hunits]
  exact if_neg hshut

theorem State.wordsOutside_ringCleared :
    wordsOutside 0x180000 0x1C0000 s.ringCleared.regs = wordsOutside 0x180000 0x1C0000 s.regs := by
  let view (t : State) := wordsOutside 0x180000 0x1C0000 t.regs
  have hport (p : Nat) (t : State) : view (t.ringPortCleared p) = view t := by simp +decide [view, State.ringPortCleared]
  have hstream (k : Nat) (t : State) : view (t.put Fld.RING_STRs_CNT.CAP_DROP 0 k) = view t := by simp +decide [view]
  have hloss (u : PatUnit) (t : State) : view (t.wr Reg.RING_CFk_LOSS 0 u.inst) = view t := by simp +decide [view]
  calc view s.ringCleared
    _ = view s.ringStreamsCleared := State.view_forEach view _ _ _ hloss
    _ = view s.ringPortsCleared := State.view_forEach view _ _ _ hstream
    _ = view (((s.put Fld.RING_MGMT.TIMEOUT_CNT 0).put Fld.RING_MISC.TTL_CNT 0).put Fld.RING_MISC.UNKNOWN_CNT 0) :=
      State.view_forEach view _ _ _ hport
    _ = view s := by simp +decide [view]

/-- Past the counts of the streams and of the subscriptions a register reads what the clearing of the ports left. -/
theorem State.rd_ringCleared {r : RegDef} (i j : Nat) (hstream : Reg.RING_STRs_CNT.disjoint r = true)
    (hloss : Reg.RING_CFk_LOSS.disjoint r = true) : s.ringCleared.rd r i j = s.ringPortsCleared.rd r i j :=
  (State.rd_forEach_disjoint _ i j _ _ fun _ t => t.rd_wr_disjoint _ _ _ _ _ hloss).trans
    (State.rd_forEach_disjoint _ i j _ _ fun _ t => t.rd_wr_disjoint _ _ _ _ _ hstream)

/-- A field of a register that is no port's keeps what the counts of the block left. -/
theorem State.get_ringCleared_head {f : Field} (h : (([Reg.RING_Pp_ERR, Reg.RING_Pp_RETX, Reg.RING_Pp_OVR, Reg.RING_Pp_CAP,
      Reg.RING_Pp_RET, Reg.RING_STRs_CNT, Reg.RING_CFk_LOSS] : List RegDef).all (·.disjoint f.reg)) = true) :
    s.ringCleared.get f =
      (((s.put Fld.RING_MGMT.TIMEOUT_CNT 0).put Fld.RING_MISC.TTL_CNT 0).put Fld.RING_MISC.UNKNOWN_CNT 0).get f := by
  simp only [List.all_cons, List.all_nil, Bool.and_true, Bool.and_eq_true] at h
  obtain ⟨herr, hretx, hovr, hcap, hret, hstream, hloss⟩ := h
  rw [State.get, State.get, s.rd_ringCleared 0 0 hstream hloss, State.ringPortsCleared]
  refine congrArg (getBits · _ _) (State.rd_forEach_disjoint _ 0 0 _ _ fun p t => ?_)
  rw [State.ringPortCleared, State.rd_put_disjoint _ _ _ _ _ _ hret, State.rd_wr_disjoint _ _ _ _ _ _ hcap,
    State.rd_wr_disjoint _ _ _ _ _ _ hovr, State.rd_wr_disjoint _ _ _ _ _ _ hretx, State.rd_wr_disjoint _ _ _ _ _ _ herr]

/-- The counts of port p that RING_CNT_CLR clears. -/
def State.ringPortClear (p : Nat) (t : State) : Prop :=
  t.rd Reg.RING_Pp_ERR p = 0 ∧ t.rd Reg.RING_Pp_RETX p = 0 ∧ t.rd Reg.RING_Pp_OVR p = 0 ∧ t.rd Reg.RING_Pp_CAP p = 0 ∧
    t.get Fld.RING_Pp_RET.NAK_TX p = 0

theorem State.ringPortClear_ringPortCleared {p : Nat} (hp : p < 2) (t : State) : (t.ringPortCleared p).ringPortClear p := by
  have hread (r : RegDef) (hr : r.oneIndex 2 = true) (t : State) : (t.wr r 0 p).rd r p = 0 :=
    State.rd_wr_same t _ _ _ _ (RegDef.has_of_lt hr hp)
  have hnak (t : State) : (t.put Fld.RING_Pp_RET.NAK_TX 0 p).get Fld.RING_Pp_RET.NAK_TX p = 0 :=
    State.get_put_same t 0 p 0 (by decide) (RegDef.has_of_lt (by decide) hp)
  unfold State.ringPortClear State.ringPortCleared
  simp +decide only [State.rd_put_disjoint, State.rd_wr_disjoint, hread Reg.RING_Pp_ERR rfl, hread Reg.RING_Pp_RETX rfl,
    hread Reg.RING_Pp_OVR rfl, hread Reg.RING_Pp_CAP rfl, hnak, and_self]

theorem State.ringPortClear_of_other {p : Nat} (q : Nat) {t : State} (h : t.ringPortClear p) :
    (t.ringPortCleared q).ringPortClear p := by
  obtain ⟨herr, hretx, hovr, hcap, hnak⟩ := h
  unfold State.ringPortClear State.ringPortCleared
  refine ⟨?_, ?_, ?_, ?_, State.get_put_zero _ _ (by decide) ?_⟩
  all_goals simp +decide only [State.rd_put_disjoint, State.rd_wr_disjoint, State.get_wr_disjoint, State.rd_wr_zero, *]

theorem State.ringPortClear_ringCleared {p : Nat} (hp : p < 2) : s.ringCleared.ringPortClear p := by
  have hports : s.ringPortsCleared.ringPortClear p := by
    refine State.forEach_all (P := State.ringPortClear) [0, 1] (fun q hq t => ?_)
      (fun q p t => State.ringPortClear_of_other q) _ p (by simp; omega)
    exact State.ringPortClear_ringPortCleared (by simp at hq; omega) t
  unfold State.ringPortClear State.get at hports ⊢
  simpa +decide only [State.rd_ringCleared] using hports

theorem State.return_ringCleared (p : Nat) : s.ringCleared.get Fld.RING_Pp_RET.RETURN p = s.get Fld.RING_Pp_RET.RETURN p := by
  have hport : s.ringPortsCleared.get Fld.RING_Pp_RET.RETURN p = s.get Fld.RING_Pp_RET.RETURN p := by
    refine (State.view_forEach (fun t : State => t.get Fld.RING_Pp_RET.RETURN p) _ _ _ fun q t => ?_).trans ?_
    · simp +decide [State.ringPortCleared, State.get_put_indep, State.get_wr_disjoint]
    · simp +decide [State.get_put_indep]
  unfold State.get at hport ⊢
  simpa +decide only [State.rd_ringCleared] using hport

theorem State.streamDrops_ringCleared {k : Nat} (hk : k < 64) : s.ringCleared.get Fld.RING_STRs_CNT.CAP_DROP k = 0 := by
  have hstreams : s.ringStreamsCleared.get Fld.RING_STRs_CNT.CAP_DROP k = 0 := by
    refine State.forEach_all (P := fun k t => t.get Fld.RING_STRs_CNT.CAP_DROP k = 0) (List.range 64) (fun j hj t => ?_)
      (fun j k t => State.get_put_zero _ _ (by decide)) _ k (List.mem_range.mpr hk)
    exact State.get_put_same t 0 j 0 (by decide) (RegDef.has_of_lt (by decide) (List.mem_range.mp hj))
  exact (State.view_forEach (fun t : State => t.get Fld.RING_STRs_CNT.CAP_DROP k) _ _ _
    fun u t => t.get_wr_disjoint _ _ _ _ _ (by decide)).trans hstreams

theorem State.losses_ringCleared {u : PatUnit} (hu : u ∈ s.units cSUBSCRIBE) (hinst : u.inst < 4096) :
    s.ringCleared.rd Reg.RING_CFk_LOSS u.inst = 0 := by
  refine State.forEach_all (P := fun (u : PatUnit) t => u.inst < 4096 → t.rd Reg.RING_CFk_LOSS u.inst = 0) _
    (fun v _ t hv => ?_) (fun v w t h hw => State.rd_wr_zero _ _ (h hw)) _ u hu hinst
  exact State.rd_wr_same t _ _ _ _ (RegDef.has_of_lt (by decide) hv)

end

/-- Settles O15: each row but RING_CNT_CLR is its rule once the map is open; what that one leaves is read off the order in which
it clears. -/
theorem counterClearRows : Obligations.CounterClearRows := by
  unfold Obligations.CounterClearRows
  refine ⟨fun s k hopen => ?rows, fun s hopen => ⟨s.ringCleared, exec_ringCntClr hopen, ?timeout, ?ttl, ?unknown, ?ports,
    ?streams, ?losses, ?relay, ?dup, State.eq_of_noRegs s.noRegs_ringCleared,
    fun a ha => tabGet_of_wordsOutside s.wordsOutside_ringCleared ha⟩⟩
  case rows =>
    have hshut : ¬ (!s.mapOpen) = true := by simp [hopen]
    exact ⟨if_neg hshut, if_neg hshut, if_neg hshut, if_neg hshut, if_neg hshut, if_neg hshut, if_neg hshut, if_neg hshut,
      if_neg hshut, if_neg hshut⟩
  case timeout => simp +decide [State.get_ringCleared_head, State.get_put_indep, State.get_put_same]
  case ttl => simp +decide [State.get_ringCleared_head, State.get_put_indep, State.get_put_same]
  case unknown => simp +decide [State.get_ringCleared_head, State.get_put_same]
  case relay => simp +decide [State.get_ringCleared_head, State.get_put_indep]
  case dup => simp +decide [State.get_ringCleared_head, State.get_put_indep]
  case ports =>
    intro p hp
    obtain ⟨herr, hretx, hovr, hcap, hnak⟩ := s.ringPortClear_ringCleared hp
    exact ⟨herr, hretx, hovr, hcap, hnak, s.return_ringCleared p⟩
  case streams => exact fun k hk => s.streamDrops_ringCleared hk
  case losses => exact fun u hu hinst => s.losses_ringCleared hu hinst

end Sys2Proof.Machine
end

section
/-! PROOFS. Serial lanes: bring-up (R470 to R472, R478), alignment markers, monitoring and drops (R466 to R469, R476, R477, R480, R490). -/

open Sys2Proof Sys2Proof.Machine

namespace Sys2Proof.Machine

/-! ## Lanes past the registers -/

section
variable (s : State) (n : Nat)

@[simp] theorem State.lane_put (f : Field) (v i j : Nat) : (s.put f v i j).lane n = s.lane n := by simp [State.lane]
@[simp] theorem State.lane_sat (f : Field) (k i j : Nat) : (s.sat f k i j).lane n = s.lane n := by simp [State.lane]

theorem State.lnState_put {f : Field} (v i j : Nat) (h : f.indep Fld.LANE_Ln_STAT.STATE = true) :
    (s.put f v i j).lnState n = s.lnState n := State.get_put_indep _ _ _ _ _ _ h

theorem State.get_setLane (k : Nat) (x : Lane) (f : Field) (a b : Nat) : (s.setLane k x).get f a b = s.get f a b := rfl

theorem State.lane_peerFields (k b1 : Nat) : (s.peerFields k b1).lane n = s.lane n :=
  (State.view_when (·.lane n) _ _ _ fun t => t.lane_put n _ _ _ _).trans (by simp only [State.lane_put])

end

/-! ## Bring-up (R470 to R472, R478) -/

section
variable {s : State} {n : Nat}

theorem execLaneBlockLock_detect (h : s.lnState n = lnDETECT) : execLaneBlockLock n s =
    .next ((s.put Fld.LANE_Ln_STAT.BLOCK_LOCK 1 n).laneTo n lnTRAIN_BASE) := by
  simp [execLaneBlockLock, h]

theorem execLaneNoPeer_detect (h : s.lnState n = lnDETECT) : execLaneNoPeer n s = .next (s.laneTo n lnNO_PEER) := by
  simp [execLaneNoPeer, h]

theorem execRateChange_agreed {r : Nat} (h : s.lnState n = lnRATE_CHANGE) (hr : (s.lane n).target = some r) :
    execRateChange n s = .next ((s.put Fld.LANE_Ln_STAT.RATE r n).put Fld.LANE_Ln_STAT.BLOCK_LOCK 0 n) := by
  simp [execRateChange, h, hr]

theorem execLaneBlockLock_atTarget {r : Nat} (h : s.lnState n = lnRATE_CHANGE) (hr : (s.lane n).target = some r)
    (hrate : s.get Fld.LANE_Ln_STAT.RATE n = r) : execLaneBlockLock n s =
      .next ((s.put Fld.LANE_Ln_STAT.BLOCK_LOCK 1 n).laneTo n lnTRAIN_TARGET) := by
  have hdetect : lnRATE_CHANGE ≠ lnDETECT := by decide
  simp [execLaneBlockLock, h, hr, hrate, hdetect]

theorem execLaneRetryTimer_due (h : s.lnState n = lnNO_PEER ∨ s.lnState n = lnFAILED) :
    execLaneRetryTimer n s = .next (s.detect n (s.portRate (n / 4))) := by
  simp [execLaneRetryTimer, h]

theorem execTrainBlock_damaged {block : List Byte} (h : s.lnState n = lnTRAIN_TARGET) (hbad : markOk 0xA4 block = false) :
    execTrainBlock n block s = .next ((s.blkErr n 1).setLane n { s.lane n with train := 0 }) := by
  simp [execTrainBlock, h, hbad]

theorem execTrainBlock_target {block : List Byte} (h : s.lnState n = lnTRAIN_TARGET) (hgood : markOk 0xA4 block = true) :
    let b1 := fb block 1
    let b2 := fb block 2
    let x := { s.lane n with
      train := (s.lane n).train + 1, peerReady := bit b1 3, peerRates := field b2 0 4
      peerTarget := if bit b2 6 then some (field b2 4 2) else none }
    execTrainBlock n block s = .next (((s.peerFields n b1).setLane n x).ffeRequest n (fb block 3)) := by
  have hbase : lnTRAIN_TARGET ≠ lnTRAIN_BASE := by decide
  have hchange : lnTRAIN_TARGET ≠ lnRATE_CHANGE := by decide
  simp [execTrainBlock, h, hgood, hbase, hchange, State.lane_peerFields]

theorem execEqTrainDone_target (h : s.lnState n = lnTRAIN_TARGET) : execEqTrainDone n s =
    .next ((s.setLane n { s.lane n with checked := none }).laneTo n lnCHECK) := by
  simp [execEqTrainDone, h]

theorem execEqTrainDone_retrain (h : s.lnState n = lnRETRAIN) :
    execEqTrainDone n s = .next (s.setLane n { s.lane n with checking := true }) := by
  have htarget : lnRETRAIN ≠ lnTRAIN_TARGET := by decide
  simp [execEqTrainDone, h, htarget]

/-- The check of a retrained lane: within the limit of errors the lane passes, and stays a spare where there is no room. -/
theorem execLaneCheckEnd_retrain (errors : Nat) (h : s.lnState n = lnRETRAIN) (hout : (s.lane n).want = false)
    (hchecking : (s.lane n).checking = true) :
    let u := s.put Fld.LANE_Ln_RETR.CHECK_ERR (min 0xFFFF errors) n
    execLaneCheckEnd n errors s = .next (if errors ≤ s.policy 0x0304 4 then u.lanePass n true else u.laneFail n) := by
  intro u
  have hstate : u.lnState n = lnRETRAIN := (s.lnState_put n _ _ _ (by decide)).trans h
  have hpolicy : u.policy 0x0304 4 = s.policy 0x0304 4 := by simp [u, State.policy]
  have hcheck : u.checkEnd n (decide (errors ≤ s.policy 0x0304 4)) =
      if errors ≤ s.policy 0x0304 4 then u.lanePass n true else u.laneFail n := by
    simp [State.checkEnd, hstate]
  rw [← hcheck, ← hpolicy]
  simp [execLaneCheckEnd, h, hout, hchecking, u]

end

/-- Settles O46: each row is its rule in the lane state that it belongs to. -/
theorem laneBringUpRows : Obligations.LaneBringUpRows := by
  unfold Obligations.LaneBringUpRows
  intro s n r errors block
  exact ⟨fun h => ⟨execLaneBlockLock_detect h, execLaneNoPeer_detect h⟩,
    fun h hr => ⟨execRateChange_agreed h hr, execLaneBlockLock_atTarget h hr⟩,
    execLaneRetryTimer_due,
    fun h => ⟨execTrainBlock_damaged h, execTrainBlock_target h, execEqTrainDone_target h⟩,
    fun h => ⟨execEqTrainDone_retrain h, execLaneCheckEnd_retrain errors h⟩⟩

end Sys2Proof.Machine
end

section
/-! PROOFS. Serial lanes: alignment markers, monitoring and drops (R466 to R469, R476, R477, R480, R490). -/

open Sys2Proof Sys2Proof.Machine

namespace Sys2Proof.Machine

/-! ## Alignment markers (R466 to R469, R476) -/

/-- What a marker's list of ACTIVE lanes says of lane k, whose number at the neighbour the hub knows. -/
def State.peerList (s : State) (act k : Nat) : State :=
  if s.is Fld.LANE_Ln_STAT.PEER_VALID k then
    s.setLane k { s.lane k with peerListed := bit act (s.get Fld.LANE_Ln_STAT.PEER_LANE k) }
  else s

/-- Lane n, its port and the lanes of its port after an intact marker without DROP bits. -/
def State.amShown (s : State) (n skew : Nat) (block : List Byte) : State :=
  let u := ({ s with lanes.amNext := tabSet s.lanes.amNext n ((leAt block 3 2 + 1) % 65536) } : State).peerFields n (fb block 1)
  let u := u.setLane n { u.lane n with skew := skew }
  let widest := (portLanes (n / 4)).foldl (fun a k => max a (u.lane k).skew) 0
  (u.put Fld.LANE_Pp_STAT.SKEW (min 0xFF widest) (n / 4)).forEach (portLanes (n / 4)) fun k s =>
    s.peerList (field (fb block 2) 0 4) k

section
variable {s : State} {n : Nat} (skew : Nat) {block : List Byte}

theorem execAm_damaged (h : s.lnState n = lnACTIVE) (hbad : markOk 0xA3 block = false) :
    execAm n skew block s = .next (s.blkErr n 1) := by
  simp [execAm, h, hbad]

theorem execAm_shown (h : s.lnState n = lnACTIVE) (hgood : markOk 0xA3 block = true)
    (hcount : tabGet? s.lanes.amNext n = some (leAt block 3 2)) (hdrop : field (fb block 2) 4 4 = 0)
    (hjoin : (s.amShown n skew block).joining (n / 4) = []) : execAm n skew block s = .next (s.amShown n skew block) := by
  have hnone (k : Nat) : bit 0 k = false := Nat.zero_testBit k
  have hend (t : State) (f : State → State) (ht : t = s.amShown n skew block) :
      (if t.joining (n / 4) = [] then Host.Outcome.next t else .next (f t) : Host.Outcome State Fault Refusal) =
        .next (s.amShown n skew block) := by
    rw [ht, if_pos hjoin]
  unfold execAm
  simp only [h, hgood, hcount, decide_true, Bool.true_or, Bool.not_true, Bool.false_eq_true, if_false, if_true]
  refine hend _ (fun t => (t.laneJoin (t.joining (n / 4))).setActive (n / 4)
    (t.lanesIn (n / 4) lnACTIVE ++ t.joining (n / 4))) ?_
  refine congrArg (State.forEach _ _) ?_
  funext k t
  cases hvalid : t.is Fld.LANE_Ln_STAT.PEER_VALID k <;> simp [State.peerList, hvalid, hdrop, hnone]

end

/-- The count of port p's markers moves on, and its lanes list themselves as they want. -/
def State.amListed (s : State) (p : Nat) : State :=
  ({ s with lanes.amCount := s.lanes.amCount.set p ((s.lanes.amCount.getD p 0 + 1) % 65536) } : State).forEach
    (portLanes p) fun k s => s.setLane k { s.lane k with listed := (s.lane k).want }

/-- And its marker has left on every lane that carries groups. -/
def State.amSent (s : State) (p : Nat) : State :=
  let u := s.amListed p
  { u with tx := u.tx ++ (u.grouped p).map fun k => PortTx.link p (u.amBlock k) }

/-- What changes of the ACTIVE set of port p take effect at its marker (R466, R477, R478, R480). -/
def State.amClosed (s : State) (p : Nat) : State :=
  let gone := (s.lanesIn p lnACTIVE).filter fun n => !(s.lane n).want
  let stay := (s.lanesIn p lnACTIVE).filter fun n => (s.lane n).want
  let spares := if gone = [] then [] else (s.lanesIn p lnSPARE).filter fun n => (s.lane n).want
  let new := s.joining p ++ spares.filter fun n => !(s.joining p).contains n
  ((((s.forEach gone fun n s => s.laneLeft n).laneJoin new).setActive p (stay ++ new)).laneDegraded)

theorem execAmSend_eq (p : Nat) (s : State) :
    execAmSend p s = if s.grouped p = [] then .next s else .next ((s.amSent p).amClosed p) := rfl

/-- No lane joins and none goes: the ACTIVE set is what it was. -/
theorem State.amClosed_steady {s : State} {p : Nat} (hjoin : s.joining p = [])
    (hwant : ∀ k ∈ s.lanesIn p lnACTIVE, (s.lane k).want = true) :
    s.amClosed p = (s.setActive p (s.lanesIn p lnACTIVE)).laneDegraded := by
  have hgone : (s.lanesIn p lnACTIVE).filter (fun n => !(s.lane n).want) = [] := by
    simpa [List.filter_eq_nil_iff] using hwant
  have hstay : (s.lanesIn p lnACTIVE).filter (fun n => (s.lane n).want) = s.lanesIn p lnACTIVE :=
    List.filter_eq_self.mpr hwant
  simp [State.amClosed, hgone, hstay, hjoin, State.forEach, State.laneJoin]

/-! ## Monitoring (R476, R477, R480, R490) -/

section
variable {s : State} {n : Nat}

theorem execLaneErrorLimit_active (h : s.lnState n = lnACTIVE) (hwant : (s.lane n).want = true) :
    execLaneErrorLimit n s = .next ((s.put Fld.LANE_Ln_EVT.ERR_LIMIT 1 n).laneDrop n 1) := by
  simp [execLaneErrorLimit, h, hwant]

theorem execLaneErrorLimit_spare (h : s.lnState n = lnSPARE) : execLaneErrorLimit n s =
    .next (((s.put Fld.LANE_Ln_EVT.ERR_LIMIT 1 n).laneDrop n 1).laneRetrain n) := by
  have hstate : (s.put Fld.LANE_Ln_EVT.ERR_LIMIT 1 n).lnState n = lnSPARE := (s.lnState_put n _ _ _ (by decide)).trans h
  have hactive : lnSPARE ≠ lnACTIVE := by decide
  simp [execLaneErrorLimit, State.laneTrouble, h, hstate, hactive]

theorem execLaneLockLoss_training (h : s.lnState n = lnTRAIN_BASE ∨ s.lnState n = lnTRAIN_TARGET) :
    execLaneLockLoss n s = .next (s.detect n (s.portRate (n / 4))) := by
  simp [execLaneLockLoss, h]

/-- The port stays up while one of its ACTIVE lanes is accepted. -/
theorem execLaneLockLoss_active (h : s.lnState n = lnACTIVE) (hwant : (s.lane n).want = true) :
    let t := ((s.put Fld.LANE_Ln_EVT.LOCK_LOSS 1 n).put Fld.LANE_Ln_STAT.BLOCK_LOCK 0 n).laneDrop n 0
    (∃ k ∈ t.lanesIn (n / 4) lnACTIVE, (t.lane k).reject = false) → execLaneLockLoss n s = .next t := by
  intro t hleft
  have haccepted : ((t.lanesIn (n / 4) lnACTIVE).all fun k => (t.lane k).reject) = false := by
    rw [List.all_eq_false]
    simpa using hleft
  have hbase : ¬ (lnACTIVE = lnTRAIN_BASE ∨ lnACTIVE = lnTRAIN_TARGET) := by decide
  simp only [t] at haccepted ⊢
  simp [execLaneLockLoss, h, hwant, hbase, haccepted]

theorem execPrbsResync_test (h : s.lnState n = lnTEST) :
    execPrbsResync n s = .next (s.put Fld.LANE_Ln_EVT.PRBS_RESYNC 1 n) := by
  simp [execPrbsResync, h]

end

/-! ## A lane drops (R477) -/

theorem State.lane_stage (s : State) (code : Nat) (data : List Byte) (n : Nat) : (s.stage code data).lane n = s.lane n := by
  have hlanes := congrArg State.lanes (s.aside_stage code data)
  exact congrArg (fun l : Lanes => tabGet l.lanes Lane.rest n) hlanes

theorem State.put_setLane (s : State) (k : Nat) (x : Lane) (f : Field) (v i j : Nat) :
    (s.setLane k x).put f v i j = (s.put f v i j).setLane k x := by
  unfold State.put State.wr
  dsimp only
  split <;> rfl

theorem State.sat_setLane (s : State) (k : Nat) (x : Lane) (f : Field) (v i j : Nat) :
    (s.setLane k x).sat f v i j = (s.sat f v i j).setLane k x := s.put_setLane k x f _ i j

/-- The lane and its registers after a drop, before a spare takes its place. -/
def State.dropShown (s : State) (n cause : Nat) : State :=
  let s := s.setLane n { s.lane n with want := false, listed := false, reject := cause != 2, peerDrop := cause == 2 }
  ((s.sat Fld.LANE_Ln_WIN.DROP_CNT 1 n).put Fld.LANE_Ln_EVT.DROP 1 n).stage 0x0A01 (leBytes 1 n ++ leBytes 1 cause)

/-- A spare that takes the place of lane n is another lane. -/
theorem State.laneDrop_cases (s : State) (n cause : Nat) : s.laneDrop n cause = s.dropShown n cause ∨
    ∃ k, k ≠ n ∧
      s.laneDrop n cause = (s.dropShown n cause).setLane k { (s.dropShown n cause).lane k with want := true } := by
  have hdrop : s.laneDrop n cause =
      match ((s.dropShown n cause).lanesIn (n / 4) lnSPARE).find?
        fun k => ((s.dropShown n cause).lane k).admin = 0 && !((s.dropShown n cause).lane k).want && k != n with
      | some k => (s.dropShown n cause).setLane k { (s.dropShown n cause).lane k with want := true }
      | none => s.dropShown n cause := rfl
  rw [hdrop]
  split
  · next k hk =>
    have hother := List.find?_some hk
    simp only [Bool.and_eq_true, bne_iff_ne] at hother
    exact .inr ⟨k, hother.2, rfl⟩
  · exact .inl rfl

section
variable (s : State) (n cause : Nat)

theorem State.lane_laneDrop : (s.laneDrop n cause).lane n =
    { s.lane n with want := false, listed := false, reject := cause != 2, peerDrop := cause == 2 } := by
  have hshown : (s.dropShown n cause).lane n =
      { s.lane n with want := false, listed := false, reject := cause != 2, peerDrop := cause == 2 } := by
    simp [State.dropShown, State.lane_stage]
  rcases s.laneDrop_cases n cause with hdrop | ⟨k, hne, hdrop⟩
  · rw [hdrop, hshown]
  · rw [hdrop, State.lane_setLane, if_neg hne.symm, hshown]

/-- A register below the log's block reads what the drop's count and event leave. -/
theorem State.get_laneDrop {f : Field} (a b : Nat) (hf : f.reg.belowLog = true) : (s.laneDrop n cause).get f a b =
    ((s.sat Fld.LANE_Ln_WIN.DROP_CNT 1 n).put Fld.LANE_Ln_EVT.DROP 1 n).get f a b := by
  have hshown : (s.dropShown n cause).get f a b =
      ((s.sat Fld.LANE_Ln_WIN.DROP_CNT 1 n).put Fld.LANE_Ln_EVT.DROP 1 n).get f a b := by
    rw [State.dropShown, State.get_stage_below _ a b hf, State.sat_setLane, State.put_setLane, State.get_setLane]
  rcases s.laneDrop_cases n cause with hdrop | ⟨k, -, hdrop⟩
  · rw [hdrop, hshown]
  · rw [hdrop, State.get_setLane, hshown]

end

theorem satAdd_lt (width x k : Nat) : satAdd width x k < 2 ^ width := by
  have := Nat.two_pow_pos width
  unfold satAdd
  omega

/-- A counter reads its sum after an addition. -/
theorem State.get_sat_same (s : State) {f : Field} (k i j : Nat) (h : f.lsb + f.width ≤ 32) (hi : f.reg.has i j = true) :
    (s.sat f k i j).get f i j = satAdd f.width (s.get f i j) k :=
  (State.get_put_same _ _ _ _ h hi).trans (Nat.mod_eq_of_lt (satAdd_lt _ _ _))

/-- Settles O47: each row is its rule in the lane state that it belongs to; the lane, its flag and its count after a drop are
read off the drop's equation, past the log's record and the spare that takes the place. -/
theorem laneMarkerAndMonitoringRows : Obligations.LaneMarkerAndMonitoringRows := by
  unfold Obligations.LaneMarkerAndMonitoringRows
  refine ⟨fun s n p skew block => ⟨fun h => ⟨execAm_damaged skew h, execAm_shown skew h⟩, fun hnone => if_pos hnone, ?steady⟩,
    fun s n => ⟨fun h hwant => ⟨execLaneErrorLimit_active h hwant, execLaneLockLoss_active h hwant⟩, ?spare,
      execLaneLockLoss_training, execPrbsResync_test⟩, fun s n cause hn => ?drop⟩
  case steady =>
    intro hgroup u t hjoin hwant
    exact (execAmSend_eq p s).trans ((if_neg hgroup).trans (congrArg Host.Outcome.next (State.amClosed_steady hjoin hwant)))
  case spare =>
    rintro h _ rfl -
    exact execLaneErrorLimit_spare h
  case drop =>
    refine ⟨by rw [s.lane_laneDrop], by rw [s.lane_laneDrop], ?reject, ?peerDrop, ?flag, ?state, ?count⟩
    case reject => rw [s.lane_laneDrop]; simp [bne, beq_eq_decide]
    case peerDrop => rw [s.lane_laneDrop]; simp [beq_eq_decide]
    case flag =>
      rw [State.is, s.get_laneDrop n cause n 0 (by decide),
        State.get_put_same _ _ _ _ (by decide) (RegDef.has_of_lt (by decide) hn)]
      rfl
    case state =>
      exact (s.get_laneDrop n cause n 0 (by decide)).trans
        ((State.get_put_indep _ _ _ _ _ _ (by decide)).trans (State.get_sat_indep _ _ _ _ _ _ (by decide)))
    case count =>
      exact (s.get_laneDrop n cause n 0 (by decide)).trans ((State.get_put_indep _ _ _ _ _ _ (by decide)).trans
        (s.get_sat_same 1 n 0 (by decide) (RegDef.has_of_lt (by decide) hn)))

end Sys2Proof.Machine
end

section
/-! PROOFS. Adaptation windows (R476, R481, R482) and the PZ220 leaf (R485 to R487). -/

open Sys2Proof Sys2Proof.Machine

namespace Sys2Proof.Machine

/-! ## A window of an ACTIVE lane (R476, R481, R482) -/

/-- A tap of lane n moves to a value within its bounds, and a value beyond them is flagged. -/
def State.tapMove (s : State) (n : Nat) (f : Field) (lo hi v : Int) : State :=
  (s.put f (unsigned f.width (clampInt lo hi v)) n).when (decide (v < lo) || decide (hi < v))
    (·.put Fld.LANE_Ln_EVT.TAP_BOUND 1 n)

/-- The taps of a lane whose adaptation is not frozen move. -/
def State.tapsMove (s : State) (n : Nat) (ctle : Int) (taps : List Int) : State :=
  if s.is Fld.LANE_Ln_STAT.FROZEN n then s
  else (s.tapMove n Fld.LANE_Ln_EQ.CTLE 0 15 ctle).forEach (dfeTaps.zip taps) fun e s =>
    s.tapMove n e.1.1 (-e.1.2) e.1.2 e.2

/-- Density and diversity are shown, and one below its limit freezes adaptation for the next window. -/
def State.densityShown (s : State) (n td div : Nat) (frozen : Bool) : State :=
  let low : Bool := decide (td < s.policy 0x0305 77) || decide (div < s.policy 0x0306 48)
  let s := (s.put Fld.LANE_Ln_ADAPT.TD (min 255 td) n).put Fld.LANE_Ln_ADAPT.DIV div n
  (s.put Fld.LANE_Ln_STAT.FROZEN (b2n low) n).when (low && !frozen) (·.put Fld.LANE_Ln_EVT.FREEZE 1 n)

/-- Sync header and block errors are counted and enter the error window, which ends after 16,896 windows. -/
def State.errorsCounted (s : State) (n sh blk : Nat) : State :=
  let s := (s.sat Fld.LANE_Ln_ERR.SH_ERR sh n).sat Fld.LANE_Ln_ERR.BLK_ERR blk n
  let w := (s.lane n).windows + 1
  let s := s.setLane n { s.lane n with windows := w % 16896 }
  if w = 16896 then s.put Fld.LANE_Ln_WIN.WIN_ERR 0 n else s.sat Fld.LANE_Ln_WIN.WIN_ERR (sh + blk) n

/-- The state after a window of an ACTIVE lane. -/
def State.adaptedActive (s : State) (n td div sh blk : Nat) (ctle : Int) (taps : List Int) : State :=
  ((s.tapsMove n ctle taps).densityShown n td div (s.is Fld.LANE_Ln_STAT.FROZEN n)).errorsCounted n sh blk

theorem execAdaptWindow_active {s : State} {n : Nat} (td div sh blk bits : Nat) (ctle : Int) (taps : List Int)
    (h : s.lnState n = lnACTIVE) :
    execAdaptWindow n td div sh blk bits ctle taps s = .next (s.adaptedActive n td div sh blk ctle taps) := by
  have hpower : ¬ pstate lnACTIVE = 2 := by decide
  have hspare : ¬ lnACTIVE = lnSPARE := by decide
  have htest : (lnACTIVE != lnTEST) = true := by decide
  simp only [execAdaptWindow, h, hpower, hspare, htest, decide_true, decide_false, Bool.or_false, Bool.true_or, if_true,
    if_false]
  rfl

theorem State.view_forEach_mem {α β : Type} (view : State → β) (s : State) (l : List α) (f : α → State → State)
    (h : ∀ a ∈ l, ∀ t : State, view (f a t) = view t) : view (s.forEach l f) = view s := by
  unfold State.forEach
  induction l generalizing s with
  | nil => rfl
  | cons a l ih => exact (ih _ fun b hb => h b (List.mem_cons_of_mem a hb)).trans (h a List.mem_cons_self s)

section
variable (s : State) (n : Nat)

/-- What a tap's move leaves: the lane records, and each field but the tap's and the flag's. -/
theorem State.get_tapMove {f g : Field} (lo hi v : Int) (a b : Nat) (hf : f.indep g = true)
    (hbound : Fld.LANE_Ln_EVT.TAP_BOUND.indep g = true) : (s.tapMove n f lo hi v).get g a b = s.get g a b :=
  (State.get_when _ _ _ _ _ _ fun t => t.get_put_indep _ _ _ _ _ hbound).trans (s.get_put_indep _ _ _ _ _ hf)

theorem State.lane_tapMove (f : Field) (lo hi v : Int) (k : Nat) : (s.tapMove n f lo hi v).lane k = s.lane k :=
  (State.view_when (·.lane k) _ _ _ fun t => t.lane_put k _ _ _ _).trans (s.lane_put k _ _ _ _)

/-- The taps after the first stand in LANE_Ln_DFE. -/
theorem reg_of_mem_dfeTaps {l : List Int} {e : (Field × Int) × Int} (h : e ∈ dfeTaps.zip l) : e.1.1.reg = Reg.LANE_Ln_DFE := by
  have hall : ∀ x ∈ dfeTaps, x.1.reg = Reg.LANE_Ln_DFE := by decide
  exact hall e.1 (List.of_mem_zip h).1

theorem State.get_dfeMoves {g : Field} (l : List Int) (a b : Nat) (hdfe : Reg.LANE_Ln_DFE.disjoint g.reg = true)
    (hbound : Fld.LANE_Ln_EVT.TAP_BOUND.indep g = true) :
    (s.forEach (dfeTaps.zip l) fun e s => s.tapMove n e.1.1 (-e.1.2) e.1.2 e.2).get g a b = s.get g a b := by
  refine State.view_forEach_mem (·.get g a b) _ _ _ fun e he t => t.get_tapMove n _ _ _ a b ?_ hbound
  rw [Field.indep, reg_of_mem_dfeTaps he, hdfe, Bool.true_or]

theorem State.get_tapsMove {g : Field} (ctle : Int) (taps : List Int) (a b : Nat)
    (hctle : Fld.LANE_Ln_EQ.CTLE.indep g = true) (hdfe : Reg.LANE_Ln_DFE.disjoint g.reg = true)
    (hbound : Fld.LANE_Ln_EVT.TAP_BOUND.indep g = true) : (s.tapsMove n ctle taps).get g a b = s.get g a b := by
  unfold State.tapsMove
  split
  · rfl
  · exact (State.get_dfeMoves _ n _ a b hdfe hbound).trans (s.get_tapMove n _ _ _ a b hctle hbound)

theorem State.lane_tapsMove (ctle : Int) (taps : List Int) (k : Nat) : (s.tapsMove n ctle taps).lane k = s.lane k := by
  unfold State.tapsMove
  split
  · rfl
  · exact (State.view_forEach (·.lane k) _ _ _ fun e t => t.lane_tapMove n _ _ _ _ k).trans (s.lane_tapMove n _ _ _ _ k)

theorem State.banks_tapsMove (ctle : Int) (taps : List Int) : (s.tapsMove n ctle taps).banks = s.banks := by
  have hmove (t : State) (f : Field) (lo hi v : Int) : (t.tapMove n f lo hi v).banks = t.banks :=
    (State.view_when State.banks _ _ _ fun t => t.put_banks _ _ _ _).trans (t.put_banks _ _ _ _)
  unfold State.tapsMove
  split
  · rfl
  · exact (State.view_forEach State.banks _ _ _ fun e t => hmove t _ _ _ _).trans (hmove s _ _ _ _)

theorem State.get_densityShown {g : Field} (td div : Nat) (frozen : Bool) (a b : Nat)
    (h : (([Fld.LANE_Ln_ADAPT.TD, Fld.LANE_Ln_ADAPT.DIV, Fld.LANE_Ln_STAT.FROZEN, Fld.LANE_Ln_EVT.FREEZE] : List Field).all
      (·.indep g)) = true) : (s.densityShown n td div frozen).get g a b = s.get g a b := by
  simp only [List.all_cons, List.all_nil, Bool.and_true, Bool.and_eq_true] at h
  obtain ⟨htd, hdiv, hfrozen, hfreeze⟩ := h
  unfold State.densityShown
  rw [State.get_when _ _ _ _ _ _ fun t => t.get_put_indep _ _ _ _ _ hfreeze]
  simp only [State.get_put_indep, htd, hdiv, hfrozen]

theorem State.lane_densityShown (td div : Nat) (frozen : Bool) (k : Nat) :
    (s.densityShown n td div frozen).lane k = s.lane k :=
  (State.view_when (·.lane k) _ _ _ fun t => t.lane_put k _ _ _ _).trans (by simp only [State.lane_put])

theorem State.get_errorsCounted {g : Field} (sh blk : Nat) (a b : Nat)
    (h : (([Fld.LANE_Ln_ERR.SH_ERR, Fld.LANE_Ln_ERR.BLK_ERR, Fld.LANE_Ln_WIN.WIN_ERR] : List Field).all (·.indep g)) = true) :
    (s.errorsCounted n sh blk).get g a b = s.get g a b := by
  simp only [List.all_cons, List.all_nil, Bool.and_true, Bool.and_eq_true] at h
  obtain ⟨hsh, hblk, hwin⟩ := h
  unfold State.errorsCounted
  dsimp only
  split <;> simp only [State.get_put_indep, State.get_sat_indep, State.get_setLane, hsh, hblk, hwin]

end

/-! ## What the window leaves -/

section
variable (s : State) {n : Nat} (td div sh blk : Nat) (ctle : Int) (taps : List Int)

/-- A field that neither the errors nor the density touch is what the taps' moves left. -/
theorem State.get_adaptedActive {g : Field} (a b : Nat)
    (h : (([Fld.LANE_Ln_ADAPT.TD, Fld.LANE_Ln_ADAPT.DIV, Fld.LANE_Ln_STAT.FROZEN, Fld.LANE_Ln_EVT.FREEZE] : List Field).all
      (·.indep g)) = true)
    (herr : (([Fld.LANE_Ln_ERR.SH_ERR, Fld.LANE_Ln_ERR.BLK_ERR, Fld.LANE_Ln_WIN.WIN_ERR] : List Field).all (·.indep g)) = true) :
    (s.adaptedActive n td div sh blk ctle taps).get g a b = (s.tapsMove n ctle taps).get g a b :=
  (State.get_errorsCounted _ n sh blk a b herr).trans (State.get_densityShown _ n td div _ a b h)

theorem State.lnState_adaptedActive :
    (s.adaptedActive n td div sh blk ctle taps).lnState n = s.lnState n :=
  (s.get_adaptedActive td div sh blk ctle taps n 0 (by decide) (by decide)).trans
    (s.get_tapsMove n ctle taps n 0 (by decide) (by decide) (by decide))

theorem State.ctle_adaptedActive_frozen (hfrozen : s.is Fld.LANE_Ln_STAT.FROZEN n = true) :
    (s.adaptedActive n td div sh blk ctle taps).get Fld.LANE_Ln_EQ.CTLE n = s.get Fld.LANE_Ln_EQ.CTLE n := by
  rw [State.get_adaptedActive _ _ _ _ _ _ _ _ _ (by decide) (by decide), State.tapsMove, if_pos hfrozen]

/-- The counts of errors past the moves of the taps and the density. -/
theorem State.get_beforeErrors {g : Field} (frozen : Bool) (hg : (([Fld.LANE_Ln_ADAPT.TD, Fld.LANE_Ln_ADAPT.DIV,
      Fld.LANE_Ln_STAT.FROZEN, Fld.LANE_Ln_EVT.FREEZE] : List Field).all (·.indep g)) = true)
    (hctle : Fld.LANE_Ln_EQ.CTLE.indep g = true) (hdfe : Reg.LANE_Ln_DFE.disjoint g.reg = true)
    (hbound : Fld.LANE_Ln_EVT.TAP_BOUND.indep g = true) :
    ((s.tapsMove n ctle taps).densityShown n td div frozen).get g n = s.get g n :=
  (State.get_densityShown _ n td div frozen n 0 hg).trans (s.get_tapsMove n ctle taps n 0 hctle hdfe hbound)

variable (hn : n < 8)
include hn

theorem State.get_put_lane {f : Field} (v : Nat) (hf : (decide (f.lsb + f.width ≤ 32) && f.reg.oneIndex 8) = true) :
    (s.put f v n).get f n = v % 2 ^ f.width := by
  obtain ⟨hw, hr⟩ := Bool.and_eq_true_iff.mp hf
  exact s.get_put_same v n 0 (of_decide_eq_true hw) (RegDef.has_of_lt hr hn)

theorem State.get_sat_lane {f : Field} (k : Nat) (hf : (decide (f.lsb + f.width ≤ 32) && f.reg.oneIndex 8) = true) :
    (s.sat f k n).get f n = satAdd f.width (s.get f n) k :=
  (s.get_put_lane hn _ hf).trans (Nat.mod_eq_of_lt (satAdd_lt _ _ _))

theorem State.ctle_adaptedActive_moving (hfrozen : s.is Fld.LANE_Ln_STAT.FROZEN n = false) :
    (s.adaptedActive n td div sh blk ctle taps).get Fld.LANE_Ln_EQ.CTLE n = (clampInt 0 15 ctle).toNat := by
  have hlow : 0 ≤ clampInt 0 15 ctle := by unfold clampInt; omega
  have hhigh : clampInt 0 15 ctle ≤ 15 := by unfold clampInt; omega
  have hword : unsigned 4 (clampInt 0 15 ctle) % 2 ^ 4 = (clampInt 0 15 ctle).toNat := by
    unfold unsigned
    omega
  rw [State.get_adaptedActive _ _ _ _ _ _ _ _ _ (by decide) (by decide), State.tapsMove, hfrozen,
    if_neg Bool.false_ne_true, State.get_dfeMoves _ _ _ _ _ (by decide) (by decide), State.tapMove,
    State.get_when _ _ _ _ _ _ fun t => t.get_put_indep _ _ _ _ _ (by decide), State.get_put_lane _ hn _ (by decide)]
  exact hword

theorem State.td_adaptedActive : (s.adaptedActive n td div sh blk ctle taps).get Fld.LANE_Ln_ADAPT.TD n = min 255 td := by
  have hfit : min 255 td % 2 ^ 8 = min 255 td := by omega
  rw [State.adaptedActive, State.get_errorsCounted _ _ _ _ _ _ (by decide), State.densityShown,
    State.get_when _ _ _ _ _ _ fun t => t.get_put_indep _ _ _ _ _ (by decide), State.get_put_indep _ _ _ _ _ _ (by decide),
    State.get_put_indep _ _ _ _ _ _ (by decide), State.get_put_lane _ hn _ (by decide)]
  exact hfit

theorem State.frozen_adaptedActive : (s.adaptedActive n td div sh blk ctle taps).is Fld.LANE_Ln_STAT.FROZEN n =
    decide (td < s.policy 0x0305 77 ∨ div < s.policy 0x0306 48) := by
  have hpolicy (key dflt : Nat) : (s.tapsMove n ctle taps).policy key dflt = s.policy key dflt := by
    simp only [State.policy, s.banks_tapsMove n ctle taps]
  rw [State.is, State.adaptedActive, State.get_errorsCounted _ _ _ _ _ _ (by decide), State.densityShown,
    State.get_when _ _ _ _ _ _ fun t => t.get_put_indep _ _ _ _ _ (by decide), State.get_put_lane _ hn _ (by decide),
    hpolicy, hpolicy, Bool.decide_or]
  cases decide (td < s.policy 0x0305 77) || decide (div < s.policy 0x0306 48) <;> rfl

theorem State.syncErrors_errorsCounted : (s.errorsCounted n sh blk).get Fld.LANE_Ln_ERR.SH_ERR n =
    satAdd Fld.LANE_Ln_ERR.SH_ERR.width (s.get Fld.LANE_Ln_ERR.SH_ERR n) sh := by
  rw [← s.get_sat_lane hn sh (by decide)]
  unfold State.errorsCounted
  dsimp only
  split <;> simp +decide only [State.get_put_indep, State.get_sat_indep, State.get_setLane]

theorem State.blockErrors_errorsCounted : (s.errorsCounted n sh blk).get Fld.LANE_Ln_ERR.BLK_ERR n =
    satAdd Fld.LANE_Ln_ERR.BLK_ERR.width (s.get Fld.LANE_Ln_ERR.BLK_ERR n) blk := by
  have hother : (s.sat Fld.LANE_Ln_ERR.SH_ERR sh n).get Fld.LANE_Ln_ERR.BLK_ERR n = s.get Fld.LANE_Ln_ERR.BLK_ERR n :=
    s.get_sat_indep _ _ _ _ _ (by decide)
  rw [← hother, ← State.get_sat_lane _ hn blk (by decide)]
  unfold State.errorsCounted
  dsimp only
  split <;> simp +decide only [State.get_put_indep, State.get_sat_indep, State.get_setLane]

theorem State.window_errorsCounted : (s.errorsCounted n sh blk).get Fld.LANE_Ln_WIN.WIN_ERR n =
    if (s.lane n).windows + 1 = 16896 then 0
    else satAdd Fld.LANE_Ln_WIN.WIN_ERR.width (s.get Fld.LANE_Ln_WIN.WIN_ERR n) (sh + blk) := by
  unfold State.errorsCounted
  simp only [State.lane_sat]
  split
  · exact State.get_put_lane _ hn 0 (by decide)
  · rw [State.get_sat_lane _ hn _ (by decide), State.get_setLane, State.get_sat_indep _ _ _ _ _ _ (by decide),
      State.get_sat_indep _ _ _ _ _ _ (by decide)]

theorem adaptWindow_row (bits : Nat) (h : s.lnState n = lnACTIVE) :
    ∃ t, execAdaptWindow n td div sh blk bits ctle taps s = .next t ∧
      t.get Fld.LANE_Ln_ADAPT.TD n = min 255 td ∧
      t.is Fld.LANE_Ln_STAT.FROZEN n = decide (td < s.policy 0x0305 77 ∨ div < s.policy 0x0306 48) ∧
      t.get Fld.LANE_Ln_ERR.SH_ERR n = satAdd Fld.LANE_Ln_ERR.SH_ERR.width (s.get Fld.LANE_Ln_ERR.SH_ERR n) sh ∧
      t.get Fld.LANE_Ln_ERR.BLK_ERR n = satAdd Fld.LANE_Ln_ERR.BLK_ERR.width (s.get Fld.LANE_Ln_ERR.BLK_ERR n) blk ∧
      t.get Fld.LANE_Ln_WIN.WIN_ERR n = (if (s.lane n).windows + 1 = 16896 then 0
        else satAdd Fld.LANE_Ln_WIN.WIN_ERR.width (s.get Fld.LANE_Ln_WIN.WIN_ERR n) (sh + blk)) ∧
      (s.is Fld.LANE_Ln_STAT.FROZEN n = true → t.get Fld.LANE_Ln_EQ.CTLE n = s.get Fld.LANE_Ln_EQ.CTLE n) ∧
      (s.is Fld.LANE_Ln_STAT.FROZEN n = false → t.get Fld.LANE_Ln_EQ.CTLE n = (clampInt 0 15 ctle).toNat) ∧
      t.lnState n = lnACTIVE := by
  refine ⟨_, execAdaptWindow_active td div sh blk bits ctle taps h, s.td_adaptedActive td div sh blk ctle taps hn,
    s.frozen_adaptedActive td div sh blk ctle taps hn, ?sync, ?block, ?window,
    s.ctle_adaptedActive_frozen td div sh blk ctle taps, s.ctle_adaptedActive_moving td div sh blk ctle taps hn,
    (s.lnState_adaptedActive td div sh blk ctle taps).trans h⟩
  case sync =>
    rw [State.adaptedActive, State.syncErrors_errorsCounted _ _ _ hn,
      State.get_beforeErrors _ _ _ _ _ _ (by decide) (by decide) (by decide) (by decide)]
  case block =>
    rw [State.adaptedActive, State.blockErrors_errorsCounted _ _ _ hn,
      State.get_beforeErrors _ _ _ _ _ _ (by decide) (by decide) (by decide) (by decide)]
  case window =>
    rw [State.adaptedActive, State.window_errorsCounted _ _ _ hn, State.lane_densityShown, State.lane_tapsMove,
      State.get_beforeErrors _ _ _ _ _ _ (by decide) (by decide) (by decide) (by decide)]

end

/-! ## The PZ220 leaf (R485 to R487) -/

section
variable {s : State} {p : Nat} (h : s.lnState (4 * p) = lnBLIND)
include h

theorem execLeafSyncChange_blind (b : Bool) : execLeafSyncChange p b s =
    .next ((s.put Fld.LANE_LFp_STAT.SYNC (b2n b) p).put Fld.LANE_Ln_STAT.BLOCK_LOCK (b2n b) (4 * p)) := by
  simp [execLeafSyncChange, h]

theorem execLeafFrame_violation (bytes : List Byte) :
    execLeafFrame p true bytes s = .next (s.sat Fld.LANE_LFp_CNT.CRC_CNT 1 p) := by
  simp [execLeafFrame, h]

theorem execLeafFrame_damaged {bytes : List Byte} (hcrc : crc16 (bytes.take 77) ≠ leAt bytes 77 2) :
    execLeafFrame p false bytes s = .next (s.sat Fld.LANE_LFp_CNT.CRC_CNT 1 p) := by
  simp [execLeafFrame, h, hcrc]

theorem execLeafFrame_intact {bytes : List Byte} (hlen : bytes.length = 79) (hcrc : crc16 (bytes.take 77) = leAt bytes 77 2) :
    let x : Leaf := { ovl := leAt bytes 2 3, samples := (List.range 24).map fun c => leAt bytes (5 + 3 * c) 3, live := true }
    execLeafFrame p false bytes s =
      .next (((({ s with lanes.leaves := s.lanes.leaves.set p x } : State).wrap Fld.LANE_LFp_CNT.FRAME_CNT 1 p).put
        Fld.LANE_LFp_STAT.SEQ (leAt bytes 0 2) p).put Fld.LANE_LFp_STAT.TIMEOUT 0 p) := by
  simp [execLeafFrame, h, hlen, hcrc]

theorem execLeafTimeout_blind : execLeafTimeout p s =
    .next (({ s with lanes.leaves := s.lanes.leaves.set p { s.leaf p with live := false } } : State).put
      Fld.LANE_LFp_STAT.TIMEOUT 1 p) := by
  simp [execLeafTimeout, h]

end

/-- Settles O48: a window of an ACTIVE lane is the taps' moves, the density and the errors in turn, and a leaf's row is its rule
while the port's first lane is blind. -/
theorem adaptationAndLeafRows : Obligations.AdaptationAndLeafRows := by
  unfold Obligations.AdaptationAndLeafRows
  exact ⟨fun s n td div sh blk bits ctle taps hn h => adaptWindow_row s td div sh blk ctle taps hn bits h,
    fun s p b bytes h => ⟨execLeafSyncChange_blind h b, execLeafFrame_violation h bytes, execLeafFrame_intact h,
      fun _ => execLeafFrame_damaged h, execLeafTimeout_blind h⟩⟩

end Sys2Proof.Machine
end

section
/-! PROOFS. The lane, ring and field port commands (R488, R491, R533, R553, R563): a new record of each, and its effect. -/

open Sys2Proof Sys2Proof.Machine

namespace Sys2Proof.Machine

/-- The argument lengths of the command table are words within the longest record. -/
theorem argLens_words : ∀ e ∈ argLens, e.2 ≤ 240 ∧ e.2 % 4 = 0 := by decide

/-- Arguments that the command table accepts have its length. -/
theorem length_of_argsOk {op : Nat} {args : List Byte} (hop : op ≠ 0x11) (hknown : opKnown op = true)
    (hargs : argsOk op args = true) : args.length ≤ 240 ∧ args.length % 4 = 0 := by
  have hlisted : (argLens.find? fun e => e.1 == op).isSome = true := by
    simpa [opKnown, hop, List.any_eq_true, List.find?_isSome] using hknown
  obtain ⟨e, he⟩ := Option.isSome_iff_exists.mp hlisted
  have hlen : args.length = e.2 := by simpa [argsOk, hop, he] using hargs
  rw [hlen]
  exact argLens_words e (List.mem_of_find?_eq_some he)

/-- A new record of a command from 0x30 to 0x6F with arguments that the table accepts. -/
theorem State.runCommand_midArgs {s t : State} {o : Origin} {op : Nat} {args : List Byte} {a : Answer} (h : s.fresh o = true)
    (hop : (decide (0x30 ≤ op) && decide (op < 0x70) && opKnown op) = true) (hstate : s.hubState ∈ opStates op)
    (hargs : argsOk op args = true) (heff : s.commandMid op args = (a, t)) :
    s.runCommand o op args = t.settle o op args s.hubState a := by
  have hbounds := hop
  simp only [Bool.and_eq_true, decide_eq_true_eq] at hbounds
  obtain ⟨⟨hlow, -⟩, hknown⟩ := hbounds
  obtain ⟨hlen, hwords⟩ := length_of_argsOk (by omega) hknown hargs
  exact State.runCommand_mid h hop hstate hlen hwords hargs heff

/-! ## The words of each command's arguments -/

section
variable (s : State) {n : Nat} (hn : n < 2 ^ 32)
include hn

theorem State.commandMid_laneAdmin {mode : Nat} (hmode : mode < 2 ^ 32) :
    s.commandMid 0x50 (leBytes 4 n ++ leBytes 4 mode) = s.laneAdmin n mode := by
  simp (disch := omega) [State.commandMid, leAt_skip, leAt_leBytes_of_lt, leAt_leBytes_nil_of_lt]

theorem State.commandMid_laneRetrain : s.commandMid 0x51 (leBytes 4 n) = s.laneRetrainCmd n := by
  simp (disch := omega) [State.commandMid, leAt_leBytes_nil_of_lt]

theorem State.commandMid_laneTest {gen chk loop : Nat} (hgen : gen < 2 ^ 32) (hchk : chk < 2 ^ 32) (hloop : loop < 2 ^ 32) :
    s.commandMid 0x52 (leBytes 4 n ++ leBytes 4 gen ++ leBytes 4 chk ++ leBytes 4 loop) = s.laneTest n gen chk loop := by
  simp (disch := omega) [State.commandMid, leAt_skip, leAt_leBytes_of_lt, leAt_leBytes_nil_of_lt]

theorem State.commandMid_fldPort {action : Nat} (haction : action < 2 ^ 32) :
    s.commandMid 0x60 (leBytes 4 n ++ leBytes 4 action) = s.fieldPortCmd n action := by
  simp (disch := omega) [State.commandMid, leAt_skip, leAt_leBytes_of_lt, leAt_leBytes_nil_of_lt]

theorem State.commandMid_fldAdopt : s.commandMid 0x61 (leBytes 4 n) = s.fieldAdopt n := by
  simp (disch := omega) [State.commandMid, leAt_leBytes_nil_of_lt]

end

/-! ## The effects of the lane commands (R488, R491) -/

section
variable {s : State} {n : Nat} (hn : n < 8) (hfused : s.fusedLane n = false)
include hn hfused

/-- Standby is written down and acts when the lane next passes its check. -/
theorem State.laneAdmin_standby (hsighted : s.lnState n ≠ lnBLIND) (hrun : s.hubState ≠ stRun) :
    s.laneAdmin n 1 = ({ status := 0 }, s.setLane n { s.lane n with admin := 1 }) := by
  have hlane : ¬ 7 < n := by omega
  simp [State.laneAdmin, hlane, hfused, hsighted, hrun]

theorem State.laneAdmin_on (hoff : s.lnState n = lnOFF) : s.laneAdmin n 0 =
    ({ status := 0 }, (s.setLane n { s.lane n with admin := 0 }).laneRestart n
      ((s.setLane n { s.lane n with admin := 0 }).portRate (n / 4))) := by
  have hlane : ¬ 7 < n := by omega
  have hblind : ¬ lnOFF = lnBLIND := by decide
  have htest : ¬ lnOFF = lnTEST := by decide
  simp [State.laneAdmin, hlane, hfused, hoff, hblind, htest]

theorem State.laneRetrainCmd_spare (hspare : s.lnState n = lnSPARE) :
    s.laneRetrainCmd n = ({ status := 0 }, s.laneRetrain n) := by
  have hlane : ¬ 7 < n := by omega
  have hactive : ¬ lnSPARE = lnACTIVE := by decide
  simp [State.laneRetrainCmd, hlane, hfused, hspare, hactive]

theorem State.laneRetrainCmd_active (hactive : s.lnState n = lnACTIVE) (hwant : (s.lane n).want = true) :
    s.laneRetrainCmd n = ({ status := 0 }, s.laneDrop n 3) := by
  have hlane : ¬ 7 < n := by omega
  simp [State.laneRetrainCmd, hlane, hfused, hactive, hwant]

theorem State.laneTest_maint {gen chk loop : Nat} (hmaint : s.hubState = stMaint) (hidle : s.lnState n ≠ lnACTIVE)
    (hgen : gen ≤ 5) (hchk : chk ≤ 5) (hloop : loop ≤ 3) (hany : gen + chk + loop ≠ 0) :
    s.laneTest n gen chk loop = ({ status := 0 },
      ((((s.setLane n { Lane.rest with admin := (s.lane n).admin }).put Fld.LANE_Ln_TEST.GEN gen n).put Fld.LANE_Ln_TEST.CHK
        chk n).put Fld.LANE_Ln_TEST.LOOP loop n).laneTo n lnTEST) := by
  have hshape : (decide (7 < n) || s.fusedLane n || decide (5 < gen) || decide (5 < chk) || decide (3 < loop)) = false := by
    simp [hfused]
    omega
  have hon : (decide (gen = 0) && decide (chk = 0) && decide (loop = 0)) = false := by
    simp
    omega
  simp only [State.laneTest, hshape, hon, hmaint, beq_self_eq_true, Bool.true_or, Bool.not_true, Bool.false_eq_true, hidle,
    if_false]

end

/-! ## The effects of the field port commands (R553, R563) -/

section
variable {s : State} {p : Nat} (hp : p < 16) (hbig : s.small = false)
include hp hbig

theorem State.fieldPortCmd_bound {action : Nat} (haction : action ≤ 2) (hbound : (s.unitAt cPOD_BINDING p).isSome = true) :
    s.fieldPortCmd p action = ({ status := 0 },
      if action = 0 then (s.setFport p { s.fport p with off := true }).fieldStop p
      else if action = 1 then ((s.setFport p { s.fport p with
        off := false, foreignOff := false, cycling := false, ocRun := 0, latched := false, cmd := none, todo := [] }).fieldStart
        p).podLinkDegraded
      else (s.setFport p { s.fport p with cycling := true }).dropPower p) := by
  have hshape : (decide (15 < p) || (s.small && decide (7 < p)) || decide (2 < action)) = false := by
    simp [hbig]
    omega
  have hunit : (s.unitAt cPOD_BINDING p).isNone = false := Option.isNone_eq_false_iff.mpr hbound
  simp only [State.fieldPortCmd, hshape, hunit, Bool.false_eq_true, if_false]
  split_ifs <;> rfl

theorem State.fieldAdopt_foreign (hforeign : s.lstate p = fpFOREIGN)
    (hrej : s.get Fld.FLD_Pp_TYPE.REJ p = 2 ∨ s.get Fld.FLD_Pp_TYPE.REJ p = 3) :
    s.fieldAdopt p = ({ status := 0 }, ((s.setFport p { s.fport p with
      adopted := some (s.podSerial p, s.podType p), foreignOff := false, cmd := none, todo := [] }).toLstate p
      fpDISCOVER).judgePod p) := by
  have hshape : (decide (15 < p) || (s.small && decide (7 < p))) = false := by
    simp [hbig]
    omega
  have hcode : (s.lstate p != fpFOREIGN || !(s.get Fld.FLD_Pp_TYPE.REJ p == 2 || s.get Fld.FLD_Pp_TYPE.REJ p == 3)) = false := by
    rcases hrej with hrej | hrej <;> rw [hforeign, hrej] <;> rfl
  simp only [State.fieldAdopt, hshape, hcode, Bool.false_eq_true, if_false]

end

/-! ## The rows -/

section
variable {s : State} {o : Origin} {n : Nat} (h : s.fresh o = true)
include h

theorem exec_laneAdmin {t : State} {mode : Nat} (hn : n < 8) (hmode : mode < 2 ^ 32)
    (heff : s.laneAdmin n mode = ({ status := 0 }, t)) : exec (.laneAdmin o n mode) s =
      .next (t.settle o 0x50 (leBytes 4 n ++ leBytes 4 mode) s.hubState { status := 0 }) :=
  congrArg Host.Outcome.next (State.runCommand_midArgs h rfl (State.hubState_mem_all h) (by simp [argsOk, argLens])
    ((State.commandMid_laneAdmin s (by omega) hmode).trans heff))

theorem exec_laneRetrain {t : State} (hn : n < 8) (heff : s.laneRetrainCmd n = ({ status := 0 }, t)) :
    exec (.laneRetrain o n) s = .next (t.settle o 0x51 (leBytes 4 n) s.hubState { status := 0 }) :=
  congrArg Host.Outcome.next (State.runCommand_midArgs h rfl (State.hubState_mem_all h) (by simp [argsOk, argLens])
    ((State.commandMid_laneRetrain s (by omega)).trans heff))

theorem exec_laneTest {t : State} {gen chk loop : Nat} (hn : n < 8) (hgen : gen ≤ 5) (hchk : chk ≤ 5) (hloop : loop ≤ 3)
    (heff : s.laneTest n gen chk loop = ({ status := 0 }, t)) : exec (.laneTest o n gen chk loop) s =
      .next (t.settle o 0x52 (leBytes 4 n ++ leBytes 4 gen ++ leBytes 4 chk ++ leBytes 4 loop) s.hubState { status := 0 }) :=
  congrArg Host.Outcome.next (State.runCommand_midArgs h rfl (State.hubState_mem_all h) (by simp [argsOk, argLens])
    ((State.commandMid_laneTest s (by omega) (by omega) (by omega) (by omega)).trans heff))

theorem exec_ringDiscover : exec (.ringDiscover o) s = .next
    ((s.forEach [0, 1] fun p s => if s.discUp p then s.probe p false else s).settle o 0x58 [] s.hubState { status := 0 }) :=
  congrArg Host.Outcome.next (State.runCommand_midArgs h rfl (State.hubState_mem_all h) (by simp [argsOk, argLens]) rfl)

/-- The states of the field port commands are all but HELD. -/
theorem State.hubState_mem_field (hheld : s.hubState ≠ stHeld) : s.hubState ∈ [stArmed, stRun, stSafe, stMaint] :=
  (List.mem_cons.mp (State.hubState_mem_all h)).resolve_left hheld

theorem exec_fldPort {t : State} {action : Nat} (hheld : s.hubState ≠ stHeld) (hn : n < 16) (haction : action ≤ 2)
    (heff : s.fieldPortCmd n action = ({ status := 0 }, t)) : exec (.fldPort o n action) s =
      .next (t.settle o 0x60 (leBytes 4 n ++ leBytes 4 action) s.hubState { status := 0 }) :=
  congrArg Host.Outcome.next (State.runCommand_midArgs h rfl (State.hubState_mem_field h hheld) (by simp [argsOk, argLens])
    ((State.commandMid_fldPort s (by omega) (by omega)).trans heff))

theorem exec_fldAdopt {t : State} (hheld : s.hubState ≠ stHeld) (hn : n < 16)
    (heff : s.fieldAdopt n = ({ status := 0 }, t)) :
    exec (.fldAdopt o n) s = .next (t.settle o 0x61 (leBytes 4 n) s.hubState { status := 0 }) :=
  congrArg Host.Outcome.next (State.runCommand_midArgs h rfl (State.hubState_mem_field h hheld) (by simp [argsOk, argLens])
    ((State.commandMid_fldAdopt s (by omega)).trans heff))

end

/-- Settles O41: a new record with arguments that the table accepts, and the effect of each command. -/
theorem laneRingAndFieldCommandRows : Obligations.LaneRingAndFieldCommandRows := by
  intro s o h
  refine ⟨fun n hn hfused => ⟨?standby, ?on, ?spare, ?active, ?test⟩, exec_ringDiscover h,
    fun hheld hbig p hp => ⟨fun hbound => ⟨?off, ?start, ?cycle⟩, ?adopt⟩⟩
  case standby => exact fun hsighted hrun => exec_laneAdmin h hn (by decide) (State.laneAdmin_standby hn hfused hsighted hrun)
  case on => exact fun hoff _ => exec_laneAdmin h hn (by decide) (State.laneAdmin_on hn hfused hoff)
  case spare => exact fun hspare => exec_laneRetrain h hn (State.laneRetrainCmd_spare hn hfused hspare)
  case active => exact fun hactive hwant => exec_laneRetrain h hn (State.laneRetrainCmd_active hn hfused hactive hwant)
  case test =>
    exact fun hmaint hidle gen chk loop hgen hchk hloop hany =>
      exec_laneTest h hn hgen hchk hloop (State.laneTest_maint hn hfused hmaint hidle hgen hchk hloop hany)
  case off => exact exec_fldPort h hheld hp (by decide) (State.fieldPortCmd_bound hp hbig (by decide) hbound)
  case start => exact exec_fldPort h hheld hp (by decide) (State.fieldPortCmd_bound hp hbig (by decide) hbound)
  case cycle => exact exec_fldPort h hheld hp (by decide) (State.fieldPortCmd_bound hp hbig (by decide) hbound)
  case adopt => exact fun hforeign hrej => exec_fldAdopt h hheld hp (State.fieldAdopt_foreign hp hbig hforeign hrej)

end Sys2Proof.Machine
end

section
/-! PROOFS. Effect and frame of a notice raise (R581, R582), of a silt log event (R626, R639) and of a safe cause (R155, R183). -/

open Sys2Proof Sys2Proof.Machine

namespace Sys2Proof.Machine

/-! ## Bits set by an or -/

theorem bit_or_twoPow {x i k : Nat} {w : Nat} (hk : k < w) : bit ((x ||| 2 ^ i) % 2 ^ w) k = (bit x k || decide (i = k)) := by
  simp [bit, Nat.testBit_mod_two_pow, hk, Nat.testBit_two_pow]

/-! ## Another register of a family -/

section
variable (s : State) {i j a b : Nat}

theorem State.rd_wr_ne {r : RegDef} (v : Word) (h : r.at a b ≠ r.at i j) : (s.wr r v i j).rd r a b = s.rd r a b := by
  unfold State.rd
  have hne : ¬ (r.at a b = r.at i j ∧ r.has i j = true) := fun e => h e.1
  rw [State.wr_regs, if_neg hne]

theorem State.get_put_ne {f : Field} (v : Nat) (h : f.reg.at a b ≠ f.reg.at i j) : (s.put f v i j).get f a b = s.get f a b :=
  congrArg (getBits · f.lsb f.width) (s.rd_wr_ne _ h)

end

/-! ## A notice raise -/

section
variable {s : State} {i : Nat}

theorem State.raise_of_pending (h : s.pendingBit i = true) : s.raise i = s := if_pos h

/-- The registers after a raise hold the pending bit, and nothing else of them changes. -/
theorem State.regs_raise (h : s.pendingBit i = false) :
    (s.raise i).regs = (s.put Fld.DMA_NPENDj.PEND (s.get Fld.DMA_NPENDj.PEND (i / 32) ||| 2 ^ (i % 32)) (i / 32)).regs := by
  unfold State.raise State.when
  dsimp only
  rw [if_neg (by simp [h])]
  split_ifs <;> rfl

theorem State.raise_frame : s.raise i = { s with regs := (s.raise i).regs, host := (s.raise i).host } := by
  unfold State.raise State.when
  dsimp only
  split
  · rfl
  · rw [State.put, State.wr_frame]
    split_ifs <;> rfl

/-- The pending bits are those of the registers. -/
theorem State.pendingBit_congr {t u : State} (h : t.regs = u.regs) (k : Nat) : t.pendingBit k = u.pendingBit k := by
  simp only [State.pendingBit, State.get, State.rd, h]

theorem State.pendingBit_put (hi : i < 109) {k : Nat} :
    (s.put Fld.DMA_NPENDj.PEND (s.get Fld.DMA_NPENDj.PEND (i / 32) ||| 2 ^ (i % 32)) (i / 32)).pendingBit k =
      (s.pendingBit k || decide (i = k)) := by
  have hhas : Reg.DMA_NPENDj.has (i / 32) 0 = true := RegDef.has_of_lt (n := 4) rfl (by omega)
  by_cases hword : k / 32 = i / 32
  · have hsame : decide (i % 32 = k % 32) = decide (i = k) := by
      rw [decide_eq_decide]
      omega
    rw [State.pendingBit, hword, State.get_put_same _ _ _ _ (by decide) hhas,
      bit_or_twoPow (show k % 32 < Fld.DMA_NPENDj.PEND.width from Nat.mod_lt _ (by decide)), hsame, State.pendingBit, hword]
  · have hother : i ≠ k := fun e => hword (by rw [e])
    have hat : Reg.DMA_NPENDj.at (k / 32) 0 ≠ Reg.DMA_NPENDj.at (i / 32) 0 := by
      simp only [RegDef.at, Reg.DMA_NPENDj]
      omega
    rw [State.pendingBit, State.get_put_ne _ _ hat, decide_eq_false hother, Bool.or_false, State.pendingBit]

theorem State.pendingBit_raise (hi : i < 109) (k : Nat) : (s.raise i).pendingBit k = (s.pendingBit k || decide (i = k)) := by
  cases hpend : s.pendingBit i
  · rw [State.pendingBit_congr (State.regs_raise hpend), State.pendingBit_put hi]
  · rw [State.raise_of_pending hpend]
    by_cases hk : i = k
    · simp [← hk, hpend]
    · simp [hk]

theorem State.words_raise {a : Nat} (ha : a ≠ Reg.DMA_NPENDj.at (i / 32) 0) :
    tabGet (s.raise i).regs 0 a = tabGet s.regs 0 a := by
  cases hpend : s.pendingBit i
  · rw [State.regs_raise hpend, State.put, State.wr_regs, if_neg fun e => ha e.1]
  · rw [State.raise_of_pending hpend]

end

/-! ## An event of the silt log -/

/-- What the log's staging leaves alone: all but the registers and the log, and the registers outside the log's block. -/
def State.besideLog (s : State) : State × (Nat → Word) :=
  ({ s with regs := [], silt := State.reset.silt }, wordsOutside 0x280000 0x281000 s.regs)

section
variable (s : State)

@[simp] theorem State.besideLog_put (f : Field) (v i j : Nat) (hf : f.reg.within 0x280000 0x281000 = true) :
    (s.put f v i j).besideLog = s.besideLog := by
  rw [State.besideLog, wordsOutside_put s i j v hf, State.put, State.wr_frame]
  rfl

@[simp] theorem State.besideLog_sat (f : Field) (k i j : Nat) (hf : f.reg.within 0x280000 0x281000 = true) :
    (s.sat f k i j).besideLog = s.besideLog := s.besideLog_put f _ i j hf

theorem State.besideLog_suppress (c t : Nat) : (s.suppress c t).besideLog = s.besideLog :=
  State.besideLog_sat _ _ _ _ _ rfl

theorem State.besideLog_fifoLevel : s.fifoLevel.besideLog = s.besideLog :=
  (State.view_when State.besideLog _ _ _ fun t => t.besideLog_put _ _ _ _ rfl).trans (s.besideLog_put _ _ _ _ rfl)

theorem State.besideLog_setJob (e : SiltEvent) (l : List Bool) : (s.setJob e l).besideLog = s.besideLog :=
  (State.besideLog_put _ _ _ _ _ rfl).trans (s.besideLog_sat _ _ _ _ rfl)

theorem State.besideLog_startLogFull : s.startLogFull.besideLog = s.besideLog := s.besideLog_setJob _ _

theorem State.besideLog_startRecord (e : SiltEvent) : (s.startRecord e).besideLog = s.besideLog := by
  unfold State.startRecord
  dsimp only
  split_ifs
  · exact s.besideLog_setJob _ _
  · exact s.besideLog_setJob _ _
  · exact s.besideLog_setJob _ _
  · rfl
  · exact (State.besideLog_startLogFull _).trans (s.besideLog_sat _ _ _ _ rfl)

theorem State.besideLog_stage (code : Nat) (data : List Byte) : (s.stage code data).besideLog = s.besideLog := by
  unfold State.stage
  dsimp only
  split
  · exact s.besideLog_suppress _ _
  · generalize hu : s.when _ _ = u
    have hdrop : u.besideLog = s.besideLog := hu ▸ State.view_when _ _ _ _ fun t => t.besideLog_sat _ _ _ _ rfl
    rw [← hdrop]
    split
    · rfl
    · split
      · exact u.besideLog_startRecord _
      · split
        · exact State.besideLog_fifoLevel _
        · exact u.besideLog_suppress _ _

theorem State.stage_frame (code : Nat) (data : List Byte) :
    s.stage code data = { s with regs := (s.stage code data).regs, silt := (s.stage code data).silt } := by
  have hput := congrArg (fun v => { v.1 with regs := (s.stage code data).regs, silt := (s.stage code data).silt })
    (s.besideLog_stage code data)
  exact hput

theorem State.words_stage (code : Nat) (data : List Byte) {a : Nat} (ha : a < 0x280000 ∨ 0x281000 ≤ a) :
    tabGet (s.stage code data).regs 0 a = tabGet s.regs 0 a :=
  tabGet_of_wordsOutside (congrArg Prod.snd (s.besideLog_stage code data)) ha

theorem State.silt_fifoLevel : s.fifoLevel.silt = s.silt :=
  (State.view_when State.silt _ _ _ fun t => t.put_silt _ _ _ _).trans (s.put_silt _ _ _ _)

end

/-- Room in the FIFO and a busy writer: the event waits behind the others. -/
theorem State.stage_behind {s : State} (code : Nat) (data : List Byte) (hpower : s.is Fld.SLT_STAT.PFAIL = false)
    (hfull : s.is Fld.SLT_STAT.FULL = false) (hbusy : s.silt.job.isSome = true) (hroom : s.silt.fifo.length < 64) :
    s.stage code data = ({ s with silt.fifo := s.silt.fifo ++ [s.siltEvent code data] } : State).fifoLevel := by
  have hjob : s.silt.job.isNone = false := Option.isNone_eq_false_iff.mpr hbusy
  simp only [State.stage, State.when, hpower, hfull, hjob, hroom, Bool.false_and, Bool.false_eq_true, if_false, if_true]

/-! ## A safe cause -/

section
variable (s : State) (b : Nat)

/-- A cause is written down, and is live from PFAIL on. -/
def State.causeLatched : State :=
  (s.put Fld.GLB_SAFE_CAUSE.CAUSE (s.get Fld.GLB_SAFE_CAUSE.CAUSE ||| 2 ^ b)).when (b ≥ 2) fun s =>
    { s with seq.safeLive := s.seq.safeLive ||| 2 ^ b }

theorem State.regs_causeLatched :
    (s.causeLatched b).regs = (s.put Fld.GLB_SAFE_CAUSE.CAUSE (s.get Fld.GLB_SAFE_CAUSE.CAUSE ||| 2 ^ b)).regs :=
  State.view_when State.regs _ _ _ fun _ => rfl

theorem State.due_causeLatched : (s.causeLatched b).seq.due = s.seq.due ∧ (s.causeLatched b).seq.frame = s.seq.frame := by
  unfold State.causeLatched State.when
  split <;> simp

theorem State.causeLatched_frame :
    s.causeLatched b = { s with regs := (s.causeLatched b).regs, seq := (s.causeLatched b).seq } := by
  unfold State.causeLatched State.when
  rw [State.put, State.wr_frame]
  split <;> rfl

theorem State.hubState_causeLatched : (s.causeLatched b).hubState = s.hubState := by
  have hread : ∀ t : State, (fun t : State => t.hubState) { t with seq.safeLive := t.seq.safeLive ||| 2 ^ b } = t.hubState :=
    fun _ => rfl
  exact (State.view_when _ _ _ _ hread).trans (State.get_put_indep _ _ _ _ _ _ (by decide))

/-- The hub is due for SAFE at the next tick. -/
def State.dueSafe : State :=
  { s with seq.due := s.seq.due ++ [{ target := stSafe, frame := s.seq.frame + 1, rank := 1 }] }

/-- A safe cause latches, and in ARMED and RUN the hub is due for SAFE. -/
theorem State.safeCause_eq : s.safeCause b = (s.causeLatched b).when (s.inStates [stArmed, stRun]) State.dueSafe := by
  have hstates : (s.causeLatched b).inStates [stArmed, stRun] = s.inStates [stArmed, stRun] := by
    rw [State.inStates, State.hubState_causeLatched, State.inStates]
  rw [← hstates]
  rfl

theorem State.regs_safeCause :
    (s.safeCause b).regs = (s.put Fld.GLB_SAFE_CAUSE.CAUSE (s.get Fld.GLB_SAFE_CAUSE.CAUSE ||| 2 ^ b)).regs := by
  rw [s.safeCause_eq b]
  exact (State.view_when State.regs _ _ State.dueSafe fun _ => rfl).trans (s.regs_causeLatched b)

theorem State.bit_safeCause (hb : b < 8) : bit ((s.safeCause b).get Fld.GLB_SAFE_CAUSE.CAUSE) b = true := by
  have hcause : (s.safeCause b).get Fld.GLB_SAFE_CAUSE.CAUSE = (s.get Fld.GLB_SAFE_CAUSE.CAUSE ||| 2 ^ b) % 2 ^ 8 := by
    rw [State.get, State.rd, s.regs_safeCause b]
    exact State.get_put_same s (f := Fld.GLB_SAFE_CAUSE.CAUSE) _ 0 0 (by decide) rfl
  rw [hcause, bit_or_twoPow hb, decide_eq_true rfl, Bool.or_true]

theorem State.hubState_safeCause : (s.safeCause b).hubState = s.hubState := by
  rw [s.safeCause_eq b]
  exact (State.view_when State.hubState _ _ State.dueSafe fun _ => rfl).trans (s.hubState_causeLatched b)

theorem State.safeCause_frame : s.safeCause b = { s with regs := (s.safeCause b).regs, seq := (s.safeCause b).seq } := by
  rw [s.safeCause_eq b, s.causeLatched_frame b]
  unfold State.when
  split <;> rfl

theorem State.words_safeCause {a : Nat} (ha : a ≠ Reg.GLB_SAFE_CAUSE.base) :
    tabGet (s.safeCause b).regs 0 a = tabGet s.regs 0 a := by
  rw [s.regs_safeCause b, State.put, State.wr_regs, if_neg fun e => ha (e.1.trans rfl)]

variable {s}

theorem State.due_safeCause (h : s.hubState = stArmed ∨ s.hubState = stRun) :
    { target := stSafe, frame := s.seq.frame + 1, rank := 1 } ∈ (s.safeCause b).seq.due := by
  obtain ⟨-, hframe⟩ := s.due_causeLatched b
  have hin : s.inStates [stArmed, stRun] = true := by
    rcases h with h | h <;> rw [State.inStates, h] <;> rfl
  rw [s.safeCause_eq b, hin, ← hframe]
  exact List.mem_append_right _ List.mem_cons_self

theorem State.due_safeCause_of_ne (harmed : s.hubState ≠ stArmed) (hrun : s.hubState ≠ stRun) :
    (s.safeCause b).seq.due = s.seq.due := by
  have hin : s.inStates [stArmed, stRun] = false := by simp [State.inStates, harmed, hrun]
  rw [s.safeCause_eq b, hin]
  exact (s.due_causeLatched b).1

end

/-- Settles O13: the notice's registers are those with one bit more; staging works within the log's block; a cause latches. -/
theorem noticeLogAndSafeCauseEffects : Obligations.NoticeLogAndSafeCauseEffects := by
  refine ⟨fun s i hi => ⟨?set, State.raise_of_pending, ?others, State.raise_frame, fun a => State.words_raise⟩,
    fun s code data => ⟨s.stage_frame code data, fun a => s.words_stage code data, ?staged⟩,
    fun s b hb => ⟨s.bit_safeCause b hb, State.due_safeCause b, State.due_safeCause_of_ne b, s.hubState_safeCause b,
      s.safeCause_frame b, fun a => s.words_safeCause b⟩⟩
  case set => rw [State.pendingBit_raise hi, decide_eq_true rfl, Bool.or_true]
  case others =>
    intro k hk _
    rw [State.pendingBit_raise hi, decide_eq_false (Ne.symm hk), Bool.or_false]
  case staged =>
    intro hpower hfull hbusy hroom
    rw [State.stage_behind code data hpower hfull hbusy hroom, State.silt_fifoLevel]

end Sys2Proof.Machine
end

section
/-! PROOFS. The queue, Wring, silt log and agreement commands (R594, R617, R631, R632, R644, R652): a new record of each, and its
effect. -/

open Sys2Proof Sys2Proof.Machine

namespace Sys2Proof.Machine

/-- Bytes of the right number are not padded. -/
theorem padTo_of_length {bs : List Byte} {n : Nat} (h : bs.length = n) : padTo n bs = bs := by
  rw [padTo, ← h, List.take_left]

/-! ## The effects of the commands -/

section
variable {s : State} {k : Nat} {u : PatUnit}

theorem State.queueFlushCmd_unit (hk : k < 64) (hu : s.unitAt cQUEUE k = some u) :
    s.queueFlushCmd k = ({ status := 0 }, s.queueFlush k) := by
  have hqueue : ¬ 63 < k := by omega
  simp only [State.queueFlushCmd, hqueue, hu, Option.isNone_some, Bool.false_eq_true, if_false]

theorem State.wringCutCmd_compress {w : WringJob} (hk : k < 16) (hu : s.unitAt cWRING k = some u) (hw : s.wjob k = some w)
    (hexpand : w.expand = false) : s.wringCutCmd k = ({ status := 0 }, s.wringCut k) := by
  have hcontext : ¬ 15 < k := by omega
  simp only [State.wringCutCmd, hcontext, hu, hw, hexpand, Option.isNone_some, Bool.false_eq_true, if_false]

theorem State.wringAbortCmd_job {w : WringJob} (hk : k < 16) (hu : s.unitAt cWRING k = some u) (hw : s.wjob k = some w) :
    s.wringAbortCmd k = ({ status := 0 }, s.wringFail k 3) := by
  have hcontext : ¬ 15 < k := by omega
  simp only [State.wringAbortCmd, hcontext, hu, hw, Option.isNone_some, Option.isSome_some, Bool.false_eq_true, if_false, if_true]

theorem State.quarantineCmd_bit {on : Nat} (hon : on ≤ 1) :
    s.quarantineCmd on = ({ status := 0 }, s.put Fld.SUP_QUAR.COMMAND on) := if_neg (by omega)

/-- With a frame counter the pair waits for FT(F), or for the tick after the next. -/
theorem State.adopt_pending {digest : List Byte} {compat f : Nat} (hlen : digest.length = 32) (hcompat : compat < 256)
    (hf : f < 2 ^ 48) (hlater : f = 0 ∨ s.seq.frame + 2 ≤ f) (hcounter : s.seq.counter = true) :
    s.adopt digest compat f = ({ status := 0 }, ({ s with
      sup.adopted := true, sup.pend := some (⟨digest, compat⟩, if f = 0 then s.seq.frame + 2 else f) } : State).showDigest) := by
  have hargs : (decide (256 ≤ compat) || decide (2 ^ 48 ≤ f)) = false := by
    simp only [Bool.or_eq_false_iff, decide_eq_false_iff_not]
    omega
  have hintime : (f != 0 && decide (f < s.seq.frame + 2)) = false := by
    simp only [Bool.and_eq_false_iff, bne_eq_false_iff_eq, decide_eq_false_iff_not]
    omega
  have hpad : padTo 32 digest = digest := padTo_of_length hlen
  simp only [State.adopt, hargs, hintime, hcounter, hpad, Bool.false_eq_true, if_false, if_true]

end

section
variable {s : State} (hidle : s.silt.clear = none)
include hidle

theorem State.clearArm_idle (source : Nat) : s.clearArm source =
    ({ status := 0, result := leBytes 4 (s.draw.1 % 2 ^ 32) },
      ({ s.draw.2 with silt.arm := some ⟨s.draw.1 % 2 ^ 32, source, s.opMs⟩ } : State).put Fld.SLT_STAT.ARMED 1) := by
  rw [State.clearArm, hidle]
  rfl

variable {a : ClearArm} (harm : s.silt.arm = some a) (hlive : s.opMs ≤ a.optime + 1000)
include harm hlive

/-- A confirm in time ends the arm; the same token from the same source starts the clear. -/
theorem State.clearConfirm_live (source request token : Nat) : s.clearConfirm source request token =
    if a.token ≠ token || a.source ≠ source then ({ status := 5 }, s.siltDisarm)
    else ({ status := 0 }, ({ s.siltDisarm with silt.clear := some ⟨source, request⟩ } : State).put Fld.SLT_STAT.CLEARING 1) := by
  have htime : s.siltDisarm.opMs = s.opMs := by simp [State.opMs, State.siltDisarm]
  have hintime : ¬ a.optime + 1000 < s.siltDisarm.opMs := by omega
  simp only [State.clearConfirm, hidle, harm, hintime, Option.isSome_none, Bool.false_eq_true, if_false]

theorem State.clearConfirm_same {source : Nat} (request : Nat) (hsource : a.source = source) :
    s.clearConfirm source request a.token = ({ status := 0 },
      ({ s.siltDisarm with silt.clear := some ⟨source, request⟩ } : State).put Fld.SLT_STAT.CLEARING 1) :=
  (State.clearConfirm_live hidle harm hlive _ _ _).trans (if_neg (by simp [hsource]))

theorem State.clearConfirm_other (source request : Nat) {token : Nat} (htoken : token ≠ a.token) :
    s.clearConfirm source request token = ({ status := 5 }, s.siltDisarm) :=
  (State.clearConfirm_live hidle harm hlive _ _ _).trans (if_pos (by simp [Ne.symm htoken]))

end

/-! ## The rows -/

section
variable {s t : State} {o : Origin} {k : Nat} {a : Answer} (h : s.fresh o = true)
include h

theorem exec_queFlush (hk : k < 64) (heff : s.queueFlushCmd k = (a, t)) :
    exec (.queFlush o k) s = .next (t.settle o 0x90 (leBytes 4 k) s.hubState a) := by
  refine congrArg Host.Outcome.next (State.runCommand_highWord h rfl rfl (State.hubState_mem_all h) ?_)
  simpa (disch := omega) [State.commandHigh, leAt_leBytes_nil_of_lt] using heff

theorem exec_wrgCut (hk : k < 16) (heff : s.wringCutCmd k = (a, t)) :
    exec (.wrgCut o k) s = .next (t.settle o 0x98 (leBytes 4 k) s.hubState a) := by
  refine congrArg Host.Outcome.next (State.runCommand_highWord h rfl rfl (State.hubState_mem_all h) ?_)
  simpa (disch := omega) [State.commandHigh, leAt_leBytes_nil_of_lt] using heff

theorem exec_wrgAbort (hk : k < 16) (heff : s.wringAbortCmd k = (a, t)) :
    exec (.wrgAbort o k) s = .next (t.settle o 0x99 (leBytes 4 k) s.hubState a) := by
  refine congrArg Host.Outcome.next (State.runCommand_highWord h rfl rfl (State.hubState_mem_all h) ?_)
  simpa (disch := omega) [State.commandHigh, leAt_leBytes_nil_of_lt] using heff

theorem exec_sltClearArm (hmaint : s.hubState = stMaint) (heff : s.clearArm o.source = (a, t)) :
    exec (.sltClearArm o) s = .next (t.settle o 0xA0 [] s.hubState a) :=
  congrArg Host.Outcome.next (State.runCommand_high h rfl (by simpa [opStates] using hmaint) (Nat.zero_le _) rfl rfl heff)

theorem exec_sltClearConfirm {token : Nat} (hmaint : s.hubState = stMaint) (htoken : token < 2 ^ 32)
    (heff : s.clearConfirm o.source o.request token = (a, t)) :
    exec (.sltClearConfirm o token) s = .next (t.settle o 0xA1 (leBytes 4 token) s.hubState a) := by
  refine congrArg Host.Outcome.next (State.runCommand_highWord h rfl rfl (by simpa [opStates] using hmaint) ?_)
  simpa (disch := omega) [State.commandHigh, leAt_leBytes_nil_of_lt] using heff

theorem exec_quarantine {on : Nat} (hon : on ≤ 1) (heff : s.quarantineCmd on = (a, t)) :
    exec (.quarantine o on) s = .next (t.settle o 0xB1 (leBytes 4 on) s.hubState a) := by
  refine congrArg Host.Outcome.next (State.runCommand_highWord h rfl rfl (State.hubState_mem_all h) ?_)
  simpa (disch := omega) [State.commandHigh, leAt_leBytes_nil_of_lt] using heff

theorem exec_adopt {digest : List Byte} {compat f : Nat} (hlen : digest.length = 32) (hcompat : compat < 256)
    (hf : f < 2 ^ 48) (heff : s.adopt digest compat f = (a, t)) : exec (.adopt o digest compat f) s =
      .next (t.settle o 0xB0 (digest ++ leBytes 4 compat ++ leBytes 8 f) s.hubState a) := by
  have hargs : s.adoptCmd (digest ++ leBytes 4 compat ++ leBytes 8 f) = s.adopt digest compat f := by
    have hdigest : (digest ++ leBytes 4 compat ++ leBytes 8 f).take 32 = digest := by
      rw [← hlen, List.append_assoc, List.take_left]
    have hword : leAt (digest ++ leBytes 4 compat ++ leBytes 8 f) 32 4 = compat := by
      rw [List.append_assoc, leAt_append_right _ _ _ _ hlen.le, hlen, leAt_leBytes_of_lt _ (by omega)]
    have hframe : leAt (digest ++ leBytes 4 compat ++ leBytes 8 f) 36 8 = f := by
      rw [leAt_append_right _ _ _ _ (by simp [hlen]), List.length_append, length_leBytes, hlen,
        leAt_leBytes_nil_of_lt (by omega)]
    rw [State.adoptCmd, hdigest, hword, hframe]
  have hrow : exec (.adopt o digest compat f) s =
      .next (s.runCommand o 0xB0 (padTo 32 digest ++ leBytes 4 compat ++ leBytes 8 f)) := rfl
  rw [hrow, padTo_of_length hlen]
  refine congrArg Host.Outcome.next (State.runCommand_high h rfl (State.hubState_mem_all h) ?_ ?_ ?args (hargs.trans heff))
  case args => simp [argsOk, argLens, hlen]
  all_goals simp [hlen]

end

/-- Settles O43: each command is a new record in one of its states, its arguments are read back as they were written, and its
effect is that of its row; the token is whatever the state draws. -/
theorem queueLogAndAgreementCommandRows : Obligations.QueueLogAndAgreementCommandRows := by
  intro s o k u h
  refine ⟨fun hk hu => exec_queFlush h hk (State.queueFlushCmd_unit hk hu), fun w hk hu hw => ⟨?cut, ?abort⟩,
    fun hmaint hidle => ⟨exec_sltClearArm h hmaint (State.clearArm_idle hidle _), fun a harm htoken hlive => ⟨?same, ?other⟩⟩,
    ?adopt, fun on hon => exec_quarantine h hon (State.quarantineCmd_bit hon)⟩
  case cut => exact fun hexpand => exec_wrgCut h hk (State.wringCutCmd_compress hk hu hw hexpand)
  case abort => exact exec_wrgAbort h hk (State.wringAbortCmd_job hk hu hw)
  case same =>
    exact fun hsource => exec_sltClearConfirm h hmaint htoken (State.clearConfirm_same hidle harm hlive _ hsource)
  case other =>
    exact fun token hfits hother => exec_sltClearConfirm h hmaint hfits (State.clearConfirm_other hidle harm hlive _ _ hother)
  case adopt =>
    exact fun digest compat f hlen hcompat hf hlater hcounter =>
      exec_adopt h hlen hcompat hf (State.adopt_pending hlen hcompat hf hlater hcounter)

end Sys2Proof.Machine
end

section
/-! PROOFS. Pops, flushes and stale queues (R572, R575, R576, R579), and watermark writes (R578). -/

open Sys2Proof Sys2Proof.Machine

namespace Sys2Proof.Machine

/-! ## A crossing of a watermark leaves the queues and what pops gave -/

/-- The queues, and what pops gave. -/
def State.queuesAndPops (s : State) : Tab Queue × List (Path × Nat × Nat) := (s.host.queues, s.host.popData)

section
variable (s : State)

@[simp] theorem State.queuesAndPops_wr (r : RegDef) (v : Word) (i j : Nat) : (s.wr r v i j).queuesAndPops = s.queuesAndPops := by
  rw [State.wr_frame]
  rfl

@[simp] theorem State.queuesAndPops_put (f : Field) (v i j : Nat) : (s.put f v i j).queuesAndPops = s.queuesAndPops :=
  s.queuesAndPops_wr _ _ _ _

@[simp] theorem State.queuesAndPops_sat (f : Field) (k i j : Nat) : (s.sat f k i j).queuesAndPops = s.queuesAndPops :=
  s.queuesAndPops_wr _ _ _ _

@[simp] theorem State.queuesAndPops_raise (i : Nat) : (s.raise i).queuesAndPops = s.queuesAndPops := by
  unfold State.raise
  dsimp only
  split
  · rfl
  · generalize hu : s.put _ _ _ = u
    have hput : u.queuesAndPops = s.queuesAndPops := hu ▸ s.queuesAndPops_put _ _ _ _
    have hring : ∀ t : State, ({ t with host.ringNotice := true } : State).queuesAndPops = t.queuesAndPops := fun _ => rfl
    rw [State.view_when State.queuesAndPops _ _ _ hring, ← hput]
    split_ifs <;> rfl

@[simp] theorem State.queuesAndPops_assertNext (u p : Nat) : (s.assertNext u p).queuesAndPops = s.queuesAndPops := by
  unfold State.assertNext
  split <;> rfl

end

/-- The watermark after L has changed. -/
def State.wmlNext (s : State) (q : Nat) : Bool :=
  if s.is Fld.QUE_Qq_WMSTAT.WML q then decide (s.get Fld.QUE_Qq_WM_LO.WM q < (s.queue q).words.length)
  else decide (s.get Fld.QUE_Qq_WM_HI.WM q ≤ (s.queue q).words.length)

/-- A crossing is counted, and the first one since WMX was cleared is announced. -/
def State.qMark (s : State) (q : Nat) (new : Bool) : State :=
  let s := (s.put Fld.QUE_Qq_WMSTAT.WML (b2n new) q).sat Fld.QUE_Qq_WMSTAT.XCNT 1 q
  if s.is Fld.QUE_Qq_WMSTAT.WMX q then s else
  let s := (s.put Fld.QUE_Qq_WMSTAT.WMX 1 q).raise q
  match s.unitAt cQUEUE q with
  | some u => s.assertNext u.id 0
  | none => s

section
variable (s : State) (q : Nat)

theorem State.qCross_eq : s.qCross q = if s.wmlNext q == s.is Fld.QUE_Qq_WMSTAT.WML q then s else s.qMark q (s.wmlNext q) := rfl

/-- What the parts of a crossing keep, the crossing keeps. -/
theorem State.view_qCross {β : Type} (view : State → β) (hraise : ∀ t : State, view (t.raise q) = view t)
    (hput : ∀ (t : State) (f : Field) (v : Nat), f.reg = Reg.QUE_Qq_WMSTAT → view (t.put f v q) = view t)
    (hassert : ∀ (t : State) (u p : Nat), view (t.assertNext u p) = view t) : view (s.qCross q) = view s := by
  have hcross : ∀ v, view ((s.put Fld.QUE_Qq_WMSTAT.WML v q).sat Fld.QUE_Qq_WMSTAT.XCNT 1 q) = view s :=
    fun v => (hput _ Fld.QUE_Qq_WMSTAT.XCNT _ rfl).trans (hput _ Fld.QUE_Qq_WMSTAT.WML _ rfl)
  rw [s.qCross_eq]
  split
  · rfl
  · unfold State.qMark
    dsimp only
    split
    · exact hcross _
    · have hmarked := (hraise _).trans ((hput _ Fld.QUE_Qq_WMSTAT.WMX 1 rfl).trans (hcross (b2n (s.wmlNext q))))
      split
      · exact (hassert _ _ _).trans hmarked
      · exact hmarked

theorem State.queuesAndPops_qCross : (s.qCross q).queuesAndPops = s.queuesAndPops :=
  s.view_qCross q State.queuesAndPops (fun t => t.queuesAndPops_raise q) (fun t f v _ => t.queuesAndPops_put f v q 0)
    State.queuesAndPops_assertNext

theorem State.queue_qCross (n : Nat) : (s.qCross q).queue n = s.queue n :=
  congrArg (fun v : Tab Queue × List (Path × Nat × Nat) => tabGet v.1 Queue.rest n) (s.queuesAndPops_qCross q)

theorem State.popData_setQueue (x : Queue) : (s.setQueue q x).host.popData = s.host.popData := by
  simp [State.setQueue]

theorem State.get_assertNext (u p : Nat) (g : Field) (i j : Nat) : (s.assertNext u p).get g i j = s.get g i j := by
  unfold State.assertNext
  split <;> rfl

theorem State.get_qCross {g : Field} (i j : Nat) (hnotice : Reg.DMA_NPENDj.disjoint g.reg = true)
    (hmark : Reg.QUE_Qq_WMSTAT.disjoint g.reg = true) : (s.qCross q).get g i j = s.get g i j :=
  s.view_qCross q (fun t => t.get g i j) (fun t => t.get_raise_apart i j hnotice q)
    (fun _ _ _ hf => State.get_wr_disjoint _ _ _ _ _ _ (hf ▸ hmark)) (fun t u p => t.get_assertNext u p g i j)

end

/-! ## Pops -/

section
variable {s : State} {p : Path} {q : Nat} {wide : Bool}

theorem State.queue_latchPop (hi marker poison n : Nat) : (s.latchPop p q hi marker poison).queue n = s.queue n ∧
    (s.latchPop p q hi marker poison).host.popData = s.host.popData := by
  cases p <;> simp [State.latchPop, State.setBank, State.queue]

/-- A processor pops an active queue that no ring carries. -/
theorem State.queuePop_open (hopen : s.mapOpen = true) (hp : p ≠ .mgmt) (hactive : s.is Fld.QUE_Qq_CFG.ACTIVE q = true)
    (hconsumer : s.is Fld.QUE_Qq_CFG.CONSUMER q = false) (hbound : s.is Fld.QUE_Qq_CFG.BOUND q = false) :
    s.queuePop p q wide false =
      match s.qTake q with
      | (some y, s) =>
        let s := s.latchPop p q ((y.seen false).data / 2 ^ 32) (b2n (y.seen false).marker) 0
        { s with host.popData :=
            s.host.popData ++ [(p, (y.seen false).data % 2 ^ 32, if wide then (y.seen false).data / 2 ^ 32 else 0)] }
      | (none, s) =>
        if p = .spi || s.get Fld.QUE_STAT.WAIT_NS = 0 then s.popEmpty q p false
        else s.setQueue q { s.queue q with pops := (s.queue q).pops ++ [⟨p, wide⟩] } := by
  have hpath : (decide (p = .mgmt) || !s.mapOpen) = false := by simp [hp, hopen]
  simp only [State.queuePop, hpath, hactive, hconsumer, hbound, Bool.not_true, Bool.or_false, Bool.false_eq_true, if_false]
  rfl

theorem State.qTake_empty (hempty : (s.queue q).words = []) : s.qTake q = (none, s) := by
  simp only [State.qTake, hempty]

theorem State.qTake_word {y : QWord} {rest : List QWord} (hwords : (s.queue q).words = y :: rest) : s.qTake q =
    (some y, (s.setQueue q { s.queue q with
      words := rest, r := ((s.queue q).r + 1) % 2 ^ (s.qLog q + 1),
      stale := if rest = [] then none else some s.silt.opNs }).qCross q) := by
  simp only [State.qTake, hwords]

theorem State.queuePop_refused (hopen : s.mapOpen = true) (hp : p ≠ .mgmt)
    (hshut : s.is Fld.QUE_Qq_CFG.ACTIVE q = false ∨ s.is Fld.QUE_Qq_CFG.CONSUMER q = true) :
    s.queuePop p q wide false = s.popEmpty q p true := by
  have hpath : (decide (p = .mgmt) || !s.mapOpen) = false := by simp [hp, hopen]
  have hrefused : (!s.is Fld.QUE_Qq_CFG.ACTIVE q || s.is Fld.QUE_Qq_CFG.CONSUMER q || s.is Fld.QUE_Qq_CFG.BOUND q) = true := by
    rcases hshut with h | h <;> simp [h]
  simp only [State.queuePop, hpath, hrefused, Bool.false_eq_true, if_false, if_true]

end

section
variable {s : State} {p : Path} {q : Nat} (wide bad : Bool) (hq : q < 64)
include hq

theorem execQueuePop_eq : exec (.queuePop p q wide bad) s = .next (s.queuePop p q wide bad) := congrArg Host.Outcome.next (if_pos hq)

theorem execQueuePop_mgmt :
    exec (.queuePop .mgmt q wide bad) s = .next { s with host.popData := s.host.popData ++ [(.mgmt, 0, 0)] } :=
  (execQueuePop_eq wide bad hq).trans (congrArg Host.Outcome.next (if_pos rfl))

variable (hopen : s.mapOpen = true) (hp : p ≠ .mgmt) (hactive : s.is Fld.QUE_Qq_CFG.ACTIVE q = true)
  (hconsumer : s.is Fld.QUE_Qq_CFG.CONSUMER q = false) (hbound : s.is Fld.QUE_Qq_CFG.BOUND q = false)
include hopen hp hactive hconsumer hbound

/-- The oldest word leaves its queue and is given to the processor. -/
theorem execQueuePop_word {y : QWord} {rest : List QWord} (hwords : (s.queue q).words = y :: rest) :
    ∃ t, exec (.queuePop p q wide false) s = .next t ∧
      t.queue q = { s.queue q with
        words := rest, r := ((s.queue q).r + 1) % 2 ^ (s.qLog q + 1), stale := if rest = [] then none else some s.silt.opNs } ∧
      t.host.popData = s.host.popData ++
        [(p, (y.seen false).data % 2 ^ 32, if wide then (y.seen false).data / 2 ^ 32 else 0)] := by
  have hpop := State.queuePop_open (wide := wide) hopen hp hactive hconsumer hbound
  rw [State.qTake_word hwords] at hpop
  refine ⟨_, (execQueuePop_eq wide false hq).trans (congrArg Host.Outcome.next hpop), ?_, ?_⟩
  · exact (State.queue_latchPop _ _ _ q).1.trans (by rw [State.queue_qCross, State.queue_setQueue, if_pos rfl])
  · dsimp only
    rw [(State.queue_latchPop _ _ _ q).2]
    exact congrArg (· ++ _) ((congrArg Prod.snd (State.queuesAndPops_qCross _ q)).trans (State.popData_setQueue _ _ _))

variable (hempty : (s.queue q).words = [])
include hempty

theorem execQueuePop_empty (hnow : p = .spi ∨ s.get Fld.QUE_STAT.WAIT_NS = 0) :
    exec (.queuePop p q wide false) s = .next (s.popEmpty q p false) := by
  have hdue : (decide (p = .spi) || decide (s.get Fld.QUE_STAT.WAIT_NS = 0)) = true := by simpa using hnow
  rw [execQueuePop_eq wide false hq, State.queuePop_open hopen hp hactive hconsumer hbound, State.qTake_empty hempty]
  exact congrArg Host.Outcome.next (if_pos hdue)

theorem execQueuePop_waits (hspi : p ≠ .spi) (hwait : s.get Fld.QUE_STAT.WAIT_NS ≠ 0) : exec (.queuePop p q wide false) s =
    .next (s.setQueue q { s.queue q with pops := (s.queue q).pops ++ [⟨p, wide⟩] }) := by
  have hlater : ¬ (decide (p = .spi) || decide (s.get Fld.QUE_STAT.WAIT_NS = 0)) = true := by simp [hspi, hwait]
  rw [execQueuePop_eq wide false hq, State.queuePop_open hopen hp hactive hconsumer hbound, State.qTake_empty hempty]
  exact congrArg Host.Outcome.next (if_neg hlater)

end

/-! ## Flushes and stale queues -/

section
variable {s : State} {q : Nat}

theorem execPopWaitExpire_pop {w : WaitPop} {ws : List WaitPop} (hpops : (s.queue q).pops = w :: ws) :
    exec (.popWaitExpire q) s = .next ((s.setQueue q { s.queue q with pops := ws }).popEmpty q w.path false) := by
  show execPopWaitExpire q s = _
  simp only [execPopWaitExpire, hpops]

theorem execStaleTimeout_due {t : Nat} (hstale : (s.queue q).stale = some t) : exec (.staleTimeout q) s =
    .next (((s.setQueue q { s.queue q with stale := none }).evt Fld.QUE_Qq_STAT.STALE q q).sat Fld.QUE_Qq_CNT2.STALE_CNT 1 q) :=
  if_neg (by simp [hstale])

variable (hopen : s.mapOpen = true)
include hopen

theorem execQueCtrlFlush_open : exec (.queCtrlFlush q) s = .next (s.queueFlush q) := if_neg (by simp [hopen])

theorem execQueCtrlFlush_empty (hempty : (s.queue q).words = []) : exec (.queCtrlFlush q) s = .next s :=
  (execQueCtrlFlush_open hopen).trans (congrArg Host.Outcome.next (if_pos hempty))

theorem execQueCtrlFlush_words (hq : q < 64) (hwords : (s.queue q).words ≠ []) : ∃ t, exec (.queCtrlFlush q) s = .next t ∧
    t.queue q = { s.queue q with words := [], r := (s.queue q).w, stale := none } ∧ t.get Fld.QUE_Qq_LEVEL.LEVEL q = 0 := by
  refine ⟨_, (execQueCtrlFlush_open hopen).trans (congrArg Host.Outcome.next (if_neg hwords)), ?_, ?_⟩
  · rw [State.queue_qCross, State.queue_setQueue, if_pos rfl]
  · rw [State.get_qCross _ _ _ _ (by decide) (by decide), State.setQueue, State.get_put_indep _ _ _ _ _ _ (by decide)]
    exact State.get_put_same _ _ _ _ (by decide) (RegDef.has_of_lt (n := 64) rfl hq)

end

/-- Settles O54: a pop by the state of its queue and its path, then the rows of waiting pops, flushes and stale queues. -/
theorem queueRows : Obligations.QueueRows := by
  refine ⟨fun s p q wide hq hopen => ⟨execQueuePop_mgmt wide false hq, fun hp hactive hconsumer hbound => ⟨?word, ?empty, ?waits⟩,
    ?refused, fun w ws => execPopWaitExpire_pop⟩, fun s q hq hopen => ⟨execQueCtrlFlush_empty hopen,
      execQueCtrlFlush_words hopen hq, fun t => execStaleTimeout_due⟩⟩
  case word =>
    intro y rest hwords
    obtain ⟨t, ht, hqueue, hdata⟩ := execQueuePop_word wide hq hopen hp hactive hconsumer hbound hwords
    exact ⟨t, ht, by rw [hqueue], by rw [hqueue], by rw [hqueue], by rw [hqueue], hdata⟩
  case empty => exact execQueuePop_empty wide hq hopen hp hactive hconsumer hbound
  case waits => exact execQueuePop_waits wide hq hopen hp hactive hconsumer hbound
  case refused =>
    exact fun hp hshut => (execQueuePop_eq wide false hq).trans (congrArg Host.Outcome.next (State.queuePop_refused hopen hp hshut))

/-! ## Watermark writes -/

theorem State.get_lt (s : State) (f : Field) (i j : Nat) : s.get f i j < 2 ^ f.width := BitVec.isLt _

section
variable (s : State) {q : Nat}

/-- WM_LO is cut to WM_HI. -/
def State.watermarkOrder (q : Nat) : State :=
  if s.get Fld.QUE_Qq_WM_HI.WM q < s.get Fld.QUE_Qq_WM_LO.WM q then s.put Fld.QUE_Qq_WM_LO.WM (s.get Fld.QUE_Qq_WM_HI.WM q) q
  else s

theorem State.watermarkOrder_hi : (s.watermarkOrder q).get Fld.QUE_Qq_WM_HI.WM q = s.get Fld.QUE_Qq_WM_HI.WM q := by
  unfold State.watermarkOrder
  split
  · exact State.get_put_indep _ _ _ _ _ _ (by decide)
  · rfl

theorem State.watermarkOrder_lo (hq : q < 64) : (s.watermarkOrder q).get Fld.QUE_Qq_WM_LO.WM q =
    min (s.get Fld.QUE_Qq_WM_LO.WM q) (s.get Fld.QUE_Qq_WM_HI.WM q) := by
  unfold State.watermarkOrder
  split
  · next habove =>
    rw [State.get_put_same _ _ _ _ (by decide) (RegDef.has_of_lt (n := 64) rfl hq),
      Nat.min_eq_right habove.le]
    exact Nat.mod_eq_of_lt (s.get_lt Fld.QUE_Qq_WM_HI.WM q 0)
  · next hbelow => rw [Nat.min_eq_left (Nat.not_lt.mp hbelow)]

theorem State.watermarkOrder_regsOnly : RegsOnly [Reg.QUE_Qq_WM_LO.at q 0] s (s.watermarkOrder q) := by
  unfold State.watermarkOrder
  split
  · exact s.put_regsOnly _ _ _ _
  · exact ⟨rfl, fun _ _ => rfl⟩

theorem State.get_put_watermark {f : Field} {v n : Nat} (hq : q < 64) (hf : f.width = 19 ∧ f.lsb = 0)
    (hreg : f.reg.oneIndex 64 = true) :
    (s.put f (min n (v % 2 ^ 19)) q).get f q = min n (v % 2 ^ 19) := by
  have hfits : min n (v % 2 ^ 19) < 2 ^ 19 := (Nat.min_le_right _ _).trans_lt (Nat.mod_lt _ (by decide))
  rw [State.get_put_same _ _ _ _ (by omega) (RegDef.has_of_lt hreg hq), hf.1, Nat.mod_eq_of_lt hfits]

end

/-- Settles O55: one watermark is written, then WM_LO is cut to WM_HI. -/
theorem watermarkWriteRow : Obligations.WatermarkWriteRow := by
  intro s q v hi hq hopen
  refine ⟨(s.put (if hi then Fld.QUE_Qq_WM_HI.WM else Fld.QUE_Qq_WM_LO.WM) (min (2 ^ s.qLog q) (v % 2 ^ 19)) q).watermarkOrder q,
    if_neg (by simp [hopen]), ?high, ?low, ?frame⟩
  case high =>
    rintro rfl
    have hwritten := s.get_put_watermark (n := 2 ^ s.qLog q) (v := v) hq (f := Fld.QUE_Qq_WM_HI.WM) ⟨rfl, rfl⟩ rfl
    refine ⟨(State.watermarkOrder_hi _).trans hwritten, (State.watermarkOrder_lo _ hq).trans ?_⟩
    exact congrArg₂ min (State.get_put_indep _ _ _ _ _ _ (by decide)) hwritten
  case low =>
    rintro rfl
    have hkept : (s.put Fld.QUE_Qq_WM_LO.WM (min (2 ^ s.qLog q) (v % 2 ^ 19)) q).get Fld.QUE_Qq_WM_HI.WM q =
        s.get Fld.QUE_Qq_WM_HI.WM q := State.get_put_indep _ _ _ _ _ _ (by decide)
    refine ⟨(State.watermarkOrder_hi _).trans hkept, (State.watermarkOrder_lo _ hq).trans ?_⟩
    exact congrArg₂ min (s.get_put_watermark hq ⟨rfl, rfl⟩ rfl) hkept
  case frame =>
    refine ((s.put_regsOnly _ _ _ _).trans (State.watermarkOrder_regsOnly _)).mono ?_
    cases hi
    · exact List.cons_subset.mpr ⟨List.mem_cons_of_mem _ List.mem_cons_self, List.subset_cons_self _ _⟩
    · exact List.Subset.refl _

end Sys2Proof.Machine
end

section
/-! PROOFS. DMA rings: enable, disable, tail, completion, flush and host errors (R584 to R588). -/

open Sys2Proof Sys2Proof.Machine

namespace Sys2Proof.Machine

/-! ## Rings and registers -/

section
variable (s : State) (r : Nat)

@[simp] theorem State.dring_wr (q : RegDef) (v : Word) (i j : Nat) : (s.wr q v i j).dring r = s.dring r := by
  rw [State.wr_frame]
  rfl

@[simp] theorem State.dring_put (f : Field) (v i j : Nat) : (s.put f v i j).dring r = s.dring r := s.dring_wr r _ _ _ _

end

/-! ## Enabling and disabling (R584, R588) -/

/-- An enabled ring without a queue: HEAD and TAIL 0, and running. -/
def State.ringOn (s : State) (r v : Nat) : State :=
  (((((s.setRingCfg r v).setDring r Ring.rest).put Fld.DMA_Rr_CFG.ENABLE 1 r).put Fld.DMA_Rr_STAT.STATE 1 r).wr Reg.DMA_Rr_TAIL 0
    r).wr Reg.DMA_Rr_HEAD 0 r

section
variable (s : State) {r : Nat} (v : Nat)

theorem State.dring_ringOn : (s.ringOn r v).dring r = Ring.rest := by
  simp [State.ringOn]

variable (hr : r < 32)
include hr

theorem State.is_ringOn_enable : (s.ringOn r v).is Fld.DMA_Rr_CFG.ENABLE r = true := by
  have hset : (s.ringOn r v).get Fld.DMA_Rr_CFG.ENABLE r = 1 % 2 ^ 1 := by
    rw [State.ringOn, State.get_wr_disjoint _ _ _ _ _ _ (by decide), State.get_wr_disjoint _ _ _ _ _ _ (by decide),
      State.get_put_indep _ _ _ _ _ _ (by decide)]
    exact State.get_put_same _ _ _ _ (by decide) (RegDef.has_of_lt (n := 32) rfl hr)
  rw [State.is, hset]
  rfl

theorem State.get_ringOn_state : (s.ringOn r v).get Fld.DMA_Rr_STAT.STATE r = 1 := by
  rw [State.ringOn, State.get_wr_disjoint _ _ _ _ _ _ (by decide), State.get_wr_disjoint _ _ _ _ _ _ (by decide)]
  exact State.get_put_same _ _ _ _ (by decide) (RegDef.has_of_lt (n := 32) rfl hr)

theorem State.rd_ringOn_tail : (s.ringOn r v).rd Reg.DMA_Rr_TAIL r = 0 :=
  (State.rd_wr_disjoint _ _ _ _ _ _ (by decide)).trans
    (State.rd_wr_same _ _ _ _ _ (RegDef.has_of_lt (n := 32) rfl hr))

theorem State.rd_ringOn_head : (s.ringOn r v).rd Reg.DMA_Rr_HEAD r = 0 :=
  State.rd_wr_same _ _ _ _ _ (RegDef.has_of_lt (n := 32) rfl hr)

end

section
variable {s : State} {r v : Nat} (hopen : s.mapOpen = true)
include hopen

theorem execDmaRingEnable_open (hv : bit v 31 = true) : exec (.dmaRingEnable r v) s = .next (s.wrDmaCfg r v) := by
  have hword : (if bit v 31 then v else v + 2 ^ 31) = v := if_pos hv
  refine (if_neg (by simp [hopen])).trans ?_
  rw [hword]

theorem execDmaRingEnable_on (hv : bit v 31 = true) (hon : s.is Fld.DMA_Rr_CFG.ENABLE r = true) :
    exec (.dmaRingEnable r v) s = .next s := by
  rw [execDmaRingEnable_open hopen hv, State.wrDmaCfg]
  simp only [hv, hon, Bool.not_true, Bool.false_eq_true, if_false, if_true]

theorem execDmaRingEnable_unbound (hv : bit v 31 = true) (hoff : s.is Fld.DMA_Rr_CFG.ENABLE r = false)
    (hbind : s.bindOk r (field v 16 2) (field v 0 6) = false) :
    exec (.dmaRingEnable r v) s = .next (s.put Fld.DMA_Rr_STAT.CFG_ERR 1 r) := by
  rw [execDmaRingEnable_open hopen hv, State.wrDmaCfg]
  simp only [hv, hoff, hbind, Bool.not_true, Bool.not_false, Bool.false_eq_true, if_false, if_true]

theorem execDmaRingEnable_off (hv : bit v 31 = true) (hr : 16 ≤ r) (hoff : s.is Fld.DMA_Rr_CFG.ENABLE r = false)
    (hbind : s.bindOk r (field v 16 2) (field v 0 6) = true) : exec (.dmaRingEnable r v) s = .next (s.ringOn r v) := by
  have hfrom : decide (r < 16) = false := by simp [hr]
  rw [execDmaRingEnable_open hopen hv, State.wrDmaCfg]
  simp only [hv, hoff, hbind, hfrom, Bool.not_true, Bool.false_and, Bool.false_eq_true, if_false, State.when]
  rfl

theorem execDmaRingDisable_idle (hon : s.is Fld.DMA_Rr_CFG.ENABLE r = true) (hidle : (s.dring r).job = none) :
    exec (.dmaRingDisable r) s = .next ((s.ringOff r).failRingJobs r) := by
  refine (if_neg (by simp [hopen])).trans ?_
  rw [State.ringDisable]
  simp only [hon, hidle, Bool.not_true, Bool.false_eq_true, if_false]

end

/-! ## Descriptors posted (R585) -/

section
variable {s : State} {r tail : Nat} {ds : List Descriptor} (hopen : s.mapOpen = true) (htail : tail < 65536)
include hopen htail

theorem execDmaTailWrite_beyond
    (hn : 2 ^ s.get Fld.DMA_Rr_CFG.SIZE_LOG2 r < (tail + 65536 - s.get Fld.DMA_Rr_HEAD.INDEX r) % 65536) :
    exec (.dmaTailWrite r tail ds) s = .next (s.put Fld.DMA_Rr_STAT.TAIL_ERR 1 r) := by
  refine (if_neg (by simp [hopen])).trans ?_
  dsimp only
  rw [Nat.mod_eq_of_lt htail]
  exact if_pos hn

theorem execDmaTailWrite_posted
    (hn : (tail + 65536 - s.get Fld.DMA_Rr_HEAD.INDEX r) % 65536 ≤ 2 ^ s.get Fld.DMA_Rr_CFG.SIZE_LOG2 r)
    (hon : s.is Fld.DMA_Rr_CFG.ENABLE r = true) (hidle : (s.dring r).job = none) :
    exec (.dmaTailWrite r tail ds) s =
      .next (((s.put Fld.DMA_Rr_TAIL.INDEX tail r).setDring r { s.dring r with
        posted := ((s.dring r).posted ++ ds).take ((tail + 65536 - s.get Fld.DMA_Rr_HEAD.INDEX r) % 65536) }).ringPump r) := by
  have honAfter : (s.put Fld.DMA_Rr_TAIL.INDEX tail r).is Fld.DMA_Rr_CFG.ENABLE r = true := by
    rw [State.is, State.get_put_indep _ _ _ _ _ _ (by decide)]
    exact hon
  refine (if_neg (by simp [hopen])).trans ?_
  dsimp only
  rw [Nat.mod_eq_of_lt htail, if_neg (Nat.not_lt.mpr hn), honAfter, State.dring_put, hidle]
  rfl

end

/-! ## A descriptor ends (R585 to R588) -/

section
variable {s : State} {r : Nat} {j : RingJob} (hjob : (s.dring r).job = some j) (hr : r < 16)
include hjob hr

/-- A capture-read ring writes the bytes to the host, and the descriptor back. -/
theorem execDmaDescriptorComplete_capture (hruns : s.ringRuns r = true) (hkind : s.ringKind r ≠ 0)
    (hok : s.descOk r j.desc = true) :
    exec (.dmaDescriptorComplete r [] []) s =
      .next (((s.hostData j.desc.addr (s.capRead j.desc.param j.desc.len)).ringWriteBack r j.desc j.desc.len 0
        (s.cap.poisoned.any fun b => decide (j.desc.param / 32 ≤ b) && decide (b ≤ (j.desc.param + j.desc.len - 1) / 32))
        false).ringPump r) := by
  have hserved : (decide (r < 32) && s.ringRuns r) = true := by
    rw [hruns, Bool.and_true, decide_eq_true_eq]
    omega
  have hqueue : (decide (r < 16) && decide (s.ringKind r = 0)) = false := by
    rw [decide_eq_false hkind, Bool.and_false]
  refine congrArg Host.Outcome.next ((if_pos hserved).trans ?_)
  rw [State.ringComplete, hjob]
  simp only [hok, hqueue, Bool.not_true, Bool.false_eq_true, if_false]
  rw [if_pos hr]

theorem execDmaFlushTimeout_words (hruns : s.ringRuns r = true) (hkind : s.ringKind r = 0) (hwords : j.words ≠ []) :
    exec (.dmaFlushTimeout r) s = .next ((s.ringDrain r 0 []).ringPump r) := by
  have hdue : (decide (r < 16) && decide (s.ringKind r = 0) && s.ringRuns r && j.words != []) = true := by
    simp [hr, hkind, hruns, hwords]
  show execDmaFlushTimeout r s = _
  unfold execDmaFlushTimeout
  rw [hjob]
  exact congrArg Host.Outcome.next (if_pos hdue)

omit hr in
/-- An error of the host stops a ring that carries no queue. -/
theorem execDmaHostError_capture (hon : s.get Fld.DMA_Rr_STAT.STATE r = 1)
    (hkind : (s.put Fld.DMA_PCIE_EVT.CPL_ERR 1).ringKind r ≠ 0) : exec (.dmaHostError r) s =
      .next ((((((s.put Fld.DMA_PCIE_EVT.CPL_ERR 1).ringWriteBack r j.desc j.done 2 false false).put Fld.DMA_Rr_STAT.STATE 2
        r).raise (64 + r)).dmaError r 0 2 0).failRingJobs r) := by
  have hqueue : (decide (r < 16) && decide ((s.put Fld.DMA_PCIE_EVT.CPL_ERR 1).ringKind r = 0)) = false := by
    rw [decide_eq_false hkind, Bool.and_false]
  refine (if_neg (by simp [hon])).trans ?_
  rw [State.dring_put, hjob]
  simp only [hqueue, Bool.false_eq_true, if_false]

end

/-- Settles O56: each row in the case that it names; an enabled ring shows what its last writes left. -/
theorem dmaRows : Obligations.DmaRows := by
  refine ⟨fun s r v hopen hv hr hr' => ⟨execDmaRingEnable_on hopen hv, fun hoff hbind => ?enable,
    execDmaRingEnable_unbound hopen hv, execDmaRingDisable_idle hopen⟩, fun s r tail ds hopen htail => ⟨?posted, ?beyond⟩,
    fun s r j hjob hr => ⟨execDmaDescriptorComplete_capture hjob hr, execDmaFlushTimeout_words hjob hr, ?error⟩⟩
  case enable =>
    exact ⟨s.ringOn r v, execDmaRingEnable_off hopen hv hr hoff hbind, s.is_ringOn_enable v hr', s.get_ringOn_state v hr',
      s.rd_ringOn_tail v hr', s.rd_ringOn_head v hr', s.dring_ringOn v⟩
  case posted => exact fun hn hon hidle _ => execDmaTailWrite_posted hopen htail hn hon hidle
  case beyond => exact execDmaTailWrite_beyond hopen htail
  case error => exact fun hon hkind hsame => execDmaHostError_capture hjob hon (hsame ▸ hkind)

end Sys2Proof.Machine
end

section
/-! PROOFS. Wring jobs: cuts, ends, starts, and what a job that ends well shows (R604, R607 to R609, R618). -/

open Sys2Proof Sys2Proof.Machine

namespace Sys2Proof.Machine

/-! ## The rows of a job in progress -/

section
variable {s : State} {j : Nat} {w : WringJob} (hw : s.wjob j = some w)
include hw

theorem execWringCloseTimeout_due (hwords : w.words ≠ []) (hempty : (s.queue w.queue).words = [])
    (hclose : s.get Fld.WRG_Cj_CLOSE_US.CLOSE_US j ≠ 0) : exec (.wringCloseTimeout j) s = .next (s.wringCut j) := by
  have hdue : (w.words != [] && (s.queue w.queue).words == [] && s.get Fld.WRG_Cj_CLOSE_US.CLOSE_US j != 0) = true := by
    simp [hwords, hempty, hclose]
  show execWringCloseTimeout j s = _
  unfold execWringCloseTimeout
  rw [hw]
  exact congrArg Host.Outcome.next (if_pos hdue)

theorem execWringJobEnd_memory :
    exec (.wringJobEnd j true) s = .next ((s.put Fld.WRG_STAT.MEM_ERR 1).wringFail j 0xB) := by
  show execWringJobEnd j true s = _
  simp only [execWringJobEnd, hw, if_true]

theorem execWringJobEnd_compress (hexpand : w.expand = false) (hcut : w.cut = true) : exec (.wringJobEnd j false) s =
    .next (s.wringCommitOut j w (wrapStream w.wrap w.level (s.fdSubfield w) w.covered)
      (if w.wrap = 1 then adler32 w.covered else crc32 w.covered)) := by
  show execWringJobEnd j false s = _
  simp only [execWringJobEnd, hw, hexpand, hcut, Bool.not_true, Bool.false_eq_true, if_false]

theorem execWringJobEnd_expand (hexpand : w.expand = true) {k : Nat} {out : List Byte} (hverdict : w.verdict = some (k, out)) :
    exec (.wringJobEnd j false) s =
      .next (if k = 1 then s.wringCommitOut j w out (streamCheck w.wrap w.bytes out) else s.wringFail j k) := by
  show execWringJobEnd j false s = _
  simp only [execWringJobEnd, hw, hexpand, hverdict, Bool.false_eq_true, if_false, if_true]
  match k with
  | 0 => rfl
  | 1 => rfl
  | _ + 2 => rfl

variable (hexpand : w.expand = false)
include hexpand

theorem State.wringCut_compress : s.wringCut j = s.setWjob j { w with cut := true } := by
  simp only [State.wringCut, hw, hexpand, Bool.false_eq_true, if_false]

theorem State.wringFail_compress (result : Nat) : s.wringFail j result = s.wringEnd j result 0 0 := by
  simp only [State.wringFail, hw, hexpand, Bool.false_eq_true, if_false]

theorem execWrgCtrlCut_compress (hopen : s.mapOpen = true) :
    exec (.wrgCtrlCut j) s = .next (s.setWjob j { w with cut := true }) :=
  (if_neg (by simp [hopen])).trans (congrArg Host.Outcome.next (State.wringCut_compress hw hexpand))

theorem execWrgCtrlAbort_compress (hopen : s.mapOpen = true) : exec (.wrgCtrlAbort j) s = .next (s.wringEnd j 3 0 0) :=
  (if_neg (by simp [hopen])).trans (congrArg Host.Outcome.next (State.wringFail_compress hw hexpand 3))

end

theorem execWringDecompressStart_posted {s : State} {j r : Nat} {u : PatUnit} (hidle : s.wjob j = none)
    (hu : s.unitAt cWRING j = some u) (hring : s.inputRing j = some r) (hdir : wrgDir u = 1) (hruns : s.ringRuns r = true)
    (hposted : (s.dring r).posted ≠ []) : exec (.wringDecompressStart j) s = .next (s.wringBegin u) := by
  have hstarts : (decide (wrgDir u = 1) && (s.wjob j).isNone && s.ringRuns r && (s.dring r).posted != []) = true := by
    simp [hdir, hidle, hruns, hposted]
  show execWringDecompressStart j s = _
  unfold execWringDecompressStart
  rw [hu, hring]
  exact congrArg Host.Outcome.next (if_pos hstarts)

/-! ## What a job that ends well leaves -/

theorem tabGet?_erase_same {α : Type} (t : Tab α) (k : Nat) : tabGet? (tabErase t k) k = none := by
  induction t with
  | nil => rfl
  | cons e t ih =>
    obtain ⟨i, v⟩ := e
    unfold tabErase
    split
    · exact ih
    · next hne => simpa [tabGet?, hne] using ih

section
variable (s : State) (j result unit out check : Nat)

/-- Context j is free. -/
def State.wringFreed : State :=
  ({ s with host.wring := tabErase s.host.wring j } : State).put Fld.WRG_STAT.BUSY (maskBit (s.get Fld.WRG_STAT.BUSY) j false)

/-- The end of a job is counted, dated and announced to the Pattern. -/
def State.wringCounted : State :=
  let s := (s.wr Reg.WRG_Cj_STAT 0 j).put Fld.WRG_Cj_STAT.RESULT result j
  ((s.wrap Fld.WRG_Cj_CNT.JOB_CNT 1 j).put Fld.WRG_Cj_END_LO.FRAME_LO s.seq.frame j).assertNext unit 0

/-- The output of a job that ended well is shown. -/
def State.wringShown : State :=
  (((s.put Fld.WRG_Cj_EVT.DONE 1 j).put Fld.WRG_Cj_OUT.BYTES out j).put Fld.WRG_Cj_CHECK.CHECK check j).countEvt unit

/-- A failure is counted, and the input of a compression job is lost. -/
def State.wringLost (w : WringJob) : State :=
  let s := ((s.put Fld.WRG_Cj_EVT.FAIL 1 j).sat Fld.WRG_Cj_CNT.FAIL_CNT 1 j).classEvt w.unit
  if w.expand then s else s.sat Fld.WRG_Cj_LOST.LOST w.input j

/-- The end of a job: its context is free, a failure is recorded, and what the Pattern's job has shows its end. -/
theorem State.wringEnd_job {w : WringJob} (hw : s.wjob j = some w) : s.wringEnd j result out check =
    let t := if result == 1 then s.wringFreed j
      else (s.wringFreed j).stage 0x0C02 (leBytes 1 j ++ leBytes 1 result ++ leBytes 2 0 ++ leBytes 4 w.input)
    if w.orphan then t
    else if result == 1 then (t.wringCounted j result w.unit).wringShown j w.unit out check
    else (t.wringCounted j result w.unit).wringLost j w := by
  unfold State.wringEnd
  rw [hw]
  rfl

theorem State.wringEnd_done {w : WringJob} (hw : s.wjob j = some w) (howned : w.orphan = false) :
    s.wringEnd j 1 out check = ((s.wringFreed j).wringCounted j 1 w.unit).wringShown j w.unit out check := by
  rw [s.wringEnd_job j 1 out check hw, howned]
  rfl

/-! ### The context -/

theorem State.host_uPut (f : Field) (v id : Nat) : (s.uPut f v id).host = s.host := by
  unfold State.uPut
  dsimp only
  split <;> rfl

theorem State.host_assertNext (p : Nat) : (s.assertNext unit p).host = s.host := by
  unfold State.assertNext
  split <;> rfl

theorem State.host_wringCounted : (s.wringCounted j result unit).host = s.host :=
  (State.host_assertNext _ _ _).trans (by simp)

theorem State.host_wringShown : (s.wringShown j unit out check).host = s.host :=
  (State.host_uPut _ _ _ _).trans (by simp)

theorem State.wjob_wringFreed : (s.wringFreed j).wjob j = none := by
  have hhost : (s.wringFreed j).host.wring = tabErase s.host.wring j := by simp [State.wringFreed]
  rw [State.wjob, hhost, tabGet?_erase_same]

theorem State.busy_wringFreed (hj : j < 16) : bit ((s.wringFreed j).get Fld.WRG_STAT.BUSY) j = false := by
  have hbusy : (s.wringFreed j).get Fld.WRG_STAT.BUSY = maskBit (s.get Fld.WRG_STAT.BUSY) j false % 2 ^ 16 :=
    State.get_put_same _ _ 0 0 (by decide) rfl
  rw [hbusy, bit, Nat.testBit_mod_two_pow, decide_eq_true hj, Bool.true_and]
  exact bit_maskBit_false _ _

/-! ### The registers -/

variable {g : Field} (a b : Nat)

theorem State.get_wringCounted (hstat : Reg.WRG_Cj_STAT.disjoint g.reg = true) (hcnt : Fld.WRG_Cj_CNT.JOB_CNT.indep g = true)
    (hend : Fld.WRG_Cj_END_LO.FRAME_LO.indep g = true) : (s.wringCounted j result unit).get g a b = s.get g a b := by
  rw [State.wringCounted, State.get_assertNext, State.get_put_indep _ _ _ _ _ _ hend]
  exact (State.get_put_indep _ _ _ _ _ _ hcnt).trans
    ((State.get_wr_disjoint _ _ _ _ _ _ hstat).trans (State.get_wr_disjoint _ _ _ _ _ _ hstat))

theorem State.result_wringCounted (hj : j < 16) : (s.wringCounted j 1 unit).get Fld.WRG_Cj_STAT.RESULT j = 1 := by
  rw [State.wringCounted, State.get_assertNext, State.get_put_indep _ _ _ _ _ _ (by decide)]
  exact (State.get_put_indep _ _ _ _ _ _ (by decide)).trans
    (State.get_put_same _ _ _ _ (by decide) (RegDef.has_of_lt (n := 16) rfl hj))

/-- The unit's status block stands above the engine's registers. -/
theorem State.get_countEvt (hg : g.reg.belowLog = true) : (s.countEvt unit).get g a b = s.get g a b :=
  s.get_uPut a b hg _ _ _ (by decide)

theorem State.get_wringShown (hg : g.reg.belowLog = true) (hdone : Fld.WRG_Cj_EVT.DONE.indep g = true)
    (hout : Fld.WRG_Cj_OUT.BYTES.indep g = true) (hcheck : Fld.WRG_Cj_CHECK.CHECK.indep g = true) :
    (s.wringShown j unit out check).get g a b = s.get g a b := by
  rw [State.wringShown, State.get_countEvt _ _ a b hg, State.get_put_indep _ _ _ _ _ _ hcheck,
    State.get_put_indep _ _ _ _ _ _ hout, State.get_put_indep _ _ _ _ _ _ hdone]

variable (hj : j < 16)
include hj

theorem State.done_wringShown : (s.wringShown j unit out check).is Fld.WRG_Cj_EVT.DONE j = true := by
  have hset : (s.wringShown j unit out check).get Fld.WRG_Cj_EVT.DONE j = 1 := by
    rw [State.wringShown, State.get_countEvt _ _ j 0 (by decide), State.get_put_indep _ _ _ _ _ _ (by decide),
      State.get_put_indep _ _ _ _ _ _ (by decide)]
    exact State.get_put_same _ _ _ _ (by decide) (RegDef.has_of_lt (n := 16) rfl hj)
  rw [State.is, hset]
  rfl

theorem State.out_wringShown (hout : out < 2 ^ 32) : (s.wringShown j unit out check).get Fld.WRG_Cj_OUT.BYTES j = out := by
  rw [State.wringShown, State.get_countEvt _ _ j 0 (by decide), State.get_put_indep _ _ _ _ _ _ (by decide)]
  exact (State.get_put_same _ _ _ _ (by decide) (RegDef.has_of_lt (n := 16) rfl hj)).trans (Nat.mod_eq_of_lt hout)

theorem State.check_wringShown (hcheck : check < 2 ^ 32) :
    (s.wringShown j unit out check).get Fld.WRG_Cj_CHECK.CHECK j = check := by
  rw [State.wringShown, State.get_countEvt _ _ j 0 (by decide)]
  exact (State.get_put_same _ _ _ _ (by decide) (RegDef.has_of_lt (n := 16) rfl hj)).trans (Nat.mod_eq_of_lt hcheck)

end

/-- Settles O58: each row in the case that it names, and what the last writes of a job that ends well leave. -/
theorem wringRows : Obligations.WringRows := by
  refine ⟨fun s j w => ⟨fun hw => ⟨execWringCloseTimeout_due hw, execWringJobEnd_memory hw, execWringJobEnd_compress hw,
    fun hexpand k out => execWringJobEnd_expand hw hexpand, fun hopen hexpand =>
      ⟨execWrgCtrlCut_compress hw hexpand hopen, execWrgCtrlAbort_compress hw hexpand hopen⟩⟩,
    fun u r => execWringDecompressStart_posted⟩, fun s j out check w hj hw howned hout hcheck => ?ended⟩
  case ended =>
    dsimp only
    rw [s.wringEnd_done j out check hw howned]
    refine ⟨?context, ?result, State.done_wringShown _ _ _ _ _ hj, State.out_wringShown _ _ _ _ _ hj hout,
      State.check_wringShown _ _ _ _ _ hj hcheck, ?busy⟩
    case context => rw [State.wjob, State.host_wringShown, State.host_wringCounted, ← State.wjob, State.wjob_wringFreed]
    case result =>
      rw [State.get_wringShown _ _ _ _ _ _ _ (by decide) (by decide) (by decide) (by decide),
        State.result_wringCounted _ _ _ hj]
    case busy =>
      rw [State.get_wringShown _ _ _ _ _ _ _ (by decide) (by decide) (by decide) (by decide),
        State.get_wringCounted _ _ _ _ _ _ (by decide) (by decide) (by decide), s.busy_wringFreed j hj]

end Sys2Proof.Machine
end

section
/-! PROOFS. The silt log's rows: copies, the clear, the cursor and the window (R624 to R626, R632, R633). -/

open Sys2Proof Sys2Proof.Machine

namespace Sys2Proof.Machine

/-! ## Copies (R625, R626) -/

section
variable {s : State} {j : SiltJob} {c : Bool} {rest : List Bool} (hjob : s.silt.job = some j) (hcopies : j.copies = c :: rest)
include hjob hcopies

/-- The copy in progress is written; what follows it depends on the copies left. -/
theorem State.copyDone_copy : s.copyDone =
    if rest != [] then { s.writeCopy j.ev j.seq c with silt.job := some { j with copies := rest } }
    else if c && !(s.writeCopy j.ev j.seq c).is Fld.SLT_STAT.FULL then
      ((s.writeCopy j.ev j.seq c).sat Fld.SLT_DROP.DROP).startLogFull
    else (s.writeCopy j.ev j.seq c).writerNext := by
  unfold State.copyDone
  rw [hjob]
  dsimp only
  rw [hcopies]

theorem execSiltRecordWritten_more (hmore : rest ≠ []) : exec .siltRecordWritten s =
    .next { s.writeCopy j.ev j.seq c with silt.job := some { j with copies := rest } } :=
  congrArg Host.Outcome.next ((State.copyDone_copy hjob hcopies).trans (if_pos (by simpa using hmore)))

theorem execSiltRecordWritten_last (hlast : rest = []) (hservice : c = false) :
    exec .siltRecordWritten s = .next (s.writeCopy j.ev j.seq c).writerNext := by
  subst hlast hservice
  exact congrArg Host.Outcome.next (State.copyDone_copy hjob hcopies)

end

/-! ## The clear (R632) -/

section
variable (s : State)

/-- The service area is empty, and its head and counts are 0. -/
def State.siltEmptied : State :=
  ((({ s with silt.mram := clearCommits (s.get Fld.SLT_SVC_HEAD.HEAD) s.silt.mram } : State).put Fld.SLT_SVC_HEAD.HEAD 0).put
    Fld.SLT_STAT.FULL 0).put Fld.SLT_DROP.DROP 0

/-- The data of LOG_CLEAR: what was lost, and who asked. -/
def State.clearData (c : ClearJob) : List Byte :=
  leBytes 4 (s.get Fld.SLT_SVC_HEAD.HEAD) ++ leBytes 4 (s.get Fld.SLT_DROP.DROP) ++ leBytes 2 c.source ++ leBytes 4 c.request

/-- LOG_CLEAR is written, the mark goes, and the writer looks for work. -/
def State.clearEnded (data : List Byte) : State :=
  (({ s.recordNow (s.siltEvent 0x0205 data) with silt.clear := none } : State).put Fld.SLT_STAT.CLEARING 0).writerNext

theorem execLogClearDone_unmarked (hclear : s.silt.clear = none) : exec .logClearDone s = .next s := by
  show Host.Outcome.next s.clearDone = _
  rw [State.clearDone, hclear]

theorem execLogClearDone_marked {c : ClearJob} (hclear : s.silt.clear = some c) (hidle : s.silt.job = none) :
    exec .logClearDone s = .next (s.siltEmptied.clearEnded (s.clearData c)) := by
  show Host.Outcome.next s.clearDone = _
  rw [State.clearDone, hclear]
  dsimp only
  rw [hidle]
  rfl

end

/-! ## Reading (R633) -/

section
variable {s : State} (p : Path) (corr : Nat) (ue : List (Nat × Nat)) (hopen : s.mapOpen = true)
include hopen

theorem execSltWin15Read_open : exec (.sltWin15Read p corr ue) s =
    .next { (s.win15Read p corr ue).2 with host.readData := [(s.win15Read p corr ue).1] } := if_neg (by simp [hopen])

theorem execSltWin15Read_fixed (hfixed : bit (s.bank p).cursor 31 = false) :
    exec (.sltWin15Read p corr ue) s = .next { s with host.readData := [s.winWord p 15] } := by
  have hread : s.win15Read p corr ue = (s.winWord p 15, s) := if_pos (by simp [hfixed])
  rw [execSltWin15Read_open p corr ue hopen, hread]

theorem execSltWin15Read_auto (hauto : bit (s.bank p).cursor 31 = true) : exec (.sltWin15Read p corr ue) s =
    .next { s.loadWindow p 1 (field (s.bank p).cursor 16 1) (field (s.bank p).cursor 0 16 + 1) corr
      (ue.filter fun e => decide (e.1 < 8)) with host.readData := [s.winWord p 15] } := by
  have hread : s.win15Read p corr ue = (s.winWord p 15, s.loadWindow p 1 (field (s.bank p).cursor 16 1)
      (field (s.bank p).cursor 0 16 + 1) corr (ue.filter fun e => decide (e.1 < 8))) := if_neg (by simp [hauto])
  rw [execSltWin15Read_open p corr ue hopen, hread]

end

/-- Settles O59: each row in the case that it names. -/
theorem siltRows : Obligations.SiltRows := by
  intro s p v corr ue j
  refine ⟨fun c rest hjob hcopies => ⟨execSiltRecordWritten_more hjob hcopies, execSiltRecordWritten_last hjob hcopies⟩, rfl,
    execLogClearDone_unmarked s, fun c => execLogClearDone_marked s, fun hopen => ?reading⟩
  have hshut : ¬ (!s.mapOpen) = true := by simp [hopen]
  exact ⟨if_neg hshut, execSltWin15Read_fixed p corr ue hopen, execSltWin15Read_auto p corr ue hopen, if_neg hshut⟩

end Sys2Proof.Machine
end

section
/-! PROOFS. What failed Wring jobs and write-backs leave of the registers of the function and of rings that they do not serve, and
the function level reset (R588). -/

open Sys2Proof Sys2Proof.Machine

namespace Sys2Proof.Machine

/-! ## Registers beside jobs and write-backs -/

/-- The whole family stands below the Wring engine's block, and is neither a pending word nor a ring's status or count. -/
def RegDef.besideJobs (q : RegDef) : Bool :=
  decide (q.base + q.s1 * (q.n1 - 1) + q.s2 * (q.n2 - 1) < 0x260000) &&
    [Reg.DMA_NPENDj, Reg.DMA_Rr_STAT, Reg.DMA_Rr_CNT, Reg.DMA_Rr_BYTES].all fun r => r.disjoint q

/-- A register that the head of ring r is not. -/
def Field.besideHead (g : Field) (r b : Nat) : Prop :=
  Reg.DMA_Rr_HEAD.disjoint g.reg = true ∨ g.reg = Reg.DMA_Rr_HEAD ∧ b ≠ r

section
variable {g : Field} (hg : g.reg.besideJobs = true)
include hg

theorem RegDef.below_of_besideJobs : g.reg.base + g.reg.s1 * (g.reg.n1 - 1) + g.reg.s2 * (g.reg.n2 - 1) < 0x260000 := by
  simp only [RegDef.besideJobs, Bool.and_eq_true, decide_eq_true_eq] at hg
  exact hg.1

theorem RegDef.disjoint_of_besideJobs {r : RegDef}
    (hr : r ∈ [Reg.DMA_NPENDj, Reg.DMA_Rr_STAT, Reg.DMA_Rr_CNT, Reg.DMA_Rr_BYTES]) : r.disjoint g.reg = true := by
  simp only [RegDef.besideJobs, Bool.and_eq_true] at hg
  exact List.all_eq_true.mp hg.2 r hr

theorem RegDef.belowLog_of_besideJobs : g.reg.belowLog = true :=
  decide_eq_true ((RegDef.below_of_besideJobs hg).trans (by decide))

variable (s : State) (b : Nat)

theorem State.get_put_ring {f : Field} (v i : Nat)
    (hf : f.reg ∈ [Reg.DMA_NPENDj, Reg.DMA_Rr_STAT, Reg.DMA_Rr_CNT, Reg.DMA_Rr_BYTES]) :
    (s.put f v i).get g b = s.get g b := State.get_wr_disjoint _ _ _ _ _ _ (RegDef.disjoint_of_besideJobs hg hf)

theorem State.get_wr_wring (r : RegDef) (v : Word) (i j : Nat) (hr : 0x260000 ≤ r.base) : (s.wr r v i j).get g b = s.get g b := by
  have hapart : r.disjoint g.reg = true := by
    rw [RegDef.disjoint, decide_eq_true (p := _ < r.base) ((RegDef.below_of_besideJobs hg).trans_le hr), Bool.or_true,
      Bool.true_or]
  exact State.get_wr_disjoint _ _ _ _ _ _ hapart

theorem State.get_put_wring (f : Field) (v i j : Nat) (hf : 0x260000 ≤ f.reg.base) :
    (s.put f v i j).get g b = s.get g b := s.get_wr_wring hg b _ _ i j hf

theorem State.get_raise_beside (i : Nat) : (s.raise i).get g b = s.get g b :=
  s.get_raise_apart b 0 (RegDef.disjoint_of_besideJobs hg (by simp)) i

theorem State.get_stage_beside (code : Nat) (data : List Byte) : (s.stage code data).get g b = s.get g b :=
  s.get_stage_below b 0 (RegDef.belowLog_of_besideJobs hg) code data

theorem State.get_uPut_beside (f : Field) (v id : Nat) (hf : 0x280000 ≤ f.reg.base) : (s.uPut f v id).get g b = s.get g b :=
  s.get_uPut b 0 (RegDef.belowLog_of_besideJobs hg) f v id hf

/-! ## A write-back -/

omit hg in
theorem State.get_put_head {r : Nat} (v : Nat) (hhead : g.besideHead r b) :
    (s.put Fld.DMA_Rr_HEAD.INDEX v r).get g b = s.get g b := by
  rcases hhead with hapart | ⟨hreg, hne⟩
  · exact State.get_wr_disjoint _ _ _ _ _ _ hapart
  · have hat : Reg.DMA_Rr_HEAD.at b 0 ≠ Reg.DMA_Rr_HEAD.at r 0 := by
      simp only [RegDef.at, Reg.DMA_Rr_HEAD]
      omega
    rw [State.get, State.get, hreg]
    exact congrArg (getBits · g.lsb g.width) (s.rd_wr_ne _ hat)

theorem State.get_ringWriteBack {r : Nat} (hhead : g.besideHead r b) (d : Descriptor) (done status : Nat) (poison gap : Bool) :
    (s.ringWriteBack r d done status poison gap).get g b = s.get g b := by
  have hput : ∀ (t : State) (f : Field) (v : Nat), f.reg ∈ [Reg.DMA_NPENDj, Reg.DMA_Rr_STAT, Reg.DMA_Rr_CNT, Reg.DMA_Rr_BYTES] →
      (t.put f v r).get g b = t.get g b := fun t f v hf => t.get_put_ring hg b v r hf
  have herr : ∀ t : State, (t.sat Fld.DMA_Rr_CNT.ERR_CNT 1 r).get g b = t.get g b :=
    fun t => hput t Fld.DMA_Rr_CNT.ERR_CNT _ (by simp [Fld.DMA_Rr_CNT.ERR_CNT])
  unfold State.ringWriteBack
  dsimp only
  rw [State.get_when _ _ _ _ _ _ fun t => t.get_raise_beside hg b _,
    State.get_when _ _ _ _ _ _ herr]
  refine (hput _ Fld.DMA_Rr_BYTES.BYTES _ (by simp [Fld.DMA_Rr_BYTES.BYTES])).trans
    ((hput _ Fld.DMA_Rr_CNT.DONE_CNT _ (by simp [Fld.DMA_Rr_CNT.DONE_CNT])).trans
    ((hput _ Fld.DMA_Rr_STAT.DONE _ (by simp [Fld.DMA_Rr_STAT.DONE])).trans
    ((hput _ Fld.DMA_Rr_STAT.LAST_STATUS _ (by simp [Fld.DMA_Rr_STAT.LAST_STATUS])).trans ?_)))
  exact State.get_put_head _ b _ hhead

/-! ## The end of a job -/

theorem State.get_wringFreed (j : Nat) : (s.wringFreed j).get g b = s.get g b := State.get_put_wring hg _ b _ _ _ _ (by decide)

theorem State.get_wringCounted_beside (j result unit : Nat) : (s.wringCounted j result unit).get g b = s.get g b := by
  unfold State.wringCounted
  dsimp only
  rw [State.get_assertNext, State.get_put_wring hg _ b _ _ _ _ (by decide)]
  exact (State.get_put_wring hg _ b Fld.WRG_Cj_CNT.JOB_CNT _ _ _ (by decide)).trans
    ((State.get_put_wring hg _ b _ _ _ _ (by decide)).trans (s.get_wr_wring hg b _ _ _ _ (by decide)))

theorem State.get_wringShown_beside (j unit out check : Nat) : (s.wringShown j unit out check).get g b = s.get g b :=
  (State.get_uPut_beside hg _ b _ _ _ (by decide)).trans ((State.get_put_wring hg _ b _ _ _ _ (by decide)).trans
    ((State.get_put_wring hg _ b _ _ _ _ (by decide)).trans (s.get_put_wring hg b _ _ _ _ (by decide))))

theorem State.get_wringLost (j : Nat) (w : WringJob) : (s.wringLost j w).get g b = s.get g b := by
  have hfail : (((s.put Fld.WRG_Cj_EVT.FAIL 1 j).sat Fld.WRG_Cj_CNT.FAIL_CNT 1 j).classEvt w.unit).get g b = s.get g b :=
    (State.get_uPut_beside hg _ b _ _ _ (by decide)).trans ((State.get_uPut_beside hg _ b _ _ _ (by decide)).trans
      ((State.get_put_wring hg _ b _ _ _ _ (by decide)).trans (s.get_put_wring hg b _ _ _ _ (by decide))))
  unfold State.wringLost
  dsimp only
  split
  · exact hfail
  · exact (State.get_put_wring hg _ b _ _ _ _ (by decide)).trans hfail

theorem State.get_wringEnd (j result out check : Nat) : (s.wringEnd j result out check).get g b = s.get g b := by
  cases hw : s.wjob j with
  | none => rw [State.wringEnd, hw]
  | some w =>
    rw [s.wringEnd_job j result out check hw]
    dsimp only
    generalize ht : ite (result == 1) (s.wringFreed j) _ = t
    have hlog : t.get g b = s.get g b := by
      rw [← ht]
      split
      · exact s.get_wringFreed hg b j
      · exact (State.get_stage_beside hg _ b _ _).trans (s.get_wringFreed hg b j)
    have hcounted := (t.get_wringCounted_beside hg b j result w.unit).trans hlog
    split_ifs
    · exact hlog
    · exact (State.get_wringShown_beside hg _ b _ _ _ _).trans hcounted
    · exact (State.get_wringLost hg _ b _ _).trans hcounted

omit hg in
/-- The input ring of a context is enabled. -/
theorem State.enable_of_inputRing {s : State} {j r : Nat} (h : s.inputRing j = some r) : s.is Fld.DMA_Rr_CFG.ENABLE r = true := by
  have hfound := List.find?_some h
  simp only [Bool.and_eq_true] at hfound
  exact hfound.1.1.2

end

/-- A register beside the heads of all enabled rings. -/
def State.besideHeads (s : State) (g : Field) (b : Nat) : Prop :=
  Reg.DMA_Rr_HEAD.disjoint g.reg = true ∨ g.reg = Reg.DMA_Rr_HEAD ∧ s.is Fld.DMA_Rr_CFG.ENABLE b = false

section
variable {g : Field} (hg : g.reg.besideJobs = true) (s : State) (b : Nat) (hheads : s.besideHeads g b)
include hg hheads

theorem State.get_refuseInput (j : Nat) : (s.refuseInput j).get g b = s.get g b := by
  unfold State.refuseInput
  split
  · rfl
  · next r hr =>
    have hhead : g.besideHead r b := by
      refine hheads.imp id fun ⟨hreg, hoff⟩ => ⟨hreg, ?_⟩
      rintro rfl
      rw [State.enable_of_inputRing hr] at hoff
      exact absurd hoff (by decide)
    refine State.view_forEach (fun t => t.get g b) _ _ _ fun a t => ?_
    dsimp only
    exact (State.get_ringWriteBack hg _ b hhead _ _ _ _ _).trans (by split <;> rfl)

theorem State.get_wringFail (j result : Nat) : (s.wringFail j result).get g b = s.get g b := by
  unfold State.wringFail
  split
  · rfl
  · refine (State.get_wringEnd hg _ b _ _ _ _).trans ?_
    split
    · exact s.get_refuseInput hg b hheads j
    · rfl

end

end Sys2Proof.Machine
end

section
/-! PROOFS. The function's own states, the function level reset, notices and MSI-X (R581, R582, R588, R657). -/

open Sys2Proof Sys2Proof.Machine

namespace Sys2Proof.Machine

/-! ## Rings that a function level reset has cleared (R588) -/

/-- The registers of a ring that a function level reset sets to 0. -/
def ringWords : List RegDef := [Reg.DMA_Rr_BASE_LO, Reg.DMA_Rr_BASE_HI, Reg.DMA_Rr_TAIL, Reg.DMA_Rr_HEAD]

/-- A whole register as one field. -/
def RegDef.word (r : RegDef) : Field := ⟨r, 0, 32⟩

theorem State.get_word (s : State) (r : RegDef) (i j : Nat) : s.get r.word i j = (s.rd r i j).toNat := by
  simp [State.get, RegDef.word, getBits]

/-- Ring b is disabled, and its registers are 0. -/
def State.dmaRingCleared (b : Nat) (s : State) : Prop := s.get Fld.DMA_Rr_CFG.ENABLE b = 0 ∧ ∀ r ∈ ringWords, s.rd r b = 0

theorem ringWords_beside : ∀ r ∈ ringWords, r.besideJobs = true ∧ (Reg.DMA_Rr_HEAD.disjoint r = true ∨ r = Reg.DMA_Rr_HEAD) := by
  decide

theorem ringWords_apart : ∀ q ∈ ringWords, ∀ r ∈ ringWords, q = r ∨ q.disjoint r = true := by decide

section
variable {s t : State} {b : Nat}

/-- A cleared ring stays cleared where all fields beside jobs and heads do. -/
theorem State.dmaRingCleared_of_get (hs : s.dmaRingCleared b)
    (h : ∀ g : Field, g.reg.besideJobs = true → s.besideHeads g b → t.get g b = s.get g b) : t.dmaRingCleared b := by
  obtain ⟨hoff, hwords⟩ := hs
  refine ⟨(h _ (by decide) (.inl (by decide))).trans hoff, fun r hr => ?_⟩
  obtain ⟨hbeside, hhead⟩ := ringWords_beside r hr
  have hnone : s.is Fld.DMA_Rr_CFG.ENABLE b = false := by rw [State.is, hoff]; rfl
  have hword := h r.word hbeside (hhead.imp id fun e => ⟨e, hnone⟩)
  rw [State.get_word, State.get_word] at hword
  exact (BitVec.eq_of_toNat_eq hword).trans (hwords r hr)

theorem State.dmaRingCleared_wr (hs : s.dmaRingCleared b) {q : RegDef} (hq : q ∈ ringWords) (i : Nat) :
    (s.wr q 0 i).dmaRingCleared b := by
  obtain ⟨hoff, hwords⟩ := hs
  have hcfg : ∀ q ∈ ringWords, q.disjoint Reg.DMA_Rr_CFG = true := by decide
  refine ⟨(State.get_wr_disjoint _ _ _ _ _ _ (hcfg q hq)).trans hoff, fun r hr => ?_⟩
  rcases ringWords_apart q hq r hr with rfl | hapart
  · exact State.rd_wr_zero i 0 (hwords q hr)
  · exact (State.rd_wr_disjoint _ _ _ _ _ _ hapart).trans (hwords r hr)

theorem State.dmaRingCleared_failRingJobs (hs : s.dmaRingCleared b) (r : Nat) : (s.failRingJobs r).dmaRingCleared b := by
  have hstep : ∀ (t : State) (j result : Nat), t.dmaRingCleared b → (t.wringFail j result).dmaRingCleared b :=
    fun t j result ht => State.dmaRingCleared_of_get ht fun g hg hheads => t.get_wringFail hg b hheads j result
  unfold State.failRingJobs State.forEach
  induction List.range 16 generalizing s with
  | nil => exact hs
  | cons j l ih =>
    refine ih ?_
    dsimp only
    split
    · split
      · exact hstep s j 4 hs
      · exact hs
    · exact hs

/-- Ring b is disabled, its state is 0, and its bound queue is free. -/
theorem State.dmaRingCleared_ringOff (hs : s.dmaRingCleared b) (r : Nat) : (s.ringOff r).dmaRingCleared b := by
  obtain ⟨hoff, hwords⟩ := hs
  have hqueue : ∀ g : Field, Reg.QUE_Qq_CFG.disjoint g.reg = true → ∀ (c : Bool) (k : Nat),
      (s.when c (·.put Fld.QUE_Qq_CFG.BOUND 0 k)).get g b = s.get g b :=
    fun g hg c k => State.get_when _ _ _ _ _ _ fun t => State.get_wr_disjoint _ _ _ _ _ _ hg
  have hcfg : ∀ q ∈ ringWords, Reg.QUE_Qq_CFG.disjoint q = true ∧ Reg.DMA_Rr_CFG.disjoint q = true ∧
      Reg.DMA_Rr_STAT.disjoint q = true := by decide
  refine ⟨?_, fun q hq => ?_⟩
  · exact (State.get_put_indep _ _ _ _ _ _ (by decide)).trans
      (State.get_put_zero r 0 (by decide) ((hqueue Fld.DMA_Rr_CFG.ENABLE (by decide) _ _).trans hoff))
  · obtain ⟨hqueueApart, hcfgApart, hstatApart⟩ := hcfg q hq
    have hword := hqueue q.word hqueueApart (decide (r < 16) && s.ringKind r == 0) (s.ringSrc r)
    rw [State.get_word, State.get_word] at hword
    exact (State.rd_put_disjoint _ _ _ _ _ _ hstatApart).trans
      ((State.rd_put_disjoint _ _ _ _ _ _ hcfgApart).trans ((BitVec.eq_of_toNat_eq hword).trans (hwords q hq)))

end

/-! ## What the reset does with one ring -/

section
variable (r : Nat) (s : State)

/-- Words taken for an abandoned descriptor are lost and recorded. -/
def State.flrLost : State :=
  let lost := match (s.dring r).job with
    | some j => j.words.length
    | none => 0
  if lost = 0 then s else ({ s with free := s.free + 1 } : State).dmaError r 1 (Config.freeValue s.free % 256) lost

/-- An enabled ring is switched off. -/
def State.flrOff : State := if s.is Fld.DMA_Rr_CFG.ENABLE r then (s.ringOff r).failRingJobs r else s

/-- The ring's registers are set to 0. -/
def State.flrZero : State :=
  (((s.wr Reg.DMA_Rr_BASE_LO 0 r).wr Reg.DMA_Rr_BASE_HI 0 r).wr Reg.DMA_Rr_TAIL 0 r).wr Reg.DMA_Rr_HEAD 0 r

/-- A function level reset of ring r. -/
def State.flrRing : State := ((s.flrLost r).flrOff r).flrZero r

/-- No message is pending or configured, and Bus Master Enable and MSI-X are off. -/
def State.flrFunction : State :=
  (({ s with host.msix := [], host.pba := 0, host.fnMask := false, host.d3hot := false } : State).put Fld.DMA_PCIE_STAT.BME 0).put
    Fld.DMA_PCIE_STAT.MSIX_EN 0

theorem State.dmaReset_eq : s.dmaReset = (s.forEach (List.range 32) State.flrRing).flrFunction := by
  unfold State.dmaReset State.flrFunction
  generalize List.range 32 = l
  rfl

variable {r s} {b : Nat}

theorem State.get_flrLost {g : Field} (hg : g.reg.besideJobs = true) : (s.flrLost r).get g b = s.get g b := by
  unfold State.flrLost
  dsimp only
  generalize (match (s.dring r).job with
    | some j => j.words.length
    | none => 0) = lost
  split
  · rfl
  · exact State.get_stage_beside hg _ b _ _

theorem State.dmaRingCleared_flrRing (hs : s.dmaRingCleared b) : (s.flrRing r).dmaRingCleared b := by
  have hlost : (s.flrLost r).dmaRingCleared b := State.dmaRingCleared_of_get hs fun g hg _ => State.get_flrLost hg
  have hoff : ((s.flrLost r).flrOff r).dmaRingCleared b := by
    unfold State.flrOff
    split
    · exact State.dmaRingCleared_failRingJobs (State.dmaRingCleared_ringOff hlost r) r
    · exact hlost
  exact State.dmaRingCleared_wr (State.dmaRingCleared_wr (State.dmaRingCleared_wr (State.dmaRingCleared_wr hoff (by decide) r) (by decide) r)
    (by decide) r) (by decide) r

theorem State.enable_ringOff (hr : r < 32) : (s.ringOff r).get Fld.DMA_Rr_CFG.ENABLE r = 0 :=
  (State.get_put_indep _ _ _ _ _ _ (by decide)).trans
    (State.get_put_same _ _ _ _ (by decide) (RegDef.has_of_lt (n := 32) rfl hr))

theorem State.get_failRingJobs {g : Field} (hg : g.reg.besideJobs = true) (hhead : Reg.DMA_Rr_HEAD.disjoint g.reg = true) :
    (s.failRingJobs r).get g b = s.get g b := by
  refine State.view_forEach (fun t => t.get g b) _ _ _ fun j t => ?_
  split
  · split
    · exact t.get_wringFail hg b (.inl hhead) j 4
    · rfl
  · rfl

theorem State.enable_flrOff (hr : r < 32) : (s.flrOff r).get Fld.DMA_Rr_CFG.ENABLE r = 0 := by
  unfold State.flrOff
  split
  · exact (State.get_failRingJobs (by decide) (by decide)).trans (State.enable_ringOff hr)
  · next hoff => simpa [State.is] using hoff

theorem State.dmaRingCleared_flrRing_same (hr : r < 32) : (s.flrRing r).dmaRingCleared r := by
  have hhas : ∀ q ∈ ringWords, q.has r 0 = true := fun q hq =>
    RegDef.has_of_lt ((by decide : ∀ q ∈ ringWords, q.oneIndex 32 = true) q hq) hr
  refine ⟨?_, fun q hq => ?_⟩
  · rw [State.flrRing, State.flrZero, State.get_wr_disjoint _ _ _ _ _ _ (by decide),
      State.get_wr_disjoint _ _ _ _ _ _ (by decide), State.get_wr_disjoint _ _ _ _ _ _ (by decide),
      State.get_wr_disjoint _ _ _ _ _ _ (by decide)]
    exact State.enable_flrOff hr
  · have hset := hhas q hq
    simp only [ringWords, List.mem_cons, List.not_mem_nil, or_false] at hq
    rcases hq with rfl | rfl | rfl | rfl <;>
      simp +decide only [State.flrRing, State.flrZero, State.rd_wr_disjoint, State.rd_wr_same, hset]

theorem State.get_flrRing_event : (s.flrRing r).get Fld.DMA_PCIE_EVT.FLR b = s.get Fld.DMA_PCIE_EVT.FLR b := by
  have hoff : ∀ t : State, (t.ringOff r).get Fld.DMA_PCIE_EVT.FLR b = t.get Fld.DMA_PCIE_EVT.FLR b := fun t =>
    (State.get_put_indep _ _ _ _ _ _ (by decide)).trans ((State.get_put_indep _ _ _ _ _ _ (by decide)).trans
      (State.get_when _ _ _ _ _ _ fun u => u.get_put_indep _ _ _ _ _ (by decide)))
  rw [State.flrRing, State.flrZero, State.get_wr_disjoint _ _ _ _ _ _ (by decide),
    State.get_wr_disjoint _ _ _ _ _ _ (by decide), State.get_wr_disjoint _ _ _ _ _ _ (by decide),
    State.get_wr_disjoint _ _ _ _ _ _ (by decide)]
  refine Eq.trans ?_ (State.get_flrLost (r := r) (b := b) (by decide))
  unfold State.flrOff
  split
  · exact (State.get_failRingJobs (by decide) (by decide)).trans (hoff _)
  · rfl

end

/-! ## The whole reset -/

section
variable (s : State) {r : Nat}

theorem State.get_flrFunction {g : Field} (i : Nat) (hg : Reg.DMA_PCIE_STAT.disjoint g.reg = true) :
    s.flrFunction.get g i = s.get g i :=
  (State.get_wr_disjoint _ _ _ _ _ _ hg).trans (State.get_wr_disjoint _ _ _ _ _ _ hg)

theorem State.rd_flrFunction {q : RegDef} (i : Nat) (hq : Reg.DMA_PCIE_STAT.disjoint q = true) :
    s.flrFunction.rd q i = s.rd q i :=
  (State.rd_wr_disjoint _ _ _ _ _ _ hq).trans (State.rd_wr_disjoint _ _ _ _ _ _ hq)

theorem State.flrFunction_off : s.flrFunction.get Fld.DMA_PCIE_STAT.BME = 0 ∧ s.flrFunction.get Fld.DMA_PCIE_STAT.MSIX_EN = 0 ∧
    s.flrFunction.host.msix = [] ∧ s.flrFunction.host.pba = 0 := by
  refine ⟨(State.get_put_indep _ _ _ _ _ _ (by decide)).trans (State.get_put_same _ _ _ _ (by decide) rfl),
    State.get_put_same _ _ _ _ (by decide) rfl, ?_, ?_⟩ <;> simp [State.flrFunction]

/-- Every ring is cleared. -/
theorem State.dmaRingCleared_dmaReset (hr : r < 32) : s.dmaReset.dmaRingCleared r := by
  have hall := State.forEach_all (P := State.dmaRingCleared) (f := State.flrRing) (List.range 32)
    (fun a ha t => State.dmaRingCleared_flrRing_same (List.mem_range.mp ha)) (fun _ _ _ ht => State.dmaRingCleared_flrRing ht) s r
    (List.mem_range.mpr hr)
  obtain ⟨hoff, hwords⟩ := hall
  have hapart : ∀ q ∈ ringWords, Reg.DMA_PCIE_STAT.disjoint q = true := by decide
  rw [s.dmaReset_eq]
  exact ⟨(State.get_flrFunction _ r (by decide)).trans hoff,
    fun q hq => (State.rd_flrFunction _ r (hapart q hq)).trans (hwords q hq)⟩

theorem State.get_dmaReset_event : s.dmaReset.get Fld.DMA_PCIE_EVT.FLR = s.get Fld.DMA_PCIE_EVT.FLR := by
  rw [s.dmaReset_eq]
  exact (State.get_flrFunction _ 0 (by decide)).trans
    (State.view_forEach (fun t => t.get Fld.DMA_PCIE_EVT.FLR) _ _ _ fun _ _ => State.get_flrRing_event)

end

/-! ## Notices (R581, R582) -/

theorem execNoticeRingSend_owed {s : State} {p : Pattern} (howed : s.host.ringNotice = true) (hhead : s.isHead = false)
    (hact : s.banks.act = some p) (h0 : p.cluster.head0 < 128) (h1 : 128 ≤ p.cluster.head1) :
    exec .noticeRingSend s = .next (({ s with
      host.ringNotice := false, host.noticeSeq := (s.host.noticeSeq + 1) % 2 ^ 32 } : State).mgmtSend 1 p.cluster.head0
        (responseRecord 0x97 s.hubId 0 s.host.noticeSeq 0 0 s.frameNow 0 0
          (ofWords ((List.range 4).map fun j => s.get Fld.DMA_NPENDj.PEND j)))) := by
  have hheads : [p.cluster.head0, p.cluster.head1].filter (· < 128) = [p.cluster.head0] := by
    simp [h0, h1]
  have hother : ({ s with host.ringNotice := false } : State).isHead = false := hhead
  refine (if_neg (by simp [howed])).trans ?_
  dsimp only
  rw [hother, hact]
  dsimp only
  rw [hheads]
  rfl

/-- Settles O57: the rows of the function's states, what a function level reset leaves of a ring, and the notice rows. -/
theorem pcieAndNoticeRows : Obligations.PcieAndNoticeRows := by
  refine ⟨fun s => ⟨rfl, rfl, rfl, rfl, rfl, fun hup => congrArg Host.Outcome.next (if_pos hup), fun _ _ => rfl⟩,
    fun s r hr => ⟨_, rfl, ?reset⟩, fun s j v hub bytes p hopen => ⟨if_neg (by simp [hopen]), fun hv => ?unmask, rfl,
      fun hhead => congrArg Host.Outcome.next (if_pos hhead), execNoticeRingSend_owed⟩⟩
  case reset =>
    obtain ⟨hoff, hwords⟩ := State.dmaRingCleared_dmaReset (s.put Fld.DMA_PCIE_EVT.FLR 1) hr
    obtain ⟨hbme, hmsix, htable, hpba⟩ :=
      State.flrFunction_off ((s.put Fld.DMA_PCIE_EVT.FLR 1).forEach (List.range 32) State.flrRing)
    rw [← State.dmaReset_eq] at hbme hmsix htable hpba
    exact ⟨hoff, hwords _ (by decide), hwords _ (by decide), hwords _ (by decide), hbme, hmsix, htable, hpba,
      (State.get_dmaReset_event _).trans (State.get_put_same _ _ _ _ (by decide) rfl)⟩
  case unmask => exact congrArg Host.Outcome.next (if_pos hv)

end Sys2Proof.Machine
end

section
/-! PROOFS. The cluster digest, its inheritance, HELLO frames and silent hubs (R511, R521, R530, R644, R645). -/

open Sys2Proof Sys2Proof.Machine

namespace Sys2Proof.Machine

/-! ## The digest's registers (R644, R656) -/

section
variable (s : State)

/-- The words of the digest in force. -/
def State.digestWords : State :=
  s.forEach (List.range 8) fun k t => t.wr Reg.SUP_CDIGk (BitVec.ofNat 32 (leAt (s.sup.inForce.getD ⟨[], 0⟩).digest (4 * k) 4)) k

/-- Whether a pair is in force and whether one is pending. -/
def State.digestFlags : State :=
  (s.put Fld.SUP_QUAR.CDIG_VALID (b2n s.sup.inForce.isSome)).put Fld.SUP_QUAR.CDIG_PEND (b2n s.sup.pend.isSome)

/-- The frame and the majors shown with a pair. -/
def State.digestDates (f pending major : Nat) : State :=
  ((s.put Fld.SUP_CDIG_F_LO.FRAME_LO f).put Fld.SUP_COMPAT.PEND_MAJOR pending).put Fld.SUP_COMPAT.MAJOR major

theorem State.sup_digestWords : s.digestWords.sup = s.sup :=
  State.view_forEach State.sup _ _ _ fun _ t => t.wr_sup _ _ _ _

/-- With no pair pending, the pair in force and the frame of its start are shown. -/
theorem State.showDigest_settled (hpend : s.sup.pend = none) : s.showDigest =
    s.digestWords.digestFlags.digestDates s.sup.since 0 (s.sup.inForce.getD ⟨[], 0⟩).major := by
  have hsup : s.digestWords.digestFlags.sup = s.sup := by simp [State.digestFlags, State.sup_digestWords]
  have hshow : s.showDigest = s.digestWords.digestFlags.digestDates
      (match s.digestWords.digestFlags.sup.pend with
        | some (_, f) => f
        | none => s.digestWords.digestFlags.sup.since)
      (match s.digestWords.digestFlags.sup.pend with
        | some (p, _) => p.major
        | none => 0) (s.sup.inForce.getD ⟨[], 0⟩).major := by
    unfold State.showDigest State.digestDates State.digestFlags State.digestWords
    generalize List.range 8 = l
    rfl
  rw [hshow, hsup, hpend]

theorem State.sup_digestDates (f pending major : Nat) : (s.digestDates f pending major).sup = s.sup := by
  simp [State.digestDates]

theorem State.get_digestDates (f pending major : Nat) {g : Field}
    (hg : Reg.SUP_CDIG_F_LO.disjoint g.reg = true ∧ Reg.SUP_COMPAT.disjoint g.reg = true) :
    (s.digestDates f pending major).get g = s.get g :=
  (State.get_wr_disjoint _ _ _ _ _ _ hg.2).trans ((State.get_wr_disjoint _ _ _ _ _ _ hg.2).trans
    (State.get_wr_disjoint _ _ _ _ _ _ hg.1))

theorem State.get_digestWords {g : Field} (hg : Reg.SUP_CDIGk.disjoint g.reg = true) : s.digestWords.get g = s.get g :=
  State.view_forEach (fun t => t.get g) _ _ _ fun _ t => t.get_wr_disjoint _ _ _ _ _ hg

theorem State.get_digestFlags : s.digestFlags.get Fld.SUP_QUAR.CDIG_VALID = b2n s.sup.inForce.isSome ∧
    s.digestFlags.get Fld.SUP_QUAR.CDIG_PEND = b2n s.sup.pend.isSome ∧
    s.digestFlags.get Fld.SUP_EVT.ADOPT = s.get Fld.SUP_EVT.ADOPT := by
  refine ⟨(State.get_put_indep _ _ _ _ _ _ (by decide)).trans ((State.get_put_same _ _ _ _ (by decide) rfl).trans ?_),
    (State.get_put_same _ _ _ _ (by decide) rfl).trans ?_,
    (State.get_put_indep _ _ _ _ _ _ (by decide)).trans (State.get_put_indep _ _ _ _ _ _ (by decide))⟩
  · exact Nat.mod_eq_of_lt (Nat.lt_succ_of_le (b2n_le_one _))
  · exact Nat.mod_eq_of_lt (Nat.lt_succ_of_le (b2n_le_one _))

/-! ### What the digest's registers leave alone -/

/-- All but the registers, and the registers outside the block of the cluster agreement. -/
def State.besideDigest : State × (Nat → Word) := (s.noRegs, wordsOutside 0x30000 0x40000 s.regs)

theorem State.besideDigest_wr (r : RegDef) (v : Word) (i j : Nat) (hr : r.within 0x30000 0x40000 = true) :
    (s.wr r v i j).besideDigest = s.besideDigest :=
  Prod.ext (s.noRegs_wr r v i j) (wordsOutside_wr s i j v hr)

theorem State.besideDigest_put (f : Field) (v i j : Nat) (hf : f.reg.within 0x30000 0x40000 = true) :
    (s.put f v i j).besideDigest = s.besideDigest := s.besideDigest_wr _ _ _ _ hf

theorem State.besideDigest_digestWords : s.digestWords.besideDigest = s.besideDigest :=
  State.view_forEach State.besideDigest _ _ _ fun _ t => t.besideDigest_wr _ _ _ _ rfl

theorem State.besideDigest_digestFlags : s.digestFlags.besideDigest = s.besideDigest :=
  (State.besideDigest_put _ _ _ _ _ rfl).trans (State.besideDigest_put _ _ _ _ _ rfl)

theorem State.besideDigest_digestDates (f pending major : Nat) : (s.digestDates f pending major).besideDigest = s.besideDigest :=
  (State.besideDigest_put _ _ _ _ _ rfl).trans
    ((State.besideDigest_put _ _ _ _ _ rfl).trans (State.besideDigest_put _ _ _ _ _ rfl))

end

/-! ## Adoption (R644) -/

section
variable (s : State) (p : CDigest) (f : Nat)

/-- The pair takes the place of the one in force. -/
def State.digestTurned : State :=
  { s with
    sup.prev := s.sup.inForce
    sup.inForce := if p.digest.all (· == 0) then none else some p
    sup.since := f
    sup.pend := none }

/-- The turn is flagged. -/
def State.digestFlagged : State :=
  ((s.digestTurned p f).put Fld.SUP_QUAR.INHERITED (b2n (!p.digest.all (· == 0) && !s.sup.adopted))).put Fld.SUP_EVT.ADOPT 1

theorem State.sup_digestFlagged : (s.digestFlagged p f).sup = (s.digestTurned p f).sup := by simp [State.digestFlagged]

theorem State.digestTake_eq : s.digestTake p f = (s.digestFlagged p f).digestWords.digestFlags.digestDates f 0
    ((s.digestTurned p f).sup.inForce.getD ⟨[], 0⟩).major := by
  have hsup := s.sup_digestFlagged p f
  have hshow := (s.digestFlagged p f).showDigest_settled (by rw [hsup]; rfl)
  rw [hsup] at hshow
  exact hshow

theorem State.sup_digestTake : (s.digestTake p f).sup = (s.digestTurned p f).sup := by
  rw [s.digestTake_eq, State.sup_digestDates, State.digestFlags, State.put_sup, State.put_sup, State.sup_digestWords,
    s.sup_digestFlagged]

theorem State.get_digestTake : (s.digestTake p f).get Fld.SUP_EVT.ADOPT = 1 ∧ (s.digestTake p f).get Fld.SUP_QUAR.CDIG_PEND = 0 ∧
    (s.digestTake p f).get Fld.SUP_QUAR.CDIG_VALID = b2n (!p.digest.all (· == 0)) := by
  obtain ⟨hvalid, hpend, hadopt⟩ := (s.digestFlagged p f).digestWords.get_digestFlags
  rw [State.sup_digestWords, s.sup_digestFlagged] at hvalid hpend
  have hforce : (s.digestTurned p f).sup.inForce.isSome = !p.digest.all (· == 0) := by
    unfold State.digestTurned
    dsimp only
    cases p.digest.all (· == 0) <;> rfl
  rw [s.digestTake_eq]
  refine ⟨(State.get_digestDates _ _ _ _ (by decide)).trans (hadopt.trans ?_),
    (State.get_digestDates _ _ _ _ (by decide)).trans hpend,
    (State.get_digestDates _ _ _ _ (by decide)).trans (hvalid.trans (congrArg b2n hforce))⟩
  exact (State.get_digestWords _ (by decide)).trans (State.get_put_same _ _ _ _ (by decide) rfl)

theorem State.besideDigest_digestTake : (s.digestTake p f).besideDigest = (s.digestTurned p f).besideDigest := by
  rw [s.digestTake_eq, State.besideDigest_digestDates, State.besideDigest_digestFlags, State.besideDigest_digestWords]
  exact (State.besideDigest_put _ _ _ _ _ rfl).trans (State.besideDigest_put _ _ _ _ _ rfl)

theorem State.digestTake_frame : s.digestTake p f = { s with regs := (s.digestTake p f).regs, sup := (s.digestTake p f).sup } := by
  have hregs := State.eq_of_noRegs (congrArg Prod.fst (s.besideDigest_digestTake p f))
  rw [s.sup_digestTake]
  exact hregs

theorem State.words_digestTake {a : Nat} (ha : a < 0x30000 ∨ 0x40000 ≤ a) :
    tabGet (s.digestTake p f).regs 0 a = tabGet s.regs 0 a :=
  tabGet_of_wordsOutside (congrArg Prod.snd (s.besideDigest_digestTake p f)) ha

end

section
variable {s : State} {p : CDigest} {f : Nat} (hpend : s.sup.pend = some (p, f))
include hpend

theorem execAdoptEffect_pending : exec .adoptEffect s = .next (if f ≤ s.seq.frame then s.digestTake p f else s) := by
  show execAdoptEffect s = _
  rw [execAdoptEffect, hpend]

theorem execAdoptEffect_due (hdue : f ≤ s.seq.frame) : exec .adoptEffect s = .next (s.digestTake p f) :=
  (execAdoptEffect_pending hpend).trans (congrArg Host.Outcome.next (if_pos hdue))

theorem execAdoptEffect_early (hearly : s.seq.frame < f) : exec .adoptEffect s = .next s :=
  (execAdoptEffect_pending hpend).trans (congrArg Host.Outcome.next (if_neg (Nat.not_le.mpr hearly)))

end

theorem execDigestInherit_agreed {s : State} {p : CDigest} (hadopted : s.sup.adopted = false) (hforce : s.sup.inForce = none)
    (hpend : s.sup.pend = none) (hagreed : s.inheritable = some p) :
    exec .digestInherit s = .next ({ s with sup.pend := some (p, s.seq.frame + 1) } : State).showDigest := by
  refine (if_neg (by simp [hadopted, hforce, hpend])).trans ?_
  rw [hagreed]

/-! ## HELLO frames (R511, R521) -/

section
variable {s u : State} {port lseq : Nat} {bytes : List Byte} (hreceive : s.receive port lseq 7 true bytes = (true, u))
include hreceive

/-- A HELLO that the port accepts is kept by its serial and HSEQ. -/
theorem execHelloReceive_accepted : exec (.helloReceive port lseq bytes) s =
    if u.ring.seen.any fun e => e.type == 7 && e.key == [leAt bytes 8 8, leAt bytes 0x5E 2] then
      .next (u.wrap Fld.RING_MISC.DUP_CNT)
    else .next (({ u with
      ring.seen := ⟨7, [leAt bytes 8 8, leAt bytes 0x5E 2], 0⟩ ::
        u.ring.seen.filter fun e => !(e.type == 7 && e.key.head? == some (leAt bytes 8 8)) } : State).helloTake bytes) := by
  show execHelloReceive port lseq bytes s = _
  unfold execHelloReceive
  rw [hreceive]
  rfl

end

/-! ## Silent hubs (R530) -/

theorem State.pmu_evt (s : State) (f : Field) (src i j : Nat) : (s.evt f src i j).pmu = s.pmu := by
  unfold State.evt
  split
  · rfl
  · exact (congrArg State.pmu (State.aside_raise _ src)).trans (s.put_pmu _ _ _ _)

/-- A hub not heard in this tick: the loss is shown, announced and recorded. -/
theorem execHubSilent_lost {s : State} {hub : Nat} (hhub : hub < 128) (hother : hub ≠ s.hubId)
    (hlive : s.is Fld.RING_Hh.SILENT hub = false) (hheard : tabGet? s.ring.heardAt hub ≠ some s.seq.frame)
    (hfetch : s.pmu.fetch = none) : exec (.hubSilent hub) s =
      .next ((((s.put Fld.RING_Hh.SILENT 1 hub).evt Fld.RING_EVT.HUB_LOST 104).stage 0x0A04
        (leBytes 1 hub ++ leBytes 1 (b2n (s.is Fld.RING_STAT.DISC_DONE && !s.is Fld.RING_Hh.PRESENT hub)))).showSilence hub
          true) := by
  have hlost : ¬ (decide (127 < hub) || hub == s.hubId || s.is Fld.RING_Hh.SILENT hub ||
      tabGet? s.ring.heardAt hub == some s.seq.frame) = true := by
    simp [hother, hlive, hheard]
    omega
  have hsilent : s.hubSilent hub = (((s.put Fld.RING_Hh.SILENT 1 hub).evt Fld.RING_EVT.HUB_LOST 104).stage 0x0A04
      (leBytes 1 hub ++ leBytes 1 (b2n (s.is Fld.RING_STAT.DISC_DONE && !s.is Fld.RING_Hh.PRESENT hub)))).showSilence hub true :=
    if_neg hlost
  have hpmu : (s.hubSilent hub).pmu = s.pmu := by
    rw [hsilent]
    exact (State.view_forEach State.pmu _ _ _ fun _ t => t.put_pmu _ _ _ _).trans
      ((congrArg State.pmu (State.aside_stage _ _ _)).trans ((State.pmu_evt _ _ _ _ _).trans (s.put_pmu _ _ _ _)))
  have hidle : (s.hubSilent hub).fetchSilent hub = s.hubSilent hub := by
    rw [State.fetchSilent, hpmu, hfetch]
  exact congrArg Host.Outcome.next (hidle.trans hsilent)

/-- Settles O50: each row in the case that it names; the turn of the digest changes its own registers only. -/
theorem agreementRows : Obligations.AgreementRows := by
  refine ⟨fun s p f => ⟨fun hpend hdue => ?adopt, execAdoptEffect_early, execDigestInherit_agreed⟩,
    fun s u port lseq bytes hreceive => ⟨fun hknown => ?again, fun hnew => ?first⟩,
    fun s hub hhub hother hlive hheard hfetch => execHubSilent_lost hhub hother hlive hheard hfetch⟩
  case adopt =>
    obtain ⟨hadopt, hpending, hvalid⟩ := s.get_digestTake p f
    exact ⟨s.digestTake p f, execAdoptEffect_due hpend hdue, s.sup_digestTake p f, hadopt, hpending, hvalid, s.digestTake_frame p f,
      fun a => s.words_digestTake p f⟩
  case again => exact (execHelloReceive_accepted hreceive).trans (if_pos hknown)
  case first => exact (execHelloReceive_accepted hreceive).trans (if_neg (ne_true_of_eq_false hnew))

end Sys2Proof.Machine
end

section
/-! PROOFS. No operation of the model touches the queue of commands that wait: one lemma per operation, in the order of the model,
in which the operation is unfolded once and the `simp` set holds the lemmas of those that it calls. -/

open Sys2Proof Sys2Proof.Machine

namespace Sys2Proof.Machine

/-! ## Control and registers -/

/-- The queue that an outcome leaves. -/
def pendingAfter : Host.Outcome State Fault Refusal → Option (List Instr)
  | .next t => some t.pending
  | _ => none

@[simp] theorem pendingAfter_next (t : State) : pendingAfter (.next t) = some t.pending := rfl

@[simp] theorem pendingAfter_ite (c : Prop) [Decidable c] (o p : Host.Outcome State Fault Refusal) :
    pendingAfter (if c then o else p) = if c then pendingAfter o else pendingAfter p := apply_ite pendingAfter c o p

@[simp] theorem State.pending_ite (c : Prop) [Decidable c] (s t : State) :
    (if c then s else t).pending = if c then s.pending else t.pending := apply_ite State.pending c s t

@[simp] theorem State.pending_snd_ite {α : Type} (c : Prop) [Decidable c] (x y : α × State) :
    (if c then x else y).2.pending = if c then x.2.pending else y.2.pending :=
  apply_ite (fun z : α × State => z.2.pending) c x y

@[simp] theorem State.pending_when (s : State) (c : Bool) (f : State → State) (h : ∀ t : State, (f t).pending = t.pending) :
    (s.when c f).pending = s.pending := State.view_when State.pending s c f h

@[simp] theorem State.pending_forEach {α : Type} (s : State) (l : List α) (f : α → State → State)
    (h : ∀ a (t : State), (f a t).pending = t.pending) : (s.forEach l f).pending = s.pending :=
  State.view_forEach State.pending s l f h

@[simp] theorem State.pending_uPut (s : State) (f : Field) (v id : Nat) : (s.uPut f v id).pending = s.pending := by
  simp [State.uPut]

@[simp] theorem State.pending_writeByCode (s : State) (r : RegDef) (v i j : Nat) : (s.writeByCode r v i j).pending = s.pending := by
  simp [State.writeByCode]

/-! ## Shared operations -/

@[simp] theorem State.pending_raise (s : State) (i : Nat) : (s.raise i).pending = s.pending := by simp [State.raise]

@[simp] theorem State.pending_evt (s : State) (f : Field) (src : Nat) (i : Nat) (j : Nat) :
    (s.evt f src i j).pending = s.pending := by
  simp [State.evt]

@[simp] theorem State.pending_takeSeq (s : State) : s.takeSeq.2.pending = s.pending := by simp [State.takeSeq]

@[simp] theorem State.pending_setJob (s : State) (e : SiltEvent) (copies : List Bool) :
    (s.setJob e copies).pending = s.pending := by
  simp [State.setJob]

@[simp] theorem State.pending_startLogFull (s : State) : s.startLogFull.pending = s.pending := by simp [State.startLogFull]

@[simp] theorem State.pending_startRecord (s : State) (e : SiltEvent) : (s.startRecord e).pending = s.pending := by
  simp [State.startRecord]

@[simp] theorem State.pending_suppress (s : State) (cls t : Nat) : (s.suppress cls t).pending = s.pending := by
  simp [State.suppress]

@[simp] theorem State.pending_fifoLevel (s : State) : s.fifoLevel.pending = s.pending := by simp [State.fifoLevel]

@[simp] theorem State.pending_stage (s : State) (code : Nat) (data : List Byte) :
    (s.stage code data).pending = s.pending := by
  simp [State.stage]

@[simp] theorem State.pending_startSuppressed (s : State) (c : Nat) : (s.startSuppressed c).pending = s.pending := by
  simp [State.startSuppressed]

@[simp] theorem State.pending_writerNext (s : State) : s.writerNext.pending = s.pending := by
  unfold State.writerNext
  dsimp only
  repeat' split
  all_goals simp

@[simp] theorem State.pending_formDegraded (s : State) : s.formDegraded.pending = s.pending := by simp [State.formDegraded]

@[simp] theorem State.pending_degrade (s : State) (live sticky : Field) (on : Bool)
    :
    (s.degrade live sticky on).pending = s.pending := by
  simp [State.degrade]

@[simp] theorem State.pending_safeCause (s : State) (b : Nat) : (s.safeCause b).pending = s.pending := by
  simp [State.safeCause]

@[simp] theorem State.pending_assertEvt (s : State) (unit port : Nat) : (s.assertEvt unit port).pending = s.pending := by
  simp [State.assertEvt]

@[simp] theorem State.pending_assertNext (s : State) (unit port : Nat) : (s.assertNext unit port).pending = s.pending := by
  simp [State.assertNext]

@[simp] theorem State.pending_classEvt (s : State) (id : Nat) : (s.classEvt id).pending = s.pending := by
  simp [State.classEvt]

@[simp] theorem State.pending_countEvt (s : State) (id : Nat) : (s.countEvt id).pending = s.pending := by
  simp [State.countEvt]

@[simp] theorem State.pending_ran (s : State) (id : Nat) : (s.ran id).pending = s.pending := by simp [State.ran]

@[simp] theorem State.pending_sawWords (s : State) (id : Nat) (ws : List Nat) : (s.sawWords id ws).pending = s.pending := by
  simp [State.sawWords]

/-! ## Faults of words -/

@[simp] theorem State.pending_sdWithdraw (s : State) : s.sdWithdraw.pending = s.pending := by simp [State.sdWithdraw]

@[simp] theorem State.pending_selfDiag (s : State) (code : Nat) : (s.selfDiag code).pending = s.pending := by
  unfold State.selfDiag
  split <;> simp

@[simp] theorem State.pending_selfDiagGone (s : State) (code : Nat) : (s.selfDiagGone code).pending = s.pending := by
  simp [State.selfDiagGone]

@[simp] theorem State.pending_causeGone (s : State) (b : Nat) : (s.causeGone b).pending = s.pending := by rfl

/-! ## Front end -/

@[simp] theorem State.pending_setChan (s : State) (n : Nat) (c : Chan) : (s.setChan n c).pending = s.pending := by rfl

@[simp] theorem State.pending_setChain (s : State) (c : Nat) (x : Chain) : (s.setChain c x).pending = s.pending := by rfl

@[simp] theorem State.pending_resetNext (s : State) (c cause : Nat) : (s.resetNext c cause).pending = s.pending := by rfl

@[simp] theorem State.pending_cancelDown (s : State) (n : Nat) : (s.cancelDown n).pending = s.pending := by
  simp [State.cancelDown]

@[simp] theorem State.pending_switchAt (s : State) (n : Nat) (pos : Int) (range : Nat) :
    (s.switchAt n pos range).pending = s.pending := by rfl

@[simp] theorem State.pending_upRange (s : State) (n k : Nat) : (s.upRange n k).pending = s.pending := by
  simp [State.upRange]

@[simp] theorem State.pending_markOvl (s : State) (c k : Nat) : (s.markOvl c k).pending = s.pending := by
  simp [State.markOvl]

@[simp] theorem State.pending_overload (s : State) (n k : Nat) (clamp : Bool) :
    (s.overload n k clamp).pending = s.pending := by
  simp [State.overload]

@[simp] theorem pendingAfter_execModulatorOverload (ch j : Nat) (clamp : Bool) (s : State) :
    pendingAfter (execModulatorOverload ch j clamp s) = some s.pending := by
  simp [execModulatorOverload]

@[simp] theorem pendingAfter_execCmOverload (ch j : Nat) (s : State) :
    pendingAfter (execCmOverload ch j s) = some s.pending := by
  simp [execCmOverload]

@[simp] theorem State.pending_frontLive (s : State) (n : Nat) : (s.frontLive n).pending = s.pending := by
  simp [State.frontLive]

@[simp] theorem State.pending_downRange (s : State) (n : Nat) : (s.downRange n).pending = s.pending := by
  simp [State.downRange]

@[simp] theorem State.pending_dwell (s : State) (n : Nat) (rtr : Bool) (peak : Nat) :
    (s.dwell n rtr peak).pending = s.pending := by
  simp [State.dwell]

@[simp] theorem State.pending_excRamp (s : State) (n : Nat) : (s.excRamp n).pending = s.pending := by simp [State.excRamp]

@[simp] theorem State.pending_excOff (s : State) (n : Nat) : (s.excOff n).pending = s.pending := by simp [State.excOff]

@[simp] theorem State.pending_excUpdate (s : State) (changed : List Nat) : (s.excUpdate changed).pending = s.pending := by
  simp [State.excUpdate]

@[simp] theorem pendingAfter_execExcRampEnd (ch : Nat) (s : State) :
    pendingAfter (execExcRampEnd ch s) = some s.pending := by
  simp [execExcRampEnd]

@[simp] theorem State.pending_observe (s : State) (n d : Nat) (pos : Nat) (cond : Bool) :
    (s.observe n d pos cond).pending = s.pending := by
  simp [State.observe]

@[simp] theorem State.pending_excObserve (s : State) (k : Nat) (o : ExcObs) : (s.excObserve k o).pending = s.pending := by
  simp [State.excObserve]

@[simp] theorem pendingAfter_execExcObservation (k : Nat) (obs : List ExcObs) (s : State) :
    pendingAfter (execExcObservation k obs s) = some s.pending := by
  simp [execExcObservation]

@[simp] theorem State.pending_wireCheck (s : State) (half : Bool) (o : WireObs) :
    (s.wireCheck half o).pending = s.pending := by
  simp [State.wireCheck]

@[simp] theorem pendingAfter_execWireCheck (half : Bool) (obs : List WireObs) (s : State) :
    pendingAfter (execWireCheck half obs s) = some s.pending := by
  simp [execWireCheck]

@[simp] theorem State.pending_confirmBreak (s : State) (n cause : Nat) : (s.confirmBreak n cause).pending = s.pending := by
  unfold State.confirmBreak
  dsimp only
  split <;> simp

@[simp] theorem State.pending_wireBreak (s : State) (n : Nat) : (s.wireBreak n).pending = s.pending := by
  unfold State.wireBreak
  split <;> simp

@[simp] theorem State.pending_recoverSample (s : State) (n : Nat) : (s.recoverSample n).pending = s.pending := by
  simp [State.recoverSample]

@[simp] theorem pendingAfter_execWireRecover (ch : Nat) (s : State) :
    pendingAfter (execWireRecover ch s) = some s.pending := by
  simp [execWireRecover]

@[simp] theorem pendingAfter_execExcOvercurrentOff (ch : Nat) (s : State) :
    pendingAfter (execExcOvercurrentOff ch s) = some s.pending := by
  simp [execExcOvercurrentOff]

@[simp] theorem State.pending_excRetry (s : State) (n : Nat) : (s.excRetry n).pending = s.pending := by simp [State.excRetry]

@[simp] theorem pendingAfter_execExcRetryTimer (ch : Nat) (s : State) :
    pendingAfter (execExcRetryTimer ch s) = some s.pending := by
  simp [execExcRetryTimer]

@[simp] theorem State.pending_wrAfeCfg (s : State) (n v : Nat) : (s.wrAfeCfg n v).pending = s.pending := by
  simp [State.wrAfeCfg]

@[simp] theorem State.pending_wrAfeExc (s : State) (n v : Nat) : (s.wrAfeExc n v).pending = s.pending := by
  simp [State.wrAfeExc]

@[simp] theorem State.pending_wrAfeCtrl (s : State) (n v : Nat) : (s.wrAfeCtrl n v).pending = s.pending := by
  simp [State.wrAfeCtrl]

@[simp] theorem State.pending_wrAfeGlb (s : State) (v : Nat) : (s.wrAfeGlb v).pending = s.pending := by simp [State.wrAfeGlb]

@[simp] theorem pendingAfter_execModulatorRunInEnd (ch : Nat) (s : State) :
    pendingAfter (execModulatorRunInEnd ch s) = some s.pending := by
  simp [execModulatorRunInEnd]

@[simp] theorem State.pending_modStart (s : State) (n : Nat) : (s.modStart n).pending = s.pending := by simp [State.modStart]

@[simp] theorem State.pending_modStop (s : State) (n : Nat) : (s.modStop n).pending = s.pending := by simp [State.modStop]

@[simp] theorem pendingAfter_execMclkLockLoss (s : State) : pendingAfter (execMclkLockLoss s) = some s.pending := by
  simp [execMclkLockLoss]

@[simp] theorem pendingAfter_execMclkLockRegained (s : State) : pendingAfter (execMclkLockRegained s) = some s.pending := by
  simp [execMclkLockRegained]

/-! ## Converters -/

@[simp] theorem State.pending_draw (s : State) : (s.draw).2.pending = s.pending := by rfl

@[simp] theorem State.pending_auxShow (s : State) : s.auxShow.pending = s.pending := by simp [State.auxShow]

@[simp] theorem State.pending_auxGo (s : State) (a : AuxAct) : (s.auxGo a).pending = s.pending := by simp [State.auxGo]

@[simp] theorem State.pending_startScan (s : State) : s.startScan.pending = s.pending := by simp [State.startScan]

@[simp] theorem State.pending_auxTick (s : State) : s.auxTick.pending = s.pending := by
  unfold State.auxTick
  dsimp only
  repeat' split
  all_goals simp

@[simp] theorem State.pending_scanEnd (s : State) (regular : Bool) : (s.scanEnd regular).pending = s.pending := by
  unfold State.scanEnd
  rw [State.pending_auxGo]
  refine State.pending_when _ _ _ fun t => ?_
  dsimp only
  split <;> simp

@[simp] theorem State.pending_auxStore (s : State) (injected : Option Nat) (m : Nat) (x : Int) (parity : Bool) :
    (s.auxStore injected m x parity).2.pending = s.pending := by
  unfold State.auxStore
  dsimp only
  repeat' split
  all_goals simp

@[simp] theorem State.pending_scalAdd (s : State) (m : Nat) (x : Int) (parity : Bool) :
    (s.scalAdd m x parity).pending = s.pending := by
  unfold State.scalAdd
  split <;> simp

@[simp] theorem State.pending_auxRegular (s : State) (entry : Option Nat) (m : Nat) (x : Int) (parity : Bool) :
    (s.auxRegular entry m x parity).pending = s.pending := by
  unfold State.auxRegular
  dsimp only
  split <;> simp

@[simp] theorem State.pending_injectEnd (s : State) : s.injectEnd.pending = s.pending := by
  unfold State.injectEnd
  dsimp only
  split <;> simp

@[simp] theorem pendingAfter_execAuxConversionDone (code : Int) (parity : Bool) (s : State) :
    pendingAfter (execAuxConversionDone code parity s) = some s.pending := by
  unfold execAuxConversionDone
  split <;> simp

@[simp] theorem pendingAfter_execAuxInjectStart (s : State) : pendingAfter (execAuxInjectStart s) = some s.pending := by
  unfold execAuxInjectStart
  repeat' split
  all_goals simp

@[simp] theorem State.pending_auxDeliver (s : State) : s.auxDeliver.pending = s.pending := by
  unfold State.auxDeliver
  dsimp only
  repeat' split
  all_goals simp

@[simp] theorem State.pending_auxCommit (s : State) (carried0 carried1 : Bool) :
    (s.auxCommit carried0 carried1).pending = s.pending := by
  unfold State.auxCommit
  dsimp only
  repeat' split
  all_goals simp

@[simp] theorem State.pending_scalResult (s : State) (m result : Nat) : (s.scalResult m result).pending = s.pending := by
  simp [State.scalResult]

@[simp] theorem State.pending_scalStart (s : State) : s.scalStart.pending = s.pending := by simp [State.scalStart]

@[simp] theorem State.pending_wrScalCtrl (s : State) (v : Nat) : (s.wrScalCtrl v).pending = s.pending := by
  simp [State.wrScalCtrl]

@[simp] theorem pendingAfter_execSarScalPointDone (s : State) : pendingAfter (execSarScalPointDone s) = some s.pending := by
  unfold execSarScalPointDone
  split <;> simp

@[simp] theorem State.pending_scalHouse (s : State) : s.scalHouse.pending = s.pending := by simp [State.scalHouse]

@[simp] theorem State.pending_scalCommit (s : State) : s.scalCommit.pending = s.pending := by
  unfold State.scalCommit
  split <;> simp

@[simp] theorem State.pending_wrExcsel (s : State) (v : Nat) : (s.wrExcsel v).pending = s.pending := by simp [State.wrExcsel]

@[simp] theorem State.pending_wrModCtrl (s : State) (v : Nat) : (s.wrModCtrl v).pending = s.pending := by
  simp [State.wrModCtrl, State.when]

/-! ## Filters -/

@[simp] theorem State.pending_feedFrom (s : State) (c k0 left : Nat) (word : Nat → Option Nat) :
    (s.feedFrom c k0 left word).pending = s.pending := by
  simp [State.feedFrom]

@[simp] theorem State.pending_feedChain (s : State) (c : Nat) (word : Nat → Option Nat) :
    (s.feedChain c word).pending = s.pending := by
  simp [State.feedChain]

@[simp] theorem State.pending_feedPod (s : State) (c : Nat) : (s.feedPod c).pending = s.pending := by simp [State.feedPod]

@[simp] theorem State.pending_feedSamples (s : State) (c : Nat) (left : Nat) (m : Nat) :
    (s.feedSamples c left m).pending = s.pending := by
  induction left generalizing s m with
  | zero => rfl
  | succ left ih =>
    unfold State.feedSamples
    dsimp only
    rw [ih]
    split <;> simp

@[simp] theorem State.pending_feedPod1 (s : State) (c : Nat) : (s.feedPod1 c).pending = s.pending := by simp [State.feedPod1]

@[simp] theorem State.pending_takeTau (s : State) (c : Nat) (tau : Int) : (s.takeTau c tau).pending = s.pending := by
  simp [State.takeTau]

@[simp] theorem State.pending_alignFails (s : State) (c : Nat) : (s.alignFails c).pending = s.pending := by
  simp [State.alignFails]

@[simp] theorem State.pending_alignEval (s : State) (c : Nat) (take : Bool) : (s.alignEval c take).pending = s.pending := by
  simp [State.alignEval]

@[simp] theorem State.pending_slewTau (s : State) (c : Nat) : (s.slewTau c).pending = s.pending := by simp [State.slewTau]

@[simp] theorem State.pending_showSettling (s : State) (c : Nat) (on : Bool) :
    (s.showSettling c on).pending = s.pending := by
  simp [State.showSettling]

@[simp] theorem State.pending_syncReset (s : State) (c cause : Nat) : (s.syncReset c cause).pending = s.pending := by
  simp [State.syncReset]

@[simp] theorem State.pending_takeResets (s : State) (c : Nat) : (s.takeResets c).pending = s.pending := by
  unfold State.takeResets
  split <;> simp

@[simp] theorem State.pending_countSettled (s : State) (c : Nat) : (s.countSettled c).pending = s.pending := by
  simp [State.countSettled]

@[simp] theorem State.pending_ownSample (s : State) (c : Nat) : (s.ownSample c).2.pending = s.pending := by
  simp [State.ownSample, apply_ite Prod.snd]

@[simp] theorem State.pending_setOutput (s : State) (u : PatUnit) (word : Nat) :
    (s.setOutput u word).pending = s.pending := by
  simp [State.setOutput]

@[simp] theorem pendingAfter_execCoefParityError (mode d : Nat) (running next : List Nat) (s : State) :
    pendingAfter (execCoefParityError mode d running next s) = some s.pending := by
  unfold execCoefParityError
  extract_lets +onlyGivenNames flagged poisoned key again
  have hpoisoned : poisoned.pending = flagged.pending := State.pending_forEach _ _ _ fun c t => by
    split
    · dsimp only
      split <;> simp
    · rfl
  have hflagged : flagged.pending = s.pending := by simp [flagged]
  simp [hpoisoned, hflagged]

@[simp] theorem State.pending_wrFltCtrl (s : State) (c v : Nat) : (s.wrFltCtrl c v).pending = s.pending := by
  simp [State.wrFltCtrl]

/-! ## Conditioning -/

@[simp] theorem State.pending_linTemp (s : State) (u : PatUnit) : (s.linTemp u).2.pending = s.pending := by
  unfold State.linTemp
  split <;> simp

@[simp] theorem State.pending_linearise (s : State) (u : PatUnit) : (s.linearise u).pending = s.pending := by
  unfold State.linearise
  dsimp only
  repeat' split
  all_goals simp

@[simp] theorem State.pending_thrKeep (s : State) (u : PatUnit) (v : Option Int) :
    (s.thrKeep u v).pending = s.pending := by rfl

@[simp] theorem State.pending_thrMark (s : State) (u : PatUnit) : (s.thrMark u).pending = s.pending := by rfl

@[simp] theorem State.pending_thrSet (s : State) (u : PatUnit) (on : Bool) : (s.thrSet u on).pending = s.pending := by
  simp [State.thrSet]

@[simp] theorem State.pending_threshold (s : State) (u : PatUnit) : (s.threshold u).pending = s.pending := by
  simp [State.threshold]

@[simp] theorem State.pending_enterPhase (s : State) (k : Nat) (late : Bool) :
    (s.enterPhase k late).pending = s.pending := by
  simp [State.enterPhase]

@[simp] theorem pendingAfter_execConditionPhase (late : Bool) (s : State) :
    pendingAfter (execConditionPhase late s) = some s.pending := by
  simp [execConditionPhase]

/-! ## Calibration -/

@[simp] theorem State.pending_applyCoef (s : State) (key : Nat) (v : Word) : (s.applyCoef key v).pending = s.pending := by
  simp [State.applyCoef]

@[simp] theorem State.pending_stageCoef (s : State) (c off v : Nat) : (s.stageCoef c off v).pending = s.pending := by rfl

@[simp] theorem State.pending_setRef (s : State) (c : Nat) (rho : Int) : (s.setRef c rho).pending = s.pending := by
  simp [State.setRef]

@[simp] theorem State.pending_applyStaged (s : State) : s.applyStaged.pending = s.pending := by
  unfold State.applyStaged
  extract_lets +onlyGivenNames l v _ t u
  have hu : u.pending = t.pending := State.pending_forEach t l (fun e s => s.applyCoef e.1 e.2) fun e t => by simp
  simpa using hu

@[simp] theorem State.pending_alignDfe (s : State) (l : List Nat) : (s.alignDfe l).pending = s.pending := by
  simp [State.alignDfe]

@[simp] theorem State.pending_wrCoef (s : State) (c off v source : Nat) : (s.wrCoef c off v source).pending = s.pending := by
  simp [State.wrCoef]

@[simp] theorem pendingAfter_execCalCoefWrite (chain off v : Nat) (s : State) :
    pendingAfter (execCalCoefWrite chain off v s) = some s.pending := by
  simp [execCalCoefWrite]

@[simp] theorem State.pending_wrCalCtrl (s : State) (v : Nat) : (s.wrCalCtrl v).pending = s.pending := by
  simp [State.wrCalCtrl]

@[simp] theorem pendingAfter_execCalCtrlSuspend (on : Bool) (s : State) :
    pendingAfter (execCalCtrlSuspend on s) = some s.pending := by
  simp [execCalCtrlSuspend]

@[simp] theorem State.pending_calShow (s : State) : s.calShow.pending = s.pending := by simp [State.calShow]

@[simp] theorem State.pending_calGo (s : State) (p : CalPhase) (w : Option Swap) : (s.calGo p w).pending = s.pending := by
  simp [State.calGo]

@[simp] theorem State.pending_mendDegraded (s : State) : s.mendDegraded.pending = s.pending := by simp [State.mendDegraded]

@[simp] theorem State.pending_calResult (s : State) (c result source : Nat) (rho : Int) (record : Bool) :
    (s.calResult c result source rho record).pending = s.pending := by
  simp [State.calResult]

@[simp] theorem State.pending_mendResult (s : State) (m result : Nat) (rho : Int) (source : Nat) :
    (s.mendResult m result rho source).pending = s.pending := by
  simp [State.mendResult]

@[simp] theorem State.pending_calRest (s : State) (c : Nat) : (s.calRest c).pending = s.pending := by simp [State.calRest]

@[simp] theorem State.pending_stepBegin (s : State) (w : Swap) : (s.stepBegin w).pending = s.pending := by
  simp [State.stepBegin]

@[simp] theorem State.pending_calFeed (s : State) (word : Nat → Nat → Option Nat) :
    (s.calFeed word).pending = s.pending := by
  unfold State.calFeed
  split <;> simp

@[simp] theorem pendingAfter_execCalStepEnd (edge : Int) (s : State) :
    pendingAfter (execCalStepEnd edge s) = some s.pending := by
  unfold execCalStepEnd
  split <;> simp

@[simp] theorem State.pending_measured (s : State) (w : Swap) (result : Nat) :
    (s.measured w result).pending = s.pending := by
  unfold State.measured
  repeat' split
  all_goals simp

@[simp] theorem State.pending_stepEval (s : State) : s.stepEval.pending = s.pending := by
  unfold State.stepEval
  repeat' split
  all_goals simp

@[simp] theorem State.pending_mendFollow (s : State) (c : Nat) : (s.mendFollow c).pending = s.pending := by
  simp [State.mendFollow]

@[simp] theorem State.pending_shadowBegin (s : State) (w : Swap) : (s.shadowBegin w).pending = s.pending := by
  simp [State.shadowBegin]

@[simp] theorem State.pending_swapIn (s : State) (w : Swap) : (s.swapIn w).pending = s.pending := by simp [State.swapIn]

@[simp] theorem State.pending_forceCoefs (s : State) (c : Nat) (k : Coefs) : (s.forceCoefs c k).pending = s.pending := by
  simp [State.forceCoefs]

@[simp] theorem State.pending_reconnect (s : State) (w : Swap) (k : Coefs) : (s.reconnect w k).pending = s.pending := by
  simp [State.reconnect]

@[simp] theorem State.pending_reconnectBegin (s : State) (w : Swap) : (s.reconnectBegin w).pending = s.pending := by
  simp [State.reconnectBegin]

@[simp] theorem State.pending_revert (s : State) (w : Swap) : (s.revert w).pending = s.pending := by simp [State.revert]

@[simp] theorem State.pending_swapBack (s : State) (w : Swap) : (s.swapBack w).pending = s.pending := by
  simp [State.swapBack]

@[simp] theorem State.pending_abortNow (s : State) (w : Swap) (code : Nat) : (s.abortNow w code).pending = s.pending := by
  simp [State.abortNow]

@[simp] theorem State.pending_abortAt (s : State) (w : Swap) (code : Nat) : (s.abortAt w code).pending = s.pending := by
  simp [State.abortAt]

@[simp] theorem State.pending_calTick (s : State) : s.calTick.pending = s.pending := by
  unfold State.calTick
  extract_lets +onlyGivenNames t
  have ht : t.pending = s.pending := State.pending_applyStaged s
  split
  · exact ht
  · next w _ =>
    extract_lets +onlyGivenNames u
    have hu : u.pending = s.pending := by
      unfold u
      split <;> simpa using ht
    rw [← hu]
    split
    · rfl
    · cases w.aborting with
      | some code => simp
      | none => cases u.cal.phase <;> simp

@[simp] theorem State.pending_matchPair (s : State) (w : Swap) (own mend : Nat) :
    (s.matchPair w own mend).pending = s.pending := by
  simp [State.matchPair]

@[simp] theorem State.pending_calMatch (s : State) (own mend : Nat) : (s.calMatch own mend).pending = s.pending := by
  unfold State.calMatch
  dsimp only
  repeat' split
  all_goals simp

@[simp] theorem State.pending_mendFails (s : State) (m : Nat) (second : Bool) (result : Nat) :
    (s.mendFails m second result).pending = s.pending := by
  simp [State.mendFails]

@[simp] theorem pendingAfter_execMatchTimeout (s : State) : pendingAfter (execMatchTimeout s) = some s.pending := by
  unfold execMatchTimeout
  repeat' split
  all_goals simp

@[simp] theorem State.pending_calWireBreak (s : State) (n : Nat) : (s.calWireBreak n).pending = s.pending := by
  unfold State.calWireBreak
  split <;> simp

@[simp] theorem State.pending_calEnd (s : State) (code : Nat) : (s.calEnd code).pending = s.pending := by
  unfold State.calEnd
  repeat' split
  all_goals simp

@[simp] theorem pendingAfter_execWireBreakConfirm (ch : Nat) (s : State) :
    pendingAfter (execWireBreakConfirm ch s) = some s.pending := by
  simp [execWireBreakConfirm]

@[simp] theorem State.pending_calStart (s : State) (c : Nat) (force : Bool) : (s.calStart c force).pending = s.pending := by
  simp [State.calStart]

@[simp] theorem State.pending_calSchedule (s : State) : s.calSchedule.pending = s.pending := by
  unfold State.calSchedule
  repeat' split
  all_goals simp

@[simp] theorem State.pending_calHouse (s : State) : s.calHouse.pending = s.pending := by
  unfold State.calHouse
  extract_lets +onlyGivenNames t ages
  have hages : ages.pending = t.pending := State.pending_forEach _ _ _ fun m u => by
    split <;> simp
  simpa +decide [t] using hages

@[simp] theorem State.pending_calPodFeed (s : State) (c : Nat) : (s.calPodFeed c).pending = s.pending := by
  unfold State.calPodFeed
  split <;> simp

@[simp] theorem State.pending_podResult (s : State) (c result : Nat) : (s.podResult c result).pending = s.pending := by
  simp [State.podResult]

@[simp] theorem pendingAfter_execCalPodPointDone (s : State) : pendingAfter (execCalPodPointDone s) = some s.pending := by
  unfold execCalPodPointDone
  dsimp only
  repeat' split
  all_goals simp

@[simp] theorem pendingAfter_execCalPodPointTimeout (s : State) :
    pendingAfter (execCalPodPointTimeout s) = some s.pending := by
  unfold execCalPodPointTimeout
  split <;> simp

@[simp] theorem State.pending_podBlocks (s : State) (p : Nat) : (s.podBlocks p).pending = s.pending := by
  simp [State.podBlocks]

/-! ## Latency of the path -/

@[simp] theorem State.pending_krMargin (s : State) (p delay : Nat) : (s.krMargin p delay).pending = s.pending := by
  unfold State.krMargin
  split <;> simp

/-! ## Timeline -/

@[simp] theorem State.pending_movePeriods (s : State) (d k : Int) : (s.movePeriods d k).pending = s.pending := by rfl

@[simp] theorem State.pending_moveTicks (s : State) (d : Int) : (s.moveTicks d).pending = s.pending := by rfl

/-! ## Time -/

@[simp] theorem State.pending_setDom (s : State) (d : Nat) (x : Domain) : (s.setDom d x).pending = s.pending := by rfl

@[simp] theorem State.pending_setPd (s : State) (p : Nat) (x : PdPort) : (s.setPd p x).pending = s.pending := by rfl

@[simp] theorem State.pending_showInc (s : State) (d inc : Nat) : (s.showInc d inc).pending = s.pending := by
  simp [State.showInc]

@[simp] theorem State.pending_setInc (s : State) (d inc : Nat) : (s.setInc d inc).pending = s.pending := by
  simp [State.setInc]

@[simp] theorem State.pending_setLock (s : State) (d : Nat) (on : Bool) : (s.setLock d on).pending = s.pending := by
  simp [State.setLock]

@[simp] theorem State.pending_timeDegraded (s : State) : s.timeDegraded.pending = s.pending := by simp [State.timeDegraded]

@[simp] theorem State.pending_setCls (s : State) (d c : Nat) : (s.setCls d c).pending = s.pending := by simp [State.setCls]

@[simp] theorem State.pending_rootClass (s : State) (d : Nat) : (s.rootClass d).pending = s.pending := by
  simp [State.rootClass]

@[simp] theorem State.pending_hear (s : State) (m : Option (Nat × TimeVal)) (hub : Nat) :
    (s.hear m hub).pending = s.pending := by
  unfold State.hear
  split <;> simp

@[simp] theorem State.pending_showLock (s : State) : s.showLock.pending = s.pending := by simp [State.showLock]

@[simp] theorem State.pending_setCounter (s : State) (n : Nat) : (s.setCounter n).pending = s.pending := by
  simp [State.setCounter]

@[simp] theorem pendingAfter_execFrameCounterStart (s : State) :
    pendingAfter (execFrameCounterStart s) = some s.pending := by
  unfold execFrameCounterStart
  dsimp only
  split <;> simp

@[simp] theorem pendingAfter_execFrameCounterAdopt (s : State) :
    pendingAfter (execFrameCounterAdopt s) = some s.pending := by
  unfold execFrameCounterAdopt
  split <;> simp

@[simp] theorem pendingAfter_execRootBTakeover (s : State) : pendingAfter (execRootBTakeover s) = some s.pending := by
  simp [execRootBTakeover]

@[simp] theorem State.pending_showPd (s : State) (p : Nat) : (s.showPd p).pending = s.pending := by
  simp [State.showPd]

@[simp] theorem State.pending_pdRestart (s : State) (p : Nat) : (s.pdRestart p).pending = s.pending := by
  simp [State.pdRestart]

@[simp] theorem pendingAfter_execPdReqSend (port : Nat) (s : State) :
    pendingAfter (execPdReqSend port s) = some s.pending := by
  simp [execPdReqSend]

@[simp] theorem pendingAfter_execPdReq (port : Nat) (msg : PdMsg) (ago turn : Int) (s : State) :
    pendingAfter (execPdReq port msg ago turn s) = some s.pending := by
  simp [execPdReq]

@[simp] theorem State.pending_judgeTun (s : State) : s.judgeTun.pending = s.pending := by simp [State.judgeTun]

@[simp] theorem State.pending_pdValue (s : State) (p : Nat) (d : Int) : (s.pdValue p d).pending = s.pending := by
  simp [State.pdValue]

@[simp] theorem pendingAfter_execPdResp (port : Nat) (msg : PdMsg) (turn ago : Int) (s : State) :
    pendingAfter (execPdResp port msg turn ago s) = some s.pending := by
  unfold execPdResp
  dsimp only
  repeat' split
  all_goals simp

@[simp] theorem State.pending_judgeLock (s : State) (d : Nat) (theta : Int) : (s.judgeLock d theta).pending = s.pending := by
  simp [State.judgeLock]

@[simp] theorem State.pending_servo (s : State) (d : Nat) (theta : Int) : (s.servo d theta).pending = s.pending := by
  simp [State.servo]

@[simp] theorem State.pending_showTheta (s : State) (d : Nat) (theta : Int) : (s.showTheta d theta).pending = s.pending := by
  simp [State.showTheta]

@[simp] theorem State.pending_counterAgree (s : State) (m : SyncMsg) : (s.counterAgree m).pending = s.pending := by
  unfold State.counterAgree
  split <;> simp

@[simp] theorem State.pending_useSync (s : State) (h : HeldSync) : (s.useSync h).pending = s.pending := by
  simp [State.useSync]

@[simp] theorem State.pending_settleSync (s : State) (d : Nat) : (s.settleSync d).pending = s.pending := by
  unfold State.settleSync
  split <;> simp

@[simp] theorem State.pending_offerSync (s : State) (port : Nat) (m : SyncMsg) (theta : Int) :
    (s.offerSync port m theta).pending = s.pending := by
  unfold State.offerSync
  dsimp only
  repeat' split
  all_goals simp

@[simp] theorem pendingAfter_execSync (port : Nat) (msg : SyncMsg) (ago res : Int) (crcOk : Bool) (s : State) :
    pendingAfter (execSync port msg ago res crcOk s) = some s.pending := by
  simp [execSync]

@[simp] theorem pendingAfter_execSyncSend (domain : Nat) (s : State) :
    pendingAfter (execSyncSend domain s) = some s.pending := by
  simp [execSyncSend]

@[simp] theorem pendingAfter_execDomainLoss (domain : Nat) (s : State) :
    pendingAfter (execDomainLoss domain s) = some s.pending := by
  simp [execDomainLoss]

@[simp] theorem State.pending_ppsRoot (s : State) (d : Nat) (ago : Int) : (s.ppsRoot d ago).pending = s.pending := by
  simp [State.ppsRoot]

@[simp] theorem pendingAfter_execRootHoldover (domain : Nat) (s : State) :
    pendingAfter (execRootHoldover domain s) = some s.pending := by
  simp [execRootHoldover]

@[simp] theorem State.pending_takeDomain (s : State) (d : Nat) : (s.takeDomain d).pending = s.pending := by
  simp [State.takeDomain]

@[simp] theorem State.pending_judgeHoldover (s : State) : s.judgeHoldover.pending = s.pending := by
  unfold State.judgeHoldover
  extract_lets +onlyGivenNames on was t notice follow
  have ht : t.pending = s.pending := by simp [t]
  have hnotice : notice.pending = t.pending := by
    simp [notice, State.when]
  have hfollow : follow.pending = notice.pending := State.pending_when _ _ _ fun u => by
    split <;> simp
  simpa using hfollow.trans (hnotice.trans ht)

@[simp] theorem State.pending_rootLock (s : State) (d : Nat) : (s.rootLock d).pending = s.pending := by
  unfold State.rootLock
  repeat' split
  all_goals simp

@[simp] theorem State.pending_timeHouse (s : State) : s.timeHouse.pending = s.pending := by
  unfold State.timeHouse
  dsimp only
  repeat' split
  all_goals simp

@[simp] theorem State.pending_timeTick (s : State) : s.timeTick.pending = s.pending := by
  unfold State.timeTick
  extract_lets +onlyGivenNames classes _ follow acquired
  have hclasses : classes.pending = s.pending := State.pending_forEach _ _ _ fun d t => by
    split
    · split_ifs <;> simp
    · rfl
  have hacquired : acquired.pending = classes.pending := by
    unfold acquired
    split_ifs
    · rfl
    · split
      · rfl
      · simp [follow]
  exact hacquired.trans hclasses

@[simp] theorem State.pending_clockEdge (s : State) : s.clockEdge.pending = s.pending := by simp [State.clockEdge]

@[simp] theorem State.pending_toutLate (s : State) (k : Nat) : (s.toutLate k).pending = s.pending := by simp [State.toutLate]

@[simp] theorem State.pending_toutPlan (s : State) (u : PatUnit) (start lim : Int) :
    (s.toutPlan u start lim).pending = s.pending := by
  simp [State.toutPlan]

@[simp] theorem State.pending_toutStep (s : State) : s.toutStep.pending = s.pending := by
  refine State.pending_forEach _ _ _ fun u t => ?_
  split <;> simp

@[simp] theorem pendingAfter_execTimeStepApply (s : State) : pendingAfter (execTimeStepApply s) = some s.pending := by
  unfold execTimeStepApply
  split <;> simp

@[simp] theorem pendingAfter_execTimeSelectEffect (s : State) : pendingAfter (execTimeSelectEffect s) = some s.pending := by
  unfold execTimeSelectEffect
  split <;> simp

@[simp] theorem State.pending_putTime (s : State) (lo : Field) (hi : Field) (ns frac : Field) (valid : Field) (t : TimeVal)
    (k : Nat)
    :
    (s.putTime lo hi ns frac valid t k).pending = s.pending := by
  simp [State.putTime, *]

@[simp] theorem State.pending_irqCapture (s : State) : s.irqCapture.pending = s.pending := by simp [State.irqCapture]

@[simp] theorem pendingAfter_execIrqNAssert (s : State) : pendingAfter (execIrqNAssert s) = some s.pending := by
  simp [execIrqNAssert]

@[simp] theorem pendingAfter_execTinEdge (k : Nat) (falling : Bool) (ago : Nat) (s : State) :
    pendingAfter (execTinEdge k falling ago s) = some s.pending := by
  unfold execTinEdge
  split <;> simp

@[simp] theorem State.pending_tinDeliver (s : State) : s.tinDeliver.pending = s.pending := by
  refine State.pending_forEach _ _ _ fun u t => ?_
  dsimp only
  split <;> simp

@[simp] theorem State.pending_toutDeliver (s : State) : s.toutDeliver.pending = s.pending := by
  refine State.pending_forEach _ _ _ fun u t => ?_
  split
  · rfl
  · split <;> simp

@[simp] theorem pendingAfter_execToutPulse (k : Nat) (s : State) : pendingAfter (execToutPulse k s) = some s.pending := by
  unfold execToutPulse
  dsimp only
  repeat' split
  all_goals simp

@[simp] theorem pendingAfter_execToutPulseEnd (k : Nat) (s : State) :
    pendingAfter (execToutPulseEnd k s) = some s.pending := by
  simp [execToutPulseEnd]

@[simp] theorem State.pending_toutRest (s : State) : s.toutRest.pending = s.pending := by simp [State.toutRest]

@[simp] theorem State.pending_wrInc (s : State) (d : Nat) (hi : Bool) (v : Nat) : (s.wrInc d hi v).pending = s.pending := by
  simp [State.wrInc]

@[simp] theorem State.pending_wrAdj (s : State) (d v : Nat) : (s.wrAdj d v).pending = s.pending := by simp [State.wrAdj]

@[simp] theorem State.pending_wrHostQ (s : State) (v : Nat) : (s.wrHostQ v).pending = s.pending := by simp [State.wrHostQ]

@[simp] theorem State.pending_wrAsym (s : State) (p v : Nat) : (s.wrAsym p v).pending = s.pending := by
  simp [State.wrAsym]

@[simp] theorem State.pending_wrIrqCtrl (s : State) (v : Nat) : (s.wrIrqCtrl v).pending = s.pending := by
  simp [State.wrIrqCtrl]

/-! ## Edge timing -/

@[simp] theorem State.pending_setTdc (s : State) (k : Nat) (x : TdcIn) : (s.setTdc k x).pending = s.pending := by
  simp [State.setTdc]

@[simp] theorem State.pending_tdcStart (s : State) (k : Nat) : (s.tdcStart k).pending = s.pending := by simp [State.tdcStart]

@[simp] theorem State.pending_tdcPush (s : State) (k : Nat) (e : TdcEntry) : (s.tdcPush k e).pending = s.pending := by
  unfold State.tdcPush
  dsimp only
  repeat' split
  all_goals simp

@[simp] theorem State.pending_tdcTime (s : State) (k c raw : Nat) : (s.tdcTime k c raw).2.pending = s.pending := by
  simp [State.tdcTime]

@[simp] theorem State.pending_tdcStarts (s : State) (k : Nat) (t : Int) : (s.tdcStarts k t).pending = s.pending := by
  simp [State.tdcStarts]

@[simp] theorem State.pending_tdcStop (s : State) (k : Nat) (t : Int) (falling : Bool) :
    (s.tdcStop k t falling).pending = s.pending := by
  unfold State.tdcStop
  dsimp only
  split <;> simp

@[simp] theorem pendingAfter_execTdcEdge (k : Nat) (falling : Bool) (c raw raw1 raw2 : Nat) (s : State) :
    pendingAfter (execTdcEdge k falling c raw raw1 raw2 s) = some s.pending := by
  unfold execTdcEdge
  split <;> simp

@[simp] theorem pendingAfter_execTdcStartTimeout (k : Nat) (s : State) :
    pendingAfter (execTdcStartTimeout k s) = some s.pending := by
  simp [execTdcStartTimeout]

@[simp] theorem pendingAfter_execTdcFreqTimeout (k : Nat) (s : State) :
    pendingAfter (execTdcFreqTimeout k s) = some s.pending := by
  simp [execTdcFreqTimeout]

@[simp] theorem State.pending_tdcSample (s : State) (u : PatUnit) (span : Int) (step : Bool) :
    (s.tdcSample u span step).2.2.pending = s.pending := by
  unfold State.tdcSample
  dsimp only
  repeat' split
  all_goals simp

@[simp] theorem State.pending_tdcRebase (s : State) (base : Nat) (fallback : Bool) :
    (s.tdcRebase base fallback).pending = s.pending := by
  simp [State.tdcRebase]

@[simp] theorem State.pending_tdcReturn (s : State) : s.tdcReturn.pending = s.pending := by simp [State.tdcReturn]

@[simp] theorem State.pending_tdcTick (s : State) (c : Int) (step : Bool) : (s.tdcTick c step).pending = s.pending := by
  simp [State.tdcTick]

@[simp] theorem State.pending_tdcPop (s : State) (k : Nat) : (s.tdcPop k).2.pending = s.pending := by
  unfold State.tdcPop
  dsimp only
  split <;> simp

@[simp] theorem pendingAfter_execRefinWindow (present : Bool) (rate : Nat) (pll : Bool) (s : State) :
    pendingAfter (execRefinWindow present rate pll s) = some s.pending := by
  simp [execRefinWindow]

@[simp] theorem pendingAfter_execRefinPresenceLoss (s : State) :
    pendingAfter (execRefinPresenceLoss s) = some s.pending := by
  simp [execRefinPresenceLoss]

@[simp] theorem pendingAfter_execTdcRefLoss (s : State) : pendingAfter (execTdcRefLoss s) = some s.pending := by
  simp [execTdcRefLoss]

@[simp] theorem pendingAfter_execPpsInEdge (ago : Int) (s : State) :
    pendingAfter (execPpsInEdge ago s) = some s.pending := by
  unfold execPpsInEdge
  repeat' split
  all_goals simp

@[simp] theorem pendingAfter_execPpsLoss (s : State) : pendingAfter (execPpsLoss s) = some s.pending := by simp [execPpsLoss]

@[simp] theorem State.pending_wrTdcCfg (s : State) (v : Nat) : (s.wrTdcCfg v).pending = s.pending := by simp [State.wrTdcCfg]

@[simp] theorem State.pending_wrTdcChCfg (s : State) (k v : Nat) : (s.wrTdcChCfg k v).pending = s.pending := by
  simp [State.wrTdcChCfg]

@[simp] theorem State.pending_wrTdcCtrl (s : State) (k v : Nat) : (s.wrTdcCtrl k v).pending = s.pending := by
  simp [State.wrTdcCtrl]

/-! ## Capture -/

@[simp] theorem State.pending_setTrig (s : State) (t : Nat) (x : Trig) : (s.setTrig t x).pending = s.pending := by
  simp [State.setTrig]

@[simp] theorem State.pending_trigEvent (s : State) (u : PatUnit) (port : Nat) :
    (s.trigEvent u port).2.pending = s.pending := by
  unfold State.trigEvent
  dsimp only
  repeat' split
  all_goals simp

@[simp] theorem State.pending_trigFire (s : State) (u : PatUnit) (e : TrigEvent) : (s.trigFire u e).pending = s.pending := by
  simp [State.trigFire]

@[simp] theorem State.pending_trigEval (s : State) (u : PatUnit) : (s.trigEval u).pending = s.pending := by
  unfold State.trigEval
  dsimp only
  repeat' split
  all_goals simp

@[simp] theorem State.pending_trigDecide (s : State) : s.trigDecide.pending = s.pending := by simp [State.trigDecide]

@[simp] theorem State.pending_lineEvent (s : State) (t : Nat) (e : TrigEvent) (late : Bool) :
    (s.lineEvent t e late).pending = s.pending := by
  unfold State.lineEvent
  split <;> simp

@[simp] theorem pendingAfter_execTriggerHoldoffEnd (t : Nat) (s : State) :
    pendingAfter (execTriggerHoldoffEnd t s) = some s.pending := by
  simp [execTriggerHoldoffEnd]

@[simp] theorem State.pending_trigStart (s : State) (u : PatUnit) : (s.trigStart u).pending = s.pending := by
  simp [State.trigStart]

@[simp] theorem State.pending_trigEnd (s : State) (t : Nat) : (s.trigEnd t).pending = s.pending := by simp [State.trigEnd]

@[simp] theorem State.pending_setEngine (s : State) (u : PatUnit) (x : Engine) : (s.setEngine u x).pending = s.pending := by
  simp [State.setEngine]

@[simp] theorem State.pending_segDone (s : State) (u : PatUnit) : (s.segDone u).pending = s.pending := by
  simp [State.segDone]

@[simp] theorem State.pending_capNextSeg (s : State) (u : PatUnit) : (s.capNextSeg u).pending = s.pending := by
  unfold State.capNextSeg
  dsimp only
  split <;> simp

@[simp] theorem State.pending_capAbort (s : State) (u : PatUnit) : (s.capAbort u).pending = s.pending := by
  simp [State.capAbort]

@[simp] theorem pendingAfter_execCaptureArm (e : Nat) (s : State) : pendingAfter (execCaptureArm e s) = some s.pending := by
  unfold execCaptureArm
  split <;> simp

@[simp] theorem pendingAfter_execCaptureAbortEffect (e : Nat) (s : State) :
    pendingAfter (execCaptureAbortEffect e s) = some s.pending := by
  unfold execCaptureAbortEffect
  split <;> simp

@[simp] theorem State.pending_capArm (s : State) (f mask : Nat) : (s.capArm f mask).2.pending = s.pending := by
  simp [State.capArm]

@[simp] theorem State.pending_capAbortCmd (s : State) (mask : Nat) : (s.capAbortCmd mask).2.pending = s.pending := by
  simp [State.capAbortCmd]

@[simp] theorem State.pending_capForce (s : State) (unit : Nat) : (s.capForce unit).2.pending = s.pending := by
  unfold State.capForce
  split <;> simp

@[simp] theorem pendingAfter_execCapCtrlArm (e : Nat) (s : State) : pendingAfter (execCapCtrlArm e s) = some s.pending := by
  unfold execCapCtrlArm
  repeat' split
  all_goals simp

@[simp] theorem pendingAfter_execCapCtrlAbort (e : Nat) (s : State) :
    pendingAfter (execCapCtrlAbort e s) = some s.pending := by
  unfold execCapCtrlAbort
  repeat' split
  all_goals simp

@[simp] theorem State.pending_wrCapCtrl (s : State) (e v : Nat) : (s.wrCapCtrl e v).pending = s.pending := by
  unfold State.wrCapCtrl
  extract_lets +onlyGivenNames run t
  have harm : t.pending = s.pending := by
    have h := pendingAfter_execCapCtrlArm e s
    unfold t run
    split_ifs
    · cases ho : execCapCtrlArm e s with
      | next u => rw [ho] at h; exact Option.some.inj h
      | fault _ => rfl
      | refused _ => rfl
    · rfl
  have habort := pendingAfter_execCapCtrlAbort e t
  rw [← harm]
  split_ifs
  · cases ho : execCapCtrlAbort e t with
    | next u => rw [ho] at habort; exact Option.some.inj habort
    | fault _ => rfl
    | refused _ => rfl
  · rfl

@[simp] theorem State.pending_capRun (s : State) : s.capRun.pending = s.pending := by simp [State.capRun]

@[simp] theorem State.pending_capLeave (s : State) : s.capLeave.pending = s.pending := by simp [State.capLeave]

@[simp] theorem State.pending_tpos (s : State) (u : PatUnit) (tx : Int) (label : Nat) :
    (s.tpos u tx label).2.pending = s.pending := by
  unfold State.tpos
  split <;> simp

@[simp] theorem State.pending_capTake (s : State) (u : PatUnit) (trec inst : Nat) (ev : TrigEvent) (bitmap : Nat) :
    (s.capTake u trec inst ev bitmap).pending = s.pending := by
  simp [State.capTake]

@[simp] theorem State.pending_capIgnore (s : State) (u : PatUnit) : (s.capIgnore u).pending = s.pending := by
  simp [State.capIgnore]

@[simp] theorem State.pending_capDecide (s : State) (u : PatUnit) : (s.capDecide u).pending = s.pending := by
  unfold State.capDecide
  repeat' split
  all_goals simp

@[simp] theorem State.pending_clampPre (s : State) (u : PatUnit) : (s.clampPre u).pending = s.pending := by
  simp [State.clampPre]

@[simp] theorem State.pending_wrPrePost (s : State) (e : Nat) (post : Bool) (v : Nat) :
    (s.wrPrePost e post v).pending = s.pending := by
  unfold State.wrPrePost
  split <;> simp

@[simp] theorem pendingAfter_execCapPrePostWrite (e : Nat) (post : Bool) (v : Nat) (s : State) :
    pendingAfter (execCapPrePostWrite e post v s) = some s.pending := by
  simp [execCapPrePostWrite]

@[simp] theorem State.pending_wrDsel (s : State) (e v : Nat) : (s.wrDsel e v).pending = s.pending := by simp [State.wrDsel]

@[simp] theorem State.pending_capStart (s : State) (u : PatUnit) : (s.capStart u).pending = s.pending := by
  simp [State.capStart]

@[simp] theorem State.pending_capEnd (s : State) (e : Nat) : (s.capEnd e).pending = s.pending := by simp [State.capEnd]

@[simp] theorem pendingAfter_execCaptureEccError (block : Nat) (corrected : Bool) (s : State) :
    pendingAfter (execCaptureEccError block corrected s) = some s.pending := by
  simp [execCaptureEccError]

/-! ## Loops -/

@[simp] theorem State.pending_setSlot (s : State) (k : Nat) (x : LoopSlot) : (s.setSlot k x).pending = s.pending := by
  simp [State.setSlot]

@[simp] theorem State.pending_loopEvent (s : State) (u : PatUnit) (cause input lstate word : Nat) :
    (s.loopEvent u cause input lstate word).pending = s.pending := by
  unfold State.loopEvent
  split <;> simp

@[simp] theorem State.pending_onsets (s : State) (u : PatUnit) (input lstate : Nat) (old new : LoopFb) :
    (s.onsets u input lstate old new).pending = s.pending := by
  simp [State.onsets]

@[simp] theorem State.pending_loopCommand (s : State) (u : PatUnit) : (s.loopCommand u).2.pending = s.pending := by
  unfold State.loopCommand
  dsimp only
  repeat' split
  all_goals simp

@[simp] theorem State.pending_compute (s : State) (u : PatUnit) (c v : Int) (w : Nat) (switch frozen held0 : Bool)
    (preset : Option Int) :
    (s.compute u c v w switch frozen held0 preset).2.pending = s.pending := by
  simp [State.compute]

@[simp] theorem State.pending_loopV (s : State) (u : PatUnit) (c : Int) : (s.loopV u c).2.pending = s.pending := by
  unfold State.loopV
  dsimp only
  repeat' split
  all_goals simp

@[simp] theorem State.pending_setLstate (s : State) (u : PatUnit) (st : Nat) : (s.setLstate u st).pending = s.pending := by
  simp [State.setLstate]

@[simp] theorem State.pending_loopReturn (s : State) (u : PatUnit) (input st : Nat) (c v up : Int) (w : Nat) :
    (s.loopReturn u input st c v up w).2.pending = s.pending := by
  simp [State.loopReturn]

@[simp] theorem State.pending_loopRunStep (s : State) (u : PatUnit) (c v : Int) :
    (s.loopRunStep u c v).2.pending = s.pending := by
  simp [State.loopRunStep]

@[simp] theorem State.pending_loopReceive (s : State) (u : PatUnit) : (s.loopReceive u).pending = s.pending := by
  simp [State.loopReceive]

@[simp] theorem State.pending_loopSend (s : State) (u : PatUnit) (o : LoopOut) : (s.loopSend u o).pending = s.pending := by
  simp [State.loopSend]

@[simp] theorem State.pending_loopCompute (s : State) (u : PatUnit) : (s.loopCompute u).pending = s.pending := by
  simp [State.loopCompute]

@[simp] theorem State.pending_lockstep (s : State) (u : PatUnit) (agrees : Bool) :
    (s.lockstep u agrees).2.pending = s.pending := by
  simp [State.lockstep]

@[simp] theorem State.pending_loopDue (s : State) (mismatch : List (Nat × Bool)) (u : PatUnit) :
    (s.loopDue mismatch u).pending = s.pending := by
  unfold State.loopDue
  split <;> simp

@[simp] theorem State.pending_loopDecide (s : State) (mismatch : List (Nat × Bool)) :
    (s.loopDecide mismatch).pending = s.pending := by
  simp [State.loopDecide]

@[simp] theorem State.pending_loopTick (s : State) : s.loopTick.pending = s.pending := by
  refine State.pending_forEach _ _ _ fun u t => ?_
  dsimp only
  split <;> simp

@[simp] theorem State.pending_loopRun (s : State) : s.loopRun.pending = s.pending := by simp [State.loopRun]

@[simp] theorem State.pending_loopLeave (s : State) : s.loopLeave.pending = s.pending := by simp [State.loopLeave]

@[simp] theorem State.pending_loopWires (s : State) (u : PatUnit) : (s.loopWires u).pending = s.pending := by
  simp [State.loopWires]

@[simp] theorem State.pending_loopStart (s : State) (u : PatUnit) : (s.loopStart u).pending = s.pending := by
  simp [State.loopStart]

@[simp] theorem State.pending_loopEnd (s : State) (k : Nat) : (s.loopEnd k).pending = s.pending := by simp [State.loopEnd]

@[simp] theorem State.pending_loopIntSet (s : State) (slot : Nat) (value : Int) :
    (s.loopIntSet slot value).2.pending = s.pending := by
  unfold State.loopIntSet
  split <;> simp

@[simp] theorem State.pending_loopRet (s : State) (slot : Nat) : (s.loopRet slot).2.pending = s.pending := by
  unfold State.loopRet
  dsimp only
  repeat' split
  all_goals simp

@[simp] theorem pendingAfter_execLoopCmdWrite (slot v : Nat) (s : State) :
    pendingAfter (execLoopCmdWrite slot v s) = some s.pending := by
  simp [execLoopCmdWrite]

@[simp] theorem pendingAfter_execLoopCmdFifoPush (slot v : Nat) (s : State) :
    pendingAfter (execLoopCmdFifoPush slot v s) = some s.pending := by
  simp [execLoopCmdFifoPush]

@[simp] theorem pendingAfter_execLoopFifoFlush (slot : Nat) (s : State) :
    pendingAfter (execLoopFifoFlush slot s) = some s.pending := by
  simp [execLoopFifoFlush]

@[simp] theorem pendingAfter_execLoopCntClr (slot : Nat) (s : State) :
    pendingAfter (execLoopCntClr slot s) = some s.pending := by
  simp [execLoopCntClr]

@[simp] theorem pendingAfter_execLoopGainWrite (slot gain v : Nat) (s : State) :
    pendingAfter (execLoopGainWrite slot gain v s) = some s.pending := by
  simp [execLoopGainWrite]

/-! ## Sluices -/

@[simp] theorem State.pending_setSlu (s : State) (o : Nat) (x : Sluice) : (s.setSlu o x).pending = s.pending := by
  simp [State.setSlu]

@[simp] theorem State.pending_showClaiming (s : State) : s.showClaiming.pending = s.pending := by simp [State.showClaiming]

@[simp] theorem State.pending_healthHouse (s : State) : s.healthHouse.pending = s.pending := by simp [State.healthHouse]

@[simp] theorem State.pending_healthEmit (s : State) : s.healthEmit.pending = s.pending := by simp [State.healthEmit]

@[simp] theorem State.pending_addCand (s : State) (o : Nat) (c : Cand) : (s.addCand o c).pending = s.pending := by
  simp [State.addCand]

@[simp] theorem State.pending_takeSetpoints (s : State) : s.takeSetpoints.pending = s.pending := by
  refine State.pending_forEach _ _ _ fun u t => State.pending_forEach _ _ _ fun k t => ?_
  repeat' split
  all_goals simp

@[simp] theorem State.pending_claimOffer (s : State) (id hub label stand claim word : Nat) (late : Bool) :
    (s.claimOffer id hub label stand claim word late).pending = s.pending := by
  unfold State.claimOffer
  repeat' split
  all_goals simp

@[simp] theorem State.pending_partnerDegraded (s : State) : s.partnerDegraded.pending = s.pending := by
  simp [State.partnerDegraded]

@[simp] theorem State.pending_partnerCount (s : State) (u : PatUnit) : (s.partnerCount u).pending = s.pending := by
  simp [State.partnerCount]

@[simp] theorem pendingAfter_execPartnerTimeout (o index : Nat) (s : State) :
    pendingAfter (execPartnerTimeout o index s) = some s.pending := by
  simp [execPartnerTimeout]

@[simp] theorem State.pending_sluForce (s : State) (o : Nat) : (s.sluForce o).pending = s.pending := by
  unfold State.sluForce
  dsimp only
  split <;> simp

@[simp] theorem State.pending_sluNext (s : State) (u : PatUnit) (word state : Nat) :
    (s.sluNext u word state).pending = s.pending := by
  simp [State.sluNext]

@[simp] theorem State.pending_arbitrate (s : State) (u : PatUnit) : (s.arbitrate u).pending = s.pending := by
  unfold State.arbitrate
  split <;> simp

@[simp] theorem State.pending_podChoose (s : State) (u : PatUnit) : (s.podChoose u).pending = s.pending := by
  simp [State.podChoose]

@[simp] theorem State.pending_sluDecide (s : State) : s.sluDecide.pending = s.pending := by simp [State.sluDecide]

@[simp] theorem State.pending_sluEmit (s : State) (pins : List (Nat × Int)) : (s.sluEmit pins).pending = s.pending := by
  simp [State.sluEmit, State.when]

@[simp] theorem State.pending_sluPark (s : State) : s.sluPark.pending = s.pending := by simp [State.sluPark]

@[simp] theorem State.pending_sluRun (s : State) : s.sluRun.pending = s.pending := by simp [State.sluRun]

@[simp] theorem State.pending_sluSlots (s : State) : s.sluSlots.pending = s.pending := by simp [State.sluSlots]

@[simp] theorem State.pending_sluStart (s : State) (u : PatUnit) : (s.sluStart u).pending = s.pending := by
  simp [State.sluStart]

@[simp] theorem State.pending_sluEnd (s : State) (o : Nat) : (s.sluEnd o).pending = s.pending := by simp [State.sluEnd]

@[simp] theorem pendingAfter_execOutputFault (o : Nat) (s : State) :
    pendingAfter (execOutputFault o s) = some s.pending := by
  unfold execOutputFault
  split <;> simp

@[simp] theorem State.pending_sluReclaim (s : State) : (s.sluReclaim).2.pending = s.pending := by
  simp [State.sluReclaim]

@[simp] theorem State.pending_sluForceCmd (s : State) (inst on : Nat) : (s.sluForceCmd inst on).2.pending = s.pending := by
  unfold State.sluForceCmd
  repeat' split
  all_goals simp

@[simp] theorem pendingAfter_execSluCntClr (o : Nat) (s : State) : pendingAfter (execSluCntClr o s) = some s.pending := by
  simp [execSluCntClr]

/-! ## Ring -/

@[simp] theorem State.pending_setRport (s : State) (p : Nat) (x : RingPort) : (s.setRport p x).pending = s.pending := by
  simp [State.setRport]

@[simp] theorem State.pending_sendLink (s : State) (p kind lseq count : Nat) :
    (s.sendLink p kind lseq count).pending = s.pending := by rfl

@[simp] theorem State.pending_portSend (s : State) (p : Nat) (f : List Byte) : (s.portSend p f).pending = s.pending := by
  simp [State.portSend]

@[simp] theorem State.pending_sendAll (s : State) (f : List Byte) : (s.sendAll f).pending = s.pending := by
  simp [State.sendAll]

@[simp] theorem State.pending_ringPort (s : State) (p : Nat) (up : Bool) : (s.ringPort p up).pending = s.pending := by
  simp [State.ringPort]

@[simp] theorem State.pending_rxMark (s : State) (p lseq : Nat) : (s.rxMark p lseq).pending = s.pending := by
  simp [State.rxMark]

@[simp] theorem State.pending_sendNaks (s : State) (p : Nat) (fuel : Nat) (lseq : Nat) (count : Nat) :
    (s.sendNaks p fuel lseq count).pending = s.pending := by
  induction fuel generalizing s lseq count with
  | zero => rfl
  | succ fuel ih =>
    unfold State.sendNaks
    split_ifs
    · rfl
    · simp [ih]

@[simp] theorem State.pending_rxLink (s : State) (p lseq type : Nat) (f : List Byte) :
    (s.rxLink p lseq type f).2.pending = s.pending := by
  simp [State.rxLink]

@[simp] theorem State.pending_heardHub (s : State) (h : Nat) : (s.heardHub h).pending = s.pending := by simp [State.heardHub]

@[simp] theorem State.pending_forward (s : State) (p : Nat) (f : List Byte) (stomp : Bool) :
    (s.forward p f stomp).pending = s.pending := by
  simp [State.forward]

@[simp] theorem State.pending_receive (s : State) (p lseq type : Nat) (fwd : Bool) (f : List Byte) :
    (s.receive p lseq type fwd f).2.pending = s.pending := by
  simp [State.receive]

@[simp] theorem State.pending_keyed (s : State) (k : SeenKey) : (s.keyed k).2.pending = s.pending := by
  simp [State.keyed]

@[simp] theorem State.pending_dropKeys (s : State) : s.dropKeys.pending = s.pending := by rfl

@[simp] theorem State.pending_setConf (s : State) (k : Nat) (x : Conf) : (s.setConf k x).pending = s.pending := by
  simp [State.setConf]

@[simp] theorem State.pending_confTake (s : State) (u : PatUnit) (p : Nat) (f : List Byte) :
    (s.confTake u p f).pending = s.pending := by
  unfold State.confTake
  split <;> simp

@[simp] theorem State.pending_dualMark (s : State) (f : List Byte) : (s.dualMark f).pending = s.pending := by
  unfold State.dualMark
  split <;> simp

@[simp] theorem pendingAfter_execStreamFrameReceive (port lseq : Nat) (full : Bool) (bytes : List Byte) (s : State) :
    pendingAfter (execStreamFrameReceive port lseq full bytes s) = some s.pending := by
  simp [execStreamFrameReceive]

@[simp] theorem State.pending_confDeliver (s : State) (u : PatUnit) : (s.confDeliver u).pending = s.pending := by
  unfold State.confDeliver
  dsimp only
  split <;> simp

@[simp] theorem State.pending_ringDecide (s : State) : s.ringDecide.pending = s.pending := by simp [State.ringDecide]

@[simp] theorem State.pending_streamSend (s : State) (u : PatUnit) (f : List Byte) (n : Nat) (held : List (Nat × Nat)) :
    (s.streamSend u f n held).pending = s.pending := by
  simp [State.streamSend]

@[simp] theorem State.pending_streamEmit (s : State) (held : List (Nat × Nat)) :
    (s.streamEmit held).pending = s.pending := by
  simp [State.streamEmit]

@[simp] theorem pendingAfter_execStreamFrameDeadline (port : Nat) (s : State) :
    pendingAfter (execStreamFrameDeadline port s) = some s.pending := by
  simp [execStreamFrameDeadline]

@[simp] theorem State.pending_trigEmit (s : State) : s.trigEmit.pending = s.pending := by simp [State.trigEmit]

@[simp] theorem pendingAfter_execTriggerFrameReceive (port lseq : Nat) (bytes : List Byte) (s : State) :
    pendingAfter (execTriggerFrameReceive port lseq bytes s) = some s.pending := by
  simp [execTriggerFrameReceive]

@[simp] theorem State.pending_claimEmit (s : State) : s.claimEmit.pending = s.pending := by simp [State.claimEmit]

@[simp] theorem pendingAfter_execClaimFrameReceive (port lseq : Nat) (bytes : List Byte) (s : State) :
    pendingAfter (execClaimFrameReceive port lseq bytes s) = some s.pending := by
  simp [execClaimFrameReceive]

@[simp] theorem pendingAfter_execUnknownFrameReceive (port lseq : Nat) (bytes : List Byte) (s : State) :
    pendingAfter (execUnknownFrameReceive port lseq bytes s) = some s.pending := by
  simp [execUnknownFrameReceive]

@[simp] theorem pendingAfter_execLinkAck (port lseq : Nat) (s : State) :
    pendingAfter (execLinkAck port lseq s) = some s.pending := by
  simp [execLinkAck]

@[simp] theorem State.pending_resend (s : State) (p : Nat) (e : Nat × List Byte) : (s.resend p e).pending = s.pending := by
  simp [State.resend]

@[simp] theorem pendingAfter_execLinkNak (port lseq count : Nat) (s : State) :
    pendingAfter (execLinkNak port lseq count s) = some s.pending := by
  simp [execLinkNak]

@[simp] theorem pendingAfter_execLinkSkip (port lseq : Nat) (s : State) :
    pendingAfter (execLinkSkip port lseq s) = some s.pending := by
  simp [execLinkSkip]

@[simp] theorem pendingAfter_execRetransmitTimeout (port : Nat) (s : State) :
    pendingAfter (execRetransmitTimeout port s) = some s.pending := by
  unfold execRetransmitTimeout
  split <;> simp

@[simp] theorem State.pending_probe (s : State) (p : Nat) (change : Bool) : (s.probe p change).pending = s.pending := by
  simp [State.probe]

@[simp] theorem State.pending_setId (s : State) (id src : Nat) : (s.setId id src).pending = s.pending := by
  simp [State.setId]

@[simp] theorem State.pending_discJudge (s : State) : s.discJudge.pending = s.pending := by
  unfold State.discJudge
  split <;> simp

@[simp] theorem pendingAfter_execDiscProbeSend (change : Bool) (s : State) :
    pendingAfter (execDiscProbeSend change s) = some s.pending := by
  simp [execDiscProbeSend]

@[simp] theorem State.pending_ringDiscover (s : State) : (s.ringDiscover).2.pending = s.pending := by
  simp [State.ringDiscover]

@[simp] theorem pendingAfter_execDiscProbeTimeout (port : Nat) (s : State) :
    pendingAfter (execDiscProbeTimeout port s) = some s.pending := by
  unfold execDiscProbeTimeout
  split <;> simp

@[simp] theorem State.pending_discPass (s : State) (p : Nat) (f : List Byte) : (s.discPass p f).pending = s.pending := by
  simp [State.discPass]

@[simp] theorem State.pending_discBack (s : State) (p : Nat) (f : List Byte) : (s.discBack p f).pending = s.pending := by
  unfold State.discBack
  dsimp only
  split <;> simp

@[simp] theorem pendingAfter_execDiscFrameReceive (port lseq : Nat) (bytes : List Byte) (s : State) :
    pendingAfter (execDiscFrameReceive port lseq bytes s) = some s.pending := by
  simp [execDiscFrameReceive]

@[simp] theorem pendingAfter_execHelloSend (s : State) : pendingAfter (execHelloSend s) = some s.pending := by
  simp [execHelloSend]

@[simp] theorem State.pending_showSilence (s : State) (h : Nat) (on : Bool) : (s.showSilence h on).pending = s.pending := by
  simp [State.showSilence]

@[simp] theorem State.pending_hubSilent (s : State) (hub : Nat) : (s.hubSilent hub).pending = s.pending := by
  simp [State.hubSilent]

@[simp] theorem State.pending_ringTick (s : State) : s.ringTick.pending = s.pending := by
  unfold State.ringTick
  extract_lets +onlyGivenNames heard _ cap peers
  have hheard : heard.pending = s.pending := State.pending_forEach _ _ _ fun e t => by
    dsimp only
    split_ifs <;> simp
  have hcap : cap.pending = heard.pending := by
    unfold cap
    split
    · split_ifs <;> simp
    · rfl
  have hpeers : peers.pending = cap.pending := State.pending_forEach _ _ _ fun e t => by simp
  simpa using hpeers.trans (hcap.trans hheard)

@[simp] theorem State.pending_subStart (s : State) (u : PatUnit) : (s.subStart u).pending = s.pending := by
  simp [State.subStart]

@[simp] theorem State.pending_subEnd (s : State) (k : Nat) : (s.subEnd k).pending = s.pending := by simp [State.subEnd]

@[simp] theorem pendingAfter_execRingCntClr (s : State) : pendingAfter (execRingCntClr s) = some s.pending := by
  simp [execRingCntClr]

/-! ## Lanes -/

@[simp] theorem State.pending_setLane (s : State) (n : Nat) (x : Lane) : (s.setLane n x).pending = s.pending := by rfl

@[simp] theorem State.pending_laneTo (s : State) (n st : Nat) : (s.laneTo n st).pending = s.pending := by simp [State.laneTo]

@[simp] theorem State.pending_detect (s : State) (n rate : Nat) : (s.detect n rate).pending = s.pending := by
  simp [State.detect]

@[simp] theorem State.pending_laneOff (s : State) (n : Nat) : (s.laneOff n).pending = s.pending := by simp [State.laneOff]

@[simp] theorem State.pending_laneBlind (s : State) (n : Nat) : (s.laneBlind n).pending = s.pending := by
  simp [State.laneBlind]

@[simp] theorem State.pending_laneRestart (s : State) (n rate : Nat) : (s.laneRestart n rate).pending = s.pending := by
  simp [State.laneRestart]

@[simp] theorem State.pending_laneDegraded (s : State) : s.laneDegraded.pending = s.pending := by simp [State.laneDegraded]

@[simp] theorem State.pending_portRestart (s : State) (p : Nat) : (s.portRestart p).pending = s.pending := by
  simp [State.portRestart]

@[simp] theorem State.pending_setActive (s : State) (p : Nat) (set : List Nat) :
    (s.setActive p set).pending = s.pending := by
  simp [State.setActive]

@[simp] theorem State.pending_laneDrop (s : State) (n cause : Nat) : (s.laneDrop n cause).pending = s.pending := by
  unfold State.laneDrop
  dsimp only
  split <;> simp

@[simp] theorem State.pending_laneRetrain (s : State) (n : Nat) : (s.laneRetrain n).pending = s.pending := by
  simp [State.laneRetrain]

@[simp] theorem State.pending_laneLeft (s : State) (n : Nat) : (s.laneLeft n).pending = s.pending := by simp [State.laneLeft]

@[simp] theorem pendingAfter_execLaneBlockLock (lane : Nat) (s : State) :
    pendingAfter (execLaneBlockLock lane s) = some s.pending := by
  simp [execLaneBlockLock]

@[simp] theorem pendingAfter_execLaneNoPeer (lane : Nat) (s : State) :
    pendingAfter (execLaneNoPeer lane s) = some s.pending := by
  simp [execLaneNoPeer]

@[simp] theorem pendingAfter_execLaneRetryTimer (lane : Nat) (s : State) :
    pendingAfter (execLaneRetryTimer lane s) = some s.pending := by
  simp [execLaneRetryTimer]

@[simp] theorem State.pending_ffeRequest (s : State) (n req : Nat) : (s.ffeRequest n req).pending = s.pending := by
  simp [State.ffeRequest]

@[simp] theorem State.pending_blkErr (s : State) (n k : Nat) : (s.blkErr n k).pending = s.pending := by simp [State.blkErr]

@[simp] theorem State.pending_peerFields (s : State) (n b1 : Nat) : (s.peerFields n b1).pending = s.pending := by
  simp [State.peerFields]

@[simp] theorem pendingAfter_execTrainBlock (lane : Nat) (block : List Byte) (s : State) :
    pendingAfter (execTrainBlock lane block s) = some s.pending := by
  simp [execTrainBlock]

@[simp] theorem pendingAfter_execRateChange (lane : Nat) (s : State) :
    pendingAfter (execRateChange lane s) = some s.pending := by
  unfold execRateChange
  split <;> simp

@[simp] theorem pendingAfter_execEqTrainDone (lane : Nat) (s : State) :
    pendingAfter (execEqTrainDone lane s) = some s.pending := by
  simp [execEqTrainDone]

@[simp] theorem State.pending_lanePass (s : State) (n : Nat) (keepSpare : Bool) :
    (s.lanePass n keepSpare).pending = s.pending := by
  simp [State.lanePass]

@[simp] theorem State.pending_laneFail (s : State) (n : Nat) : (s.laneFail n).pending = s.pending := by simp [State.laneFail]

@[simp] theorem State.pending_portJudge (s : State) (p : Nat) : (s.portJudge p).pending = s.pending := by
  simp [State.portJudge]

@[simp] theorem State.pending_checkEnd (s : State) (n : Nat) (pass : Bool) : (s.checkEnd n pass).pending = s.pending := by
  simp [State.checkEnd]

@[simp] theorem pendingAfter_execLaneCheckEnd (lane errors : Nat) (s : State) :
    pendingAfter (execLaneCheckEnd lane errors s) = some s.pending := by
  simp [execLaneCheckEnd]

@[simp] theorem State.pending_laneJoin (s : State) (ns : List Nat) : (s.laneJoin ns).pending = s.pending := by
  simp [State.laneJoin]

@[simp] theorem pendingAfter_execAm (lane skew : Nat) (block : List Byte) (s : State) :
    pendingAfter (execAm lane skew block s) = some s.pending := by
  unfold execAm
  repeat' split
  all_goals simp

@[simp] theorem pendingAfter_execAmSend (port : Nat) (s : State) : pendingAfter (execAmSend port s) = some s.pending := by
  simp [execAmSend]

@[simp] theorem State.pending_laneTrouble (s : State) (n cause : Nat) : (s.laneTrouble n cause).pending = s.pending := by
  simp [State.laneTrouble]

@[simp] theorem pendingAfter_execLaneErrorLimit (lane : Nat) (s : State) :
    pendingAfter (execLaneErrorLimit lane s) = some s.pending := by
  simp [execLaneErrorLimit]

@[simp] theorem pendingAfter_execLaneLockLoss (lane : Nat) (s : State) :
    pendingAfter (execLaneLockLoss lane s) = some s.pending := by
  simp [execLaneLockLoss]

@[simp] theorem pendingAfter_execAdaptWindow (lane td div shErr blkErr bitErr : Nat) (ctle : Int) (taps : List Int)
    (s : State) :
    pendingAfter (execAdaptWindow lane td div shErr blkErr bitErr ctle taps s) = some s.pending := by
  simp [execAdaptWindow]

@[simp] theorem pendingAfter_execPrbsResync (lane : Nat) (s : State) :
    pendingAfter (execPrbsResync lane s) = some s.pending := by
  simp [execPrbsResync]

@[simp] theorem pendingAfter_execLaneCntClr (lane : Nat) (s : State) :
    pendingAfter (execLaneCntClr lane s) = some s.pending := by
  simp [execLaneCntClr]

@[simp] theorem pendingAfter_execLanePrbsClr (lane : Nat) (s : State) :
    pendingAfter (execLanePrbsClr lane s) = some s.pending := by
  simp [execLanePrbsClr]

@[simp] theorem State.pending_laneOut (s : State) (n : Nat) : (s.laneOut n).pending = s.pending := by simp [State.laneOut]

@[simp] theorem State.pending_testEnd (s : State) (n : Nat) : (s.testEnd n).pending = s.pending := by simp [State.testEnd]

@[simp] theorem State.pending_laneAdmin (s : State) (n mode : Nat) : (s.laneAdmin n mode).2.pending = s.pending := by
  simp [State.laneAdmin]

@[simp] theorem State.pending_laneRetrainCmd (s : State) (n : Nat) : (s.laneRetrainCmd n).2.pending = s.pending := by
  simp [State.laneRetrainCmd]

@[simp] theorem State.pending_laneTest (s : State) (n gen chk loop : Nat) :
    (s.laneTest n gen chk loop).2.pending = s.pending := by
  simp [State.laneTest]

@[simp] theorem pendingAfter_execLeafSyncChange (port : Nat) (sync : Bool) (s : State) :
    pendingAfter (execLeafSyncChange port sync s) = some s.pending := by
  simp [execLeafSyncChange]

@[simp] theorem pendingAfter_execLeafFrame (port : Nat) (violation : Bool) (bytes : List Byte) (s : State) :
    pendingAfter (execLeafFrame port violation bytes s) = some s.pending := by
  simp [execLeafFrame]

@[simp] theorem pendingAfter_execLeafTimeout (port : Nat) (s : State) :
    pendingAfter (execLeafTimeout port s) = some s.pending := by
  simp [execLeafTimeout]

@[simp] theorem State.pending_leafSlots (s : State) : s.leafSlots.pending = s.pending := by simp [State.leafSlots]

@[simp] theorem State.pending_lanesOff (s : State) : s.lanesOff.pending = s.pending := by simp [State.lanesOff]

@[simp] theorem State.pending_lanesStart (s : State) : s.lanesStart.pending = s.pending := by simp [State.lanesStart]

@[simp] theorem State.pending_lanePol (s : State) : s.lanePol.pending = s.pending := by simp [State.lanePol]

@[simp] theorem State.pending_laneCommit (s : State) (before : List ((Nat × Nat) × Bool)) :
    (s.laneCommit before).pending = s.pending := by
  simp [State.laneCommit]

/-! ## Field ports -/

@[simp] theorem State.pending_setFport (s : State) (p : Nat) (x : FieldPort) : (s.setFport p x).pending = s.pending := by rfl

@[simp] theorem State.pending_toLstate (s : State) (p st : Nat) : (s.toLstate p st).pending = s.pending := by
  simp [State.toLstate]

@[simp] theorem State.pending_fevt (s : State) (f : Field) (p : Nat) :
    (s.fevt f p).pending = s.pending := by
  simp [State.fevt]

@[simp] theorem State.pending_setPower (s : State) (p : Nat) (on : Bool) : (s.setPower p on).pending = s.pending := by
  simp [State.setPower]

@[simp] theorem State.pending_dropPower (s : State) (p : Nat) : (s.dropPower p).pending = s.pending := by
  simp [State.dropPower]

@[simp] theorem pendingAfter_execPodPowerOn (port : Nat) (s : State) :
    pendingAfter (execPodPowerOn port s) = some s.pending := by
  simp [execPodPowerOn]

@[simp] theorem State.pending_podSend (s : State) (p start : Nat) (body : List Byte) :
    (s.podSend p start body).pending = s.pending := by rfl

@[simp] theorem State.pending_sendFieldCmd (s : State) (p : Nat) (c : FieldCmd) :
    (s.sendFieldCmd p c).pending = s.pending := by rfl

@[simp] theorem State.pending_nextFieldCmd (s : State) (p : Nat) : (s.nextFieldCmd p).pending = s.pending := by
  unfold State.nextFieldCmd
  dsimp only
  split <;> simp

@[simp] theorem State.pending_queueCmds (s : State) (p : Nat) (l : List (Nat × List Byte)) :
    (s.queueCmds p l).pending = s.pending := by
  simp [State.queueCmds]

@[simp] theorem State.pending_discover (s : State) (p : Nat) : (s.discover p).pending = s.pending := by simp [State.discover]

@[simp] theorem State.pending_fieldAdvance (s : State) (p : Nat) : (s.fieldAdvance p).pending = s.pending := by
  simp [State.fieldAdvance]

@[simp] theorem State.pending_foreign (s : State) (p code : Nat) : (s.foreign p code).pending = s.pending := by
  simp [State.foreign]

@[simp] theorem State.pending_judgePod (s : State) (p : Nat) : (s.judgePod p).pending = s.pending := by simp [State.judgePod]

@[simp] theorem State.pending_startChain (s : State) (c cause : Nat) : (s.startChain c cause).pending = s.pending := by
  unfold State.startChain
  dsimp only
  repeat' split
  all_goals simp

@[simp] theorem State.pending_applyLayout (s : State) (p : Nat) : (s.applyLayout p).pending = s.pending := by
  simp [State.applyLayout]

@[simp] theorem State.pending_podLinkDegraded (s : State) : s.podLinkDegraded.pending = s.pending := by
  simp [State.podLinkDegraded]

@[simp] theorem pendingAfter_execPodBind (port : Nat) (s : State) : pendingAfter (execPodBind port s) = some s.pending := by
  unfold execPodBind
  dsimp only
  split <;> simp

@[simp] theorem pendingAfter_execPodConfigResend (port : Nat) (s : State) :
    pendingAfter (execPodConfigResend port s) = some s.pending := by
  unfold execPodConfigResend
  dsimp only
  split <;> simp

@[simp] theorem pendingAfter_execUplinkSyncGain (port : Nat) (s : State) :
    pendingAfter (execUplinkSyncGain port s) = some s.pending := by
  simp [execUplinkSyncGain]

@[simp] theorem State.pending_linkLost (s : State) (p cause : Nat) : (s.linkLost p cause).pending = s.pending := by
  unfold State.linkLost
  dsimp only
  split <;> simp

@[simp] theorem pendingAfter_execUplinkSyncLoss (port : Nat) (s : State) :
    pendingAfter (execUplinkSyncLoss port s) = some s.pending := by
  simp [execUplinkSyncLoss]

@[simp] theorem pendingAfter_execPodTickMiss (port : Nat) (s : State) :
    pendingAfter (execPodTickMiss port s) = some s.pending := by
  simp [execPodTickMiss]

@[simp] theorem pendingAfter_execPodNoload (port : Nat) (s : State) :
    pendingAfter (execPodNoload port s) = some s.pending := by
  unfold execPodNoload
  split <;> simp

@[simp] theorem pendingAfter_execPodCmdTimeout (port : Nat) (s : State) :
    pendingAfter (execPodCmdTimeout port s) = some s.pending := by
  unfold execPodCmdTimeout
  dsimp only
  split <;> simp

@[simp] theorem pendingAfter_execPodResponse (port : Nat) (bytes : List Byte) (s : State) :
    pendingAfter (execPodResponse port bytes s) = some s.pending := by
  unfold execPodResponse
  dsimp only
  split <;> simp

@[simp] theorem pendingAfter_execEcho (port rtt : Nat) (s : State) :
    pendingAfter (execEcho port rtt s) = some s.pending := by
  simp [execEcho]

@[simp] theorem State.pending_pingResult (s : State) (p : Nat) (v : Option Int) :
    (s.pingResult p v).pending = s.pending := by
  unfold State.pingResult
  dsimp only
  split <;> simp

@[simp] theorem State.pending_fieldHouse (s : State) : s.fieldHouse.pending = s.pending := by
  simp [State.fieldHouse, State.when]

@[simp] theorem State.pending_missSlices (s : State) (p n : Nat) : (s.missSlices p n).pending = s.pending := by
  simp [State.missSlices]

@[simp] theorem State.pending_slicePos (s : State) (p q k0 whole ovl : Nat) (rev : Option Nat) :
    (s.slicePos p q k0 whole ovl rev).pending = s.pending := by
  unfold State.slicePos
  dsimp only
  split <;> simp

@[simp] theorem pendingAfter_execSlice (port : Nat) (first event : Bool) (bytes : List Byte) (s : State) :
    pendingAfter (execSlice port first event bytes s) = some s.pending := by
  unfold execSlice
  dsimp only
  repeat' split
  all_goals simp

@[simp] theorem State.pending_podOutput (s : State) (u : PatUnit) (b : List Byte) :
    (s.podOutput u b).pending = s.pending := by
  unfold State.podOutput
  dsimp only
  repeat' split
  all_goals simp

@[simp] theorem pendingAfter_execPodTickBlock (port : Nat) (bytes : List Byte) (s : State) :
    pendingAfter (execPodTickBlock port bytes s) = some s.pending := by
  unfold execPodTickBlock
  dsimp only
  repeat' split
  all_goals simp

@[simp] theorem State.pending_fieldTick (s : State) : s.fieldTick.pending = s.pending := by simp [State.fieldTick]

@[simp] theorem State.pending_fieldEmit (s : State) : s.fieldEmit.pending = s.pending := by
  refine State.pending_forEach _ _ _ fun u t => ?_
  dsimp only
  split_ifs
  · rfl
  · refine State.pending_forEach _ _ _ fun v t => ?_
    split_ifs
    · simp
    · split <;> simp

@[simp] theorem pendingAfter_execPodOvercurrent (port : Nat) (s : State) :
    pendingAfter (execPodOvercurrent port s) = some s.pending := by
  simp [execPodOvercurrent]

@[simp] theorem pendingAfter_execPodOcRetry (port : Nat) (s : State) :
    pendingAfter (execPodOcRetry port s) = some s.pending := by
  simp [execPodOcRetry]

@[simp] theorem State.pending_fieldStart (s : State) (p : Nat) : (s.fieldStart p).pending = s.pending := by
  simp [State.fieldStart]

@[simp] theorem State.pending_fieldStop (s : State) (p : Nat) : (s.fieldStop p).pending = s.pending := by
  simp [State.fieldStop]

@[simp] theorem State.pending_fieldPortCmd (s : State) (p action : Nat) :
    (s.fieldPortCmd p action).2.pending = s.pending := by
  simp [State.fieldPortCmd]

@[simp] theorem pendingAfter_execFldPowerCycleEnd (port : Nat) (s : State) :
    pendingAfter (execFldPowerCycleEnd port s) = some s.pending := by
  simp [execFldPowerCycleEnd]

@[simp] theorem State.pending_fieldAdopt (s : State) (p : Nat) : (s.fieldAdopt p).2.pending = s.pending := by
  simp [State.fieldAdopt]

@[simp] theorem pendingAfter_execFldCntClr (port : Nat) (s : State) :
    pendingAfter (execFldCntClr port s) = some s.pending := by
  simp [execFldCntClr]

@[simp] theorem State.pending_fieldCurrents (s : State) (l : List (Nat × Nat × Nat)) :
    (s.fieldCurrents l).pending = s.pending := by
  simp [State.fieldCurrents]

@[simp] theorem State.pending_fieldStates (s : State) : s.fieldStates.pending = s.pending := by simp [State.fieldStates]

@[simp] theorem State.pending_fieldSchedule (s : State) (us : List PatUnit) (n f : Nat) :
    (s.fieldSchedule us n f).pending = s.pending := by
  simp [State.fieldSchedule]

@[simp] theorem State.pending_fieldCancel (s : State) : s.fieldCancel.pending = s.pending := by
  refine State.pending_forEach _ _ _ fun u t => ?_
  dsimp only
  split
  · split_ifs <;> simp
  · rfl

@[simp] theorem State.pending_fieldCommit (s : State) (old : List PatUnit) : (s.fieldCommit old).pending = s.pending := by
  unfold State.fieldCommit
  rw [State.pending_fieldStates]
  refine State.pending_forEach _ _ _ fun p t => ?_
  split
  · rfl
  · simp
  · simp
  · simp

/-! ## Pattern banks -/

@[simp] theorem State.pending_bankTo (s : State) (b : BankState) : (s.bankTo b).pending = s.pending := by simp [State.bankTo]

@[simp] theorem pendingAfter_execCaptureMemoryWrite (addr : Nat) (s : State) :
    pendingAfter (execCaptureMemoryWrite addr s) = some s.pending := by
  simp [execCaptureMemoryWrite]

/-! ## Queues -/

@[simp] theorem State.pending_setQueue (s : State) (q : Nat) (x : Queue) : (s.setQueue q x).pending = s.pending := by
  simp [State.setQueue]

@[simp] theorem State.pending_qCross (s : State) (q : Nat) : (s.qCross q).pending = s.pending := by
  unfold State.qCross
  dsimp only
  repeat' split
  all_goals simp

@[simp] theorem State.pending_qPoison (s : State) (q n : Nat) : (s.qPoison q n).pending = s.pending := by
  simp [State.qPoison]

@[simp] theorem State.pending_qTake (s : State) (q : Nat) : (s.qTake q).2.pending = s.pending := by
  unfold State.qTake
  dsimp only
  split <;> simp

@[simp] theorem State.pending_setDring (s : State) (r : Nat) (x : Ring) : (s.setDring r x).pending = s.pending := by rfl

@[simp] theorem State.pending_ringNext (s : State) (r : Nat) : (s.ringNext r).pending = s.pending := by
  unfold State.ringNext
  dsimp only
  split <;> simp

@[simp] theorem State.pending_ringFill (s : State) (r q : Nat) (fuel : Nat) : (s.ringFill r q fuel).pending = s.pending := by
  induction fuel generalizing s with
  | zero => rfl
  | succ fuel ih =>
    have htake : (s.qTake q).2.pending = s.pending := State.pending_qTake s q
    unfold State.ringFill
    dsimp only
    split
    · rfl
    · split_ifs
      · rfl
      · split
        · next w t h => rw [ih]; simpa [h] using htake
        · next t h => simpa [h] using htake

@[simp] theorem State.pending_ringPump (s : State) (r : Nat) : (s.ringPump r).pending = s.pending := by simp [State.ringPump]

@[simp] theorem State.pending_ringWriteBack (s : State) (r : Nat) (d : Descriptor) (done status : Nat) (poison gap : Bool) :
    (s.ringWriteBack r d done status poison gap).pending = s.pending := by
  simp [State.ringWriteBack]

@[simp] theorem State.pending_hostData (s : State) (addr : Nat) (bytes : List Byte) :
    (s.hostData addr bytes).pending = s.pending := by
  simp [State.hostData]

@[simp] theorem State.pending_ringDrain (s : State) (r status : Nat) (bad : List Nat) :
    (s.ringDrain r status bad).pending = s.pending := by
  unfold State.ringDrain
  split <;> simp

@[simp] theorem State.pending_dmaError (s : State) (r kind status lost : Nat) :
    (s.dmaError r kind status lost).pending = s.pending := by
  simp [State.dmaError]

@[simp] theorem State.pending_setBank (s : State) (p : Path) (b : PathBank) : (s.setBank p b).pending = s.pending := by
  unfold State.setBank
  split <;> simp

@[simp] theorem State.pending_latchPop (s : State) (p : Path) (q hi marker poison : Nat) :
    (s.latchPop p q hi marker poison).pending = s.pending := by
  simp [State.latchPop]

@[simp] theorem State.pending_popServe (s : State) (q : Nat) : (s.popServe q).pending = s.pending := by
  unfold State.popServe
  dsimp only
  split <;> simp

@[simp] theorem State.pending_qPut (s : State) (q : Nat) (y : QWord) : (s.qPut q y).pending = s.pending := by
  simp [State.qPut]

@[simp] theorem State.pending_qItem (s : State) (u : PatUnit) (item : List QWord) :
    (s.qItem u item).pending = s.pending := by
  unfold State.qItem
  dsimp only
  repeat' split
  all_goals simp

@[simp] theorem State.pending_queueEmitOne (s : State) (u : PatUnit) : (s.queueEmitOne u).pending = s.pending := by
  unfold State.queueEmitOne
  dsimp only
  repeat' split
  all_goals simp

@[simp] theorem State.pending_queueEmit (s : State) : s.queueEmit.pending = s.pending := by simp [State.queueEmit]

@[simp] theorem State.pending_popEmpty (s : State) (q : Nat) (path : Path) (refused : Bool) :
    (s.popEmpty q path refused).pending = s.pending := by
  simp [State.popEmpty]

@[simp] theorem State.pending_queuePop (s : State) (path : Path) (q : Nat) (wide bad : Bool) :
    (s.queuePop path q wide bad).pending = s.pending := by
  have htake : (s.qTake q).2.pending = s.pending := State.pending_qTake s q
  unfold State.queuePop
  split
  · rfl
  · split
    · simp
    · split
      · next y t h => simpa [h] using htake
      · next t h =>
        have ht : t.pending = s.pending := by simpa [h] using htake
        split_ifs <;> simp [ht]

@[simp] theorem pendingAfter_execQueuePop (path : Path) (q : Nat) (wide bad : Bool) (s : State) :
    pendingAfter (execQueuePop path q wide bad s) = some s.pending := by
  simp [execQueuePop]

@[simp] theorem pendingAfter_execPopWaitExpire (q : Nat) (s : State) :
    pendingAfter (execPopWaitExpire q s) = some s.pending := by
  unfold execPopWaitExpire
  dsimp only
  split <;> simp

@[simp] theorem State.pending_queueFlush (s : State) (q : Nat) : (s.queueFlush q).pending = s.pending := by
  simp [State.queueFlush]

@[simp] theorem State.pending_queueFlushCmd (s : State) (q : Nat) : (s.queueFlushCmd q).2.pending = s.pending := by
  simp [State.queueFlushCmd]

@[simp] theorem pendingAfter_execQueCtrlFlush (q : Nat) (s : State) :
    pendingAfter (execQueCtrlFlush q s) = some s.pending := by
  simp [execQueCtrlFlush]

@[simp] theorem pendingAfter_execQueCntClr (q : Nat) (s : State) : pendingAfter (execQueCntClr q s) = some s.pending := by
  simp [execQueCntClr]

@[simp] theorem pendingAfter_execWmxClear (q : Nat) (s : State) : pendingAfter (execWmxClear q s) = some s.pending := by
  simp [execWmxClear]

@[simp] theorem pendingAfter_execWatermarkWrite (q : Nat) (hi : Bool) (v : Nat) (s : State) :
    pendingAfter (execWatermarkWrite q hi v s) = some s.pending := by
  simp [execWatermarkWrite]

@[simp] theorem State.pending_wrStale (s : State) (q v : Nat) : (s.wrStale q v).pending = s.pending := by
  simp [State.wrStale]

@[simp] theorem pendingAfter_execStaleTimeout (q : Nat) (s : State) :
    pendingAfter (execStaleTimeout q s) = some s.pending := by
  simp [execStaleTimeout]

@[simp] theorem State.pending_queuePlaces (s : State) : s.queuePlaces.pending = s.pending := by simp [State.queuePlaces]

@[simp] theorem State.pending_queueStart (s : State) (u : PatUnit) : (s.queueStart u).pending = s.pending := by
  simp [State.queueStart]

@[simp] theorem State.pending_queueEnd (s : State) (q : Nat) : (s.queueEnd q).pending = s.pending := by
  unfold State.queueEnd
  dsimp only
  split <;> simp

/-! ## Wrings -/

@[simp] theorem State.pending_setWjob (s : State) (j : Nat) (w : WringJob) : (s.setWjob j w).pending = s.pending := by
  simp [State.setWjob]

@[simp] theorem State.pending_wringBegin (s : State) (u : PatUnit) : (s.wringBegin u).pending = s.pending := by
  simp [State.wringBegin]

@[simp] theorem State.pending_qTakeN (s : State) (q : Nat) (n : Nat) : (s.qTakeN q n).2.pending = s.pending := by
  induction n generalizing s with
  | zero => rfl
  | succ n ih =>
    have htake : (s.qTake q).2.pending = s.pending := State.pending_qTake s q
    unfold State.qTakeN
    split
    · next t h => simpa [h] using htake
    · next y t h => simpa [h, ih] using htake

@[simp] theorem State.pending_wringRead (s : State) (j : Nat) (fuel : Nat) : (s.wringRead j fuel).pending = s.pending := by
  induction fuel generalizing s with
  | zero => rfl
  | succ fuel ih =>
    unfold State.wringRead
    split
    · rfl
    · split_ifs
      · rfl
      · split
        · rfl
        · simp [ih]

@[simp] theorem State.pending_wringFeed (s : State) (j : Nat) : (s.wringFeed j).pending = s.pending := by
  unfold State.wringFeed
  split <;> simp

@[simp] theorem State.pending_wringCut (s : State) (j : Nat) : (s.wringCut j).pending = s.pending := by
  unfold State.wringCut
  split <;> simp

@[simp] theorem State.pending_wringEmit (s : State) : s.wringEmit.pending = s.pending := by
  refine State.pending_forEach _ _ _ fun u t => ?_
  split
  · split_ifs <;> simp
  · rfl

@[simp] theorem State.pending_wringHouse (s : State) : s.wringHouse.pending = s.pending := by simp [State.wringHouse]

@[simp] theorem pendingAfter_execWringCloseTimeout (j : Nat) (s : State) :
    pendingAfter (execWringCloseTimeout j s) = some s.pending := by
  unfold execWringCloseTimeout
  split <;> simp

@[simp] theorem State.pending_wringEnd (s : State) (j result out check : Nat) :
    (s.wringEnd j result out check).pending = s.pending := by
  unfold State.wringEnd
  split <;> simp

@[simp] theorem State.pending_unpost (s : State) (r : Nat) : (s.unpost r).pending = s.pending := by rfl

@[simp] theorem State.pending_skipBad (s : State) (r : Nat) (fuel : Nat) : (s.skipBad r fuel).pending = s.pending := by
  induction fuel generalizing s with
  | zero => rfl
  | succ fuel ih =>
    unfold State.skipBad
    split
    · rfl
    · split_ifs
      · rfl
      · simp [ih]

@[simp] theorem State.pending_wringCommitOut (s : State) (j : Nat) (w : WringJob) (out : List Byte) (check : Nat) :
    (s.wringCommitOut j w out check).pending = s.pending := by
  unfold State.wringCommitOut
  dsimp only
  repeat' split
  all_goals simp

@[simp] theorem State.pending_refuseInput (s : State) (j : Nat) : (s.refuseInput j).pending = s.pending := by
  unfold State.refuseInput
  split <;> simp

@[simp] theorem State.pending_wringFail (s : State) (j result : Nat) : (s.wringFail j result).pending = s.pending := by
  unfold State.wringFail
  split <;> simp

@[simp] theorem pendingAfter_execWringJobEnd (j : Nat) (memErr : Bool) (s : State) :
    pendingAfter (execWringJobEnd j memErr s) = some s.pending := by
  unfold execWringJobEnd
  repeat' split
  all_goals simp

@[simp] theorem pendingAfter_execWringDecompressStart (j : Nat) (s : State) :
    pendingAfter (execWringDecompressStart j s) = some s.pending := by
  unfold execWringDecompressStart
  split <;> simp

@[simp] theorem State.pending_wringInput (s : State) (r : Nat) (bytes : List Byte) :
    (s.wringInput r bytes).pending = s.pending := by
  unfold State.wringInput
  dsimp only
  repeat' split
  all_goals simp

@[simp] theorem State.pending_wringCutCmd (s : State) (j : Nat) : (s.wringCutCmd j).2.pending = s.pending := by
  unfold State.wringCutCmd
  repeat' split
  all_goals simp

@[simp] theorem State.pending_wringAbortCmd (s : State) (j : Nat) : (s.wringAbortCmd j).2.pending = s.pending := by
  simp [State.wringAbortCmd]

@[simp] theorem pendingAfter_execWrgCtrlCut (j : Nat) (s : State) : pendingAfter (execWrgCtrlCut j s) = some s.pending := by
  simp [execWrgCtrlCut]

@[simp] theorem pendingAfter_execWrgCtrlAbort (j : Nat) (s : State) :
    pendingAfter (execWrgCtrlAbort j s) = some s.pending := by
  simp [execWrgCtrlAbort]

@[simp] theorem pendingAfter_execWrgCntClr (j : Nat) (s : State) : pendingAfter (execWrgCntClr j s) = some s.pending := by
  simp [execWrgCntClr]

@[simp] theorem State.pending_wrWrgLimit (s : State) (j v : Nat) : (s.wrWrgLimit j v).pending = s.pending := by
  simp [State.wrWrgLimit]

@[simp] theorem State.pending_wrWrgClose (s : State) (j v : Nat) : (s.wrWrgClose j v).pending = s.pending := by
  simp [State.wrWrgClose]

@[simp] theorem State.pending_wrWrgMaxbuf (s : State) (j v : Nat) : (s.wrWrgMaxbuf j v).pending = s.pending := by
  simp [State.wrWrgMaxbuf]

@[simp] theorem State.pending_wringUnitEnd (s : State) (j : Nat) : (s.wringUnitEnd j).pending = s.pending := by
  unfold State.wringUnitEnd
  split <;> simp

@[simp] theorem State.pending_wringUnitStart (s : State) (u : PatUnit) : (s.wringUnitStart u).pending = s.pending := by
  simp [State.wringUnitStart]

/-! ## DMA and notices -/

@[simp] theorem State.pending_headDegraded (s : State) : s.headDegraded.pending = s.pending := by simp [State.headDegraded]

@[simp] theorem State.pending_setRingCfg (s : State) (r v : Nat) : (s.setRingCfg r v).pending = s.pending := by
  simp [State.setRingCfg]

@[simp] theorem State.pending_failRingJobs (s : State) (r : Nat) : (s.failRingJobs r).pending = s.pending := by
  unfold State.failRingJobs
  refine State.pending_forEach _ _ _ fun k t => ?_
  split
  · split_ifs <;> simp
  · rfl

@[simp] theorem State.pending_ringOff (s : State) (r : Nat) : (s.ringOff r).pending = s.pending := by simp [State.ringOff]

@[simp] theorem State.pending_ringDisable (s : State) (r : Nat) : (s.ringDisable r).pending = s.pending := by
  unfold State.ringDisable
  repeat' split
  all_goals simp

@[simp] theorem State.pending_wrDmaCfg (s : State) (r v : Nat) : (s.wrDmaCfg r v).pending = s.pending := by
  simp [State.wrDmaCfg]

@[simp] theorem pendingAfter_execDmaRingEnable (r v : Nat) (s : State) :
    pendingAfter (execDmaRingEnable r v s) = some s.pending := by
  simp [execDmaRingEnable]

@[simp] theorem pendingAfter_execDmaRingDisable (r : Nat) (s : State) :
    pendingAfter (execDmaRingDisable r s) = some s.pending := by
  simp [execDmaRingDisable]

@[simp] theorem pendingAfter_execDmaTailWrite (r tail : Nat) (descs : List Descriptor) (s : State) :
    pendingAfter (execDmaTailWrite r tail descs s) = some s.pending := by
  simp [execDmaTailWrite]

@[simp] theorem State.pending_loopPush (s : State) (slot : Nat) (ws : List Nat) :
    (s.loopPush slot ws).2.pending = s.pending := by
  induction ws generalizing s with
  | nil => rfl
  | cons w ws ih =>
    simp [State.loopPush, ih]

@[simp] theorem pendingAfter_execDmaFlushTimeout (r : Nat) (s : State) :
    pendingAfter (execDmaFlushTimeout r s) = some s.pending := by
  unfold execDmaFlushTimeout
  split <;> simp

@[simp] theorem pendingAfter_execDmaHostError (r : Nat) (s : State) :
    pendingAfter (execDmaHostError r s) = some s.pending := by
  unfold execDmaHostError
  dsimp only
  repeat' split
  all_goals simp

@[simp] theorem State.pending_ringsPump (s : State) : s.ringsPump.pending = s.pending := by simp [State.ringsPump]

@[simp] theorem pendingAfter_execDmaPause (d3 : Bool) (s : State) : pendingAfter (execDmaPause d3 s) = some s.pending := by
  simp [execDmaPause]

@[simp] theorem pendingAfter_execDmaResume (d3 : Bool) (s : State) : pendingAfter (execDmaResume d3 s) = some s.pending := by
  simp [execDmaResume]

@[simp] theorem State.pending_dmaReset (s : State) : s.dmaReset.pending = s.pending := by simp [State.dmaReset]

@[simp] theorem pendingAfter_execFunctionLevelReset (s : State) :
    pendingAfter (execFunctionLevelReset s) = some s.pending := by
  simp [execFunctionLevelReset]

@[simp] theorem State.pending_linkGone (s : State) : s.linkGone.pending = s.pending := by simp [State.linkGone]

@[simp] theorem pendingAfter_execPcieLinkDown (s : State) : pendingAfter (execPcieLinkDown s) = some s.pending := by
  simp [execPcieLinkDown]

@[simp] theorem pendingAfter_execPcieLinkUp (width speed : Nat) (s : State) :
    pendingAfter (execPcieLinkUp width speed s) = some s.pending := by
  simp [execPcieLinkUp]

@[simp] theorem pendingAfter_execNoticePendingClear (j v : Nat) (s : State) :
    pendingAfter (execNoticePendingClear j v s) = some s.pending := by
  simp [execNoticePendingClear]

@[simp] theorem State.pending_msixSend (s : State) : s.msixSend.pending = s.pending := by simp [State.msixSend]

@[simp] theorem State.pending_wrMsix (s : State) (i v : Nat) : (s.wrMsix i v).pending = s.pending := by simp [State.wrMsix]

@[simp] theorem pendingAfter_execMsixUnmask (vec : Option Nat) (enable : Bool) (s : State) :
    pendingAfter (execMsixUnmask vec enable s) = some s.pending := by
  unfold execMsixUnmask
  split <;> simp

@[simp] theorem State.pending_noticeStore (s : State) (h : Nat) (bytes : List Byte) :
    (s.noticeStore h bytes).pending = s.pending := by
  simp [State.noticeStore]

@[simp] theorem pendingAfter_execNoticeRecordReceive (hub : Nat) (bytes : List Byte) (s : State) :
    pendingAfter (execNoticeRecordReceive hub bytes s) = some s.pending := by
  simp [execNoticeRecordReceive]

@[simp] theorem State.pending_wringBind (s : State) (u : PatUnit) : (s.wringBind u).pending = s.pending := by
  simp [State.wringBind]

/-! ## Silt log -/

@[simp] theorem State.pending_opCheckpoint (s : State) : s.opCheckpoint.pending = s.pending := by rfl

@[simp] theorem pendingAfter_execOptimeCheckpoint (s : State) :
    pendingAfter (execOptimeCheckpoint s) = some s.pending := by rfl

@[simp] theorem State.pending_siltResume (s : State) : s.siltResume.pending = s.pending := by simp [State.siltResume]

@[simp] theorem State.pending_siltDisarm (s : State) : s.siltDisarm.pending = s.pending := by simp [State.siltDisarm]

@[simp] theorem State.pending_clearArm (s : State) (source : Nat) : (s.clearArm source).2.pending = s.pending := by
  simp [State.clearArm]

@[simp] theorem State.pending_clearConfirm (s : State) (source request token : Nat) :
    (s.clearConfirm source request token).2.pending = s.pending := by
  unfold State.clearConfirm
  dsimp only
  repeat' split
  all_goals simp

@[simp] theorem State.pending_siltHouse (s : State) : s.siltHouse.pending = s.pending := by
  unfold State.siltHouse
  split <;> simp

@[simp] theorem State.pending_siltScan (s : State) : s.siltScan.pending = s.pending := by simp [State.siltScan]

@[simp] theorem State.pending_siltPowerUp (s : State) : s.siltPowerUp.pending = s.pending := by rfl

@[simp] theorem State.pending_loadWindow (s : State) (p : Path) (auto area slot corr : Nat) (ue : List (Nat × Nat)) :
    (s.loadWindow p auto area slot corr ue).pending = s.pending := by
  simp [State.loadWindow]

@[simp] theorem State.pending_cursorWrite (s : State) (p : Path) (v corr : Nat) (ue : List (Nat × Nat)) :
    (s.cursorWrite p v corr ue).pending = s.pending := by
  simp [State.cursorWrite]

@[simp] theorem pendingAfter_execSltCursorWrite (path : Path) (v corr : Nat) (ue : List (Nat × Nat)) (s : State) :
    pendingAfter (execSltCursorWrite path v corr ue s) = some s.pending := by
  simp [execSltCursorWrite]

@[simp] theorem State.pending_win15Read (s : State) (p : Path) (corr : Nat) (ue : List (Nat × Nat)) :
    (s.win15Read p corr ue).2.pending = s.pending := by
  simp [State.win15Read]

@[simp] theorem pendingAfter_execSltWin15Read (path : Path) (corr : Nat) (ue : List (Nat × Nat)) (s : State) :
    pendingAfter (execSltWin15Read path corr ue s) = some s.pending := by
  simp [execSltWin15Read]

@[simp] theorem State.pending_optRead (s : State) (p : Path) : (s.optRead p).2.pending = s.pending := by simp [State.optRead]

@[simp] theorem pendingAfter_execSltOptRead (path : Path) (s : State) :
    pendingAfter (execSltOptRead path s) = some s.pending := by
  simp [execSltOptRead]

@[simp] theorem pendingAfter_execSltCntClr (s : State) : pendingAfter (execSltCntClr s) = some s.pending := by
  simp [execSltCntClr]

/-! ## Agreement -/

@[simp] theorem State.pending_showDigest (s : State) : s.showDigest.pending = s.pending := by simp [State.showDigest]

@[simp] theorem State.pending_digestTake (s : State) (p : CDigest) (f : Nat) : (s.digestTake p f).pending = s.pending := by
  simp [State.digestTake]

@[simp] theorem pendingAfter_execAdoptEffect (s : State) : pendingAfter (execAdoptEffect s) = some s.pending := by
  unfold execAdoptEffect
  split <;> simp

@[simp] theorem State.pending_adopt (s : State) (digest : List Byte) (compat f : Nat) :
    (s.adopt digest compat f).2.pending = s.pending := by
  simp [State.adopt]

@[simp] theorem pendingAfter_execDigestInherit (s : State) : pendingAfter (execDigestInherit s) = some s.pending := by
  unfold execDigestInherit
  repeat' split
  all_goals simp

@[simp] theorem State.pending_stateRecord (s : State) (prev new : Nat) : (s.stateRecord prev new).pending = s.pending := by
  simp [State.stateRecord]

@[simp] theorem State.pending_quarantineHouse (s : State) : s.quarantineHouse.pending = s.pending := by
  simp [State.quarantineHouse]

@[simp] theorem State.pending_quarantineCmd (s : State) (on : Nat) : (s.quarantineCmd on).2.pending = s.pending := by
  simp [State.quarantineCmd]

@[simp] theorem State.pending_collisionWith (s : State) (b : List Byte) : (s.collisionWith b).pending = s.pending := by
  simp [State.collisionWith]

@[simp] theorem State.pending_helloTake (s : State) (b : List Byte) : (s.helloTake b).pending = s.pending := by
  simp [State.helloTake]

@[simp] theorem pendingAfter_execHelloReceive (port lseq : Nat) (bytes : List Byte) (s : State) :
    pendingAfter (execHelloReceive port lseq bytes s) = some s.pending := by
  simp [execHelloReceive]

@[simp] theorem pendingAfter_execSupCntClr (s : State) : pendingAfter (execSupCntClr s) = some s.pending := by
  simp [execSupCntClr]

/-! ## Hub states -/

@[simp] theorem State.pending_changeState (s : State) (st : Nat) : (s.changeState st).pending = s.pending := by
  simp [State.changeState]

@[simp] theorem State.pending_chainsStart (s : State) : s.chainsStart.pending = s.pending := by simp [State.chainsStart]

@[simp] theorem State.pending_enterState (s : State) (st : Nat) : (s.enterState st).pending = s.pending := by
  simp [State.enterState]

@[simp] theorem State.pending_readyHouse (s : State) : s.readyHouse.pending = s.pending := by simp [State.readyHouse]

@[simp] theorem State.pending_joinHouse (s : State) : s.joinHouse.pending = s.pending := by simp [State.joinHouse]

/-! ## Power management -/

@[simp] theorem State.pending_pdEval (s : State) : s.pdEval.pending = s.pending := by simp [State.pdEval]

@[simp] theorem State.pending_enterBoot (s : State) (cause boot : Nat) : (s.enterBoot cause boot).pending = s.pending := by
  simp [State.enterBoot]

@[simp] theorem State.pending_powerBoot (s : State) (boot : Nat) : (s.powerBoot boot).pending = s.pending := by
  simp [State.powerBoot]

@[simp] theorem pendingAfter_execPowerGood (boot : Nat) (s : State) :
    pendingAfter (execPowerGood boot s) = some s.pending := by
  simp [execPowerGood]

@[simp] theorem pendingAfter_execResetNDeassert (boot : Nat) (s : State) :
    pendingAfter (execResetNDeassert boot s) = some s.pending := by
  simp [execResetNDeassert]

@[simp] theorem pendingAfter_execXtalRestored (s : State) : pendingAfter (execXtalRestored s) = some s.pending := by
  simp [execXtalRestored]

@[simp] theorem pendingAfter_execPfailDeassert (s : State) : pendingAfter (execPfailDeassert s) = some s.pending := by
  simp [execPfailDeassert]

@[simp] theorem pendingAfter_execPerstAssert (s : State) : pendingAfter (execPerstAssert s) = some s.pending := by
  simp [execPerstAssert]

@[simp] theorem pendingAfter_execPerstDeassert (s : State) : pendingAfter (execPerstDeassert s) = some s.pending := by
  simp [execPerstDeassert]

@[simp] theorem pendingAfter_execTrstAssert (s : State) : pendingAfter (execTrstAssert s) = some s.pending := by rfl

@[simp] theorem pendingAfter_execTapUpdateIr (op : Nat) (s : State) :
    pendingAfter (execTapUpdateIr op s) = some s.pending := by rfl

@[simp] theorem pendingAfter_execSupplyOutOfRange (rail : Nat) (s : State) :
    pendingAfter (execSupplyOutOfRange rail s) = some s.pending := by
  simp [execSupplyOutOfRange]

@[simp] theorem pendingAfter_execThermalLimit (s : State) : pendingAfter (execThermalLimit s) = some s.pending := by
  simp [execThermalLimit]

@[simp] theorem pendingAfter_execMemoryUe (area block : Nat) (s : State) :
    pendingAfter (execMemoryUe area block s) = some s.pending := by
  simp [execMemoryUe]

@[simp] theorem State.pending_suppliesBack (s : State) : s.suppliesBack.pending = s.pending := by simp [State.suppliesBack]

@[simp] theorem pendingAfter_execSafeCauseGone (b : Nat) (s : State) :
    pendingAfter (execSafeCauseGone b s) = some s.pending := by
  simp [execSafeCauseGone]

@[simp] theorem pendingAfter_execSelfdiagGone (code : Nat) (s : State) :
    pendingAfter (execSelfdiagGone code s) = some s.pending := by
  simp [execSelfdiagGone]

@[simp] theorem pendingAfter_execCaptureMemoryInitDone (s : State) :
    pendingAfter (execCaptureMemoryInitDone s) = some s.pending := by
  simp [execCaptureMemoryInitDone]

@[simp] theorem State.pending_checkBegin (s : State) (powerUp : Bool) : (s.checkBegin powerUp).pending = s.pending := by
  simp [State.checkBegin]

@[simp] theorem State.pending_wrQspi (s : State) (v : Nat) : (s.wrQspi v).pending = s.pending := by simp [State.wrQspi]

@[simp] theorem pendingAfter_execQspiGo (v : Nat) (s : State) : pendingAfter (execQspiGo v s) = some s.pending := by
  simp [execQspiGo]

@[simp] theorem pendingAfter_execQspiSequenceDone (bytes : List Byte) (s : State) :
    pendingAfter (execQspiSequenceDone bytes s) = some s.pending := by
  simp [execQspiSequenceDone]

@[simp] theorem State.pending_wrFwu (s : State) (v : Nat) : (s.wrFwu v).pending = s.pending := by simp [State.wrFwu]

@[simp] theorem pendingAfter_execPmuFwuStart (v : Nat) (s : State) :
    pendingAfter (execPmuFwuStart v s) = some s.pending := by
  simp [execPmuFwuStart]

/-! ## Boot -/

@[simp] theorem State.pending_runSlot (s : State) (b : Bool) (f : FwSlot) : (s.runSlot b f).pending = s.pending := by
  simp [State.runSlot]

@[simp] theorem State.pending_newFirmware (s : State) (f : FwSlot) : (s.newFirmware f).pending = s.pending := by
  simp [State.newFirmware]

@[simp] theorem State.pending_mgmtSend (s : State) (flags dest : Nat) (record : List Byte) :
    (s.mgmtSend flags dest record).pending = s.pending := by
  simp [State.mgmtSend]

@[simp] theorem State.pending_chunkAsk (s : State) (server c : Nat) : (s.chunkAsk server c).pending = s.pending := by
  simp [State.chunkAsk]

@[simp] theorem State.pending_fetchPump (s : State) : s.fetchPump.pending = s.pending := by
  unfold State.fetchPump
  extract_lets +onlyGivenNames asked
  have hasked : asked.pending = s.pending := State.pending_forEach _ _ _ fun _ t => by
    split
    · split_ifs <;> simp
    · rfl
  rw [← hasked]
  split
  · split_ifs <;> simp
  · rfl

@[simp] theorem State.pending_fetchStop (s : State) (fstate : Nat) : (s.fetchStop fstate).pending = s.pending := by
  simp [State.fetchStop]

@[simp] theorem State.pending_fetchAgain (s : State) : s.fetchAgain.pending = s.pending := by
  unfold State.fetchAgain
  split <;> simp

/-! ## Loader -/

@[simp] theorem State.pending_showCheck (s : State) (r : Reject) : (s.showCheck r).pending = s.pending := by
  simp [State.showCheck]

@[simp] theorem State.pending_showDigestIn (s : State) (r : RegDef) (d : List Byte) :
    (s.showDigestIn r d).pending = s.pending := by
  simp [State.showDigestIn]

@[simp] theorem State.pending_patEvent (s : State) (f : Field) :
    (s.patEvent f).pending = s.pending := by
  simp [State.patEvent]

@[simp] theorem State.pending_commitAt (s : State) (f : Nat) : (s.commitAt f).pending = s.pending := by
  unfold State.commitAt
  split <;> simp

@[simp] theorem pendingAfter_execPatternCheckDone (ue : Option Nat) (s : State) :
    pendingAfter (execPatternCheckDone ue s) = some s.pending := by
  unfold execPatternCheckDone
  repeat' split
  all_goals simp

/-! ## Commit -/

@[simp] theorem State.pending_wipe (s : State) (rs : List RegDef) (i : Nat) : (s.wipe rs i).pending = s.pending := by
  simp [State.wipe]

@[simp] theorem State.pending_filterEnd (s : State) (c : Nat) : (s.filterEnd c).pending = s.pending := by
  simp [State.filterEnd]

@[simp] theorem State.pending_thrEnd (s : State) (i : Nat) : (s.thrEnd i).pending = s.pending := by simp [State.thrEnd]

@[simp] theorem State.pending_tdcEnd (s : State) (k : Nat) : (s.tdcEnd k).pending = s.pending := by simp [State.tdcEnd]

@[simp] theorem State.pending_tinEnd (s : State) (k : Nat) : (s.tinEnd k).pending = s.pending := by simp [State.tinEnd]

@[simp] theorem State.pending_toutEnd (s : State) (k : Nat) : (s.toutEnd k).pending = s.pending := by simp [State.toutEnd]

@[simp] theorem State.pending_loopGone (s : State) (k : Nat) : (s.loopGone k).pending = s.pending := by
  unfold State.loopGone
  rw [State.pending_loopEnd]
  refine State.pending_forEach _ _ _ fun r t => ?_
  split <;> simp

@[simp] theorem State.pending_endUnit (s : State) (new : List PatUnit) (u : PatUnit) :
    (s.endUnit new u).pending = s.pending := by
  unfold State.endUnit
  split <;> simp

@[simp] theorem State.pending_filterSettings (s : State) (u : PatUnit) : (s.filterSettings u).pending = s.pending := by
  simp [State.filterSettings]

@[simp] theorem State.pending_filterStart (s : State) (u : PatUnit) : (s.filterStart u).pending = s.pending := by
  simp [State.filterStart]

@[simp] theorem State.pending_tdcUnitStart (s : State) (u : PatUnit) : (s.tdcUnitStart u).pending = s.pending := by
  simp [State.tdcUnitStart]

@[simp] theorem State.pending_toutUnitStart (s : State) (u : PatUnit) : (s.toutUnitStart u).pending = s.pending := by
  simp [State.toutUnitStart]

@[simp] theorem State.pending_startUnit (s : State) (u : PatUnit) : (s.startUnit u).pending = s.pending := by
  unfold State.startUnit
  split <;> simp

@[simp] theorem State.pending_channelReset (s : State) (n : Nat) : (s.channelReset n).pending = s.pending := by
  simp [State.channelReset]

@[simp] theorem State.pending_channelCommit (s : State) (carried : Bool) (n : Nat) :
    (s.channelCommit carried n).pending = s.pending := by
  simp [State.channelCommit]

@[simp] theorem State.pending_uWord (s : State) (r : RegDef) (id v : Nat) : (s.uWord r id v).pending = s.pending := by
  simp [State.uWord]

@[simp] theorem State.pending_unitBlockCommit (s : State) (p : Pattern) (carried : Bool) (u : PatUnit) :
    (s.unitBlockCommit p carried u).pending = s.pending := by
  simp [State.unitBlockCommit]

@[simp] theorem State.pending_blocksCommit (s : State) (p : Pattern) (kept : List PatUnit) :
    (s.blocksCommit p kept).pending = s.pending := by
  simp [State.blocksCommit]

@[simp] theorem State.pending_flowCommit (s : State) (kept : List PatUnit) :
    (s.flowCommit kept).pending = s.pending := by rfl

@[simp] theorem State.pending_policyCommit (s : State) : s.policyCommit.pending = s.pending := by simp [State.policyCommit]

@[simp] theorem State.pending_orderCommit (s : State) : s.orderCommit.pending = s.pending := by
  unfold State.orderCommit
  split <;> simp

@[simp] theorem State.pending_subsCommit (s : State) (old : Option Pattern) (olds : List (Nat × Nat × Conf)) :
    (s.subsCommit old olds).pending = s.pending := by
  refine State.pending_forEach _ _ _ fun u t => ?_
  split <;> simp

@[simp] theorem State.pending_chainCommit (s : State) (c : Nat) : (s.chainCommit c).pending = s.pending := by
  simp [State.chainCommit]

@[simp] theorem State.pending_swapCommit (s : State) (kept : List PatUnit) : (s.swapCommit kept).pending = s.pending := by
  unfold State.swapCommit
  split <;> simp

@[simp] theorem State.pending_commitSwitch (s : State) (p : Pattern) : (s.commitSwitch p).pending = s.pending := by
  simp [State.commitSwitch]

@[simp] theorem pendingAfter_execCommitIrrevocable (s : State) :
    pendingAfter (execCommitIrrevocable s) = some s.pending := by
  unfold execCommitIrrevocable
  split <;> simp

@[simp] theorem State.pending_commitDue (s : State) : s.commitDue.pending = s.pending := by
  unfold State.commitDue
  split <;> simp

@[simp] theorem pendingAfter_execCommitSwitch (s : State) : pendingAfter (execCommitSwitch s) = some s.pending := by
  simp [execCommitSwitch]

@[simp] theorem pendingAfter_execPowerUpCommit (s : State) : pendingAfter (execPowerUpCommit s) = some s.pending := by
  unfold execPowerUpCommit
  repeat' split
  all_goals simp

@[simp] theorem State.pending_patLoad (s : State) (source addr : Nat) : (s.patLoad source addr).2.pending = s.pending := by
  unfold State.patLoad
  repeat' split
  all_goals simp

@[simp] theorem State.pending_patCommit (s : State) (f : Nat) : (s.patCommit f).2.pending = s.pending := by
  unfold State.patCommit
  dsimp only
  repeat' split
  all_goals simp

@[simp] theorem State.pending_patCancel (s : State) : (s.patCancel).2.pending = s.pending := by
  simp [State.patCancel]

@[simp] theorem State.pending_keySlotTo (s : State) (slot code : Nat) : (s.keySlotTo slot code).pending = s.pending := by
  simp [State.keySlotTo]

@[simp] theorem State.pending_keyInstall (s : State) (slot : Nat) (key : List Byte) :
    (s.keyInstall slot key).2.pending = s.pending := by
  simp [State.keyInstall]

@[simp] theorem State.pending_keyRevoke (s : State) (slot : Nat) : (s.keyRevoke slot).2.pending = s.pending := by
  simp [State.keyRevoke]

/-! ## Mailboxes -/

@[simp] theorem State.pending_mbxSet (s : State) (p : Path) (off v : Nat) : (s.mbxSet p off v).pending = s.pending := by
  simp [State.mbxSet]

@[simp] theorem State.pending_mbxDrop (s : State) (p : Path) : (s.mbxDrop p).pending = s.pending := by simp [State.mbxDrop]

@[simp] theorem State.pending_mbxStore (s : State) (p : Path) (r : List Byte) (notify : Bool) :
    (s.mbxStore p r notify).pending = s.pending := by
  simp [State.mbxStore]

@[simp] theorem State.pending_respond (s : State) (o : Origin) (r : List Byte) : (s.respond o r).pending = s.pending := by
  unfold State.respond
  split <;> simp

@[simp] theorem State.pending_answerNow (s : State) (o : Origin) (opcode : Nat) (a : Answer) :
    (s.answerNow o opcode a).pending = s.pending := by
  simp [State.answerNow]

@[simp] theorem State.pending_relay (s : State) (o : Origin) (b : List Byte) : (s.relay o b).pending = s.pending := by
  simp [State.relay]

@[simp] theorem State.pending_relayStep (s : State) (o : Origin) (b : List Byte) :
    (s.relayStep o b).2.pending = s.pending := by
  simp [State.relayStep]

@[simp] theorem State.pending_relayBack (s : State) (hub : Nat) (r : List Byte) :
    (s.relayBack hub r).pending = s.pending := by
  unfold State.relayBack
  split <;> simp

@[simp] theorem pendingAfter_execMgmtRelayTimeout (path : Path) (s : State) :
    pendingAfter (execMgmtRelayTimeout path s) = some s.pending := by
  unfold execMgmtRelayTimeout
  repeat' split
  all_goals simp

@[simp] theorem State.pending_wait (s : State) (o : Origin) (b : List Byte) : (s.wait o b).pending = s.pending := by rfl

@[simp] theorem State.pending_mbxGo (s : State) (p : Path) : (s.mbxGo p).pending = s.pending := by simp [State.mbxGo]

@[simp] theorem pendingAfter_execMailboxGo (path : Path) (s : State) :
    pendingAfter (execMailboxGo path s) = some s.pending := by
  simp [execMailboxGo]

@[simp] theorem State.pending_mgmtCommand (s : State) (hub : Nat) (b : List Byte) :
    (s.mgmtCommand hub b).pending = s.pending := by
  simp [State.mgmtCommand]

@[simp] theorem State.pending_dropMgmtKeys (s : State) (emit : Nat) : (s.dropMgmtKeys emit).pending = s.pending := by rfl

@[simp] theorem pendingAfter_execNoticeRingSend (s : State) : pendingAfter (execNoticeRingSend s) = some s.pending := by
  unfold execNoticeRingSend
  dsimp only
  repeat' split
  all_goals simp

@[simp] theorem State.pending_dupEnter (s : State) (e : DupEntry) : (s.dupEnter e).pending = s.pending := by
  simp [State.dupEnter]

@[simp] theorem pendingAfter_execDuplicateEntryExpire (source request : Nat) (s : State) :
    pendingAfter (execDuplicateEntryExpire source request s) = some s.pending := by rfl

/-! ## Accesses through a path -/

@[simp] theorem State.pending_readTime (s : State) (p : Path) (r : RegDef) : (s.readTime p r).2.pending = s.pending := by
  simp [State.readTime]

@[simp] theorem State.pending_readInt (s : State) (p : Path) (k : Nat) : (s.readInt p k).2.pending = s.pending := by
  simp [State.readInt]

@[simp] theorem State.pending_readTdcFifo (s : State) (p : Path) (k : Nat) : (s.readTdcFifo p k).2.pending = s.pending := by
  simp [State.readTdcFifo]

@[simp] theorem State.pending_readPop (s : State) (p : Path) (q : Nat) : (s.readPop p q).2.pending = s.pending := by
  unfold State.readPop
  dsimp only
  repeat' split
  all_goals simp

@[simp] theorem State.pending_readIsns (s : State) (p : Nat) : (s.readIsns p).2.pending = s.pending := by
  simp [State.readIsns]

@[simp] theorem State.pending_readReg (s : State) (p : Path) (r : RegDef) (i j : Nat) :
    (s.readReg p r i j).2.pending = s.pending := by
  simp [State.readReg]

@[simp] theorem State.pending_readUnit (s : State) (p : Path) (id off : Nat) :
    (s.readUnit p id off).2.pending = s.pending := by
  unfold State.readUnit
  repeat' split
  all_goals simp

@[simp] theorem State.pending_reservedHit (s : State) : s.reservedHit.pending = s.pending := by simp [State.reservedHit]

@[simp] theorem State.pending_busRead (s : State) (p : Path) (a : Nat) : (s.busRead p a).2.2.pending = s.pending := by
  unfold State.busRead
  dsimp only
  repeat' split
  all_goals simp

@[simp] theorem State.pending_did (s : State) (o : Host.Outcome State Fault Refusal) (h : pendingAfter o = some s.pending) :
    (s.did o).pending = s.pending := by
  cases o with
  | next t => exact Option.some.inj h
  | fault _ => rfl
  | refused _ => rfl

@[simp] theorem State.pending_writeTime (s : State) (r : RegDef) (i j v : Nat) :
    (s.writeTime r i j v).pending = s.pending := by
  simp [State.writeTime]

@[simp] theorem State.pending_writeFront (s : State) (r : RegDef) (i j v : Nat) :
    (s.writeFront r i j v).pending = s.pending := by
  simp [State.writeFront]

@[simp] theorem State.pending_wrLoopCtrl (s : State) (k v : Nat) : (s.wrLoopCtrl k v).pending = s.pending := by
  simp [State.wrLoopCtrl]

@[simp] theorem State.pending_writeEngines (s : State) (r : RegDef) (i j v : Nat) :
    (s.writeEngines r i j v).pending = s.pending := by
  simp [State.writeEngines]

@[simp] theorem State.pending_writeLinks (s : State) (r : RegDef) (i j v : Nat) :
    (s.writeLinks r i j v).pending = s.pending := by
  simp [State.writeLinks]

@[simp] theorem State.pending_drawDescs (s : State) (n : Nat) : (s.drawDescs n).2.pending = s.pending := by
  induction n generalizing s with
  | zero => rfl
  | succ n ih => simp [State.drawDescs, ih]

@[simp] theorem State.pending_wrTail (s : State) (r v : Nat) : (s.wrTail r v).pending = s.pending := by simp [State.wrTail]

@[simp] theorem State.pending_wrWrgCtrl (s : State) (j v : Nat) : (s.wrWrgCtrl j v).pending = s.pending := by
  simp [State.wrWrgCtrl]

@[simp] theorem State.pending_wrQueCtrl (s : State) (q v : Nat) : (s.wrQueCtrl q v).pending = s.pending := by
  simp [State.wrQueCtrl]

@[simp] theorem State.pending_writeHost (s : State) (p : Path) (r : RegDef) (i j v : Nat) :
    (s.writeHost p r i j v).pending = s.pending := by
  simp [State.writeHost]

@[simp] theorem State.pending_wrUnitStat (s : State) (id v : Nat) : (s.wrUnitStat id v).pending = s.pending := by
  simp [State.wrUnitStat]

@[simp] theorem State.pending_wrUnitCtrl (s : State) (id v : Nat) : (s.wrUnitCtrl id v).pending = s.pending := by
  simp [State.wrUnitCtrl, State.when]

@[simp] theorem State.pending_writeMbx (s : State) (p : Path) (a v : Nat) : (s.writeMbx p a v).pending = s.pending := by
  simp [State.writeMbx]

@[simp] theorem State.pending_readTo (s : State) (p : Path) (a : Nat) : (s.readTo p a).pending = s.pending := by
  simp [State.readTo]

@[simp] theorem pendingAfter_execReservedRead (path : Path) (addr size : Nat) (s : State) :
    pendingAfter (execReservedRead path addr size s) = some s.pending := by
  unfold execReservedRead
  repeat' split
  all_goals simp

@[simp] theorem pendingAfter_execGlbFrameLoRead (path : Path) (s : State) :
    pendingAfter (execGlbFrameLoRead path s) = some s.pending := by
  simp [execGlbFrameLoRead]

@[simp] theorem pendingAfter_execTimLRead (path : Path) (s : State) :
    pendingAfter (execTimLRead path s) = some s.pending := by
  simp [execTimLRead]

@[simp] theorem pendingAfter_execLoopIntRead (path : Path) (slot : Nat) (s : State) :
    pendingAfter (execLoopIntRead path slot s) = some s.pending := by
  simp [execLoopIntRead]

@[simp] theorem pendingAfter_execTdcFifoPop (path : Path) (k : Nat) (s : State) :
    pendingAfter (execTdcFifoPop path k s) = some s.pending := by
  simp [execTdcFifoPop]

@[simp] theorem pendingAfter_execFldIsnsRead (path : Path) (port : Nat) (s : State) :
    pendingAfter (execFldIsnsRead path port s) = some s.pending := by
  simp [execFldIsnsRead]

@[simp] theorem pendingAfter_execUnitCntClr (id : Nat) (s : State) :
    pendingAfter (execUnitCntClr id s) = some s.pending := by
  simp [execUnitCntClr]

@[simp] theorem pendingAfter_execUnitWorstClr (id : Nat) (s : State) :
    pendingAfter (execUnitWorstClr id s) = some s.pending := by
  simp [execUnitWorstClr]

@[simp] theorem pendingAfter_execPatchStatusClear (id v : Nat) (s : State) :
    pendingAfter (execPatchStatusClear id v s) = some s.pending := by
  simp [execPatchStatusClear]

@[simp] theorem State.pending_readWords (s : State) (p : Path) (a : Nat) (n : Nat) :
    (s.readWords p a n).2.2.pending = s.pending := by
  induction n generalizing s a with
  | zero => rfl
  | succ n ih => simp [State.readWords, ih]

@[simp] theorem pendingAfter_execSpiRead (addr count wait : Nat) (s : State) :
    pendingAfter (execSpiRead addr count wait s) = some s.pending := by
  simp [execSpiRead]

@[simp] theorem pendingAfter_execSpiStatus (s : State) : pendingAfter (execSpiStatus s) = some s.pending := by
  simp [execSpiStatus]

@[simp] theorem pendingAfter_execSpiUnknownCommand (n : Nat) (s : State) :
    pendingAfter (execSpiUnknownCommand n s) = some s.pending := by
  simp [execSpiUnknownCommand]

/-! ## Command records -/

@[simp] theorem State.pending_goNext (s : State) (st rank : Nat) : (s.goNext st rank).pending = s.pending := by rfl

@[simp] theorem State.pending_startCmd (s : State) (f : Nat) : (s.startCmd f).2.pending = s.pending := by
  simp [State.startCmd]

@[simp] theorem State.pending_stopCmd (s : State) (f : Nat) : (s.stopCmd f).2.pending = s.pending := by simp [State.stopCmd]

@[simp] theorem State.pending_recoverCmd (s : State) : (s.recoverCmd).2.pending = s.pending := by simp [State.recoverCmd]

@[simp] theorem State.pending_regRead (s : State) (a n : Nat) : (s.regRead a n).2.pending = s.pending := by
  unfold State.regRead
  split <;> simp

@[simp] theorem State.pending_calRunCmd (s : State) (v : Nat) : (s.calRunCmd v).2.pending = s.pending := by
  simp [State.calRunCmd]

@[simp] theorem State.pending_calAbortCmd (s : State) (ch : Nat) : (s.calAbortCmd ch).2.pending = s.pending := by
  unfold State.calAbortCmd
  repeat' split
  all_goals simp

@[simp] theorem State.pending_calPodCmd (s : State) (chain range point : Nat) (t : Int) :
    (s.calPodCmd chain range point t).2.pending = s.pending := by
  simp [State.calPodCmd]

@[simp] theorem State.pending_todCmd (s : State) (d sec ns : Nat) : (s.todCmd d sec ns).2.pending = s.pending := by
  simp [State.todCmd]

@[simp] theorem State.pending_stepCmd (s : State) (f : Nat) (dS dNs : Int) (flags : Nat) :
    (s.stepCmd f dS dNs flags).2.pending = s.pending := by
  simp [State.stepCmd]

@[simp] theorem State.pending_selectCmd (s : State) (f mode : Nat) : (s.selectCmd f mode).2.pending = s.pending := by
  simp [State.selectCmd]

@[simp] theorem State.pending_stepCancelCmd (s : State) : (s.stepCancelCmd).2.pending = s.pending := by
  unfold State.stepCancelCmd
  split <;> simp

@[simp] theorem State.pending_adoptCmd (s : State) (a : List Byte) : (s.adoptCmd a).2.pending = s.pending := by
  simp [State.adoptCmd]

@[simp] theorem State.pending_capMaskCmd (s : State) (arm : Bool) (f mask : Nat) :
    (s.capMaskCmd arm f mask).2.pending = s.pending := by
  simp [State.capMaskCmd]

@[simp] theorem State.pending_commandMid (s : State) (op : Nat) (a : List Byte) :
    (s.commandMid op a).2.pending = s.pending := by
  simp [State.commandMid]

@[simp] theorem State.pending_commandHigh (s : State) (op : Nat) (a : List Byte) (o : Origin) :
    (s.commandHigh op a o).2.pending = s.pending := by
  simp [State.commandHigh]

@[simp] theorem State.pending_conflict (s : State) (op st source : Nat) : (s.conflict op st source).pending = s.pending := by
  simp [State.conflict]

@[simp] theorem State.pending_settle (s : State) (o : Origin) (op : Nat) (args : List Byte) (st : Nat) (a : Answer) :
    (s.settle o op args st a).pending = s.pending := by
  simp [State.settle]

/-! ## Phases and ticks -/

@[simp] theorem State.pending_spoil (s : State) (u : PatUnit) : (s.spoil u).pending = s.pending := by simp [State.spoil]

@[simp] theorem State.pending_overrun (s : State) (k : Nat) (ids : List Nat) (held : List (Nat × Nat)) :
    (s.overrun k ids held).pending = s.pending := by
  simp [State.overrun]

@[simp] theorem State.pending_endTick (s : State) (t : TickInput) : (s.endTick t).pending = s.pending := by
  unfold State.endTick
  split <;> simp

@[simp] theorem State.pending_measureTick (s : State) : s.measureTick.pending = s.pending := by
  unfold State.measureTick
  extract_lets +onlyGivenNames phase
  have hphase : phase.pending = s.pending := by
    unfold phase
    split_ifs
    · simp [State.draw]
    · rfl
  split
  · extract_lets +onlyGivenNames n costs fir
    have hcosts : costs.pending = phase.pending := State.pending_forEach _ _ _ fun u t => by
      split
      · split_ifs <;> simp [State.draw]
      · rfl
    simpa +decide using hcosts.trans hphase
  · exact hphase

@[simp] theorem State.pending_overrunAfter (s : State) : s.overrunAfter.pending = s.pending := by
  unfold State.overrunAfter
  dsimp only
  split <;> simp

@[simp] theorem State.pending_tickFeed (s : State) (word : Nat → Nat → Option Nat) :
    (s.tickFeed word).pending = s.pending := by
  simp [State.tickFeed]

@[simp] theorem State.pending_tickSample (s : State) (u : PatUnit) : (s.tickSample u).pending = s.pending := by
  unfold State.tickSample
  dsimp only
  repeat' split
  all_goals simp

@[simp] theorem State.pending_tickSamples (s : State) : s.tickSamples.pending = s.pending := by simp [State.tickSamples]

@[simp] theorem State.pending_tickExc (s : State) (t : TickInput) : (s.tickExc t).pending = s.pending := by
  simp [State.tickExc]

@[simp] theorem State.pending_nextFrame (s : State) : s.nextFrame.pending = s.pending := by rfl

@[simp] theorem pendingAfter_execFrameTick (t : TickInput) (s : State) :
    pendingAfter (execFrameTick t s) = some s.pending := by
  simp [execFrameTick]

@[simp] theorem pendingAfter_execDecidePhase (late : Bool) (mismatch : List (Nat × Bool)) (s : State) :
    pendingAfter (execDecidePhase late mismatch s) = some s.pending := by
  simp [execDecidePhase]

@[simp] theorem State.pending_faultHouse (s : State) : s.faultHouse.pending = s.pending := by simp [State.faultHouse]

@[simp] theorem State.pending_houseUnfinished (s : State) : s.houseUnfinished.pending = s.pending := by
  simp [State.houseUnfinished]

@[simp] theorem State.pending_alignHouse (s : State) : s.alignHouse.pending = s.pending := by simp [State.alignHouse]

end Sys2Proof.Machine
end

section
/-! PROOFS. The operations that store in a byte memory, resets, commands and the rows leave the queue of commands that wait, and
every row answers a next state. -/

open Sys2Proof Sys2Proof.Machine

namespace Sys2Proof.Machine

/-! ## Memories -/

section
variable (s : State)

@[simp] theorem State.pending_capStore (addr : Nat) (ws : List Nat) : (s.capStore addr ws).pending = s.pending := by rfl

@[simp] theorem State.pending_capWrite (u : PatUnit) (label : Nat) (ws : List Nat) :
    (s.capWrite u label ws).pending = s.pending := by
  simp [State.capWrite]

@[simp] theorem State.pending_capEmit (u : PatUnit) : (s.capEmit u).pending = s.pending := by
  unfold State.capEmit
  dsimp only
  repeat' split
  all_goals simp

@[simp] theorem State.pending_stbyEmpty : s.stbyEmpty.pending = s.pending := by simp [State.stbyEmpty]

@[simp] theorem State.pending_stbyFill (bytes : List Byte) : (s.stbyFill bytes).pending = s.pending := by simp [State.stbyFill]

@[simp] theorem State.pending_stbyWrite (a : Nat) (bs : List Byte) : (s.stbyWrite a bs).2.pending = s.pending := by
  unfold State.stbyWrite
  split <;> simp

@[simp] theorem State.pending_patDiscard : s.patDiscard.2.pending = s.pending := by
  unfold State.patDiscard
  split <;> simp

@[simp] theorem State.pending_writeCopy (e : SiltEvent) (seq : Nat) (life : Bool) : (s.writeCopy e seq life).pending = s.pending := by
  simp [State.writeCopy]

@[simp] theorem State.pending_copyDone : s.copyDone.pending = s.pending := by
  unfold State.copyDone
  split
  · rfl
  · split <;> simp

@[simp] theorem State.pending_recordNow (e : SiltEvent) : (s.recordNow e).pending = s.pending := by
  unfold State.recordNow
  rw [State.put_pending]
  refine (State.pending_forEach _ _ _ fun _ t => ?_).trans (by simp)
  split
  · split
    · simp
    · rfl
  · rfl

@[simp] theorem State.pending_siltPfail : s.siltPfail.pending = s.pending := by
  unfold State.siltPfail
  dsimp only
  repeat' split
  all_goals simp

@[simp] theorem State.pending_clearDone : s.clearDone.pending = s.pending := by
  unfold State.clearDone
  split
  · rfl
  · split <;> simp

/-! ## Resets and BOOT -/

@[simp] theorem State.pending_bootFail (kind item : Nat) : (s.bootFail kind item).pending = s.pending := by
  simp [State.bootFail]

@[simp] theorem State.pending_bootHeld (f : FwSlot) : (s.bootHeld f).pending = s.pending := by
  simp [State.bootHeld]

@[simp] theorem State.pending_volatileGone : s.volatileGone.pending = s.pending := by
  simp [State.volatileGone]

@[simp] theorem State.pending_hubReset (cause boot : Nat) : (s.hubReset cause boot).pending = s.pending := by
  simp [State.hubReset]

/-! ## The image of a neighbour -/

@[simp] theorem State.pending_fetchBegin (x : Nat × List Byte) : (s.fetchBegin x).pending = s.pending := by
  simp [State.fetchBegin]

@[simp] theorem State.pending_fetchRestart : s.fetchRestart.pending = s.pending := by
  unfold State.fetchRestart
  dsimp only
  repeat' split
  all_goals simp

@[simp] theorem State.pending_chunkTake (f : Fetch) (c : Nat) (data : List Byte) :
    (s.chunkTake f c data).pending = s.pending := by
  unfold State.chunkTake
  split <;> simp

@[simp] theorem State.pending_fetchResponse (r : List Byte) : (s.fetchResponse r).pending = s.pending := by
  unfold State.fetchResponse
  split <;> simp

@[simp] theorem State.pending_fetchSilent (hub : Nat) : (s.fetchSilent hub).pending = s.pending := by
  unfold State.fetchSilent
  repeat' split
  all_goals simp

@[simp] theorem State.pending_mgmtResponse (hub : Nat) (r : List Byte) : (s.mgmtResponse hub r).pending = s.pending := by
  simp [State.mgmtResponse]

/-! ## DMA and writes through a path -/

@[simp] theorem State.pending_ringComplete (r : Nat) (bytes : List Byte) (bad : List Nat) :
    (s.ringComplete r bytes bad).pending = s.pending := by
  unfold State.ringComplete
  split <;> simp

@[simp] theorem State.pending_wrSignCfg (v : Nat) : (s.wrSignCfg v).pending = s.pending := by
  simp [State.wrSignCfg]

@[simp] theorem pendingAfter_execPatWdataWrite (v : Nat) : pendingAfter (execPatWdataWrite v s) = some s.pending := by
  simp [execPatWdataWrite]

@[simp] theorem State.pending_writeSys (r : RegDef) (i j v : Nat) : (s.writeSys r i j v).pending = s.pending := by
  simp [State.writeSys]

@[simp] theorem State.pending_writeReg (p : Path) (r : RegDef) (i j v : Nat) : (s.writeReg p r i j v).pending = s.pending := by
  simp [State.writeReg]

@[simp] theorem State.pending_writeUnit (p : Path) (id off v : Nat) : (s.writeUnit p id off v).pending = s.pending := by
  unfold State.writeUnit
  repeat' split
  all_goals simp

@[simp] theorem State.pending_busWrite (p : Path) (a v : Nat) : (s.busWrite p a v).2.pending = s.pending := by
  unfold State.busWrite
  dsimp only
  repeat' split
  all_goals simp

@[simp] theorem State.pending_writeAt (p : Path) (r : RegDef) (i v : Nat) : (s.writeAt p r i v).pending = s.pending := by
  simp [State.writeAt]

end

@[simp] theorem State.pending_writeWords (s : State) (p : Path) (a : Nat) (ws : List Nat) :
    (s.writeWords p a ws).pending = s.pending := by
  induction ws generalizing s a with
  | nil => rfl
  | cons w ws ih => simp [State.writeWords, ih]

@[simp] theorem State.pending_writeCount (s : State) (p : Path) (a : Nat) (ws : List Nat) :
    (s.writeCount p a ws).2.pending = s.pending := by
  induction ws generalizing s a with
  | nil => rfl
  | cons w ws ih => simp [State.writeCount, ih]

/-! ## Command records -/

section
variable (s : State)

@[simp] theorem State.pending_regWrite (a n : Nat) (ws : List Nat) : (s.regWrite a n ws).2.pending = s.pending := by
  unfold State.regWrite
  split <;> simp

@[simp] theorem State.pending_commandLow (op : Nat) (a : List Byte) : (s.commandLow op a).2.pending = s.pending := by
  simp [State.commandLow]

@[simp] theorem State.pending_command (op : Nat) (a : List Byte) (o : Origin) : (s.command op a o).2.pending = s.pending := by
  simp [State.command]

@[simp] theorem State.pending_execute (o : Origin) (b : List Byte) : (s.execute o b).pending = s.pending := by
  unfold State.execute
  dsimp only
  split <;> simp

@[simp] theorem State.pending_runRecord (o : Origin) (b : List Byte) : (s.runRecord o b).pending = s.pending := by
  simp [State.runRecord]

@[simp] theorem State.pending_runCommand (o : Origin) (op : Nat) (args : List Byte) :
    (s.runCommand o op args).pending = s.pending := by
  simp [State.runCommand]

@[simp] theorem State.pending_houseCommands : s.houseCommands.pending = s.pending := by
  simp [State.houseCommands]

/-! ## The rows that use them -/

theorem pendingAfter_execStandbyWindowWrite (off : Nat) (bytes : List Byte) :
    pendingAfter (execStandbyWindowWrite off bytes s) = some s.pending := by
  simp [execStandbyWindowWrite]

theorem pendingAfter_execDmaDescriptorComplete (r : Nat) (bytes : List Byte) (bad : List Nat) :
    pendingAfter (execDmaDescriptorComplete r bytes bad s) = some s.pending := by
  simp [execDmaDescriptorComplete]

theorem pendingAfter_execEmitPhase (late : Bool) (pins : List (Nat × Int)) (held : List (Nat × Nat)) :
    pendingAfter (execEmitPhase late pins held s) = some s.pending := by
  simp [execEmitPhase]

theorem pendingAfter_execHousePhase (late unfinished : Bool) :
    pendingAfter (execHousePhase late unfinished s) = some s.pending := by
  simp [execHousePhase]

theorem pendingAfter_execStateTransition (boot : Nat) : pendingAfter (execStateTransition boot s) = some s.pending := by
  unfold execStateTransition
  dsimp only
  split <;> simp

theorem pendingAfter_execCommitComplete : pendingAfter (execCommitComplete s) = some s.pending := by
  unfold execCommitComplete
  dsimp only
  repeat' split
  all_goals simp

theorem pendingAfter_execMgmtFrameReceive (port lseq : Nat) (bytes : List Byte) :
    pendingAfter (execMgmtFrameReceive port lseq bytes s) = some s.pending := by
  simp [execMgmtFrameReceive]

theorem pendingAfter_execSpiWrite (bytes : List Byte) : pendingAfter (execSpiWrite bytes s) = some s.pending := by
  simp [execSpiWrite]

theorem pendingAfter_execFwUpdateDone (result ver svn : Nat) :
    pendingAfter (execFwUpdateDone result ver svn s) = some s.pending := by
  unfold execFwUpdateDone
  split <;> simp

theorem pendingAfter_execResetNAssert (boot : Nat) : pendingAfter (execResetNAssert boot s) = some s.pending := by
  simp [execResetNAssert]

theorem pendingAfter_execWatchdogReset (boot : Nat) : pendingAfter (execWatchdogReset boot s) = some s.pending := by
  simp [execWatchdogReset]

theorem pendingAfter_execXtalLoss (boot : Nat) : pendingAfter (execXtalLoss boot s) = some s.pending := by
  simp [execXtalLoss]

theorem pendingAfter_execRailLoss (rail : Nat) : pendingAfter (execRailLoss rail s) = some s.pending := by
  simp [execRailLoss]

theorem pendingAfter_execPfailAssert : pendingAfter (execPfailAssert s) = some s.pending := by
  simp [execPfailAssert]

theorem pendingAfter_execBootDone (aOk bOk : Bool) (selfTest : Option Nat) :
    pendingAfter (execBootDone aOk bOk selfTest s) = some s.pending := by
  unfold execBootDone
  dsimp only
  repeat' split
  all_goals simp

theorem pendingAfter_execQspiImageReadDone (info : Nat) (dir bytes : List Byte) :
    pendingAfter (execQspiImageReadDone info dir bytes s) = some s.pending := by
  unfold execQspiImageReadDone
  dsimp only
  repeat' split
  all_goals simp

theorem pendingAfter_execNeighbourServerFound : pendingAfter (execNeighbourServerFound s) = some s.pending := by
  unfold execNeighbourServerFound
  repeat' split
  all_goals simp

theorem pendingAfter_execNeighbourFetchResume : pendingAfter (execNeighbourFetchResume s) = some s.pending := by
  unfold execNeighbourFetchResume
  dsimp only
  repeat' split
  all_goals simp

theorem pendingAfter_execHubSilent (hub : Nat) : pendingAfter (execHubSilent hub s) = some s.pending := by
  simp [execHubSilent]

theorem pendingAfter_execTimIncWrite (d v : Nat) : pendingAfter (execTimIncWrite d v s) = some s.pending := by
  simp [execTimIncWrite]

end

/-! ## The statement -/

/-- Every row answers a next state with the same queue. -/
theorem pendingAfter_exec (c : Instr) (s : State) : pendingAfter (exec c s) = some s.pending :=
  match c with
  | .frameTick _ => pendingAfter_execFrameTick _ _
  | .conditionPhase _ => pendingAfter_execConditionPhase _ _
  | .decidePhase _ _ => pendingAfter_execDecidePhase _ _ _
  | .emitPhase _ _ _ => pendingAfter_execEmitPhase _ _ _ _
  | .housePhase _ _ => pendingAfter_execHousePhase _ _ _
  | .stateTransition _ => pendingAfter_execStateTransition _ _
  | .streamFrameDeadline _ => pendingAfter_execStreamFrameDeadline _ _
  | .nop _ => congrArg some (State.pending_runCommand _ _ _ _)
  | .arm _ => congrArg some (State.pending_runCommand _ _ _ _)
  | .hold _ => congrArg some (State.pending_runCommand _ _ _ _)
  | .start _ _ => congrArg some (State.pending_runCommand _ _ _ _)
  | .stop _ _ => congrArg some (State.pending_runCommand _ _ _ _)
  | .safeEnter _ => congrArg some (State.pending_runCommand _ _ _ _)
  | .recover _ => congrArg some (State.pending_runCommand _ _ _ _)
  | .maintEnter _ => congrArg some (State.pending_runCommand _ _ _ _)
  | .maintExit _ => congrArg some (State.pending_runCommand _ _ _ _)
  | .restart _ => congrArg some (State.pending_runCommand _ _ _ _)
  | .regRead _ _ _ => congrArg some (State.pending_runCommand _ _ _ _)
  | .regWrite _ _ _ => congrArg some (State.pending_runCommand _ _ _ _)
  | .reservedOpcode _ _ _ => congrArg some (State.pending_runCommand _ _ _ _)
  | .patLoad _ _ _ => congrArg some (State.pending_runCommand _ _ _ _)
  | .patCommit _ _ => congrArg some (State.pending_runCommand _ _ _ _)
  | .patCancel _ => congrArg some (State.pending_runCommand _ _ _ _)
  | .patDiscard _ => congrArg some (State.pending_runCommand _ _ _ _)
  | .patKeyInstall _ _ _ => congrArg some (State.pending_runCommand _ _ _ _)
  | .patKeyRevoke _ _ => congrArg some (State.pending_runCommand _ _ _ _)
  | .patternCheckDone _ => pendingAfter_execPatternCheckDone _ _
  | .commitIrrevocable => pendingAfter_execCommitIrrevocable _
  | .commitSwitch => pendingAfter_execCommitSwitch _
  | .commitComplete => pendingAfter_execCommitComplete _
  | .powerUpCommit => pendingAfter_execPowerUpCommit _
  | .calRun _ _ => congrArg some (State.pending_runCommand _ _ _ _)
  | .calAbort _ _ => congrArg some (State.pending_runCommand _ _ _ _)
  | .calPodPoint _ _ _ _ _ => congrArg some (State.pending_runCommand _ _ _ _)
  | .calPodPointDone => pendingAfter_execCalPodPointDone _
  | .calPodPointTimeout => pendingAfter_execCalPodPointTimeout _
  | .calStepEnd _ => pendingAfter_execCalStepEnd _ _
  | .matchTimeout => pendingAfter_execMatchTimeout _
  | .calCoefWrite _ _ _ => pendingAfter_execCalCoefWrite _ _ _ _
  | .calCtrlSuspend _ => pendingAfter_execCalCtrlSuspend _ _
  | .timeSetTod _ _ _ _ => congrArg some (State.pending_runCommand _ _ _ _)
  | .timeStep _ _ _ _ _ => congrArg some (State.pending_runCommand _ _ _ _)
  | .timeSelect _ _ _ => congrArg some (State.pending_runCommand _ _ _ _)
  | .timeStepCancel _ => congrArg some (State.pending_runCommand _ _ _ _)
  | .timeStepApply => pendingAfter_execTimeStepApply _
  | .timeSelectEffect => pendingAfter_execTimeSelectEffect _
  | .laneAdmin _ _ _ => congrArg some (State.pending_runCommand _ _ _ _)
  | .laneRetrain _ _ => congrArg some (State.pending_runCommand _ _ _ _)
  | .laneTest _ _ _ _ _ => congrArg some (State.pending_runCommand _ _ _ _)
  | .ringDiscover _ => congrArg some (State.pending_runCommand _ _ _ _)
  | .fldPort _ _ _ => congrArg some (State.pending_runCommand _ _ _ _)
  | .fldAdopt _ _ => congrArg some (State.pending_runCommand _ _ _ _)
  | .loopIntSet _ _ _ => congrArg some (State.pending_runCommand _ _ _ _)
  | .loopReturn _ _ => congrArg some (State.pending_runCommand _ _ _ _)
  | .sluReclaim _ => congrArg some (State.pending_runCommand _ _ _ _)
  | .sluForcePark _ _ _ => congrArg some (State.pending_runCommand _ _ _ _)
  | .capArm _ _ _ => congrArg some (State.pending_runCommand _ _ _ _)
  | .capAbort _ _ => congrArg some (State.pending_runCommand _ _ _ _)
  | .capForce _ _ => congrArg some (State.pending_runCommand _ _ _ _)
  | .captureArm _ => pendingAfter_execCaptureArm _ _
  | .captureAbortEffect _ => pendingAfter_execCaptureAbortEffect _ _
  | .triggerHoldoffEnd _ => pendingAfter_execTriggerHoldoffEnd _ _
  | .queFlush _ _ => congrArg some (State.pending_runCommand _ _ _ _)
  | .notice _ => congrArg some (State.pending_runCommand _ _ _ _)
  | .wrgCut _ _ => congrArg some (State.pending_runCommand _ _ _ _)
  | .wrgAbort _ _ => congrArg some (State.pending_runCommand _ _ _ _)
  | .sltClearArm _ => congrArg some (State.pending_runCommand _ _ _ _)
  | .sltClearConfirm _ _ => congrArg some (State.pending_runCommand _ _ _ _)
  | .logClearDone => congrArg some (State.pending_clearDone _)
  | .adopt _ _ _ _ => congrArg some (State.pending_runCommand _ _ _ _)
  | .adoptEffect => pendingAfter_execAdoptEffect _
  | .digestInherit => pendingAfter_execDigestInherit _
  | .quarantine _ _ => congrArg some (State.pending_runCommand _ _ _ _)
  | .mailboxGo _ => pendingAfter_execMailboxGo _ _
  | .mgmtFrameReceive _ _ _ => pendingAfter_execMgmtFrameReceive _ _ _ _
  | .mgmtRelayTimeout _ => pendingAfter_execMgmtRelayTimeout _ _
  | .noticeRecordReceive _ _ => pendingAfter_execNoticeRecordReceive _ _ _
  | .spiWrite _ => pendingAfter_execSpiWrite _ _
  | .spiRead _ _ _ => pendingAfter_execSpiRead _ _ _ _
  | .spiStatus => pendingAfter_execSpiStatus _
  | .spiUnknownCommand _ => pendingAfter_execSpiUnknownCommand _ _
  | .registerWrite _ _ _ => congrArg some (State.pending_busWrite _ _ _ _)
  | .glbFrameLoRead _ => pendingAfter_execGlbFrameLoRead _ _
  | .timLRead _ => pendingAfter_execTimLRead _ _
  | .loopIntRead _ _ => pendingAfter_execLoopIntRead _ _ _
  | .sltOptRead _ => pendingAfter_execSltOptRead _ _
  | .queuePop _ _ _ _ => pendingAfter_execQueuePop _ _ _ _ _
  | .popWaitExpire _ => pendingAfter_execPopWaitExpire _ _
  | .tdcFifoPop _ _ => pendingAfter_execTdcFifoPop _ _ _
  | .sltWin15Read _ _ _ => pendingAfter_execSltWin15Read _ _ _ _
  | .sltCursorWrite _ _ _ _ => pendingAfter_execSltCursorWrite _ _ _ _ _
  | .fldIsnsRead _ _ => pendingAfter_execFldIsnsRead _ _ _
  | .patWdataWrite _ => pendingAfter_execPatWdataWrite _ _
  | .standbyWindowWrite _ _ => pendingAfter_execStandbyWindowWrite _ _ _
  | .signCfgRequireSet _ => congrArg some (State.pending_writeAt _ _ _ _ _)
  | .signCfgAntirollbackSet _ => congrArg some (State.pending_writeAt _ _ _ _ _)
  | .unitCntClr _ => pendingAfter_execUnitCntClr _ _
  | .unitWorstClr _ => pendingAfter_execUnitWorstClr _ _
  | .patchStatusClear _ _ => pendingAfter_execPatchStatusClear _ _ _
  | .afeExcRetry _ => congrArg some (State.pending_writeAt _ _ _ _ _)
  | .afeCntClr _ => congrArg some (State.pending_writeAt _ _ _ _ _)
  | .rangeHoldWrite _ _ => congrArg some (State.pending_writeAt _ _ _ _ _)
  | .fltSyncReset _ => congrArg some (State.pending_writeAt _ _ _ _ _)
  | .fltCntClr _ => congrArg some (State.pending_writeAt _ _ _ _ _)
  | .sarScalStart _ => congrArg some (State.pending_writeAt _ _ _ _ _)
  | .sarScalPointDone => pendingAfter_execSarScalPointDone _
  | .sarCoefWrite _ _ _ => congrArg some (State.pending_writeAt _ _ _ _ _)
  | .sarModCntClr => congrArg some (State.pending_writeAt _ _ _ _ _)
  | .auxConversionDone _ _ => pendingAfter_execAuxConversionDone _ _ _
  | .auxInjectStart => pendingAfter_execAuxInjectStart _
  | .timIncWrite _ _ => pendingAfter_execTimIncWrite _ _ _
  | .timAdjWrite _ _ => congrArg some (State.pending_writeAt _ _ _ _ _)
  | .timServoTakeover _ => congrArg some (State.pending_writeAt _ _ _ _ _)
  | .timHostQWrite _ => congrArg some (State.pending_writeAt _ _ _ _ _)
  | .timIrqRearm => congrArg some (State.pending_writeAt _ _ _ _ _)
  | .tdcSrcWrite _ => congrArg some (State.pending_writeAt _ _ _ _ _)
  | .tdcFlush _ => congrArg some (State.pending_writeAt _ _ _ _ _)
  | .tdcCntClr _ => congrArg some (State.pending_writeAt _ _ _ _ _)
  | .capCtrlArm _ => pendingAfter_execCapCtrlArm _ _
  | .capCtrlAbort _ => pendingAfter_execCapCtrlAbort _ _
  | .capPrePostWrite _ _ _ => pendingAfter_execCapPrePostWrite _ _ _ _
  | .loopCmdWrite _ _ => pendingAfter_execLoopCmdWrite _ _ _
  | .loopCmdFifoPush _ _ => pendingAfter_execLoopCmdFifoPush _ _ _
  | .loopFifoFlush _ => pendingAfter_execLoopFifoFlush _ _
  | .loopCntClr _ => pendingAfter_execLoopCntClr _ _
  | .loopGainWrite _ _ _ => pendingAfter_execLoopGainWrite _ _ _ _
  | .sluCntClr _ => pendingAfter_execSluCntClr _ _
  | .laneCntClr _ => pendingAfter_execLaneCntClr _ _
  | .lanePrbsClr _ => pendingAfter_execLanePrbsClr _ _
  | .ringCntClr => pendingAfter_execRingCntClr _
  | .fldCntClr _ => pendingAfter_execFldCntClr _ _
  | .queCtrlFlush _ => pendingAfter_execQueCtrlFlush _ _
  | .queCntClr _ => pendingAfter_execQueCntClr _ _
  | .wmxClear _ => pendingAfter_execWmxClear _ _
  | .watermarkWrite _ _ _ => pendingAfter_execWatermarkWrite _ _ _ _
  | .dmaRingEnable _ _ => pendingAfter_execDmaRingEnable _ _ _
  | .dmaRingDisable _ => pendingAfter_execDmaRingDisable _ _
  | .dmaTailWrite _ _ _ => pendingAfter_execDmaTailWrite _ _ _ _
  | .dmaDescriptorComplete _ _ _ => pendingAfter_execDmaDescriptorComplete _ _ _ _
  | .dmaFlushTimeout _ => pendingAfter_execDmaFlushTimeout _ _
  | .dmaHostError _ => pendingAfter_execDmaHostError _ _
  | .noticePendingClear _ _ => pendingAfter_execNoticePendingClear _ _ _
  | .noticeRingSend => pendingAfter_execNoticeRingSend _
  | .msixUnmask _ _ => pendingAfter_execMsixUnmask _ _ _
  | .dmaPause _ => pendingAfter_execDmaPause _ _
  | .wrgCtrlCut _ => pendingAfter_execWrgCtrlCut _ _
  | .wrgCtrlAbort _ => pendingAfter_execWrgCtrlAbort _ _
  | .wrgCntClr _ => pendingAfter_execWrgCntClr _ _
  | .wringDecompressStart _ => pendingAfter_execWringDecompressStart _ _
  | .wringCloseTimeout _ => pendingAfter_execWringCloseTimeout _ _
  | .wringJobEnd _ _ => pendingAfter_execWringJobEnd _ _ _
  | .sltCntClr => pendingAfter_execSltCntClr _
  | .siltRecordWritten => congrArg some (State.pending_copyDone _)
  | .optimeCheckpoint => pendingAfter_execOptimeCheckpoint _
  | .supCntClr => pendingAfter_execSupCntClr _
  | .pmuFwuStart _ => pendingAfter_execPmuFwuStart _ _
  | .fwUpdateDone _ _ _ => pendingAfter_execFwUpdateDone _ _ _ _
  | .qspiGo _ => pendingAfter_execQspiGo _ _
  | .qspiSequenceDone _ => pendingAfter_execQspiSequenceDone _ _
  | .powerGood _ => pendingAfter_execPowerGood _ _
  | .resetNAssert _ => pendingAfter_execResetNAssert _ _
  | .watchdogReset _ => pendingAfter_execWatchdogReset _ _
  | .railLoss _ => pendingAfter_execRailLoss _ _
  | .pfailAssert => pendingAfter_execPfailAssert _
  | .pfailDeassert => pendingAfter_execPfailDeassert _
  | .perstAssert => pendingAfter_execPerstAssert _
  | .functionLevelReset => pendingAfter_execFunctionLevelReset _
  | .trstAssert => pendingAfter_execTrstAssert _
  | .pcieLinkDown => pendingAfter_execPcieLinkDown _
  | .xtalLoss _ => pendingAfter_execXtalLoss _ _
  | .bootDone _ _ _ => pendingAfter_execBootDone _ _ _ _
  | .qspiImageReadDone _ _ _ => pendingAfter_execQspiImageReadDone _ _ _ _
  | .neighbourServerFound => pendingAfter_execNeighbourServerFound _
  | .neighbourFetchResume => pendingAfter_execNeighbourFetchResume _
  | .captureMemoryInitDone => pendingAfter_execCaptureMemoryInitDone _
  | .duplicateEntryExpire _ _ => pendingAfter_execDuplicateEntryExpire _ _ _
  | .supplyOutOfRange _ => pendingAfter_execSupplyOutOfRange _ _
  | .thermalLimit => pendingAfter_execThermalLimit _
  | .memoryUe _ _ => pendingAfter_execMemoryUe _ _ _
  | .safeCauseGone _ => pendingAfter_execSafeCauseGone _ _
  | .selfdiagGone _ => pendingAfter_execSelfdiagGone _ _
  | .mclkLockLoss => pendingAfter_execMclkLockLoss _
  | .mclkLockRegained => pendingAfter_execMclkLockRegained _
  | .coefParityError _ _ _ _ => pendingAfter_execCoefParityError _ _ _ _ _
  | .captureEccError _ _ => pendingAfter_execCaptureEccError _ _ _
  | .modulatorRunInEnd _ => pendingAfter_execModulatorRunInEnd _ _
  | .modulatorOverload _ _ _ => pendingAfter_execModulatorOverload _ _ _ _
  | .cmOverload _ _ => pendingAfter_execCmOverload _ _ _
  | .excRampEnd _ => pendingAfter_execExcRampEnd _ _
  | .excOvercurrentOff _ => pendingAfter_execExcOvercurrentOff _ _
  | .excRetryTimer _ => pendingAfter_execExcRetryTimer _ _
  | .excObservation _ _ => pendingAfter_execExcObservation _ _ _
  | .wireCheck _ _ => pendingAfter_execWireCheck _ _ _
  | .wireBreakConfirm _ => pendingAfter_execWireBreakConfirm _ _
  | .wireRecover _ => pendingAfter_execWireRecover _ _
  | .irqNAssert => pendingAfter_execIrqNAssert _
  | .tinEdge _ _ _ => pendingAfter_execTinEdge _ _ _ _
  | .toutPulse _ => pendingAfter_execToutPulse _ _
  | .toutPulseEnd _ => pendingAfter_execToutPulseEnd _ _
  | .tdcEdge _ _ _ _ _ _ => pendingAfter_execTdcEdge _ _ _ _ _ _ _
  | .tdcStartTimeout _ => pendingAfter_execTdcStartTimeout _ _
  | .tdcFreqTimeout _ => pendingAfter_execTdcFreqTimeout _ _
  | .refinWindow _ _ _ => pendingAfter_execRefinWindow _ _ _ _
  | .tdcRefLoss => pendingAfter_execTdcRefLoss _
  | .ppsInEdge _ => pendingAfter_execPpsInEdge _ _
  | .ppsLoss => pendingAfter_execPpsLoss _
  | .rootHoldover _ => pendingAfter_execRootHoldover _ _
  | .syncSend _ => pendingAfter_execSyncSend _ _
  | .pdReqSend _ => pendingAfter_execPdReqSend _ _
  | .pdReq _ _ _ _ => pendingAfter_execPdReq _ _ _ _ _
  | .pdResp _ _ _ _ => pendingAfter_execPdResp _ _ _ _ _
  | .sync _ _ _ _ _ => pendingAfter_execSync _ _ _ _ _ _
  | .domainLoss _ => pendingAfter_execDomainLoss _ _
  | .frameCounterStart => pendingAfter_execFrameCounterStart _
  | .frameCounterAdopt => pendingAfter_execFrameCounterAdopt _
  | .rootBTakeover => pendingAfter_execRootBTakeover _
  | .laneBlockLock _ => pendingAfter_execLaneBlockLock _ _
  | .laneNoPeer _ => pendingAfter_execLaneNoPeer _ _
  | .trainBlock _ _ => pendingAfter_execTrainBlock _ _ _
  | .rateChange _ => pendingAfter_execRateChange _ _
  | .eqTrainDone _ => pendingAfter_execEqTrainDone _ _
  | .laneCheckEnd _ _ => pendingAfter_execLaneCheckEnd _ _ _
  | .am _ _ _ => pendingAfter_execAm _ _ _ _
  | .laneErrorLimit _ => pendingAfter_execLaneErrorLimit _ _
  | .laneLockLoss _ => pendingAfter_execLaneLockLoss _ _
  | .laneRetryTimer _ => pendingAfter_execLaneRetryTimer _ _
  | .adaptWindow _ _ _ _ _ _ _ _ => pendingAfter_execAdaptWindow _ _ _ _ _ _ _ _ _
  | .prbsResync _ => pendingAfter_execPrbsResync _ _
  | .leafSyncChange _ _ => pendingAfter_execLeafSyncChange _ _ _
  | .leafFrame _ _ _ => pendingAfter_execLeafFrame _ _ _ _
  | .leafTimeout _ => pendingAfter_execLeafTimeout _ _
  | .streamFrameReceive _ _ _ _ => pendingAfter_execStreamFrameReceive _ _ _ _ _
  | .triggerFrameReceive _ _ _ => pendingAfter_execTriggerFrameReceive _ _ _ _
  | .claimFrameReceive _ _ _ => pendingAfter_execClaimFrameReceive _ _ _ _
  | .helloReceive _ _ _ => pendingAfter_execHelloReceive _ _ _ _
  | .unknownFrameReceive _ _ _ => pendingAfter_execUnknownFrameReceive _ _ _ _
  | .linkAck _ _ => pendingAfter_execLinkAck _ _ _
  | .linkNak _ _ _ => pendingAfter_execLinkNak _ _ _ _
  | .linkSkip _ _ => pendingAfter_execLinkSkip _ _ _
  | .retransmitTimeout _ => pendingAfter_execRetransmitTimeout _ _
  | .helloSend => pendingAfter_execHelloSend _
  | .discProbeSend _ => pendingAfter_execDiscProbeSend _ _
  | .discFrameReceive _ _ _ => pendingAfter_execDiscFrameReceive _ _ _ _
  | .discProbeTimeout _ => pendingAfter_execDiscProbeTimeout _ _
  | .hubSilent _ => pendingAfter_execHubSilent _ _
  | .uplinkSyncGain _ => pendingAfter_execUplinkSyncGain _ _
  | .uplinkSyncLoss _ => pendingAfter_execUplinkSyncLoss _ _
  | .slice _ _ _ _ => pendingAfter_execSlice _ _ _ _ _
  | .podTickBlock _ _ => pendingAfter_execPodTickBlock _ _ _
  | .podTickMiss _ => pendingAfter_execPodTickMiss _ _
  | .echo _ _ => pendingAfter_execEcho _ _ _
  | .podResponse _ _ => pendingAfter_execPodResponse _ _ _
  | .podCmdTimeout _ => pendingAfter_execPodCmdTimeout _ _
  | .podConfigResend _ => pendingAfter_execPodConfigResend _ _
  | .podBind _ => pendingAfter_execPodBind _ _
  | .podNoload _ => pendingAfter_execPodNoload _ _
  | .podOvercurrent _ => pendingAfter_execPodOvercurrent _ _
  | .podOcRetry _ => pendingAfter_execPodOcRetry _ _
  | .podPowerOn _ => pendingAfter_execPodPowerOn _ _
  | .partnerTimeout _ _ => pendingAfter_execPartnerTimeout _ _ _
  | .outputFault _ => pendingAfter_execOutputFault _ _
  | .staleTimeout _ => pendingAfter_execStaleTimeout _ _
  | .resetNDeassert _ => pendingAfter_execResetNDeassert _ _
  | .xtalRestored => pendingAfter_execXtalRestored _
  | .perstDeassert => pendingAfter_execPerstDeassert _
  | .pcieLinkUp _ _ => pendingAfter_execPcieLinkUp _ _ _
  | .dmaResume _ => pendingAfter_execDmaResume _ _
  | .amSend _ => pendingAfter_execAmSend _ _
  | .fldPowerCycleEnd _ => pendingAfter_execFldPowerCycleEnd _ _
  | .tapUpdateIr _ => pendingAfter_execTapUpdateIr _ _
  | .captureMemoryWrite _ => pendingAfter_execCaptureMemoryWrite _ _
  | .reservedRead _ _ _ => pendingAfter_execReservedRead _ _ _ _
  | .refinPresenceLoss => pendingAfter_execRefinPresenceLoss _

/-- An outcome that leaves a queue is a next state. -/
theorem exists_next_of_pendingAfter {o : Host.Outcome State Fault Refusal} {l : List Instr} (h : pendingAfter o = some l) :
    ∃ t, o = .next t ∧ t.pending = l := by
  cases o with
  | next t => exact ⟨t, rfl, Option.some.inj h⟩
  | fault _ => cases h
  | refused _ => cases h

/-- Settles O3: row by row, each through the operations that it calls. -/
theorem everyCommandAnswersNext : Obligations.EveryCommandAnswersNext := fun c s =>
  exists_next_of_pendingAfter (pendingAfter_exec c s)

end Sys2Proof.Machine
end
